-- ==== Sys2Proof/Word.lean ====
section
/-! DEFINITION. Words, bytes and the plain arithmetic over them (spec/00_scope.md R8, R10, R11). Register
contents travel as natural numbers below 2^32; memory is made of bytes; the tick counter is a 64-bit word.

Marks (notes/assumptions): PRESUMED 8. -/

namespace Sys2Proof

/-- One byte of memory. -/
abbrev Byte := BitVec 8

/-- The 64-bit tick counter (R8). -/
abbrev Tick := BitVec 64

/-- Bits `[lo + w - 1 : lo]` of `v` (R10). -/
def bitsOf (v lo w : Nat) : Nat := v / 2 ^ lo % 2 ^ w

/-- Bit `i` of `v` as a number. -/
def bitOf (v i : Nat) : Nat := v / 2 ^ i % 2

/-- `v` with bit `i` set. -/
def setBit (v i : Nat) : Nat := if v.testBit i then v else v + 2 ^ i

/-- `v` with bit `i` cleared. -/
def clearBit (v i : Nat) : Nat := if v.testBit i then v - 2 ^ i else v

/-- A truth value as a bit. -/
def b2n (b : Bool) : Nat := if b then 1 else 0

/-- The two's complement reading of the low `w` bits of `v`. -/
def toSigned (w v : Nat) : Int :=
  let u := v % 2 ^ w
  if u < 2 ^ (w - 1) then (u : Int) else (u : Int) - (2 ^ w : Nat)

/-- The low `w` bits of an integer. -/
def ofSigned (w : Nat) (i : Int) : Nat := (i % ((2 ^ w : Nat) : Int)).toNat

/-- `v + k`, held at `cap`. -/
def satAdd (v k cap : Nat) : Nat := if v + k ≤ cap then v + k else cap

/-- The bitwise complement of a 32-bit word (R11). -/
def compl32 (v : Nat) : Nat := 2 ^ 32 - 1 - v % 2 ^ 32

/-- A little-endian list of bytes as a number (R10). -/
def leNat : List Nat → Nat
  | [] => 0
  | b :: bs => b + 256 * leNat bs

/-- The `n` little-endian bytes of a number (R10). -/
def leBytes : Nat → Nat → List Nat
  | 0, _ => []
  | n + 1, v => v % 256 :: leBytes n (v / 256)

/-- The `n` big-endian bytes of a number, the most significant first (R10, frames). -/
def beBytes (n v : Nat) : List Nat := (leBytes n v).reverse

/-- A big-endian list of bytes as a number. -/
def beNat (bs : List Nat) : Nat := leNat bs.reverse

/-- Field of a little-endian structure: `n` bytes at `off`. -/
def leAt (bs : List Nat) (off n : Nat) : Nat := leNat ((bs.drop off).take n)

/-- Field of a big-endian structure: `n` bytes at `off`. -/
def beAt (bs : List Nat) (off n : Nat) : Nat := beNat ((bs.drop off).take n)

/-- One bit of the reflected CRC-32C (polynomial 0x1EDC6F41). -/
def crcBit (c : Nat) : Nat := if c % 2 = 1 then (c / 2) ^^^ 0x82F63B78 else c / 2

/-- One byte of CRC-32C. -/
def crcByte (c b : Nat) : Nat :=
  crcBit (crcBit (crcBit (crcBit (crcBit (crcBit (crcBit (crcBit (c ^^^ (b % 256)))))))))

/-- CRC-32C over a list of bytes. -/
def crc32c (bs : List Nat) : Nat := (bs.foldl crcByte 0xFFFFFFFF) ^^^ 0xFFFFFFFF

/-- Whether two half-open byte ranges share a byte. -/
def overlaps (a alen b blen : Nat) : Bool := decide (a < b + blen ∧ b < a + alen ∧ 0 < alen ∧ 0 < blen)

/-- Ticks in a microsecond, a millisecond and a second (R8: one tick is 5 ns). -/
def ticksPerUs : Nat := 200
def ticksPerMs : Nat := 200000
def ticksPerSec : Nat := 200000000

end Sys2Proof
end

