-- ==== Sys2Proof/Machine/Parts.lean ====
section
/-! DEFINITION. The parts of the state that no register holds: queues, plans, timers, latches and engine
memories, block by block, as plain data.

Marks (notes/assumptions): DESIGN CHOICE 9, 80. -/

namespace Sys2Proof.Machine

/-! ## Rings and descriptors (spec/03) -/

/-- R78. A descriptor: eight little-endian words. -/
structure Desc where
  w0 : Nat := 0
  w1 : Nat := 0
  w2 : Nat := 0
  w3 : Nat := 0
  w4 : Nat := 0
  w5 : Nat := 0
  w6 : Nat := 0
  w7 : Nat := 0
  deriving DecidableEq, Repr

/-- R80. What an engine reports when it ends a descriptor. `data` is what a COMPLETION message carries (R583). -/
structure Result where
  status : Nat
  bytes  : Nat := 0
  detail : Nat := 0
  time   : Nat := 0
  deriving DecidableEq, Repr

/-- An accepted doorbell: PROD, the tick, and where a class was in execute the class and its cycle number (R265,
R299). -/
structure Bell where
  prod : Nat
  tick : Nat
  cls  : Option (Nat × Nat) := none
  deriving DecidableEq, Repr

/-- A started descriptor: its ring, free-running index, words, absolute deadline, and the class cycle in execute when
its doorbell was accepted, and that doorbell's tick. `accepted` is set once the engine has taken it up. -/
structure Started where
  ring     : Nat
  idx      : Nat
  d        : Desc
  deadline : Nat
  cls      : Option (Nat × Nat) := none
  bell     : Nat := 0
  accepted : Bool := false
  deriving DecidableEq, Repr

/-- A finished descriptor whose completion record is still to be written (R81). -/
structure Finished where
  st  : Started
  res : Result
  deriving DecidableEq, Repr

/-- R73, R76, R78, R80. Per ring: records written since the enable, accepted doorbells, whether
the next descriptor is to be aborted (CHAIN), whether STOPPING ends in DISABLED. -/
structure RingRt where
  comps      : Nat := 0
  bells      : List Bell := []
  chainAbort : Bool := false
  toDisabled : Bool := false
  deriving DecidableEq, Repr

/-- R399, R401. A transaction presented at a shared target; `ring` is the ring whose tag it holds (R85). -/
structure Txn where
  init     : Nat
  addr     : Nat
  len      : Nat
  write    : Bool
  deadline : Nat
  arrival  : Nat
  epoch0   : Nat
  epoch1   : Nat
  atomic   : Bool := false
  bell     : Bool := false
  revoked  : Nat := 0
  ring     : Option Nat := none
  deriving DecidableEq, Repr

/-- R85. What waits for a tag: the fetch of the ring's next descriptor, the record of its first finished one, or a data
transaction on its way to target `t`. -/
inductive TagUse where
  | fetch
  | record
  | data (t : Nat) (x : Txn)
  deriving DecidableEq, Repr

/-- R85. A ring-driven transaction that waits for a tag. -/
structure TagWait where
  ring     : Nat
  deadline : Nat
  use      : TagUse := .fetch
  deriving DecidableEq, Repr

/-- R97 to R99. Per event ring: records dropped since the last one written, and an overflow episode running. -/
structure ERingRt where
  lost    : Nat := 0
  episode : Bool := false
  head    : Nat := 0
  deriving DecidableEq, Repr

/-- R95, R96. An assertion of an event source: its data word, and whether the hardware asserted it (EVT.RAISE
otherwise). -/
structure Ev where
  src  : Nat
  data : Nat
  hw   : Bool := true
  deriving DecidableEq, Repr

/-- The ring controller and the event block. `evq` holds assertions that the command under way has made and
not yet delivered. -/
structure Rng where
  rings    : List (Nat × RingRt) := []
  started  : List Started := []
  finished : List Finished := []
  tagWaits : List TagWait := []
  erings   : List (Nat × ERingRt) := []
  evq      : List Ev := []
  deriving DecidableEq, Repr

/-! ## Interconnect (spec/12) -/

/-- R398 to R403. One arbiter: waiting transactions, the one in service with its end tick, the one chosen
next, the grants of this window by initiator, and the initiators masked in it. -/
structure Arbiter where
  waiting   : List Txn := []
  inService : Option (Txn × Nat) := none
  chosen    : Option Txn := none
  grants    : List (Nat × Nat) := []
  masked    : List Nat := []
  deriving DecidableEq, Repr

/-- R393. A commit that drains: its level, the tick of its acceptance and the end of its hold. -/
structure Drain where
  level : Nat
  start : Nat
  epoch : Nat
  deriving DecidableEq, Repr

/-- R406. What LCK.RESULT holds for one initiator. -/
structure LockResult where
  status  : Nat := 0
  reason  : Nat := 0
  lock    : Nat := 0
  waiting : Bool := false
  deriving DecidableEq, Repr

/-- R407, R410. Per lock: the waiters in order of their requests and the tick since which it is held. -/
structure LockRt where
  waiters : List Nat := []
  since   : Nat := 0
  deriving DecidableEq, Repr

/-- PRT, ARB and LCK. `protLast` the tick of each ID's last source 208, `lateTick` of each target's source 210,
`quotaTold` the initiators whose source 212 this window has had; `held0` the locks of initiator 0 on a trail (R411); the ticks of
the last change at the DRAM port and of the last one by a service core. -/
structure Fabric where
  protLast  : List (Nat × Nat) := []
  lateTick  : List (Nat × Nat) := []
  quotaTold : List Nat := []
  arbs      : List (Nat × Arbiter) := []
  drain     : Option Drain := none
  locks     : List (Nat × LockRt) := []
  results   : List (Nat × LockResult) := []
  held0     : List Nat := []
  dramAt    : Nat := 0
  svcAt     : Nat := 0
  deriving DecidableEq, Repr

/-! ## The voted complex (spec/04) -/

/-- R101, R112, R122. One core as the scrub sees it: x1 to x31 and f0 to f31 (unlisted ones are 0), the CSRs,
the pc of the next instruction, the pmp registers (0 to 15 the pmpcfg bytes, 16 to 31 pmpaddr), kflags, the privilege mode,
WFI, the external interrupt's mip bit and the values of the shadow digest; mcounteren, and R130's dcsr, tselect and the four
triggers (tdata1 of trigger i at 2 i, tdata2 at 2 i + 1). -/
structure Core where
  x       : List (Nat × Nat) := []
  f       : List (Nat × Nat) := []
  fcsr    : Nat := 0
  pc      : Nat := 0
  minstret : Nat := 0
  mstatus : Nat := 0
  mie     : Nat := 0
  mtvec   : Nat := 0
  mscratch : Nat := 0
  mepc    : Nat := 0
  mcause  : Nat := 0
  mtval   : Nat := 0
  kflags  : Nat := 0
  pmp     : List (Nat × Nat) := []
  mmode   : Bool := true
  wfi     : Bool := false
  mip      : Bool := false
  shadow  : List Nat := []
  running : Bool := true
  mcounteren : Nat := 0
  dcsr    : Nat := 0x40000003
  tsel    : Nat := 0
  trig    : List (Nat × Nat) := []
  deriving DecidableEq, Repr

/-- R113. The kinds of request. A sampled CSR is the low or the high half of the tick counter (R104). -/
inductive ReqKind where
  | load | store | lr | sc
  | amo (op : Nat)
  | sampleTick | sampleKvstat
  | sampleHalf (high : Bool)
  | fence
  deriving DecidableEq, Repr

/-- What a core does with the value that its request returns: nothing; a register x, from `size` bytes, sign-extended or not; a
register f; a register pair (KTICK); a Keafy pair instruction `m` (0 KPLS, 1 KPCHK, 2 KPRAW). -/
inductive Dest where
  | none
  | x (rd size : Nat) (signed : Bool)
  | f (rd : Nat)
  | both (rd : Nat)
  | pair (m rd rs2 : Nat)
  deriving DecidableEq, Repr

/-- R113. An egress request; what the core that presents it does with the answer and the length of its instruction. With `run`
above 0 the command is another: the core fetches and runs at most `run` instructions from its pc, up to the first that presents
a request (R105). -/
structure Req where
  kind : ReqKind
  addr : Nat := 0
  size : Nat := 4
  be   : Nat := 0xF
  data : Nat := 0
  mmode : Bool := true
  dest : Dest := .none
  len  : Nat := 4
  run  : Nat := 0
  deriving DecidableEq, Repr

/-- R113. What the voter compares of a request. -/
def Req.ident (r : Req) : Req := { r with dest := .none, len := 4, run := 0 }

/-- R113. Whether two requests are identical. -/
def Req.same (a b : Req) : Bool := a.ident == b.ident

/-- What a request returns: a value, the two words of a pair-word, a trap cause, or nothing but completion. -/
inductive Resp where
  | value (v : Nat)
  | words (v c : Nat)
  | trap (cause : Nat)
  | done
  deriving DecidableEq, Repr

/-- A request presented and not yet released (R114). -/
structure Presented where
  core : Nat
  idx  : Nat
  req  : Req
  tick : Nat
  deriving DecidableEq, Repr

/-- A released request whose copy some running core still owes (R115). -/
structure Released where
  idx   : Nat
  req   : Req
  resp  : Resp
  tick  : Nat
  owed  : List Nat
  deriving DecidableEq, Repr

/-- R125, R127. A rejoin that runs: the cores rejoined, their source, the tick of the class-0 KEND (or of the resume),
whether the mirror has ended, and whether it ends DEBUG. -/
structure Rejoin where
  cores     : List Nat
  src       : Nat
  kendTick  : Nat
  transfer  : Bool := false
  debug     : Bool := false
  deriving DecidableEq, Repr

/-- R108, R110. What a core's instruction comes to before the voter: a trap of its own, or a request. -/
inductive Intent where
  | trap (cause mtval : Nat)
  | req (r : Req)
  deriving DecidableEq, Repr

/-- The voter and the complex. `count c` requests core c has presented; `resps` what each core was answered; the
reservation and the delivery point; the tick of the entry into VOTE2; latent minorities (core, tick); the rejoin under way;
the core marked for one; the cores that have passed BIST since they were taken out; the pending VOT.CMD (OP, core, origin); the
mode before DEBUG; whether the cores are halted, and whether the debug module reports them unavailable; the lines (number, bytes) of each instruction cache; the indices of sampled reads and lock requests, and that of
initiator 0's request that waits. -/
structure Vot where
  cores     : List Core := [{}, {}, {}]
  presented : List Presented := []
  released  : List Released := []
  count     : List Nat := [0, 0, 0]
  resps     : List (Nat × Nat × Resp) := []
  reserve   : Option Nat := none
  delivery  : Option Nat := none
  vote2Since : Nat := 0
  latent    : List (Nat × Nat) := []
  rejoin    : Option Rejoin := none
  marked    : Option Nat := none
  passed    : List Nat := []
  cmd       : Option (Nat × Nat × Nat) := none
  prior     : Nat := 0
  halted    : Bool := false
  unavailable : Bool := false
  icache    : List (List (Nat × List Nat)) := [[], [], []]
  readIdx   : Nat := 0
  lockIdx   : Nat := 0
  lockWait  : Option Nat := none
  deriving DecidableEq, Repr

/-! ## Cyclic execution (spec/05) -/

/-- R138 to R145. The cycle of one class. `snap` holds the value words of the snapshot by pair-word number, `pend`
the pending set; `seqs` the version (UP SEQUENCE) and station-valid bit of each station of the read set at the last
cut, `changed` those that differ from the cut before (R350), `frozen` the bodies of the cut (R351), `bad` the pair-words
of station areas that were invalid or could not be read at the cut (R274); `lastCommit` the
cycle last committed. -/
structure ClassRt where
  cycle     : Nat := 0
  release   : Nat := 0
  header    : List Nat := []
  snap      : List (Nat × Nat) := []
  pend      : List (Nat × Nat) := []
  skipped   : Nat := 0
  firstRun  : Bool := false
  firstCross : Bool := false
  prevOver  : Bool := false
  abandoned : Bool := false
  overran   : Bool := false
  seqs      : List (Nat × Nat × Bool) := []
  changed   : List (Nat × Nat × Bool) := []
  frozen    : List (Nat × Nat × List Nat) := []
  bad       : List Nat := []
  lastCommit : Option Nat := none
  deriving DecidableEq, Repr

/-- R149. A SYS.CMD that waits for its boundary (`at`, a cycle number, once announced or fixed). -/
structure SysCmd where
  op      : Nat
  task    : Nat
  session : Nat
  origin  : Nat
  priv    : Nat
  due     : Option Nat := none
  deriving DecidableEq, Repr

/-- R153. A force entry. -/
structure Force where
  kind    : Nat
  target  : Nat
  mask    : Nat
  value   : Nat
  session : Nat
  deriving DecidableEq, Repr

/-- R154. A force descriptor that waits for its boundary. -/
structure ForceWait where
  ring    : Nat
  idx     : Nat
  op      : Nat
  f       : Force
  due     : Option Nat := none
  deriving DecidableEq, Repr

/-- R161. An entry of a ferry map. -/
structure FerryEntry where
  conv   : Nat
  flags  : Nat
  count  : Nat
  symbol : Nat
  src    : Nat
  dst    : Nat
  p0     : Nat
  p1     : Nat
  deriving DecidableEq, Repr

/-- R160, R166 to R171. The staged map. `stager` and `crosser` are the descriptors (ring, index) that wait. -/
structure FerryMap where
  addr      : Nat
  len       : Nat
  classMask : Nat
  oldGen    : Nat
  newGen    : Nat
  crc       : Nat
  imageBase : Nat
  imageLen  : Nat
  entries   : List FerryEntry
  entryId   : Nat
  bytes     : Nat := 0
  deriving DecidableEq, Repr

/-- Cyclic execution: the classes, the command that waits unannounced, the announced ones, the force table and
the force descriptors that wait, the boundary of an overrun STOP (R146), the nominal tick of the last boundary, whether
AUTOSTART has yet to be looked at (R152), and whether the last write of SYS.CMD was accepted. -/
structure Cyc where
  classes  : List (Nat × ClassRt) := []
  cmd      : Option SysCmd := none
  announced : List SysCmd := []
  forces   : List Force := []
  waits    : List ForceWait := []
  stopDue  : Option Nat := none
  boundary : Nat := 0
  auto     : Bool := false
  cmdLast  : Bool := true
  kendAt   : Option Nat := none
  deriving DecidableEq, Repr

/-- R165 to R171. The ferry engine: the staged map and its ring, whether the first pass runs, the descriptors that
wait, the dirty granules, the crossing under way (its boundary and the classes held) and the bytes it has converted. -/
structure Ferry where
  map      : Option FerryMap := none
  ring     : Nat := 0
  staging  : Bool := false
  stager   : Option (Nat × Nat) := none
  crosser  : Option (Nat × Nat) := none
  dirty    : List Nat := []
  crossing : Option (Nat × List Nat) := none
  crossBytes : Nat := 0
  deriving DecidableEq, Repr

/-! ## Crossings (spec/06) -/

/-- R201, R203 to R205, R216. A station of an enabled crossing: its table entry, its state (1 WAITING, 2 ADMITTED, 3
STALE, 4 MISMATCH), the recorded source address, whether its identity is confirmed, the REQUEST_ID of an open identity
check, the last PORT_FLAGS and HIGHEST_EPOCH, the tick of its last landing and the newest bodies landed (SEQUENCE and
bytes), frames discarded, the mismatch code, whether it reports SUBSTITUTE, and the HOLD causes already told. -/
structure Station where
  entry   : List Nat
  st      : Nat := 1
  mac     : Option Nat := none
  sure    : Bool := false
  asked   : Option Nat := none
  flags   : Option Nat := none
  high    : Nat := 0
  landed  : Nat := 0
  hist    : List (Nat × List Nat) := []
  dropped : Nat := 0
  code    : Nat := 0
  subst   : Bool := false
  told    : List Nat := []
  deriving DecidableEq, Repr

/-- R216. A management descriptor that waits: its ring and index, its REQUEST_ID, its crossing, the tick of its
timeout, the records that it has collected (DISCOVER), and whether they filled the buffer. -/
structure MgmtWait where
  ring  : Nat
  idx   : Nat
  id    : Nat
  cross : Nat
  due   : Nat
  recs  : Nat := 0
  full  : Bool := false
  deriving DecidableEq, Repr

/-- The crossing engine: stations by node, waiting descriptors, the next REQUEST_ID, SEQUENCE of the management frames
of each crossing, the tick of the last source 55 by crossing and kind, the identity checks open (REQUEST_ID, node,
due), the crossings held at 1 Gbit/s (R184), and the stations of disabled crossings, whose values hold (R202). -/
structure Cross where
  stations : List (Nat × Station) := []
  waits    : List MgmtWait := []
  updates  : List (Nat × Nat) := []
  nextId   : Nat := 0
  mgmtSeq  : List (Nat × Nat) := []
  errTold  : List (Nat × Nat) := []
  checks   : List (Nat × Nat × Nat) := []
  slow     : List Nat := []
  kept     : List (Nat × Station) := []
  deriving DecidableEq, Repr

/-! ## The loop engine (spec/09) -/

/-- R284 to R302. One instance: its table entry, mode, the mode kept and the reason while HELD, the states as binary64
patterns, the last written output (a binary64 pattern, exact), the last PV as a binary32 pattern, and its supervision. -/
structure Loop where
  entry    : List Nat := []
  mode     : Nat := 0
  kept     : Nat := 0
  reason   : Nat := 0
  s1       : Nat := 0
  s2       : Nat := 0
  s3       : Nat := 0
  out      : Option Nat := none
  pv       : Nat := 0
  transfer : Bool := false
  limited  : Bool := false
  sat      : Option Nat := none
  satTold  : Bool := false
  satSpan  : Nat := 0
  fault    : Nat := 0
  evals    : Nat := 0
  replaced : Nat := 0
  deriving DecidableEq, Repr

/-- R297. A sample in the queue: its presence tick, its instance, its word, and the presence tick of the sample whose place
it has. -/
structure LoopSample where
  tick  : Nat
  inst  : Nat
  word  : Nat
  place : Nat
  deriving DecidableEq, Repr

/-- The loop engine: instances, queue, commands that wait for their commit (ring, index), and the tick of the last
source 134. -/
structure Lop where
  insts : List (Nat × Loop) := []
  queue : List LoopSample := []
  waits : List (Nat × Nat) := []
  told  : Option Nat := none
  deriving DecidableEq, Repr

/-- R307. A loop record as the trail has it: mode and flags as before the evaluation, the sample, the written output and the low
half of the presence tick. -/
structure LoopRec where
  inst  : Nat
  mode  : Nat
  flags : Nat
  word  : Nat
  out   : Nat
  tick  : Nat
  deriving DecidableEq, Repr

/-! ## Motion (spec/08) -/

/-- R268, R269. What the profile generator of an index is at: nothing, a position (units of 2^-32 increment), a
velocity (binary64 pattern), or a stop. -/
inductive Plan where
  | rest
  | goal (target : Int)
  | speed (target : Nat)
  | stop
  deriving DecidableEq, Repr

/-- R271 to R278. A coupling: gear or cam, the master, the ratio with its remainder, the cam table with its offsets, the
master position of the last pass, the last cam segment, and whether the end of the cam has been told. -/
structure Couple where
  gear   : Bool
  kind   : Nat
  master : Nat
  num    : Int := 0
  den    : Nat := 1
  rest   : Int := 0
  table  : Nat := 0
  mOff   : Int := 0
  sOff   : Int := 0
  last   : Int := 0
  seg    : Int := 0
  ended  : Bool := false
  deriving DecidableEq, Repr

/-- R269. Where a profile began: position, velocity and acceleration (binary64 patterns), and the ticks that have passed. -/
structure Start where
  pos   : Int := 0
  vel   : Nat := 0
  acc   : Nat := 0
  ticks : Nat := 0
  deriving DecidableEq, Repr

/-- R273. A running phase shift: the distance of its plan, where the plan began, how far it has come, its velocity and its
acceleration. -/
structure Shift where
  left  : Int := 0
  start : Start := {}
  done  : Int := 0
  vel   : Nat := 0
  acc   : Nat := 0
  deriving DecidableEq, Repr

/-- R263 to R279. One axis or line shaft: its table entry, its state, the set-point of the last pass (unwrapped, units of
2^-32 increment; velocity and acceleration as binary64 patterns, without a running shift's), the profile and where it
began, the coupling, the shift, the armed cam switch (table, SWITCH_AT), the fault cause, whether a fault has started its stop, whether its station has been ADMITTED
since the load, and OVERSHOOT. -/
structure Axis where
  entry    : List Nat := []
  st       : Nat := 0
  pos      : Int := 0
  vel      : Nat := 0
  acc      : Nat := 0
  plan     : Plan := .rest
  start    : Start := {}
  couple   : Option Couple := none
  shift    : Option Shift := none
  switch   : Option (Nat × Int) := none
  fault    : Nat := 0
  failing  : Bool := false
  admitted : Bool := false
  passed   : Bool := false
  deriving DecidableEq, Repr

/-- The motion engine: its indices, the pending set of set-points (pair-word, value), the boundary tick of a pass that
waits for its descriptors or that has yet to end, the cycle of the last pass, whether RUN has just begun, the VALID cam
tables, the two class-0 snapshots before the present one, the unwrapped counters, commands that wait for their effective pass, and the
tick at which a class-0 KEND began to wait for the pass. -/
structure Mot where
  axes    : List (Nat × Axis) := []
  pend    : List (Nat × Nat) := []
  due     : Option Nat := none
  running : Option Nat := none
  last    : Option Nat := none
  fresh   : Bool := true
  valid   : List Nat := []
  prev    : List (Nat × Nat) := []
  prev2   : List (Nat × Nat) := []
  counts  : List (Nat × Int) := []
  waits   : List (Nat × Nat) := []
  held    : Option Nat := none
  deriving DecidableEq, Repr

/-! ## Current-loop channels (spec/10) -/

/-- R315 to R320. One channel: the loop engine's and the program's commanded current (binary32 patterns; a NaN of the
program commands the low alarm), the current held at entry to STOP, whether the owner class has committed since RUN,
the classified state (0 NORMAL, 1 RANGE, 2 ALARM_LOW, 3 ALARM_HIGH) with the state that results enter, how many of them in a
row and how many in a row have left the state that holds, the end tick of the last conversion period, the characteristic table read at the enable, the tick since which headroom is good and since which an alarm is
not signalled, and whether the front end is powered (0 yes, 1 off, 2 powering up). -/
structure ClCh where
  loop      : Nat := 0
  prog      : Nat := 0
  progNan   : Bool := true
  held      : Option Nat := none
  committed : Bool := false
  state     : Nat := 0
  cand      : Nat := 0
  run       : Nat := 0
  away      : Nat := 0
  taken     : Nat := 0
  table     : List (Nat × Nat) := []
  goodFrom  : Option Nat := none
  badFrom   : Option Nat := none
  front     : Nat := 0
  idleFrom  : Nat := 0
  deriving DecidableEq, Repr

/-- R328 to R331. The HART transaction of a channel: its descriptor, the frame, attempts sent, attempts allowed, the last
error, and for HART_LISTEN the tick of its timeout. -/
structure HartJob where
  ring   : Nat
  idx    : Nat
  listen : Bool
  frame  : List Nat := []
  sent   : Nat := 0
  allow  : Nat := 1
  error  : Nat := 0
  due    : Nat := 0
  deriving DecidableEq, Repr

/-- The current-loop block and its HART modems. -/
structure Clp where
  chans : List (Nat × ClCh) := []
  jobs  : List (Nat × HartJob) := []
  deriving DecidableEq, Repr

/-! ## CAN channels (spec/14) -/

/-- R445 to R449. A frame of a TX buffer: its descriptor, buffer, ID word, DLC, data bytes, the target tick and
tolerance of AT_TIME, ONE_SHOT, AT_MOST_ONCE, the attempts made, whether its ring aborted it while it was in
transmission. -/
structure CanTx where
  ring  : Nat
  idx   : Nat
  buf   : Nat
  ident : Nat
  dlc   : Nat
  data  : List Nat
  due   : Option (Nat × Nat) := none
  once  : Bool := false
  atMost : Bool := false
  tries : Nat := 0
  kill  : Bool := false
  deriving DecidableEq, Repr

/-- R450. A schedule matrix: cycles, windows (start, length), entries. -/
structure CanSched where
  cycles  : Nat
  windows : List (Nat × Nat)
  entries : List Nat
  deriving DecidableEq, Repr

/-- R447 to R453. One channel: the queued frames, those that wait for an attempt of an older frame of their buffer, the
buffer in transmission, whether other nodes hold the bus, the schedule in force with the start of its basic cycle, the one
that waits, the open window (its number; 0 no attempt yet, 1 an attempt made, 2 sent), the ticks of the last sources
186, 187 and 189, and that of the last entry into bus-off. -/
structure CanCh where
  queue   : List CanTx := []
  behind  : List CanTx := []
  inTx    : Option Nat := none
  busy    : Bool := false
  sched   : Option CanSched := none
  start   : Nat := 0
  next    : Option (Nat × Nat × CanSched) := none
  window  : Option (Nat × Nat) := none
  told    : List (Nat × Nat) := []
  offAt   : Nat := 0
  deriving DecidableEq, Repr

/-! ## Change capture (spec/15) -/

/-- R464 to R471. A running CAPTURE: its descriptor, buffer, summary area, segments, records per segment, the registers in
force at its start (with the header bytes of an archive that they give), the running segment with the records stored in it
and those still queued (record number, tick, state), whether its first sample is still to come, its trigger (record number,
tick), whether it was forced, a trigger that waits for the next sample or for the end of a gap, the tick of its end and its
flags, the open gap (start, lost), the gap entries written with the fields of the last one, what of them falls in this
segment, triggers missed, and the summaries written. -/
structure AcqJob where
  ring    : Nat
  idx     : Nat
  base    : Nat
  len     : Nat
  summ    : Nat
  segs    : Nat
  recs    : Nat
  post    : Nat
  timeout : Nat
  gapMax  : Nat
  head    : List Nat
  seg     : Nat := 0
  stored  : Nat := 0
  queue   : List (Nat × Nat × Nat) := []
  first   : Bool := true
  trig    : Option (Nat × Nat) := none
  forced  : Bool := false
  force   : Bool := false
  late    : Bool := false
  ended   : Option Nat := none
  timed   : Bool := false
  written : Bool := false
  gap     : Option (Nat × Nat) := none
  gaps    : Nat := 0
  lastGap : List Nat := []
  gapHere : Bool := false
  segGaps : Nat := 0
  segFirst : Nat := 0
  segLost : Nat := 0
  missed  : Nat := 0
  done    : Nat := 0
  deriving DecidableEq, Repr

/-- R473. An archive slot: its header (empty where it has no valid one), the summary area and the buffer. -/
structure AcqSlot where
  header : List Nat := []
  summ   : List Nat := []
  buf    : List Nat := []
  deriving DecidableEq, Repr

/-- R473. The last CAPTURE that ended: its archive header, buffer and summary area. -/
structure AcqLast where
  header : List Nat
  base   : Nat
  len    : Nat
  summ   : Nat
  sumLen : Nat
  deriving DecidableEq, Repr

/-- The capture engine: the last sample and its tick, the CAPTURE that runs, the last one, the archive. -/
structure Acq where
  prev    : Nat := 0
  sampled : Option Nat := none
  job     : Option AcqJob := none
  last    : Option AcqLast := none
  slots   : List (Nat × AcqSlot) := []
  endAt   : Nat := 0
  deriving DecidableEq, Repr

/-! ## Fast channels and spur units (spec/07) -/

/-- R244. When a scheduled spur action is due: at once, at a tick (bits [31:0]), or once the counted steps since
the trigger reach a target. -/
inductive SpurDue where
  | now
  | tick (t : Nat)
  | counts (counter : Nat) (sum target : Int)
  deriving DecidableEq, Repr

/-- R245, R247. A scheduled action: its trigger tick, when it is due and the length of its pulse, as at its trigger. -/
structure SpurAct where
  trig  : Nat
  due   : SpurDue
  pulse : Nat
  deriving DecidableEq, Repr

/-- R245. A pulse under way: its unit, its channel, the tick of its end and the level it then takes. -/
structure SpurPulse where
  unit  : Nat
  chan  : Nat
  stop  : Nat
  level : Bool
  deriving DecidableEq, Repr

/-- R245. What reached a channel on one tick: the tick, the level before, and unit, kind and pulse length of each action, in
ascending unit order. -/
structure ChanTick where
  tick : Nat
  base : Bool
  acts : List (Nat × Nat × Nat)
  deriving DecidableEq, Repr

/-- R224, R234, R236. What the module keeps of a channel beside its raw and filtered state: the tick of the last raw transition and
the counters' values at it, the tick from which the filter counts, the count of the integrating filter then, and the level behind
the glitch filter. -/
structure ChIn where
  since  : Nat := 0
  counts : List Nat := []
  start  : Nat := 0
  acc    : Nat := 0
  glitch : Bool := false
  deriving DecidableEq, Repr

/-- The FIO and SPR blocks. `cmd` and `spur` hold the committed and the spur level of each channel, `held` the levels
at entry to STOP (R228), `committed` whether the owner class has committed since RUN, `latched` the latch tick of each
latched channel, `settled` the channels whose filter has settled, `start` the start of D5, then the committed arm bits
(R239), the probes' sequences, frozen high words and unread latches (R237), the tick of each counter's last source
84, the queues of the spur units, the pulses, the TIME units that have fired for their PARAM (R242), the counters that
the next tick zeroes (R235), the channels' inputs, the recovery tick of each group (R232), the edges and patterns that spur units
(unit, tick of recognition) and probes (probe, value to latch) have yet to take up, the chained units that the next tick triggers
(R242), and what reached each channel on its last tick (R245). -/
structure Fio where
  cmd       : Nat := 0
  spur      : Nat := 0
  held      : Option Nat := none
  committed : Bool := false
  latched   : List (Nat × Nat) := []
  settled   : Nat := 0
  start     : Nat := 0
  spurArm   : Nat := 0
  probeArm  : Nat := 0
  probeSeq  : List (Nat × Nat) := []
  frozen    : List (Nat × Nat) := []
  unread    : List Nat := []
  quadTold  : List (Nat × Nat) := []
  queues    : List (Nat × List SpurAct) := []
  pulses    : List SpurPulse := []
  timeDone  : List Nat := []
  zeroDue   : List Nat := []
  inputs    : List (Nat × ChIn) := []
  recovered : List (Nat × Nat) := []
  spurDue   : List (Nat × Nat) := []
  probeDue  : List (Nat × Nat) := []
  chainDue  : List (Nat × Nat) := []
  acted     : List (Nat × ChanTick) := []
  deriving DecidableEq, Repr

/-! ## Records (spec/18) -/

/-- R527. A record on its way to MRAM. `bytes` is its DATA. -/
structure Rec where
  code    : Nat
  change  : Bool
  flags   : Nat := 0
  origin  : Nat := 0
  priv    : Nat := 0xFF
  session : Nat := 0
  tick    : Nat := 0
  plant   : Nat := 0
  data    : List Nat := []
  append  : Option (Nat × Nat) := none
  deriving DecidableEq, Repr

/-- R529. A record in a log, or in the archive: its SEQ, its offset in the log and its bytes. -/
structure Kept where
  seq   : Nat
  off   : Nat
  bytes : List Nat
  deriving DecidableEq, Repr

/-- R529, R532, R549. The recorder: its queue, records lost since the last one queued, per log the next write offset and
the records that it holds, oldest first, the last change-log record, the archive, and what the last read of each _LO
register has latched (0 EVENT_OLDEST, 1 EVENT_NEXT, 2 CHANGE_OLDEST, 3 CHANGE_NEXT, 4 CHANGE_ARCHIVED: _HI, _ADDR). -/
structure Recorder where
  queue     : List Rec := []
  lost      : Nat := 0
  evNext    : Nat := 0
  chNext    : Nat := 0
  events    : List Kept := []
  changes   : List Kept := []
  lastChange : List Nat := []
  archive   : List Kept := []
  latch     : List (Nat × Nat × Nat) := []
  deriving DecidableEq, Repr

/-! ## Updates and identity (spec/18) -/

/-- R538. A verified entry: its range, kind and ROLLBACK, and its sections (type, address, length). -/
structure Verified where
  addr : Nat
  len  : Nat
  kind : Nat
  roll : Nat := 0
  sections : List (Nat × Nat × Nat) := []
  deriving DecidableEq, Repr

/-- R543. What boot control knows of an image slot: its container and header fields. -/
structure Slot where
  container : List Nat := []
  proto     : Nat := 0
  rollback  : Nat := 0
  hash      : List Nat := []
  deriving DecidableEq, Repr

/-- R546. A pending ACTIVATE: its descriptor, T, ALLOW_ALONE, and whether a hand-over is under way for it. -/
structure Activate where
  ring  : Nat
  idx   : Nat
  time  : Nat
  allow : Bool
  handing : Bool := false
  deriving DecidableEq, Repr

/-- R538 to R548. The update and security engine: verified entries, image slots, the pending ACTIVATE, keys, the staged
lease key words, the configuration installed, the tick by which CONFIRM is due, the tick of the last source 229, whether the
next start falls back, and the CRC of the latest health report. -/
structure Upd where
  entries    : List (Nat × Verified) := []
  slots      : List Slot := [{}, {}]
  activate   : Option Activate := none
  plantKeys  : List (List Nat) := []
  leaseKey   : Option (List Nat) := none
  staged     : List (Nat × Nat) := []
  config     : List Nat := []
  confirmBy  : Option Nat := none
  deferred   : Option Nat := none
  fall       : Bool := false
  healthCrc  : Nat := 0
  deriving DecidableEq, Repr

/-! ## Power domains (spec/16) -/

/-- R484. A request: target state, rail, and whether the power controller made it for itself. -/
structure PwrReq where
  state : Nat
  rail  : Nat
  auto  : Bool
  deriving DecidableEq, Repr

/-- R488 to R494. Per domain: the request in progress and the one pending, whether the entry still quiesces, whether
only the rail changes, the state a wake came from, whether its stage was retried, the tick at which the step or stage began,
a wake due after the entry and whether that was told, the tick of the last source 11 of an automatic entry, whether a DOMAIN reset
of it is under way (R501), whether its contents have been lost since it was last ON, and the tick before which it is not idle (R482, R489). -/
structure PwrRt where
  req      : Option PwrReq := none
  pend     : Option PwrReq := none
  quiesce  : Bool := false
  railOnly : Bool := false
  wakeFrom : Nat := 2
  retried  : Bool := false
  since    : Nat := 0
  wakeAfter : Bool := false
  wakeNoted : Bool := false
  autoNoted : Option Nat := none
  resetting : Bool := false
  idleFrom : Nat := 0
  cold     : Bool := false
  deriving DecidableEq, Repr

/-- R493. A PMBus command: its page, its code, the voltage that VOUT_COMMAND carries (mV; 0 otherwise), whether it reads
(STATUS_WORD, VOUT_MODE), and how often it has failed. -/
structure PmBus where
  page  : Nat
  cmd   : Nat
  mv    : Nat := 0
  read  : Bool := false
  tries : Nat := 0
  deriving DecidableEq, Repr

/-- The power controller: the domains, the commands for the bus, oldest first, the tick at which a command that failed is sent again
(R493), VOUT_MODE as last read, and the register writes that a domain's quiesce holds (initiator, block, offset, value; R488). -/
structure PwrS where
  doms  : List (Nat × PwrRt) := []
  bus   : List PmBus := []
  retryAt : Option Nat := none
  voutMode : Nat := 0
  held  : List (Nat × Nat × Nat × Nat) := []
  deriving DecidableEq, Repr

/-! ## Resets and self-test (spec/17) -/

/-- R502. A reset that waits for a hand-over: its kind (1 MODULE, 2 WARM), what asked for it (0 RST.CMD, 1 the trial of an
image), and ORIGIN, PRIV and SESSION of the command. -/
structure ResetWait where
  kind    : Nat
  asker   : Nat
  origin  : Nat := 0
  priv    : Nat := 0
  session : Nat := 0
  deriving DecidableEq, Repr

/-- R500 to R507. The watchdog's last kick and whether its warning is out; a reset that waits for a hand-over, the reset
held with its kind and source (R523), a reset due 10 us after its event
(kind, source, tick, R502), the tick of its release, a start under way, a start that has stopped, the force entries lost, the tick
of the report of stage 8 (R521). -/
structure Rst where
  wdtStart  : Option Nat := none
  warned    : Bool := false
  waiting   : Option ResetWait := none
  held      : Option (Nat × Nat) := some (0, 0)
  due       : Option (Nat × Nat × Nat) := none
  startTick : Nat := 0
  starting  : Bool := false
  stopped   : Bool := false
  lostForces : Nat := 0
  doneAt    : Option Nat := none
  deriving DecidableEq, Repr

/-- R514, R516. A running test: its target, whether transparent, and whether a rotation step. -/
structure BistRun where
  target  : Nat
  through : Bool
  step    : Bool
  deriving DecidableEq, Repr

/-- R510 to R522. Self-test: the running test, the target of the rotation step, the next target to rotate, the tick of the
last step, targets carried from the last full start, the position in each memory, the tick of the last failure, the first
failed target, WFI of the service cores, those held in reset, and the first valid speed counts. -/
structure Bst where
  running   : Option BistRun := none
  rotation  : Option Nat := none
  nextItem  : Nat := 0
  stepAt    : Nat := 0
  carried   : List Nat := []
  position  : List (Nat × Nat) := []
  lastFail  : Nat := 0
  firstFail : Option Nat := none
  svcWfi    : List Bool := [false, false, false, false]
  svcHeld   : List Nat := []
  speeds    : List (Nat × Nat) := []
  deriving DecidableEq, Repr

/-! ## The carrier (spec/01, spec/02) -/

/-- R24 to R38, R52. The carrier's identity and bypass contacts as the EEPROM gave them, the attempts of the
read under way, the tick from which the read may start again, the tick since which the presence net reads seated, the
partner's presence net and the latch line, whether 50 ms have passed seated, how
long ROLE flashes red and all LEDs show yellow, the fallback oscillator, the main converters, the supply as
the hold-up logic sees it (below 18 V, back again), the tick since which it is 19.2 V or more, the tick at which PARTNER_RESET_OUT is released (R19), and of the
speed monitors the first tick of the running window by domain, and the domains whose running window is not full (R56). -/
structure Car where
  carrierId : Nat := 0
  bypass    : Nat := 0xFF
  attempts  : Nat := 0
  retryAt   : Nat := 0
  seatedAt  : Option Nat := none
  partnerLine : Bool := false
  latchLine : Bool := false
  clReady   : Bool := false
  refusedUntil : Nat := 0
  yellowUntil : Nat := 0
  fallback  : Bool := false
  converters : Bool := false
  supplyLow : Bool := false
  supplyAt  : Nat := 0
  resetOutUntil : Option Nat := none
  speedFrom : List (Nat × Nat) := [(0, 0)]
  speedPart : List Nat := []
  deriving DecidableEq, Repr

/-! ## Pair supervision (spec/11) -/

/-- R343 to R346. One Ransel link: whether it has trained and is up, its latency in ticks, the tick of the last valid message, and
that since which they have come without a loss. -/
structure Link where
  trained : Bool := false
  up      : Bool := false
  latency : Nat := 0
  last    : Nat := 0
  beatFrom : Option Nat := none
  deriving DecidableEq, Repr

/-- R349. What HELLO told of the partner. -/
structure Hello where
  unit   : Nat
  slot   : Nat
  proto  : Nat
  carrier : Nat
  gen    : Nat
  digest : List Nat
  deriving DecidableEq, Repr

/-- R365. A pending EPOCH_REQUEST: epoch, LEASE_TICKS, NONCE, and where its answer goes. -/
structure WitnessReq where
  unit  : Nat
  epoch : Nat
  ticks : Nat
  nonce : Nat
  port  : Nat
  mac   : Nat
  deriving DecidableEq, Repr

/-- R365. What a witness keeps for one pair: CARRIER_ID, CURRENT_EPOCH, HOLDER (none: unknown), EXPIRY, pending requests in
order of arrival, and the last SEQUENCE of each unit. -/
structure WitnessEntry where
  carrier : Nat
  epoch   : Nat := 0
  holder  : Option Nat := none
  expiry  : Nat := 0
  pend    : List WitnessReq := []
  lastSeq : List (Nat × Nat) := []
  deriving DecidableEq, Repr

/-- R379. A planned hand-over: its boundary, epoch, boundaries tried, what started it (0 command, 1 latch, 2 take-back,
3 reset, 4 activation, 5 self-test), the pair-time tick at which HANDOVER was sent, whether the trail has confirmed, and
whether the latch has asked since (R38). -/
structure Handover where
  due   : Nat
  epoch : Nat
  tries : Nat := 0
  cause : Nat
  sent  : Option Nat := none
  sure  : Bool := false
  latch : Bool := false
  deriving DecidableEq, Repr

/-- R350, R351. A cut list of the lead: class, the 8 value words of the header, entries (node, UP SEQUENCE,
station-valid), the local input blocks (none where absent), and, at the trail, whether frames that it names are asked for. -/
structure CutWait where
  cls     : Nat
  header  : List Nat
  entries : List (Nat × Nat × Bool)
  fio     : List Nat := []
  clp     : List Nat := []
  waiting : Bool := false
  deriving DecidableEq, Repr

/-- R348. A CONTROL message that waits for its boundary. -/
structure Control where
  due     : Nat
  op      : Nat
  origin  : Nat
  priv    : Nat
  session : Nat
  arg     : List Nat
  deriving DecidableEq, Repr

/-- R352. Results of the lead that wait at the trail: READ (index, value), DELIVERY (point, pending words), LOCK (index,
lock, status) with the requests that wait for one (index, lock, OP), COMMIT (class, cycle, digest, tick), CONTROL, the
CROSSED notice, cut lists, the last lead channel status, LOOP records behind commits that the trail has yet to make, the
trail's commits ahead of their COMMIT (class, cycle, words before by output pair-word), COMPLETIONs (ring, record, data), and STATE_DIGESTs (cycle, blocks). -/
structure Follow where
  reads      : List (Nat × Nat) := []
  deliveries : List (Nat × List Nat) := []
  locks      : List (Nat × Nat × Nat) := []
  lockReqs   : List (Nat × Nat × Nat) := []
  commits    : List (Nat × Nat × Nat × Nat) := []
  controls   : List Control := []
  crossed    : Option (Nat × Nat) := none
  cuts       : List CutWait := []
  channels   : List (Nat × Nat × Nat) := []
  loops      : List (List (Nat × Nat) × LoopRec) := []
  ahead      : List (Nat × Nat × List (Nat × Nat)) := []
  comps      : List (Nat × List Nat × List Nat) := []
  digests    : List (Nat × List (Nat × Nat)) := []
  deriving DecidableEq, Repr

/-- R355, R361. The parts of the tether image beyond memory: the register image of the voted complex with its indices of
sampled reads, lock requests and counts, the class cycles, the force table, the loops, the axes, the locks of initiator
0 (held with the tick, waited for), the mirrored channels with their latch ticks, and the register fields of that state by
`Fld.id`. The manual gives them no layout (notes/assumptions/80.md). -/
structure TetherImage where
  core    : Core := {}
  readIdx : Nat := 0
  lockIdx : Nat := 0
  lockWait : Option Nat := none
  classes : List (Nat × ClassRt) := []
  forces  : List Force := []
  loops   : List (Nat × Loop) := []
  mot     : Mot := {}
  locks   : List Nat := []
  waits   : Option Nat := none
  latched : List (Nat × Nat) := []
  witness : List WitnessEntry := []
  regs    : List (Nat × Nat) := []
  deriving DecidableEq, Repr

/-- R347. A Ransel message as it arrives, kind by kind, with the fields of its payload. -/
inductive RMsg where
  | heartbeat (st : Nat) (eligible lease : Bool) (epoch cycle tick : Nat) (down : List Nat)
  | hello (unit slot proto carrier gen : Nat) (digest : List Nat)
  | nak (seq : Nat)
  | cutList (c : CutWait)
  | commit (k cycle digest tick : Nat)
  | read (idx value : Nat)
  | delivery (point : Nat) (words : List Nat)
  | lock (idx lock status : Nat)
  | completion (ring : Nat) (record data : List Nat)
  | loop (r : LoopRec)
  | channelStatus (ch flags ma : Nat)
  | control (link : Nat) (c : Control)
  | crossed (b gen : Nat)
  | mirror (chans : List (Nat × Nat × Nat × Nat)) (await : Nat)
  | stateDigest (cycle : Nat) (blocks : List (Nat × Nat))
  | blockData (idx cycle : Nat) (data : List Nat)
  | blockRequest (idx : Nat)
  | frameRequest (node seq : Nat)
  | frameData (node seq : Nat) (body : List Nat)
  | relay (c : Nat) (frame : List Nat)
  | staged (gen crc : Nat)
  | handoverRequest (cause : Nat)
  | handover (b epoch : Nat)
  | yield (epoch cause : Nat)
  | tetherData (off : Nat) (data : List Nat)
  | tether (cycle digest : Nat) (img : TetherImage)
  deriving DecidableEq, Repr

/-- Pair supervision. The stream: the next SEQ to send, the place in `sent` where this stream began, the tick of the last
message sent, the next SEQ to act on, whether the receiver has one, messages ahead of it, since when it is missing, and the
last SEQ for which NAK went out with its tick. -/
structure Par where
  linkA      : Link := {}
  linkB      : Link := {}
  sendSeq    : Nat := 0
  keepFrom   : Nat := 0
  lastSent   : Nat := 0
  recvSeq    : Nat := 0
  synced     : Bool := false
  ahead      : List (Nat × RMsg) := []
  gapAt      : Option Nat := none
  nakAt      : Option (Nat × Nat) := none
  /-- R349. What HELLO told of the partner, and whether it passed. -/
  hello      : Option Hello := none
  helloOk    : Bool := false
  helloBad   : Bool := false
  /-- The partner, as its last HEARTBEAT had it. -/
  partnerEligible : Bool := false
  partnerLease : Bool := false
  partnerEpoch : Nat := 0
  partnerCycle : Nat := 0
  heartbeatAt : Option Nat := none
  /-- R368. DOWN SEQUENCEs that the lead announced, lead evidence, the last message of the lead, the last REFUSE. -/
  announced  : List (Nat × Nat) := []
  leadEvidence : Bool := false
  evidenceTick : Nat := 0
  lastMsg    : Nat := 0
  refusedAt  : Nat := 0
  /-- R346, R381. Since when both links have been down. -/
  linkLostAt : Option Nat := some 0
  /-- R364 to R367. The lease: its end, open RENEWs (nonce, send tick, LEASE_TICKS), the open EPOCH_REQUEST, the last answer,
  SEQUENCEs, and the ticks of the last RENEW and the last probe. -/
  leaseEnd   : Nat := 0
  nonce      : Nat := 0
  openRenews : List (Nat × Nat × Nat) := []
  openRequest : Option Nat := none
  answers    : Option Nat := none
  leaseStart : Nat := 0
  leaseSeq   : List (Nat × Nat) := []
  seqBase    : Nat := 0
  witnessSeq : Option Nat := none
  renewAt    : Option Nat := none
  probeAt    : Option Nat := none
  leaseDiscards : Nat := 0
  /-- R371, R375. The claim window, and since when the own token reads back dead. -/
  claimUntil : Option Nat := none
  selfDeadAt : Option Nat := none
  /-- R379, R380. Hand-overs: of a lead; at a trail the boundary, the epoch and whether it has confirmed; take-back. -/
  handover   : Option Handover := none
  handIn     : Option (Nat × Nat × Bool) := none
  eligibleSince : Option Nat := none
  takebackAsked : Option Nat := none
  /-- R382. The PAR.CMD HANDOVER that waits: ORIGIN, PRIV, SESSION. -/
  cmd        : Option (Nat × Nat × Nat) := none
  trailStaged : Option (Nat × Nat) := none
  /-- R376, R381. A take-over DOWN yet to come, skips of a take-over yet to count, a token that waits for a grant, a start as ALONE that waits for one. -/
  takeoverDue : Bool := false
  skipsDue   : Bool := false
  awaitGrant : Bool := false
  aloneAsked : Bool := false
  /-- R38, R39. The latch: the cycle of a request, and of the trail's wait for its boundary. -/
  latchAt    : Option Nat := none
  follow     : Follow := {}
  /-- R353, R359, R360. Own digests that wait for a COMMIT, blocks captured (cycle, block, CRC-32C), blocks to send, blocks to
  install (block, cycle, bytes), latent divergences (block, tick). -/
  ownDigests : List (Nat × Nat × Nat) := []
  history    : List (Nat × Nat × Nat) := []
  wantBlocks : List Nat := []
  installs   : List (Nat × Nat × List Nat) := []
  divs       : List (Nat × Nat) := []
  diverged   : Bool := false
  /-- R361. Tethering: a lead's transfer with its dirty blocks, the tether cycle named and not yet answered; a trail's data by
  offset, and the cycle from which it executes. -/
  tethering  : Bool := false
  tetherDirty : List Nat := []
  tetherSent : Option Nat := none
  tetherData : List (Nat × List Nat) := []
  tetherFrom : Option Nat := none
  cycleBytes : Nat := 0
  witnessFor : List WitnessEntry := []
  startDone  : Bool := false
  ownEpoch   : Nat := 0
  told54     : Nat := 0
  deriving DecidableEq, Repr

/-! ## Plant time and the plant ports (spec/13) -/

/-- R420. A SET or STEP that waits for its boundary. -/
structure TimCmd where
  due   : Nat
  op    : Nat
  value : Nat
  origin : Nat := 0
  session : Nat := 0
  deriving DecidableEq, Repr

/-- R421. A TIME message that waits for its boundary: bpt (96 bits), increment, and origin, privilege and session of the TIM.CMD that it
carries (privilege 7 where it carries none). -/
structure TimFollow where
  due : Nat
  bpt : Nat
  inc : Nat
  origin : Nat := 0
  priv : Nat := 7
  session : Nat := 0
  deriving DecidableEq, Repr

/-- The increment in force, the one committed for a boundary, the command that waits, bpt of the last boundary,
the tick of the last commit, the latched samples by initiator (R419), the capture units whose words are frozen
or not yet read (R433), TIME messages (R421), and per crossing when Sync is due and the numbers of the PTP
messages sent (R429); per crossing the tick of the last DOWN frame, per plant port that of the last Sync received and the plant time
of the last Pdelay_Req (R427, R433). -/
structure Tim where
  inc      : Nat := 0x500000000
  pend     : Option (Nat × Nat) := none
  cmd      : Option TimCmd := none
  bpt      : Nat := 0
  lastCommit : Nat := 0
  latches  : List (Nat × List Nat) := []
  frozen   : List (Nat × List Nat) := []
  unread   : List Nat := []
  follow   : List TimFollow := []
  syncDue  : List (Nat × Nat) := []
  annDue   : List (Nat × Nat) := []
  ptpSeq   : Nat := 0
  plnDropTold : List (Nat × Nat) := []
  downAt   : List (Nat × Nat) := []
  syncAt   : List (Nat × Nat) := []
  pdelayAt : List (Nat × Nat) := []
  deriving DecidableEq, Repr

/-! ## Messages and frames that leave the module -/

/-- What the module sends: a Ransel message (kind, SEQ, payload bytes), a frame on a
crossing port 0 to 3 or plant port 4 or 5, a CAN frame, a HART frame, a level on a pin, a PTP message (message
type and fields) behind a DOWN frame. -/
inductive Sent where
  | ransel (kind seq : Nat) (payload : List Nat)
  | frame (port : Nat) (bytes : List Nat)
  | can (ch : Nat) (fields : List Nat) (data : List Nat)
  | hart (ch : Nat) (bytes : List Nat)
  | pmbus (page : Nat) (bytes : List Nat)
  | pin (name : String) (level : Bool)
  | ptp (port kind : Nat) (fields : List Nat)
  deriving DecidableEq, Repr

end Sys2Proof.Machine

namespace Sys2Proof.Config

open Machine in
/-- R361. The digest of a tether image, whose layout the manual does not give (notes/assumptions/80.md). -/
opaque tetherDigest : TetherImage → List (Nat × List Nat) → Nat

end Sys2Proof.Config
end

