-- ==== Sys2Proof/Machine/Operands.lean ====
section
/-! DEFINITION. The operand structures of the commands: headers of messages and frames as they arrive. -/

namespace Sys2Proof.Machine

/-- R344, R345. One copy of a Ransel message: the link it came on, its SEQ, and whether its CRC is right. -/
structure RanselHead where
  link : Fin 2
  seq  : Nat
  good : Bool
  deriving DecidableEq, Repr

/-- R307. The head of a loop record: instance, mode, and flags. -/
structure LoopHead where
  inst  : Fin 1024
  mode  : Fin 256
  flags : Fin 256
  deriving DecidableEq, Repr

end Sys2Proof.Machine
end

