-- ==== Sys2Proof/Syntax.lean ====
section
/-! DEFINITION. The commands: one constructor for each row of spec/opcode_table.json, in the table's order.
The table gives the rows no operands and no bits; the operands are the model's (notes/assumptions/2.md).
`init` is the initiator ID of a write, `n` and `idx` the ring and the free-running index of a descriptor,
`h` the header of a Ransel message copy. -/

namespace Sys2Proof

open Machine (Req RanselHead LoopHead CutWait Control TetherImage)

/-- The commands of the module. -/
inductive Instr where
  /-- R14. A write to a register field that has no row of its own takes effect as its access code prescribes. -/
  | registerWrite (init : Fin 22) (off : Fin 16777216) (size : Fin 9) (value : Nat)
  /-- R561. Writing 1 to SETUP_LOCK.CLOSED makes every RWS field of the block ignore writes until the lock opens. -/
  | setupLockClose (init : Fin 22) (b : Fin 26)
  /-- R500. First supply, loss of D0 power-good or exhaustion of the hold-up store causes a POR. -/
  | supplyFirstApplied
  /-- R37. The module's own presence net changes, setting or clearing SEATED. -/
  | seatedChange (seated : Bool)
  /-- R37. After SEATED = 1 and a supply of 19.2 V or more for 20 ms, the main converters start and POR is released. -/
  | porRelease
  /-- R507. A POR, MODULE, WARM or WDT reset is released and the start sequence begins. -/
  | resetRelease (ohms : Nat)
  /-- R28. Having lost I2C arbitration, the module restarts the EEPROM read 1 ms later, up to 8 attempts. -/
  | eepromArbitrationRetry (bytes : Option (List Nat))
  /-- R19. A low on PARTNER_RESET_IN lasting 5 us or more causes a MODULE reset within 10 us. -/
  | partnerResetInLow (ticks : Nat)
  /-- R38. The extraction latch reaches or leaves the first detent, changing LATCH_REQUEST, raising source 6 and acting by pair state. -/
  | carrierLatch (on : Bool)
  /-- R32. The partner's presence net changes, changing PARTNER_SEATED and raising source 7. -/
  | carrierPresence (seated : Bool)
  /-- R33. A token line shows two successive valid half-periods and is classified live. -/
  | tokenLineLive (partner : Bool)
  /-- R33. A token line shows no transition for 1.5 us, a short half-period or a held level, and is classified dead. -/
  | tokenLineDead (partner : Bool)
  /-- R584. Writing 1 to SYS.FAULT_LED.AWAIT acknowledges the awaited fault and clears AWAIT. -/
  | faultLedAck
  /-- R584. Writing 1 to SYS.FAULT_LED.RAISE sets AWAIT. -/
  | faultLedRaise
  /-- R52. The reference oscillator fails and the tick counter changes over to the fallback oscillator without a skip. -/
  | referenceOscillatorFail
  /-- R52. After the reference has been stable for 10 ms, the tick counter changes back and the fallback flag and UNCALIBRATED clear. -/
  | referenceReturn
  /-- R61. A speed monitor window of 65,536 ticks ends and COUNT, VALID, BELOW_FLOOR and SEQ update together. -/
  | speedWindowEnd (d : Fin 8) (whole : Fin 16) (part : Fin 65536)
  /-- R70. Setting RNG.RING_n_CTRL.ENABLE checks the set-up, arms the doorbell watch and reads the doorbell word, or refuses with CFG_CAUSE. -/
  | ringEnable (n : Fin 64)
  /-- R88. Clearing ENABLE takes a running ring to STOPPING with abort, or a stopped or faulted ring to DISABLED. -/
  | ringDisable (n : Fin 64)
  /-- R88. Writing STOP makes a running ring start no more descriptors and enter STOPPING. -/
  | ringStop (n : Fin 64)
  /-- R88. Writing ABORT stops the ring and asks the engine to abort started descriptors. -/
  | ringAbort (n : Fin 64)
  /-- R88. Writing RESUME takes a STOPPED or FAULTED ring back to RUNNING from CONS. -/
  | ringResume (n : Fin 64)
  /-- R69. Writing RNG.TAGS.CLEAR_PEAK sets PEAK to IN_FLIGHT. -/
  | tagsClearPeak
  /-- R69. Writing RNG.DB_IGNORED.CLEAR zeroes the ignored-doorbell count. -/
  | dbIgnoredClear
  /-- R73. A write to a watched doorbell word is accepted, ignored with a cause, or faults the ring with REASON 4. -/
  | doorbellWrite (n : Fin 64) (init : Fin 22) (half : Bool) (value : Nat)
  /-- R88. A fetched descriptor is started under ring order, FENCE and deadline, or a refused or uncorrectable fetch faults the ring with REASON 2. -/
  | descriptorFetch (n : Fin 64)
  /-- R85. A ring-driven transaction waiting for one of the 128 tags receives one, nearest deadline first. -/
  | tagGranted
  /-- R81. An engine finishes a descriptor and the controller writes its completion record, stopping or faulting the ring as its status requires. -/
  | descriptorComplete (n : Fin 64)
  /-- R91. The copy engine's NOP moves nothing and completes DONE. -/
  | nop (n : Fin 64)
  /-- R91. The copy engine copies LENGTH bytes from PRIMARY to SECONDARY, checking pair-words under R92. -/
  | copy (n : Fin 64)
  /-- R91. The copy engine fills LENGTH bytes at PRIMARY with the 32-bit pattern in word 4. -/
  | fill (n : Fin 64)
  /-- R96. Writing EVT.RAISE asserts the source written once with data word 0. -/
  | evtRaise (src : Fin 256)
  /-- R95. Writing 1 to a pending bit of EVT.PEND_t_w clears it. -/
  | evtPendClear (t : Fin 5) (w : Fin 8) (mask : Nat)
  /-- R98. A change of an event ring's ENABLE from 0 to 1 resets WRITE_INDEX, LOST_TOTAL and the phase. -/
  | eringEnable (n : Fin 4)
  /-- R120. Every running core reaches the delivery point and takes the interrupt at the same instruction. -/
  | interruptTaken
  /-- R114. A voted core presents a load, store, AMO, sampled read or fence; the second identical request releases it as initiator 0. -/
  | egressRequest (c : Fin 3) (r : Req)
  /-- R115. The third core's request has not arrived 64 ticks after release and the core becomes the minority by lateness. -/
  | minorityLate (c : Fin 3)
  /-- R118. In VOTE2 the second presentation is still missing 64 ticks after the later of first presentation and VOTE2 entry, and the complex enters FAILSTOP. -/
  | vote2PresentationTimeout
  /-- R116. A request not released within 4,096 ticks of its first presentation puts the complex in FAILSTOP. -/
  | progressWatchdog
  /-- R128. Within 100 us of FAILSTOP the module performs a DOMAIN reset of D1. -/
  | failstopDomainReset
  /-- R110. KPLS loads a pair-word and returns its value, or substitutes rs2 and sets kflags.SUB. -/
  | kpls (rd rs1 rs2 : Fin 32)
  /-- R110. KPCHK loads a pair-word and returns its value, or 0 with kflags.BAD set. -/
  | kpchk (rd rs1 : Fin 32)
  /-- R110. KPRAW loads a pair-word unchecked into rd and rd+1. -/
  | kpraw (rd rs1 : Fin 32)
  /-- R110. KTICK takes one sampled read of the 64-bit tick counter. -/
  | ktick (rd : Fin 32)
  /-- R110. KEND ends the execute phase of the running class cycle and starts its commit; at class 0 the latent-minority scrub runs. -/
  | kend (rs1 : Fin 32)
  /-- R105. fence.i invalidates the instruction caches of all three cores. -/
  | fenceI
  /-- R125. The rejoin mirror of the minority's instruction cache ends and the transfer pauses the majority at its next instruction boundary. -/
  | rejoinMirrorEnd
  /-- R125. The register-image transfer ends, all three cores resume in VOTE3 and source 18 is raised. -/
  | rejoinDone
  /-- R127. VOT.CMD TAKE_OUT stops core c at the next class-0 KEND and hands it to BST. -/
  | takeOut (init : Fin 22) (c : Fin 4)
  /-- R127. VOT.CMD RETURN starts the rejoin of a core that has passed BIST at the next class-0 KEND. -/
  | votReturn (init : Fin 22) (c : Fin 4)
  /-- R127. VOT.CMD ENTER_SPLIT lets the cores continue unvoted as initiators 1 to 3 when its conditions hold. -/
  | enterSplit (init : Fin 22)
  /-- R127. VOT.CMD LEAVE_SPLIT performs a DOMAIN reset of D1. -/
  | leaveSplit (init : Fin 22)
  /-- R132. VOT.CMD CLEAR_COUNTS zeroes the minority counts and empties the 60-minute history. -/
  | clearCounts (init : Fin 22)
  /-- R131. A VOT.CMD with a reserved OP completes REFUSED. -/
  | votCmdReserved (init : Fin 22) (op : Fin 10)
  /-- R127. A debug halt request halts all running cores at one delivery point, or is refused. -/
  | debugHaltRequest
  /-- R127. Resume from DEBUG rejoins the cores other than REF and returns to the prior mode. -/
  | debugResume
  /-- R130. A single step advances all three halted cores together. -/
  | debugStep
  /-- R130. A register or memory access through the debug module acts on the addressed core only. -/
  | debugAbstractAccess (c : Fin 3) (mem : Bool) (addr : Nat) (write : Option Nat)
  /-- R134. A base-cycle boundary increments the cycle number, releases classes, takes cuts and applies pending commands. -/
  | baseCycleBoundary
  /-- R146. The first overrun with OVERRUN_ACTION 1, or CONSEC reaching OVERRUN_LIMIT, puts the controller in STOP at the next boundary. -/
  | overrunStop
  /-- R144. A class's pending set enters the output image at once with forced bits applied and the DOWN frames of its stations are launched. -/
  | outputCommit (k : Fin 8)
  /-- R149. SYS.CMD RUN, if its conditions hold, puts the controller in RUN at boundary B. -/
  | run (init : Fin 22) (priv : Fin 8) (session : Fin 65536)
  /-- R149. SYS.CMD STOP ends all releases at boundary B and abandons cycles in execute. -/
  | stop (init : Fin 22) (priv : Fin 8) (session : Fin 65536)
  /-- R149. SYS.CMD HOLD sets a debug-enabled task's HOLD bit for every cut from B on. -/
  | hold (init : Fin 22) (priv : Fin 8) (session : Fin 65536) (task : Fin 64)
  /-- R149. SYS.CMD RELEASE clears a task's HOLD bit for every cut from B on. -/
  | release (init : Fin 22) (priv : Fin 8) (session : Fin 65536) (task : Fin 64)
  /-- R149. SYS.CMD RELEASE_ALL clears every HOLD bit for every cut from B on. -/
  | releaseAll (init : Fin 22) (priv : Fin 8) (session : Fin 65536)
  /-- R149. A SYS.CMD with OP 6 to 15 is refused with reason 7. -/
  | sysCmdReserved (init : Fin 22) (priv : Fin 8) (session : Fin 65536) (op : Fin 10)
  /-- R177. Writing CYC.CLASS_k_EXEC_MAX.CLEAR zeroes its TICKS. -/
  | execMaxClear (k : Fin 8)
  /-- R166. The ferry engine's STAGE checks a map, arms write tracking on every SRC range and converts every entry. -/
  | stage (n : Fin 64)
  /-- R167. The first pass of STAGE ends with DONE, STATE 2 and source 44. -/
  | ferryStaged
  /-- R169. The engine clears a dirty granule's mark and converts again every element touching it. -/
  | ferrySweepGranule
  /-- R170. The ferry engine's CROSS arms the crossing at the first boundary at which all its conditions hold. -/
  | cross (n : Fin 64)
  /-- R171. The crossing conversion ends: PROGRAM_GEN := NEW_GEN, held classes start, source 45 asserted and CROSS completes DONE. -/
  | crossed
  /-- R171. CROSS_BUDGET elapses with dirty granules left, the crossing at B is abandoned with LAST_BLOCK 5 and held classes start under the old generation. -/
  | crossBudgetExpiry
  /-- R171. CROSS armed for CROSS_MAX_DEFER boundaries without crossing completes TIMEOUT. -/
  | crossTimeout
  /-- R165. The ferry engine's ABANDON drops the staged map and aborts a pending CROSS. -/
  | abandon (n : Fin 64)
  /-- R165. FORCE_SET sets or replaces a force entry at boundary B. -/
  | forceSet (n : Fin 64)
  /-- R165. FORCE_CLEAR removes a force entry at boundary B. -/
  | forceClear (n : Fin 64)
  /-- R165. FORCE_CLEAR_ALL removes every force entry at boundary B. -/
  | forceClearAll (n : Fin 64)
  /-- R165. FORCE_READ writes one 16-byte record per force entry into a buffer. -/
  | forceRead (n : Fin 64)
  /-- R194. An UP frame that passes its checks is written with complements into the station's input area and becomes visible at once. -/
  | upFrameLanded (c : Fin 4) (fcsOk void : Bool) (frame : List Nat)
  /-- R368. A DOWN frame arrives at the unit's bank and is taken as lead evidence when its epoch and SEQUENCE qualify. -/
  | downFrameReceived (c : Fin 4) (fcsOk : Bool) (frame : List Nat)
  /-- R204. An IDENTIFY answering the engine's DISCOVER confirms the station's identity or puts it in MISMATCH. -/
  | identify (c : Fin 4) (fcsOk : Bool) (frame : List Nat)
  /-- R204. No IDENTIFY or RESPONSE arrives within FLD.MGMT_TIMEOUT. -/
  | mgmtTimeoutExpiry (id : Nat)
  /-- R216. A management RESPONSE arrives and is written to the waiting MGMT_REQUEST's buffer. -/
  | response (c : Fin 4) (fcsOk : Bool) (frame : List Nat)
  /-- R184. A crossing port's link goes up or down or comes up at 1 Gbit/s, asserting source 51 and renegotiating to 1000BASE-T when needed. -/
  | crossingLinkChange (c : Fin 4) (up fast : Bool)
  /-- R202. Setting FLD.CROSS_c_CFG.ENABLE checks the station table and puts every PRESENT station in WAITING, or refuses with CFG_CAUSE. -/
  | crossingEnable (c : Fin 4)
  /-- R202. Clearing ENABLE on a running crossing stops sending and landing and makes its stations unconfigured. -/
  | crossingDisable (c : Fin 4)
  /-- R216. The crossing engine sends a READ or WRITE management frame and waits for its RESPONSE. -/
  | mgmtRequest (n : Fin 64)
  /-- R216. The crossing engine sends DISCOVER from a bank and collects IDENTIFY records until MGMT_TIMEOUT. -/
  | discover (n : Fin 64)
  /-- R216. STATION_STATUS writes one 16-byte status record per node. -/
  | stationStatus (n : Fin 64)
  /-- R216. STATION_UPDATE reloads station entries at the next boundary and puts each reloaded station in WAITING. -/
  | stationUpdate (n : Fin 64)
  /-- R224. A fast-input debounce or integrating filter settles and the filtered state changes. -/
  | inputFilterChange (n : Fin 32) (volts : Fin 65536)
  /-- R225. An input's sink current stays below 0.2 mA, or again at or above 0.3 mA, for WB_TIME and WIRE_BREAK changes with source 81. -/
  | wireBreak (n : Fin 32) (broken : Bool)
  /-- R229. Two push-pull channels are suspect against each other for 20 us and are latched off as CONTENTION. -/
  | contention (a : Fin 32) (suspects : Nat)
  /-- R229. A push-pull channel commanded low reads HIGH with its low side in LIMIT and is latched off. -/
  | shortToSupply (n : Fin 32)
  /-- R229. A channel commanded high has its high side in LIMIT for 2 ms and is latched off. -/
  | overload (n : Fin 32)
  /-- R230. Writing FIO.CH_n_CLEAR.CLEAR releases a latched channel, or both channels of a CONTENTION pair. -/
  | channelClear (n : Fin 32)
  /-- R230. With AUTO_RETRY 1, a latched channel is released every 100 ms after the latch. -/
  | autoRetry (n : Fin 32)
  /-- R231. L+_g stays below or above a threshold for its time and the group enters LOW, UNDER, LOST or recovers, asserting source 82. -/
  | groupStateChange (g : Fin 4) (new : Fin 4) (volts : Fin 65536)
  /-- R232. Writing FIO.GROUP_g_ACK releases the SUPPLY_LOST latches of a group awaiting ack. -/
  | groupAck (g : Fin 4)
  /-- R233. A filtered counter input edge updates VALUE by one step, evaluating COUNTER_COMPARE triggers and AFTER_COUNTS actions. -/
  | counterStep (c : Fin 4) (aVolts aHeld bVolts bHeld : Fin 65536)
  /-- R233. A write to FIO.CNT_c_LOAD sets VALUE without counting a step. -/
  | counterLoad (c : Fin 4) (value : Nat)
  /-- R235. The selected index edge latches VALUE into INDEX_LATCH, sets INDEX_SEEN and optionally zeroes VALUE. -/
  | index (c : Fin 4) (volts : Fin 65536)
  /-- R236. An armed touch probe's edge latches the tick or a counter value and asserts source 86. -/
  | probeLatched (p : Fin 16) (before volts held : Fin 65536)
  /-- R237. Writing FIO.PRB_p_CTRL.ARM arms the probe. -/
  | probeArm (p : Fin 16)
  /-- R237. Writing FIO.PRB_p_CTRL.DISARM disarms the probe. -/
  | probeDisarm (p : Fin 16)
  /-- R237. A read of PRB_p_VALUE_LO freezes the matching high word for the next read. -/
  | probeValueLoRead (p : Fin 16)
  /-- R241. Setting FIO.CTRL.ENABLE checks the configuration within 2 us or refuses with CFG_CAUSE. -/
  | fioEnable
  /-- R242. An INPUT_EDGE or PATTERN condition of an armed spur unit fires and schedules its action. -/
  | spurInputTrigger (u : Fin 16)
  /-- R242. A TIME trigger's PARAM tick is reached and the armed unit schedules its action. -/
  | spurTimeTrigger (u : Fin 16)
  /-- R244. A scheduled AFTER_TICKS spur action reaches its tick and commands the output. -/
  | spurActionDue (u : Fin 16)
  /-- R245. A pulse's PULSE ticks elapse and its channel takes the opposite level. -/
  | spurPulseEnd (u : Fin 16)
  /-- R247. A write to SPR.UNIT_u_TRIG disables the unit, or checks and enables it, or is refused with CFG_CAUSE and source 99. -/
  | spurTrigWrite (u : Fin 16) (value : Nat)
  /-- R243. Writing SPR.UNIT_u_CTRL.ARM arms the unit. -/
  | spurArm (u : Fin 16)
  /-- R243. Writing SPR.UNIT_u_CTRL.DISARM disarms the unit. -/
  | spurDisarm (u : Fin 16)
  /-- R253. Writing SPR.UNIT_u_CTRL.FLUSH empties the unit's action queue. -/
  | spurFlush (u : Fin 16)
  /-- R259. A pass ends and its set-points enter the output image with class 0's commit, releasing a held commit. -/
  | motionPassEnd
  /-- R264. AXIS_LOAD reads and applies axis table entries at the effective pass. -/
  | axisLoad (n : Fin 64)
  /-- R269. MOVE_ABS plans a jerk-limited profile to an absolute target. -/
  | moveAbs (n : Fin 64)
  /-- R269. MOVE_VEL plans a jerk-limited profile to a constant velocity. -/
  | moveVel (n : Fin 64)
  /-- R268. The motion STOP command drops coupling and stops the index with STOP_DECEL and STOP_JERK. -/
  | motStop (n : Fin 64)
  /-- R271. GEAR_IN couples an axis to its master through NUM / DEN, immediately or by synchronising. -/
  | gearIn (n : Fin 64)
  /-- R278. CAM_IN engages a cam table at once or arms a switch at SWITCH_AT. -/
  | camIn (n : Fin 64)
  /-- R273. PHASE_SHIFT superimposes a relative profile on a coupled or syncing axis. -/
  | phaseShift (n : Fin 64)
  /-- R268. The motion RESET_FAULT takes a FAULT axis to STANDSTILL at its actual position. -/
  | motResetFault (n : Fin 64)
  /-- R276. CAM_CHECK reads and checks a cam table and marks it VALID, or releases it. -/
  | camCheck (n : Fin 64)
  /-- R264. The motion STATUS command writes 32-byte status records of indices to a buffer. -/
  | motStatus (n : Fin 64)
  /-- R282. Setting MOT.CTRL.ENABLE reads and checks all 520 entries or refuses with CFG_CAUSE. -/
  | motEnable
  /-- R281. Writing MOT.PASS_CTRL.CLEAR_MAX zeroes PASS_STATUS.MAX. -/
  | motClearMax
  /-- R284. The loop engine evaluates the queue head, writes its output and updates states, supervision and delay records. -/
  | loopEvaluation
  /-- R300. LOOP_LOAD reads, checks and applies loop table entries at the commit, all or none. -/
  | loopLoad (n : Fin 64)
  /-- R299. SET_MODE changes an instance's mode at the commit, setting TRANSFER_PENDING for AUTO. -/
  | setMode (n : Fin 64)
  /-- R301. The loop RESET_FAULT clears an instance's fault cause at the commit and leaves it OFF. -/
  | loopResetFault (n : Fin 64)
  /-- R302. The loop STATUS command writes 32-byte records of instances to a buffer. -/
  | loopStatus (n : Fin 64)
  /-- R299. CLEAR_STATS zeroes LAST, MAX, EVALUATIONS and REPLACED of the instances. -/
  | clearStats (n : Fin 64)
  /-- R304. Setting LOP.CTRL.ENABLE reads and checks all 512 entries or refuses with CFG_CAUSE. -/
  | lopEnable
  /-- R309. Writing LOP.QUEUE.CLEAR sets PEAK to DEPTH. -/
  | lopQueueClear
  /-- R309. Writing LOP.WORST.CLEAR zeroes the worst delay. -/
  | lopWorstClear
  /-- R314. A current-loop input's conversion period ends and its result is classified, scaled and presented. -/
  | conversionResult (n : Fin 8) (na : Nat)
  /-- R320. Every 100 us the output stage measures current and headroom and updates COMPLIANCE and ALARM_NOT_SIGNALLED. -/
  | outputStageMeasure (n : Fin 8) (na : Nat) (mv : Fin 65536)
  /-- R313. A loop supply at its current limit for 10 ms sets LOOP_SHORT and asserts source 147. -/
  | clLoopShort (n : Fin 8) (short : Bool)
  /-- R24. 50 ms after the presence net reads seated, the module starts using and reporting its current-loop readings. -/
  | clInputSettled
  /-- R324. Setting CLP.CTRL.ENABLE checks the configuration within 2 us or refuses with CFG_CAUSE. -/
  | clpEnable
  /-- R328. HART_REQUEST transmits a HART frame and waits for a valid reply, retrying up to RETRIES times. -/
  | hartRequest (n : Fin 64)
  /-- R328. HART_LISTEN waits for the first burst frame until its timeout. -/
  | hartListen (n : Fin 64)
  /-- R331. A HART reply or burst frame is received and written as a response record, or asserts source 150 with no listener. -/
  | hartFrameReceived (ch : Fin 8) (err : Fin 16) (burst : Bool) (body : List Nat)
  /-- R331. No valid reply after all attempts, or no burst in time, completes TIMEOUT and asserts source 151. -/
  | hartTimeout (ch : Fin 8)
  /-- R347. A HEARTBEAT from the partner updates its state, epoch, tick offset and announced DOWN sequences. -/
  | heartbeat (h : RanselHead) (st : Fin 6) (eligible lease : Bool) (epoch cycle tick : Nat) (down : List Nat)
  /-- R346. A unit that has sent nothing on a link for 1 us sends a HEARTBEAT. -/
  | heartbeatSend
  /-- R349. A HELLO at link training is checked for pair protocol, slot and CARRIER_ID. -/
  | hello (h : RanselHead) (unit slot proto carrier gen : Nat) (digest : List Nat)
  /-- R345. A NAK makes the sender resend the missing messages, or untethers a trail if they are no longer kept. -/
  | nak (h : RanselHead) (missing : Nat)
  /-- R345. A SEQ missing on every up link for 2 us makes the receiver send NAK. -/
  | seqMissing
  /-- R350. The trail builds a class cycle's snapshot from the lead's CUT_LIST and its own landed frames. -/
  | cutList (h : RanselHead) (k : Fin 8) (c : CutWait)
  /-- R353. The lead's COMMIT is compared with the trail's output digest for the same cycle. -/
  | ranselCommit (h : RanselHead) (k : Fin 8) (cycle digest tick : Nat)
  /-- R352. A READ message supplies the value of a sampled read or register load to the trail's voted complex. -/
  | ranselRead (h : RanselHead) (idx value : Nat)
  /-- R352. A DELIVERY message sets the trail's interrupt delivery point and pending words of target 0. -/
  | delivery (h : RanselHead) (point : Nat) (words : List Nat)
  /-- R352. A LOCK message supplies the outcome of an initiator-0 lock request to the trail. -/
  | ranselLock (h : RanselHead) (idx : Nat) (lock : Fin 64) (status : Fin 256)
  /-- R583. A COMPLETION message makes the trail write the lead's data and completion record for a followed descriptor. -/
  | completion (h : RanselHead) (ring : Fin 64) (record data : List Nat)
  /-- R307. A LOOP message makes the trail evaluate the lead's sample and compare its output. -/
  | ranselLoop (h : RanselHead) (inst : LoopHead) (word out tick : Nat)
  /-- R323. A CHANNEL_STATUS message supplies the lead's output-channel flags and current to the trail. -/
  | channelStatus (h : RanselHead) (ch : Fin 8) (flags : Fin 4) (ma : Nat)
  /-- R348. A CONTROL message names a boundary at which the trail applies run state, HOLD, force or TIME. -/
  | ranselControl (h : RanselHead) (c : Control)
  /-- R174. The lead's CROSSED notice makes the trail cross before the first cycle of CLASS_MASK from B. -/
  | crossedNotice (h : RanselHead) (b gen : Nat)
  /-- R250. A MIRROR message updates the trail's mirrored latched channels and AWAIT_ACK. -/
  | ranselMirror (h : RanselHead) (chans : List (Nat × Nat × Nat × Nat)) (await : Fin 16)
  /-- R360. The trail compares the lead's block CRCs with its own and records latent divergences. -/
  | stateDigest (h : RanselHead) (cycle : Nat) (blocks : List (Nat × Nat))
  /-- R360. The trail installs a block captured by the lead at its own class-0 KEND of the capture cycle. -/
  | blockData (h : RanselHead) (idx cycle : Nat) (data : List Nat)
  /-- R360. The lead captures the requested block at its next class-0 KEND and sends BLOCK_DATA. -/
  | blockRequest (h : RanselHead) (idx : Nat)
  /-- R351. The lead answers a FRAME_REQUEST with FRAME_DATA from the frozen version. -/
  | frameRequest (h : RanselHead) (node : Fin 2048) (seq : Nat)
  /-- R351. The trail lands a FRAME_DATA body for its cut. -/
  | frameData (h : RanselHead) (node : Fin 2048) (seq : Nat) (body : List Nat)
  /-- R209. A RELAY message makes the partner send the frame out of its own bank with RELAYED set, or land a forwarded UP frame. -/
  | relay (h : RanselHead) (c : Fin 4) (frame : List Nat)
  /-- R170. A STAGED message records that the trail has staged a map with a given NEW_GEN and HEADER_CRC. -/
  | staged (h : RanselHead) (gen crc : Nat)
  /-- R380. The lead answers a take-back request with a planned hand-over or a refusal. -/
  | handoverRequest (h : RanselHead) (cause : Fin 256)
  /-- R379. A HANDOVER message schedules the trail to become LEAD with epoch E + 1 at boundary B. -/
  | handover (h : RanselHead) (b epoch : Nat)
  /-- R376. A YIELD received by an eligible trail makes it LEAD at once with a new epoch and raised token. -/
  | yield (h : RanselHead) (epoch : Nat) (cause : Fin 256)
  /-- R361. The trail stores TETHER_DATA of a TRACK region. -/
  | tetherData (h : RanselHead) (off : Nat) (data : List Nat)
  /-- R361. The trail installs the tether image, verifies its digest and becomes TRAIL_TETHERED from the named cycle. -/
  | tether (h : RanselHead) (cycle digest : Nat) (img : TetherImage)
  /-- R346. A link delivers no valid message for LINK_LOSS or loses block lock and goes down, raising source 161. -/
  | ranselLinkDown (l : Fin 2) (blockLock : Bool)
  /-- R346. A trained link delivers 1 ms of valid heartbeats and goes up, raising source 161. -/
  | ranselLinkUp (l : Fin 2)
  /-- R343. Ransel link training ends and HELLO is exchanged. -/
  | linkTrainingEnd (l : Fin 2) (latency : Fin 512)
  /-- R366. Every LEASE / 4 a driving unit sends RENEW with a new NONCE. -/
  | leaseRenewalDue
  /-- R366. A RENEW_ACK extends LEASE_HELD to the send tick of the acknowledged RENEW plus LEASE_TICKS. -/
  | renewAck (port : Fin 6) (frame : List Nat)
  /-- R368. A witness REFUSE untethers a requesting trail with reason LINKS. -/
  | refuse (port : Fin 6) (frame : List Nat)
  /-- R376. An EPOCH_GRANT makes an eligible trail LEAD with the granted epoch and raises its token. -/
  | epochGrant (port : Fin 6) (frame : List Nat)
  /-- R366. A driving unit's lease holding ends without renewal and source 163 is raised. -/
  | leaseLapsed
  /-- R367. A non-driving unit sends a RENEW probe with LEASE_TICKS 0 every 1 ms. -/
  | witnessProbe
  /-- R367. No authenticated answer within 4 intervals, or a new one, changes witness reachability and raises source 162. -/
  | witnessChange
  /-- R365. Acting as witness, the unit answers a RENEW by extending, taking over, releasing or refusing the lease. -/
  | renew (port : Fin 6) (frame : List Nat)
  /-- R365. Acting as witness, the unit grants, holds pending or acknowledges an EPOCH_REQUEST. -/
  | epochRequest (port : Fin 6) (frame : List Nat)
  /-- R365. Acting as witness, a lease reaches EXPIRY and a pending request is granted within 5 us. -/
  | witnessLeaseExpiry (w : Fin 8)
  /-- R368. An untethered trail sees no lead evidence for UNTETHERED_SILENCE and may request an epoch again. -/
  | untetheredSilenceExpiry
  /-- R370. A driving unit seeing a higher epoch or a live partner token after its claim window stops its token and frames and becomes TRAIL_UNTETHERED. -/
  | demoted (token : Bool)
  /-- R375. A lead's own token reads back dead for 2 us and the lead yields and goes OUT. -/
  | ownTokenDead
  /-- R375. The 24 V supply below 18 V for 100 us makes a lead yield, release its lease and go OUT. -/
  | supplyLow
  /-- R380. The home unit tethered and eligible for TAKEBACK_HOLDOFF sends HANDOVER_REQUEST. -/
  | takebackHoldoffExpiry
  /-- R381. A JOINING unit with links down for 5 s and the partner token dead becomes ALONE when permitted. -/
  | joiningLinkTimeout
  /-- R379. PAR.CMD HANDOVER starts a planned hand-over to an eligible tethered partner. -/
  | parHandover (init : Fin 22) (priv : Fin 8) (session : Fin 65536)
  /-- R375. PAR.CMD GO_OUT makes the unit yield if driving and go OUT. -/
  | goOut (init : Fin 22) (priv : Fin 8) (session : Fin 65536)
  /-- R362. PAR.CMD REJOIN restarts an OUT unit in JOINING. -/
  | rejoin (init : Fin 22) (priv : Fin 8) (session : Fin 65536)
  /-- R382. PAR.CMD CLEAR_DIVERGENCE zeroes the divergence count. -/
  | clearDivergence (init : Fin 22) (priv : Fin 8) (session : Fin 65536)
  /-- R382. A PAR.CMD with OP 5 to 15 is refused with reason 5. -/
  | parCmdReserved (init : Fin 22) (priv : Fin 8) (session : Fin 65536) (op : Fin 11)
  /-- R382. Writing PAR.STREAM_MAX.CLEAR zeroes its BYTES. -/
  | streamMaxClear
  /-- R393. PRT.CMD COMMIT_L0 checks level 0, holds every access, swaps the shadows and drains the old epoch. -/
  | commitL0 (init : Fin 22)
  /-- R393. PRT.CMD COMMIT_L1 checks and swaps the level 1 lists of the initiators in CMD_MASK. -/
  | commitL1 (init : Fin 22)
  /-- R395. PRT.CMD OP 3 is refused with cause 4. -/
  | prtCmdReserved (init : Fin 22)
  /-- R393. Every access checked under the old epoch is acknowledged and the commit completes DONE with source 209. -/
  | prtDrainComplete
  /-- R388. Writing 1 to PRT.CTRL.ENFORCE turns protection on until the next MODULE or POR reset. -/
  | enforce
  /-- R399. A shared target finishes a transaction and grants the chosen next, deciding one round ahead. -/
  | arbiterGrant (t : Fin 10)
  /-- R403. A new ARB.WINDOW starts at a multiple of WINDOW and every quota mask is lifted. -/
  | quotaWindowStart
  /-- R413. Writing ARB.TARGET_t_PEAK_WAIT.CLEAR zeroes its TICKS. -/
  | peakWaitClear (t : Fin 10)
  /-- R406. LCK TRY acquires a free lock or is refused with reason 1. -/
  | lckTry (init : Fin 22) (lock : Fin 64)
  /-- R408. LCK WAIT acquires a free lock, queues the requester, or completes DEADLOCK after the chain check. -/
  | lckWait (init : Fin 22) (lock : Fin 64)
  /-- R407. LCK RELEASE frees an owned lock and passes it to its first waiter. -/
  | lockRelease (init : Fin 22) (lock : Fin 64)
  /-- R406. LCK CANCEL withdraws the requester's wait. -/
  | cancel (init : Fin 22) (lock : Fin 64)
  /-- R406. A read of LCK.RESULT returns the reader's own result, completing when it is decided. -/
  | lockResultRead (init : Fin 22)
  /-- R410. LCK.BREAK releases a lock as broken to its first waiter. -/
  | lockBreak (lock : Fin 64)
  /-- R410. A lock held beyond its HOLD_LIMIT sets HOLD_EXCEEDED and asserts source 217. -/
  | lockHold (lock : Fin 64)
  /-- R417. A write to TIM.INC_HI commits the increment, clamped, to take effect at the third boundary. -/
  | incCommit
  /-- R419. A read of TIM.PT_LO latches PT_HI, PT_FRAC and the tick counter for the reading initiator. -/
  | ptLoRead (init : Fin 22)
  /-- R420. TIM.CMD SET makes bpt at the third boundary equal to SET_HI:SET_LO. -/
  | timSet (init : Fin 22) (priv : Fin 8) (session : Fin 65536)
  /-- R420. TIM.CMD STEP adds a signed ns value to bpt at the third boundary. -/
  | timStep (init : Fin 22) (priv : Fin 8) (session : Fin 65536)
  /-- R420. TIM.CMD OP 3 is refused with reason 4. -/
  | timCmdReserved (init : Fin 22) (priv : Fin 8) (session : Fin 65536)
  /-- R424. No increment committed for HOLDOVER_TIME sets HOLDOVER and asserts source 179. -/
  | holdover
  /-- R429. A Delay_Req from a station on a timed crossing is answered with Delay_Resp within 50 us. -/
  | delayReq (c : Fin 4) (seq : Fin 65536) (who : Nat)
  /-- R432. An armed compare unit reaches its target, fires, latches FIRE_TICK and reloads if periodic. -/
  | timeCompare (u : Fin 8)
  /-- R432. Writing TIM.CMP_u_CTRL.ARM arms the compare unit. -/
  | compareArm (u : Fin 8)
  /-- R437. Writing TIM.CMP_u_CTRL.DISARM disarms the compare unit. -/
  | compareDisarm (u : Fin 8)
  /-- R433. A capture unit's selected signal latches the tick and plant time and increments SEQ. -/
  | timeCapture (u : Fin 4)
  /-- R558. A read of TIM.CAP_u_TICK_LO freezes the other words of the latch until the read of CAP_u_PT_HI. -/
  | capTickLoRead (u : Fin 4)
  /-- R435. A frame received on a plant port is time-stamped and fills the next RECEIVE of its ring, or is dropped. -/
  | plantFrameReceived (p : Fin 2) (fcsOk : Bool) (frame : List Nat)
  /-- R434. A plant port's link changes and source 181 is asserted. -/
  | plnLink (p : Fin 2) (up : Bool)
  /-- R435. The plant engine's TRANSMIT sends a frame, one-step or with a time-stamp record. -/
  | plnTransmit (n : Fin 64)
  /-- R435. The plant engine's RECEIVE posts a buffer that the next matching frame fills. -/
  | plnReceive (n : Fin 64)
  /-- R442. A received CAN frame is accepted by the lowest matching buffer and stored or delivered, or counted as unmatched. -/
  | canFrameReceived (c : Fin 2) (ident : Nat) (dlc : Fin 16) (esi remote : Bool) (data : List Nat)
  /-- R448. A transmission attempt ends in success, lost arbitration or error, updating counters and completing or retrying the frame. -/
  | canAttemptEnd (c : Fin 2) (result : Fin 3) (lec : Fin 7) (same : Bool)
  /-- R447. CAN TRANSMIT loads a frame into a TX buffer and queues it, superseding an older queued frame. -/
  | canTransmit (n : Fin 64) (free : Bool)
  /-- R446. CAN RECEIVE posts an 80-byte record for frames accepted by an RX_RING buffer. -/
  | canReceive (n : Fin 64)
  /-- R450. SCHEDULE_LOAD checks a schedule matrix and brings it into force at the next basic cycle with index 0. -/
  | scheduleLoad (n : Fin 64)
  /-- R449. An AT_TIME frame passes target plus TOLERANCE without a successful SOF and completes EXPIRED. -/
  | txExpired (c : Fin 2) (b : Fin 64)
  /-- R451. An EXCLUSIVE or REFERENCE window starts and its buffer makes one attempt. -/
  | ttWindowStart (c : Fin 2) (w : Fin 32) (free : Bool)
  /-- R452. A window ends with its frame unsent, incrementing MISSED and asserting source 190. -/
  | ttWindowMissed (c : Fin 2) (w : Fin 32)
  /-- R453. After 128 occurrences of 11 recessive bits the channel returns to error-active with both counters 0. -/
  | busOffRecovery (c : Fin 2)
  /-- R456. A unit that became driving leaves bus monitoring after 11 recessive bits with TEC and REC 0. -/
  | busIntegration (c : Fin 2)
  /-- R441. Setting CAN.CH_c_CFG.ENABLE checks bit timing within 2 us or refuses with cause 1. -/
  | canChannelEnable (c : Fin 2)
  /-- R463. A sample differing from its predecessor is stored as a change record and checked against the trigger. -/
  | acqChangeRecord (pulses : Nat) (took : Fin 33)
  /-- R466. The queue regains RESUME.FREE free entries, the next sample ends the gap and a gap entry is written. -/
  | gapEnd (pulses : Nat) (took : Fin 33)
  /-- R470. POST_RECORDS records stored after the trigger end the segment and its summary is written. -/
  | segmentDone
  /-- R467. POST_TIMEOUT ticks after the trigger end the segment. -/
  | postTimeoutExpiry
  /-- R469. After dead time the next segment starts recording once the queue has RESUME.FREE free entries. -/
  | segmentStart (pulses : Nat) (took : Fin 33)
  /-- R471. CAPTURE checks its buffer and registers and records segments until the last ends. -/
  | capture (n : Fin 64) (pulses : Nat)
  /-- R471. FORCE_TRIGGER makes the running segment trigger at the next sample with FORCED set. -/
  | forceTrigger (n : Fin 64)
  /-- R473. ARCHIVE copies the last capture's buffer and summary to an eMMC slot, header last. -/
  | archive (n : Fin 64) (stored : Bool)
  /-- R474. RESTORE copies an archive slot's header, summary area and buffer to DRAM. -/
  | restore (n : Fin 64)
  /-- R479. Writing ACQ.QUEUE.CLEAR sets PEAK to LEVEL. -/
  | acqQueueClear
  /-- R479. Writing ACQ.MAX_DEAD.CLEAR zeroes its TICKS. -/
  | acqMaxDeadClear
  /-- R484. A write to PWR.D_d_REQ starts, queues or refuses a change of domain state or rail. -/
  | domainRequest (d : Fin 8) (st rail : Fin 4)
  /-- R486. Writing PWR.D_d_VOTE_SET sets the writer's vote, aborting an entry in quiesce. -/
  | voteSet (init : Fin 22) (d : Fin 8)
  /-- R486. Writing PWR.D_d_VOTE_CLEAR clears the writer's vote. -/
  | voteClear (init : Fin 22) (d : Fin 8)
  /-- R498. Writing PWR.D_d_CLEAR.ACCOUNTS zeroes the refusal accounts of the domain. -/
  | pwrClearAccounts (d : Fin 8)
  /-- R482. A domain idle for IDLE_TIME with AUTO 1 and no request starts an automatic entry. -/
  | idleTimeExpiry (d : Fin 8)
  /-- R483. An unused D6 channel idle for IDLE_TIME has its front end switched off. -/
  | d6ChannelOff (n : Fin 8)
  /-- R488. Every access in flight to and from the domain is acknowledged and the entry proceeds to save, retention and rail. -/
  | quiesceEnd (d : Fin 8)
  /-- R489. Quiesce not ended within QUIESCE_TIME aborts the entry and records the refuser. -/
  | quiesceTimeout (d : Fin 8) (init : Fin 22)
  /-- R488. The rail reaches retention level or off and the domain becomes RETAIN or OFF, asserting source 9. -/
  | entryComplete (d : Fin 8)
  /-- R491. A wake stage's ready signal arrives; after stage 4 the domain is ON and source 9 asserted. -/
  | domainWakeStageEnd (d : Fin 8) (seen : Fin 16)
  /-- R491. A wake stage misses its timeout and is retried once, or the domain enters FAILED. -/
  | wakeStageTimeout (d : Fin 8)
  /-- R494. Power-good at the new rail setting completes a rail-only request, or a second miss fails the domain. -/
  | railChangeComplete (d : Fin 8) (ok : Bool)
  /-- R495. An ON domain's power-good goes or STATUS_WORD reports a fault, and the domain enters FAILED. -/
  | powerGoodLost (d : Fin 7)
  /-- R493. A PMBus command is acknowledged, or fails and is resent up to 2 times before source 13. -/
  | pmbusCommandEnd (result : Fin 3) (word : Fin 65536) (fault : Bool)
  /-- R493. SMBALERT# starts a STATUS_WORD read of every page. -/
  | smbalert
  /-- R502. RST.CMD WARM resets cores, engines and fabric, after a hand-over on a lead. -/
  | rstWarm (init : Fin 22) (priv : Fin 8) (session : Fin 65536)
  /-- R502. RST.CMD MODULE resets everything except the tick counter and class P. -/
  | rstModule (init : Fin 22) (priv : Fin 8) (session : Fin 65536)
  /-- R500. RST.CMD DOMAIN resets one domain and wakes it. -/
  | rstDomain (init : Fin 22) (priv : Fin 8) (session : Fin 65536) (d : Fin 8)
  /-- R500. RST.CMD SVC_CORE resets one service core. -/
  | svcCore (init : Fin 22) (priv : Fin 8) (session : Fin 65536) (core : Fin 8)
  /-- R504. RST.CMD PARTNER_RESET drives PARTNER_RESET_OUT low when its conditions hold. -/
  | partnerReset (init : Fin 22) (priv : Fin 8) (session : Fin 65536)
  /-- R523. RST.CMD OP 6 to 15 is refused with reason 5. -/
  | rstCmdReserved (init : Fin 22) (priv : Fin 8) (session : Fin 65536) (op : Fin 10)
  /-- R503. Writing 1 to RST.WDT_CFG.ENABLE starts the watchdog. -/
  | wdtEnable
  /-- R503. A write of 0xA5 by the FEEDER restarts the watchdog; any other write counts in BAD_KICKS. -/
  | wdtKick (init : Fin 22) (key : Fin 256)
  /-- R503. Half of TIMEOUT elapses without a kick and source 2 is asserted. -/
  | wdtWarning
  /-- R502. The watchdog expires: YIELD, lease release and token stop, then a WARM or MODULE reset 10 us later. -/
  | wdtExpiry
  /-- R507. The start proceeds through its stages, running BIST, boot, wakes and configuration to start-up complete. -/
  | startUp (bad : Nat) (seen : Fin 256) (eeprom : Option (List Nat)) (ok : Bool)
  /-- R507. A start not complete within START_LIMIT stops, leaving the unit OUT with FAULT red. -/
  | startLimitExpiry
  /-- R514. BST.CMD RUN starts one logic or memory BIST of a target whose condition holds. -/
  | bstRun (init : Fin 22) (t : Fin 32)
  /-- R513. BST.CMD RUN_TRANSPARENT starts transparent MBIST of control SRAM, the pair region or DRAM. -/
  | runTransparent (init : Fin 22) (t : Fin 32)
  /-- R522. BST.CMD REPORT writes the health report and, at stage 8, completes start-up. -/
  | report (init : Fin 22)
  /-- R514. A BIST ends, updating RESULT, signatures and PASSED or FAILED and asserting source 248. -/
  | bistDone (sig expected rows addr : Nat) (bad : Bool)
  /-- R516. Every INTERVAL seconds at a class-0 KEND BST tests the next rotation target or skips it. -/
  | rotationStep
  /-- R519. A service core sets its own BST.SVC_RELEASE bit to allow its rotation step. -/
  | svcRelease (init : Fin 22) (wfi : Bool)
  /-- R529. The record at the head of the recorder queue is written to MRAM, advancing OLDEST where it overwrites. -/
  | recorderWrite
  /-- R532. Change-log records are copied to the eMMC archive in SEQ order within 10 s. -/
  | changeLogArchive (ok : Bool)
  /-- R549. A read of a REC _LO SEQ register latches its _HI and, for OLDEST, its ADDR. -/
  | recLoRead (w : Fin 5)
  /-- R533. APPEND writes a firmware-defined record to the event or change log. -/
  | append (n : Fin 64)
  /-- R533. The recorder READ copies whole records from a first SEQ into a buffer. -/
  | recRead (n : Fin 64)
  /-- R537. VERIFY checks a container's header, signatures and body hash and enters it in a verified entry. -/
  | verify (n : Fin 64)
  /-- R545. The update engine's STAGE writes a FIRMWARE container to the inactive slot and reads it back. -/
  | updStage (n : Fin 64) (ok : Bool)
  /-- R546. ACTIVATE schedules the activation restart at the first boundary whose plant time is T or later. -/
  | activate (n : Fin 64)
  /-- R541. INSTALL stores a CONFIGURATION or KEYS container in MRAM. -/
  | install (n : Fin 64)
  /-- R542. ATTEST writes a signed attestation report over a nonce. -/
  | attest (n : Fin 64)
  /-- R542. CERT_READ writes the device and issuing certificates to a buffer. -/
  | certRead (n : Fin 64)
  /-- R548. UPD.CMD CONFIRM makes a TRIAL slot CONFIRMED and raises the FIRMWARE rollback counter. -/
  | confirm (init : Fin 22) (session : Fin 65536)
  /-- R538. UPD.CMD RELEASE invalidates a verified entry. -/
  | updRelease (entry : Fin 8)
  /-- R546. UPD.CMD CANCEL_ACTIVATE completes a pending ACTIVATE ABORTED. -/
  | cancelActivate
  /-- R550. UPD.CMD OP 4 to 15 is refused with reason 4. -/
  | updCmdReserved
  /-- R548. No CONFIRM within CONFIRM_TIME of start-up makes the unit fall back through a WARM reset. -/
  | confirmTimeExpiry
  /-- R540. A write of SEC.LEASE_KEY_w by initiator 18 stages a word of the lease key. -/
  | leaseKeyWrite (init : Fin 22) (w : Fin 8) (value : Nat)
  /-- R540. SEC.CMD COMMIT_LEASE_KEY stores the lease key and copies it into the D0 lease logic. -/
  | commitLeaseKey (init : Fin 22) (priv : Fin 8) (session : Fin 65536)
  /-- R539. SEC.CMD FACTORY_TRUST erases plant keys, lease key, configuration and verified entries. -/
  | factoryTrust (init : Fin 22) (priv : Fin 8) (session : Fin 65536)
  /-- R551. A SEC.CMD with a reserved OP is refused with reason 3. -/
  | secCmdReserved
  /-- R483. A D6 channel front end powered up at a CLP enable becomes ready, at most 5 ms later, and the channel runs the reference check of R337 and may report VALID. -/
  | frontEndReady (n : Fin 8) (ok : Bool)
  /-- R371. The 10 us claim window after a unit raises its token ends, and its token logic stops ignoring a live partner token, demoting the unit if that token is live. -/
  | claimWindowEnd
  /-- R567. 24V_MAIN returns above 19.2 V before the hold-up store is exhausted, ending hold-up operation while the unit continues in its pair state. -/
  | supplyReturn
  /-- R454. A CAN channel detects an error while receiving, which updates LEC, RX_ERR and REC, may change the error state, and asserts sources 184 and 189. -/
  | canReceiveError (c : Fin 2) (lec : Fin 7) (eight : Bool)
  /-- R449. The tick counter reaches an AT_TIME frame's target, so the queued frame may start at the next bit boundary and be offered to arbitration. -/
  | atTimeTarget (c : Fin 2) (free : Bool)
  /-- R398. DRAM refresh occupies the DRAM port for up to 70 ticks once in every 1,560 ticks, ahead of waiting transactions and never revoked. -/
  | dramRefresh
  /-- R232. After a group recovers from UNDER or LOST, an input's filter settles (after DEBOUNCE or INT_LIMIT x 2^INT_SHIFT ticks) and the input becomes VALID. -/
  | filterSettled (n : Fin 32)
  /-- R124. A latent minority recorded for a core passes 60 minutes of age and leaves the core's 60-minute history, lowering LATENT_HOUR. -/
  | latentHourExpiry (c : Fin 3)
  /-- R360. A latent divergence of a block passes 60 minutes of age and leaves the 60-minute count that governs DIVERGENCE_LIMIT and BLOCK_HOUR. -/
  | divergenceHourExpiry
  deriving DecidableEq, Repr

end Sys2Proof
end

