-- ==== Sys2Proof/Decode.lean ====
section
/-! DEFINITION. The commands of spec/opcode_table.json have no fields and no bits (its rows' "fields" are
empty), so no word spells one. -/

namespace Sys2Proof

/-- The command that a word spells by the table's bits: none, for the table gives no row any bits. -/
def decodeTableWord (_nbits _w : Nat) : Option Instr := none

end Sys2Proof
end

