-- ==== Sys2Proof/Machine/Keccak.lean ====
section
/-! DEFINITION. SHAKE256 and KMAC256, the two functions the spec names for digests (R160, R527, R534, R540) and
for AUTH of LEASE frames (R364). PRESUMED: their definition is that of FIPS 202 and SP 800-185, outside the
spec (notes/assumptions/8.md).

Marks (notes/assumptions): PRESUMED 8. -/

namespace Sys2Proof.Machine

/-- Round constants of Keccak-f[1600]. -/
def keccakRC : List (BitVec 64) :=
  [0x0000000000000001#64, 0x0000000000008082#64, 0x800000000000808A#64, 0x8000000080008000#64,
   0x000000000000808B#64, 0x0000000080000001#64, 0x8000000080008081#64, 0x8000000000008009#64,
   0x000000000000008A#64, 0x0000000000000088#64, 0x0000000080008009#64, 0x000000008000000A#64,
   0x000000008000808B#64, 0x800000000000008B#64, 0x8000000000008089#64, 0x8000000000008003#64,
   0x8000000000008002#64, 0x8000000000000080#64, 0x000000000000800A#64, 0x800000008000000A#64,
   0x8000000080008081#64, 0x8000000000008080#64, 0x0000000080000001#64, 0x8000000080008008#64]

/-- Rotation offsets, lane (x, y) at index x + 5y. -/
def keccakRot : List Nat :=
  [0, 1, 62, 28, 27, 36, 44, 6, 55, 20, 3, 10, 43, 25, 39, 41, 45, 15, 21, 8, 18, 2, 61, 56, 14]

/-- Lane `i` of the state. -/
def lane (a : List (BitVec 64)) (i : Nat) : BitVec 64 := a.getD i 0

/-- One round. -/
def keccakRound (a : List (BitVec 64)) (rc : BitVec 64) : List (BitVec 64) :=
  let c := (List.range 5).map fun x =>
    lane a x ^^^ lane a (x + 5) ^^^ lane a (x + 10) ^^^ lane a (x + 15) ^^^ lane a (x + 20)
  let d := (List.range 5).map fun x => lane c ((x + 4) % 5) ^^^ (lane c ((x + 1) % 5)).rotateLeft 1
  let t := (List.range 25).map fun i => lane a i ^^^ lane d (i % 5)
  let b := (List.range 25).map fun i =>
    -- lane (x, y) of the result of rho and pi comes from lane ((x + 3y) mod 5, x)
    let x := i % 5
    let y := i / 5
    let j := (x + 3 * y) % 5 + 5 * x
    (lane t j).rotateLeft (keccakRot.getD j 0)
  let e := (List.range 25).map fun i =>
    let y := i / 5
    lane b i ^^^ (~~~ lane b ((i + 1) % 5 + 5 * y) &&& lane b ((i + 2) % 5 + 5 * y))
  match e with
  | [] => []
  | h :: r => (h ^^^ rc) :: r

/-- Keccak-f[1600]. -/
def keccakF (a : List (BitVec 64)) : List (BitVec 64) := keccakRC.foldl keccakRound a

/-- XORs one 136-byte block into the state and permutes. -/
def absorbBlock (a : List (BitVec 64)) (blk : List Nat) : List (BitVec 64) :=
  keccakF ((List.range 25).map fun i =>
    lane a i ^^^ BitVec.ofNat 64 (leNat ((blk.drop (8 * i)).take 8)))

/-- Absorbs a message whose last block is already padded. -/
def absorb : Nat → List (BitVec 64) → List Nat → List (BitVec 64)
  | 0, a, _ => a
  | n + 1, a, m => absorb n (absorbBlock a (m.take 136)) (m.drop 136)

/-- Squeezes `n` bytes. -/
def squeeze : Nat → List (BitVec 64) → Nat → List Nat
  | 0, _, _ => []
  | k + 1, a, n =>
    let out := ((a.take 17).map fun l => leBytes 8 l.toNat).flatten
    if n ≤ 136 then out.take n else out ++ squeeze k (keccakF a) (n - 136)

/-- The sponge at rate 136 with a domain-separation byte. -/
def sponge (suffix : Nat) (msg : List Nat) (n : Nat) : List Nat :=
  let r := msg.length % 136
  let pad := if r = 135 then [suffix + 0x80] else suffix :: (List.replicate (134 - r) 0 ++ [0x80])
  let m := msg ++ pad
  squeeze (n / 136 + 1) (absorb (m.length / 136) (List.replicate 25 0) m) n

/-- SHAKE256 with `n` bytes of output. -/
def shake256 (msg : List Nat) (n : Nat) : List Nat := sponge 0x1F msg n

/-- left_encode of SP 800-185 for lengths below 2^16. -/
def leftEncode (x : Nat) : List Nat := if x < 256 then [1, x] else [2, x / 256 % 256, x % 256]

/-- right_encode of SP 800-185 for lengths below 2^16. -/
def rightEncode (x : Nat) : List Nat := if x < 256 then [x, 1] else [x / 256 % 256, x % 256, 2]

/-- encode_string of SP 800-185. -/
def encodeString (bs : List Nat) : List Nat := leftEncode (8 * bs.length) ++ bs

/-- bytepad of SP 800-185 at rate 136. -/
def bytepad136 (bs : List Nat) : List Nat :=
  let z := leftEncode 136 ++ bs
  z ++ List.replicate ((136 - z.length % 136) % 136) 0

/-- KMAC256 with output length 256 bits. -/
def kmac256 (key msg custom : List Nat) : List Nat :=
  sponge 0x04
    (bytepad136 (encodeString [0x4B, 0x4D, 0x41, 0x43] ++ encodeString custom) ++
      bytepad136 (encodeString key) ++ msg ++ rightEncode 256) 32

end Sys2Proof.Machine
end

