-- ==== Sys2Proof/Config.lean ====
section
/-! DEFINITION. What the part's factory fixes and the free values of the model. Every opaque constant here
has no body: no proof can see a value of it, so a statement holds for every value. The assumption log names
each (notes/assumptions/5.md for the factory values, 6.md for the free values, 7.md for ML-DSA-65).

Marks (notes/assumptions): DEDUCED 100, 102; DESIGN CHOICE 6, 7, 138, 139; PRESUMED 5, 81. -/

namespace Sys2Proof.Config

/-! Factory values (R554, R551, R434, R511, R539): uninterpreted. -/

opaque hwRevRaw : Nat
opaque variantRaw : Nat
opaque macRaw : Nat → Nat
opaque serialRaw : Nat → Nat
opaque deviceKeyIdRaw : Nat

/-- R554. The module hardware revision, 0x01 to 0xFE. -/
def hwRev : Nat := hwRevRaw % 0xFE + 1

/-- R554. 0 UCM-40-S, 1 UCM-40-C. -/
def variant : Nat := variantRaw % 2

/-- R434. MAC address bytes 2 to 5 of plant port `p`. -/
def macLo (p : Nat) : Nat := macRaw p % 2 ^ 32

/-- R434. MAC address bytes 0 and 1 of plant port `p`. -/
def macHi (p : Nat) : Nat := macRaw p / 2 ^ 32 % 2 ^ 16

/-- R185. MAC address of crossing port `c`. -/
def crossMac (c : Nat) : Nat := macRaw (2 + c) % 2 ^ 48

/-- R551. Serial bytes 4w to 4w + 3. -/
def serial (w : Nat) : Nat := serialRaw w % 2 ^ 32

/-- R542. The identifier of the device key. -/
def deviceKeyIdLo : Nat := deviceKeyIdRaw % 2 ^ 32
def deviceKeyIdHi : Nat := deviceKeyIdRaw / 2 ^ 32 % 2 ^ 32

/-- R511, R512. The factory signature of self-test target `t`. -/
opaque bistExpectedRaw : Nat → Nat

def bistExpected (t : Nat) : Nat := bistExpectedRaw t % 2 ^ 64

/-- R539. The two vendor public keys of the boot ROM, as bytes. -/
opaque vendorKey : Nat → List Nat

/-- R542. Certificate `k` (0 device, 1 issuing), as bytes. -/
opaque certificate : Nat → List Nat

/-- R534. ML-DSA-65 verification: key, context, message, signature (FIPS 204, uninterpreted). -/
opaque mlDsaVerify : List Nat → List Nat → List Nat → List Nat → Bool

/-- R542. The ML-DSA-65 signature that the device key gives under a context. -/
opaque mlDsaSign : List Nat → List Nat → List Nat

/-! Free values. -/

/-- R347. The cause byte of a YIELD, by what caused it (0 FAILSTOP, 1 a domain FAILED, 2 the own token dead, 3
withdrawal, 4 the supply, 5 GO_OUT, 6 the watchdog, 7 PARTNER_RESET_IN). -/
opaque yieldCauseRaw : Nat → Nat

def yieldCause (k : Nat) : Nat := yieldCauseRaw k % 256

/-- A fresh value that nothing constrains, by use number. -/
opaque freeValue : Nat → Nat

/-- R255, R269. What the engine's binary64 arithmetic makes of the last place of a profile's position, velocity or
acceleration, from the plan and its time: read modulo 3 as -1, 0 or 1. -/
opaque profileDev : List Int → Int

/-- R261. The acceleration of a coupled axis, which the manual does not state: from its velocity before and after the
pass, its acceleration before, and the ticks of the pass (binary64 patterns). -/
opaque coupledAcc : List Nat → Nat

/-- R11, R285, R292. What a loop takes for an output pair-word that is invalid or cannot be read, whose value the module
never uses: from its index and its value word. -/
opaque loopWord : Nat → Nat → Nat

/-- R264. A MOT STATUS record, whose layout the manual does not give: from the index and what it has of a status. -/
opaque motRecord : List Int → Nat

/-- R101. What mvendorid, marchid and mimpid read, which the manual does not give. -/
opaque mvendorid : Nat
opaque marchid : Nat
opaque mimpid : Nat

/-- R582. The byte that a read of lost DRAM returns (loss number, tick, address). -/
opaque lostDramByte : Nat → Nat → Nat → Nat

/-- R582. Whether a read of lost DRAM reports an uncorrectable error (loss number, tick, unit). -/
opaque lostDramError : Nat → Nat → Nat → Bool

end Sys2Proof.Config
end

