-- ==== Sys2Proof/Machine/RegMap.lean ====
section
/-! DEFINITION. The register map: every register field of the 26 blocks (spec/19_register_map.md R553, R562,
R563 and the register table of each block's chapter), as named constants and as one table per block.
A field constant holds its register (block number x 0x10000 + offset), its lowest bit, its width and its
reset value; the index of an array counts modulo its instances, so that no index reaches beyond its array. A row of a
table adds the array dimensions, the access code (R14), the retention class (R15,
R563) and the level (R16). -/

namespace Sys2Proof.Machine

/-- A register field: register (block number x 0x10000 + offset), lowest bit, width, reset value. -/
structure Fld where
  reg : Nat
  lo  : Nat
  w   : Nat
  rst : Nat
  deriving DecidableEq, Repr

/-- The number under which State keeps the field. -/
def Fld.id (f : Fld) : Nat := f.reg * 32 + f.lo

/-- R14. The access codes. -/
inductive Access where
  | RW | RO | WO | W1C | W1S | RWS
  deriving DecidableEq, Repr

/-- R15. The retention classes. -/
inductive Retention where
  | P | A | D | C
  deriving DecidableEq, Repr

/-- R16. The levels. -/
inductive Level where
  | basic | expert
  deriving DecidableEq, Repr

/-- One row of a block's register table. `dims` gives (instances, stride) of each array index. -/
structure FieldRow where
  fld  : Nat → Nat → Nat → Fld
  off  : Nat
  dims : List (Nat × Nat)
  acc  : Access
  ret  : Retention
  lvl  : Level

/-- R384, R562. The reset deadline of initiator `i`. -/
def initDeadlineReset (i : Nat) : Nat :=
  if i ≤ 3 then 0x40
  else if i ≤ 7 then 0x1388
  else if i = 8 ∨ i = 20 then 0x9C4
  else if i = 9 ∨ i = 12 then 0x18
  else if i = 10 then 0x8
  else if i = 11 then 0x28
  else if i = 13 then 0xC8
  else if i = 14 ∨ i = 17 then 0x190
  else if i = 15 then 0x7D0
  else if i = 16 ∨ i = 18 then 0x61A8
  else if i = 19 then 0xC350
  else 0x3E8


/-! SYS: spec/01_module_carrier.md -/
def SYS.CARRIER_STATUS.SLOT : Fld := ⟨0x000040, 0, 1, 0⟩
def SYS.CARRIER_STATUS.SLOT_FAULT : Fld := ⟨0x000040, 1, 1, 0⟩
def SYS.CARRIER_STATUS.SEATED : Fld := ⟨0x000040, 2, 1, 0⟩
def SYS.CARRIER_STATUS.PARTNER_SEATED : Fld := ⟨0x000040, 3, 1, 0⟩
def SYS.CARRIER_STATUS.TOKEN_SELF_LIVE : Fld := ⟨0x000040, 4, 1, 0⟩
def SYS.CARRIER_STATUS.TOKEN_PARTNER_LIVE : Fld := ⟨0x000040, 5, 1, 0⟩
def SYS.CARRIER_STATUS.DRIVERS_ENABLED : Fld := ⟨0x000040, 6, 1, 0⟩
def SYS.CARRIER_STATUS.LATCH_REQUEST : Fld := ⟨0x000040, 7, 1, 0⟩
def SYS.CARRIER_STATUS.EEPROM_VALID : Fld := ⟨0x000040, 8, 1, 0⟩
def SYS.CARRIER_STATUS.CARRIER_REV : Fld := ⟨0x000040, 16, 8, 0⟩
def SYS.FAULT_LED.AWAIT : Fld := ⟨0x000044, 0, 1, 0⟩
def SYS.FAULT_LED.RAISE : Fld := ⟨0x000044, 1, 1, 0⟩
def SYS.SPEED_CTRL.ENABLE : Fld := ⟨0x000080, 0, 8, 0xff⟩
def SYS.SPEED_FLOOR.FLOOR : Fld := ⟨0x000084, 0, 20, 0x10000⟩
def SYS.SPEED_STATUS.LOW_SEEN : Fld := ⟨0x000088, 0, 8, 0⟩
def SYS.SPEED.COUNT (n : Nat) : Fld := ⟨0x000090 + 0x4 * (n % 8), 0, 20, 0⟩
def SYS.SPEED.VALID (n : Nat) : Fld := ⟨0x000090 + 0x4 * (n % 8), 20, 1, 0⟩
def SYS.SPEED.BELOW_FLOOR (n : Nat) : Fld := ⟨0x000090 + 0x4 * (n % 8), 21, 1, 0⟩
def SYS.SPEED.SEQ (n : Nat) : Fld := ⟨0x000090 + 0x4 * (n % 8), 24, 8, 0⟩
def SYS.STATUS.RUN : Fld := ⟨0x000010, 0, 1, 0⟩
def SYS.STATUS.FORCED : Fld := ⟨0x000010, 1, 1, 0⟩
def SYS.STATUS.HELD : Fld := ⟨0x000010, 2, 1, 0⟩
def SYS.STATUS.FERRY_ACTIVE : Fld := ⟨0x000010, 3, 1, 0⟩
def SYS.STATUS.STOP_CAUSE : Fld := ⟨0x000010, 4, 4, 0⟩
def SYS.CMD.OP : Fld := ⟨0x000020, 0, 4, 0⟩
def SYS.CMD.TASK : Fld := ⟨0x000020, 4, 6, 0⟩
def SYS.CMD.PRIV : Fld := ⟨0x000020, 12, 3, 0⟩
def SYS.CMD.SESSION : Fld := ⟨0x000020, 16, 16, 0⟩
def SYS.CMD_STATUS.PENDING : Fld := ⟨0x000024, 0, 1, 0⟩
def SYS.CMD_STATUS.STATUS : Fld := ⟨0x000024, 8, 8, 0⟩
def SYS.CMD_STATUS.REASON : Fld := ⟨0x000024, 16, 4, 0⟩
def SYS.RUN_CFG.AUTOSTART : Fld := ⟨0x000028, 0, 1, 0⟩
def SYS.IDENT.FAMILY : Fld := ⟨0x000000, 0, 16, 0x40⟩
def SYS.IDENT.HW_REV : Fld := ⟨0x000000, 16, 8, Config.hwRev⟩
def SYS.IDENT.VARIANT : Fld := ⟨0x000000, 24, 1, Config.variant⟩

/-! PWR: spec/16_power.md -/
def PWR.SETUP_LOCK.CLOSED : Fld := ⟨0x010000, 0, 1, 0⟩
def PWR.QUIESCE_TIME.US : Fld := ⟨0x010004, 0, 16, 0x32⟩
def PWR.PMBUS_ERRORS.NACK : Fld := ⟨0x010008, 0, 16, 0⟩
def PWR.PMBUS_ERRORS.PEC : Fld := ⟨0x010008, 16, 16, 0⟩
def PWR.ACCESS_DOWN.COUNT : Fld := ⟨0x01000C, 0, 16, 0⟩
def PWR.ACCESS_DOWN.INITIATOR : Fld := ⟨0x01000C, 16, 5, 0⟩
def PWR.ACCESS_DOWN.DOMAIN : Fld := ⟨0x01000C, 24, 3, 0⟩
def PWR.D6_CHANNELS_OFF.CHANNELS : Fld := ⟨0x010010, 0, 8, 0⟩
def PWR.D_CFG.AUTO (d : Nat) : Fld := ⟨0x010100 + 0x80 * (d % 8), 0, 1, 0⟩
def PWR.D_CFG.AUTO_OFF (d : Nat) : Fld := ⟨0x010100 + 0x80 * (d % 8), 1, 1, 0⟩
def PWR.D_CFG.CONTEXT_SAVE (d : Nat) : Fld := ⟨0x010100 + 0x80 * (d % 8), 2, 1, 0⟩
def PWR.D_CFG.RUN_ENTRY (d : Nat) : Fld := ⟨0x010100 + 0x80 * (d % 8), 3, 1, 0⟩
def PWR.D_CFG.IDLE_TIME (d : Nat) : Fld := ⟨0x010100 + 0x80 * (d % 8), 8, 24, 0x2710⟩
def PWR.D_REQ.STATE (d : Nat) : Fld := ⟨0x010104 + 0x80 * (d % 8), 0, 2, 0⟩
def PWR.D_REQ.RAIL (d : Nat) : Fld := ⟨0x010104 + 0x80 * (d % 8), 2, 2, 0⟩
def PWR.D_STATUS.STATE (d : Nat) : Fld := ⟨0x010108 + 0x80 * (d % 8), 0, 3, 0⟩
def PWR.D_STATUS.RAIL (d : Nat) : Fld := ⟨0x010108 + 0x80 * (d % 8), 3, 2, 1⟩
def PWR.D_STATUS.BUSY (d : Nat) : Fld := ⟨0x010108 + 0x80 * (d % 8), 5, 1, 0⟩
def PWR.D_STATUS.PENDING (d : Nat) : Fld := ⟨0x010108 + 0x80 * (d % 8), 6, 1, 0⟩
def PWR.D_STATUS.SAVED (d : Nat) : Fld := ⟨0x010108 + 0x80 * (d % 8), 7, 1, 0⟩
def PWR.D_STATUS.STAGE (d : Nat) : Fld := ⟨0x010108 + 0x80 * (d % 8), 8, 3, 0⟩
def PWR.D_STATUS.FAILED_STAGE (d : Nat) : Fld := ⟨0x010108 + 0x80 * (d % 8), 11, 3, 0⟩
def PWR.D_STATUS.LAST_STATUS (d : Nat) : Fld := ⟨0x010108 + 0x80 * (d % 8), 16, 8, 0⟩
def PWR.D_STATUS.LAST_REASON (d : Nat) : Fld := ⟨0x010108 + 0x80 * (d % 8), 24, 4, 0⟩
def PWR.D_VOTE.VOTES (d : Nat) : Fld := ⟨0x01010C + 0x80 * (d % 8), 0, 22, 0⟩
def PWR.D_VOTE_SET.SET (d : Nat) : Fld := ⟨0x010110 + 0x80 * (d % 8), 0, 1, 0⟩
def PWR.D_VOTE_CLEAR.CLEAR (d : Nat) : Fld := ⟨0x010114 + 0x80 * (d % 8), 0, 1, 0⟩
def PWR.D_COUNTS.REFUSED (d : Nat) : Fld := ⟨0x010118 + 0x80 * (d % 8), 0, 16, 0⟩
def PWR.D_COUNTS.ABORTED (d : Nat) : Fld := ⟨0x010118 + 0x80 * (d % 8), 16, 16, 0⟩
def PWR.D_ENTRIES.ENTRIES (d : Nat) : Fld := ⟨0x01011C + 0x80 * (d % 8), 0, 16, 0⟩
def PWR.D_ENTRIES.WAKE_IN_ENTRY (d : Nat) : Fld := ⟨0x01011C + 0x80 * (d % 8), 16, 16, 0⟩
def PWR.D_LAST_REFUSER.ID (d : Nat) : Fld := ⟨0x010120 + 0x80 * (d % 8), 0, 5, 0⟩
def PWR.D_LAST_REFUSER.ABORT (d : Nat) : Fld := ⟨0x010120 + 0x80 * (d % 8), 8, 1, 0⟩
def PWR.D_LAST_REFUSER.VALID (d : Nat) : Fld := ⟨0x010120 + 0x80 * (d % 8), 9, 1, 0⟩
def PWR.D_CLEAR.ACCOUNTS (d : Nat) : Fld := ⟨0x010124 + 0x80 * (d % 8), 0, 1, 0⟩
def PWR.D_REFUSER.ID (d : Nat) (j : Nat) : Fld := ⟨0x010140 + 0x80 * (d % 8) + 0x4 * (j % 8), 0, 5, 0⟩
def PWR.D_REFUSER.VALID (d : Nat) (j : Nat) : Fld := ⟨0x010140 + 0x80 * (d % 8) + 0x4 * (j % 8), 15, 1, 0⟩
def PWR.D_REFUSER.COUNT (d : Nat) (j : Nat) : Fld := ⟨0x010140 + 0x80 * (d % 8) + 0x4 * (j % 8), 16, 16, 0⟩

/-! RST: spec/17_reset_selftest.md -/
def RST.SETUP_LOCK.CLOSED : Fld := ⟨0x020000, 0, 1, 0⟩
def RST.CAUSE.KIND : Fld := ⟨0x020004, 0, 3, 0⟩
def RST.CAUSE.SOURCE : Fld := ⟨0x020004, 4, 4, 0⟩
def RST.CMD.OP : Fld := ⟨0x020008, 0, 4, 0⟩
def RST.CMD.TARGET : Fld := ⟨0x020008, 4, 3, 0⟩
def RST.CMD.PRIV : Fld := ⟨0x020008, 12, 3, 0⟩
def RST.CMD.SESSION : Fld := ⟨0x020008, 16, 16, 0⟩
def RST.CMD_STATUS.PENDING : Fld := ⟨0x02000C, 0, 1, 0⟩
def RST.CMD_STATUS.STATUS : Fld := ⟨0x02000C, 8, 8, 0⟩
def RST.CMD_STATUS.REASON : Fld := ⟨0x02000C, 16, 4, 0⟩
def RST.WDT_CFG.ENABLE : Fld := ⟨0x020010, 0, 1, 0⟩
def RST.WDT_CFG.ACTION : Fld := ⟨0x020010, 1, 1, 0⟩
def RST.WDT_CFG.FEEDER : Fld := ⟨0x020010, 8, 5, 0⟩
def RST.WDT_TIMEOUT.MS : Fld := ⟨0x020014, 0, 16, 0x64⟩
def RST.WDT_KICK.KEY : Fld := ⟨0x020018, 0, 8, 0⟩
def RST.WDT_STATUS.REMAINING : Fld := ⟨0x02001C, 0, 16, 0⟩
def RST.WDT_STATUS.BAD_KICKS : Fld := ⟨0x02001C, 16, 16, 0⟩
def RST.COUNTS_A.POR : Fld := ⟨0x020020, 0, 16, 0⟩
def RST.COUNTS_A.MODULE : Fld := ⟨0x020020, 16, 16, 0⟩
def RST.COUNTS_B.WARM : Fld := ⟨0x020024, 0, 16, 0⟩
def RST.COUNTS_B.WDT : Fld := ⟨0x020024, 16, 16, 0⟩
def RST.START_STATUS.STAGE : Fld := ⟨0x020028, 0, 4, 1⟩
def RST.START_STATUS.DONE : Fld := ⟨0x020028, 4, 1, 0⟩
def RST.START_STATUS.PASSED : Fld := ⟨0x020028, 5, 1, 0⟩
def RST.START_LIMIT.SECONDS : Fld := ⟨0x02002C, 0, 16, 0x78⟩

/-! BST: spec/17_reset_selftest.md -/
def BST.SETUP_LOCK.CLOSED : Fld := ⟨0x030000, 0, 1, 0⟩
def BST.CMD.OP : Fld := ⟨0x030004, 0, 2, 0⟩
def BST.CMD.TARGET : Fld := ⟨0x030004, 8, 5, 0⟩
def BST.CMD_STATUS.BUSY : Fld := ⟨0x030008, 0, 1, 0⟩
def BST.CMD_STATUS.STATUS : Fld := ⟨0x030008, 8, 8, 0⟩
def BST.CMD_STATUS.REASON : Fld := ⟨0x030008, 16, 4, 0⟩
def BST.RESULT.TARGET : Fld := ⟨0x03000C, 0, 5, 0⟩
def BST.RESULT.PASS : Fld := ⟨0x03000C, 8, 1, 0⟩
def BST.RESULT.REPAIRED : Fld := ⟨0x03000C, 9, 1, 0⟩
def BST.FAIL_ADDR_LO.ADDR : Fld := ⟨0x030010, 0, 32, 0⟩
def BST.FAIL_ADDR_HI.ADDR : Fld := ⟨0x030014, 0, 8, 0⟩
def BST.SIG_LO.SIG : Fld := ⟨0x030018, 0, 32, 0⟩
def BST.SIG_HI.SIG : Fld := ⟨0x03001C, 0, 32, 0⟩
def BST.EXP_LO.EXP : Fld := ⟨0x030020, 0, 32, 0⟩
def BST.EXP_HI.EXP : Fld := ⟨0x030024, 0, 32, 0⟩
def BST.PASSED.TARGETS : Fld := ⟨0x030028, 0, 25, 0⟩
def BST.FAILED.TARGETS : Fld := ⟨0x03002C, 0, 25, 0⟩
def BST.REPAIRS.ROWS : Fld := ⟨0x030030, 0, 16, 0⟩
def BST.ROT_CFG.ENABLE : Fld := ⟨0x030034, 0, 1, 1⟩
def BST.ROT_CFG.INTERVAL : Fld := ⟨0x030034, 8, 8, 1⟩
def BST.ROT_LEAD.MASK : Fld := ⟨0x030038, 0, 32, 0x130807f⟩
def BST.ROT_TRAIL.MASK : Fld := ⟨0x03003C, 0, 32, 0x13ea07f⟩
def BST.ROT_ELEMENTS.COUNT : Fld := ⟨0x030040, 0, 24, 0x10000⟩
def BST.ROT_STATUS.ITEM : Fld := ⟨0x030044, 0, 5, 0⟩
def BST.ROT_STATUS.ACTIVE : Fld := ⟨0x030044, 8, 1, 0⟩
def BST.ROT_COUNTS.PASSES : Fld := ⟨0x030048, 0, 16, 0⟩
def BST.ROT_COUNTS.FAILS : Fld := ⟨0x030048, 16, 16, 0⟩
def BST.ROT_SKIPS.COUNT : Fld := ⟨0x03004C, 0, 16, 0⟩
def BST.ROT_SKIPS.LAST_CAUSE : Fld := ⟨0x03004C, 16, 4, 0⟩
def BST.SVC_RELEASE.CORES : Fld := ⟨0x030050, 0, 4, 0⟩
def BST.REPORT.DATA (w : Nat) : Fld := ⟨0x030100 + 0x4 * (w % 32), 0, 32, 0⟩

/-! PRT: spec/12_interconnect.md -/
def PRT.CTRL.ENFORCE : Fld := ⟨0x040000, 0, 1, 0⟩
def PRT.CMD.OP : Fld := ⟨0x040004, 0, 2, 0⟩
def PRT.CMD_MASK.INITIATORS : Fld := ⟨0x040008, 0, 22, 0x3fffff⟩
def PRT.CMD_STATUS.BUSY : Fld := ⟨0x04000C, 0, 1, 0⟩
def PRT.CMD_STATUS.STATUS : Fld := ⟨0x04000C, 8, 8, 0⟩
def PRT.CMD_STATUS.CAUSE : Fld := ⟨0x04000C, 16, 4, 0⟩
def PRT.RULE_EPOCH.L0 : Fld := ⟨0x040010, 0, 16, 0⟩
def PRT.RULE_EPOCH.L1 : Fld := ⟨0x040010, 16, 16, 0⟩
def PRT.DRAIN.TICKS : Fld := ⟨0x040014, 0, 24, 0⟩
def PRT.HOLD.TICKS : Fld := ⟨0x040018, 0, 12, 0⟩
def PRT.OVERLAP.REGION_A : Fld := ⟨0x04001C, 0, 6, 0⟩
def PRT.OVERLAP.REGION_B : Fld := ⟨0x04001C, 8, 6, 0⟩
def PRT.FAULT_INFO.INITIATOR : Fld := ⟨0x040020, 0, 5, 0⟩
def PRT.FAULT_INFO.LEVEL : Fld := ⟨0x040020, 5, 1, 0⟩
def PRT.FAULT_INFO.KIND : Fld := ⟨0x040020, 6, 2, 0⟩
def PRT.FAULT_INFO.AS_OWNER : Fld := ⟨0x040020, 8, 1, 0⟩
def PRT.FAULT_ADDR_LO.ADDR : Fld := ⟨0x040024, 0, 32, 0⟩
def PRT.FAULT_ADDR_HI.ADDR : Fld := ⟨0x040028, 0, 8, 0⟩
def PRT.FAULT_COUNT.COUNT : Fld := ⟨0x04002C, 0, 32, 0⟩
def PRT.REGION_BASE_LO.ADDR (r : Nat) : Fld := ⟨0x040800 + 0x20 * (r % 48), 12, 20, 0⟩
def PRT.REGION_BASE_HI.ADDR (r : Nat) : Fld := ⟨0x040804 + 0x20 * (r % 48), 0, 8, 0⟩
def PRT.REGION_BASE_HI.ENABLE (r : Nat) : Fld := ⟨0x040804 + 0x20 * (r % 48), 31, 1, 0⟩
def PRT.REGION_LIMIT_LO.ADDR (r : Nat) : Fld := ⟨0x040808 + 0x20 * (r % 48), 12, 20, 0⟩
def PRT.REGION_LIMIT_HI.ADDR (r : Nat) : Fld := ⟨0x04080C + 0x20 * (r % 48), 0, 8, 0⟩
def PRT.REGION_READ.MASK (r : Nat) : Fld := ⟨0x040810 + 0x20 * (r % 48), 0, 32, 0⟩
def PRT.REGION_WRITE.MASK (r : Nat) : Fld := ⟨0x040814 + 0x20 * (r % 48), 0, 32, 0⟩
def PRT.BLOCK_READ.MASK (n : Nat) : Fld := ⟨0x041000 + 0x8 * (n % 256), 0, 32, 0⟩
def PRT.BLOCK_WRITE.MASK (n : Nat) : Fld := ⟨0x041004 + 0x8 * (n % 256), 0, 32, 0⟩
def PRT.INIT_DEFAULT.PERM (i : Nat) : Fld := ⟨0x042000 + 0x4 * (i % 22), 0, 3, 0⟩
def PRT.INIT_RULE_BASE_LO.ADDR (i : Nat) (r : Nat) : Fld := ⟨0x044000 + 0x100 * (i % 22) + 0x10 * (r % 16), 6, 26, 0⟩
def PRT.INIT_RULE_BASE_HI.ADDR (i : Nat) (r : Nat) : Fld := ⟨0x044004 + 0x100 * (i % 22) + 0x10 * (r % 16), 0, 8, 0⟩
def PRT.INIT_RULE_BASE_HI.PERM (i : Nat) (r : Nat) : Fld := ⟨0x044004 + 0x100 * (i % 22) + 0x10 * (r % 16), 8, 3, 0⟩
def PRT.INIT_RULE_BASE_HI.ENABLE (i : Nat) (r : Nat) : Fld := ⟨0x044004 + 0x100 * (i % 22) + 0x10 * (r % 16), 31, 1, 0⟩
def PRT.INIT_RULE_LIMIT_LO.ADDR (i : Nat) (r : Nat) : Fld := ⟨0x044008 + 0x100 * (i % 22) + 0x10 * (r % 16), 6, 26, 0⟩
def PRT.INIT_RULE_LIMIT_HI.ADDR (i : Nat) (r : Nat) : Fld := ⟨0x04400C + 0x100 * (i % 22) + 0x10 * (r % 16), 0, 8, 0⟩

/-! ARB: spec/12_interconnect.md -/
def ARB.SETUP_LOCK.CLOSED : Fld := ⟨0x050000, 0, 1, 0⟩
def ARB.WINDOW.TICKS : Fld := ⟨0x050004, 0, 24, 0x9c4⟩
def ARB.REVOKE.ENABLE : Fld := ⟨0x050008, 0, 1, 1⟩
def ARB.CLASS_DEADLINE.TICKS (k : Nat) : Fld := ⟨0x050080 + 0x4 * (k % 8), 0, 24, 16 * 2 ^ (k % 8)⟩
def ARB.INIT_DEADLINE.TICKS (i : Nat) : Fld := ⟨0x050100 + 0x4 * (i % 22), 0, 24, initDeadlineReset (i % 22)⟩
def ARB.INIT_QUOTA.GRANTS (i : Nat) : Fld := ⟨0x050180 + 0x4 * (i % 22), 0, 16, 0⟩
def ARB.TARGET_LATE.COUNT (t : Nat) : Fld := ⟨0x050200 + 0x10 * (t % 10), 0, 32, 0⟩
def ARB.TARGET_REVOKES.COUNT (t : Nat) : Fld := ⟨0x050204 + 0x10 * (t % 10), 0, 32, 0⟩
def ARB.TARGET_MASKED.COUNT (t : Nat) : Fld := ⟨0x050208 + 0x10 * (t % 10), 0, 32, 0⟩
def ARB.TARGET_PEAK_WAIT.TICKS (t : Nat) : Fld := ⟨0x05020C + 0x10 * (t % 10), 0, 16, 0⟩
def ARB.TARGET_PEAK_WAIT.CLEAR (t : Nat) : Fld := ⟨0x05020C + 0x10 * (t % 10), 31, 1, 0⟩

/-! LCK: spec/12_interconnect.md -/
def LCK.REQUEST.LOCK : Fld := ⟨0x060004, 0, 6, 0⟩
def LCK.REQUEST.OP : Fld := ⟨0x060004, 8, 2, 0⟩
def LCK.RESULT.STATUS : Fld := ⟨0x060008, 0, 8, 0⟩
def LCK.RESULT.REASON : Fld := ⟨0x060008, 8, 4, 0⟩
def LCK.RESULT.LOCK : Fld := ⟨0x060008, 16, 6, 0⟩
def LCK.RESULT.WAITING : Fld := ⟨0x060008, 24, 1, 0⟩
def LCK.BREAK.LOCK : Fld := ⟨0x06000C, 0, 6, 0⟩
def LCK.BREAK.GO : Fld := ⟨0x06000C, 31, 1, 0⟩
def LCK.COUNTS.DEADLOCKS : Fld := ⟨0x060010, 0, 12, 0⟩
def LCK.COUNTS.BROKEN : Fld := ⟨0x060010, 12, 12, 0⟩
def LCK.COUNTS.FOREIGN : Fld := ⟨0x060010, 24, 8, 0⟩
def LCK.WAIT.LOCK (i : Nat) : Fld := ⟨0x060020 + 0x4 * (i % 8), 0, 6, 0⟩
def LCK.WAIT.VALID (i : Nat) : Fld := ⟨0x060020 + 0x4 * (i % 8), 8, 1, 0⟩
def LCK.LOCK_STATUS.OWNER (l : Nat) : Fld := ⟨0x060100 + 0x4 * (l % 64), 0, 3, 0⟩
def LCK.LOCK_STATUS.HELD (l : Nat) : Fld := ⟨0x060100 + 0x4 * (l % 64), 3, 1, 0⟩
def LCK.LOCK_STATUS.BROKEN (l : Nat) : Fld := ⟨0x060100 + 0x4 * (l % 64), 4, 1, 0⟩
def LCK.LOCK_STATUS.HOLD_EXCEEDED (l : Nat) : Fld := ⟨0x060100 + 0x4 * (l % 64), 5, 1, 0⟩
def LCK.LOCK_STATUS.WAITERS (l : Nat) : Fld := ⟨0x060100 + 0x4 * (l % 64), 8, 8, 0⟩
def LCK.LOCK_HOLD_LIMIT.US (l : Nat) : Fld := ⟨0x060200 + 0x4 * (l % 64), 0, 24, 0⟩

/-! RNG: spec/03_rings_doorbells.md -/
def RNG.SETUP_LOCK.CLOSED : Fld := ⟨0x070000, 0, 1, 0⟩
def RNG.TAGS.IN_FLIGHT : Fld := ⟨0x070008, 0, 8, 0⟩
def RNG.TAGS.PEAK : Fld := ⟨0x070008, 8, 8, 0⟩
def RNG.TAGS.CLEAR_PEAK : Fld := ⟨0x070008, 31, 1, 0⟩
def RNG.URGENT.RESERVED_TAGS : Fld := ⟨0x07000C, 0, 6, 0x10⟩
def RNG.URGENT_WINDOW.TICKS : Fld := ⟨0x070010, 0, 24, 0x9c4⟩
def RNG.DB_IGNORED.COUNT : Fld := ⟨0x070014, 0, 16, 0⟩
def RNG.DB_IGNORED.LAST_RING : Fld := ⟨0x070014, 16, 6, 0⟩
def RNG.DB_IGNORED.LAST_CAUSE : Fld := ⟨0x070014, 22, 2, 0⟩
def RNG.DB_IGNORED.CLEAR : Fld := ⟨0x070014, 31, 1, 0⟩
def RNG.RING_DESC_BASE_LO.ADDR (n : Nat) : Fld := ⟨0x071000 + 0x40 * (n % 64), 5, 27, 0⟩
def RNG.RING_DESC_BASE_HI.ADDR (n : Nat) : Fld := ⟨0x071004 + 0x40 * (n % 64), 0, 8, 0⟩
def RNG.RING_DESC_BASE_HI.ENTRIES_LOG2 (n : Nat) : Fld := ⟨0x071004 + 0x40 * (n % 64), 8, 4, 0⟩
def RNG.RING_COMP_BASE_LO.ADDR (n : Nat) : Fld := ⟨0x071008 + 0x40 * (n % 64), 4, 28, 0⟩
def RNG.RING_COMP_BASE_HI.ADDR (n : Nat) : Fld := ⟨0x07100C + 0x40 * (n % 64), 0, 8, 0⟩
def RNG.RING_DOORBELL_LO.ADDR (n : Nat) : Fld := ⟨0x071010 + 0x40 * (n % 64), 2, 30, 0⟩
def RNG.RING_DOORBELL_HI.ADDR (n : Nat) : Fld := ⟨0x071014 + 0x40 * (n % 64), 0, 8, 0⟩
def RNG.RING_CFG.OWNER (n : Nat) : Fld := ⟨0x071018 + 0x40 * (n % 64), 0, 5, 0⟩
def RNG.RING_CFG.ENGINE (n : Nat) : Fld := ⟨0x071018 + 0x40 * (n % 64), 8, 4, 0⟩
def RNG.RING_CFG.NOTIFY_SRC (n : Nat) : Fld := ⟨0x071018 + 0x40 * (n % 64), 12, 4, 0xf⟩
def RNG.RING_CFG.CRIT_ONLY (n : Nat) : Fld := ⟨0x071018 + 0x40 * (n % 64), 16, 1, 0⟩
def RNG.RING_CFG.CONTINUE_ON_FAULT (n : Nat) : Fld := ⟨0x071018 + 0x40 * (n % 64), 17, 1, 0⟩
def RNG.RING_CFG.MAX_INFLIGHT (n : Nat) : Fld := ⟨0x071018 + 0x40 * (n % 64), 24, 8, 0x10⟩
def RNG.RING_DEADLINE.DEFAULT (n : Nat) : Fld := ⟨0x07101C + 0x40 * (n % 64), 0, 24, 0x61a8⟩
def RNG.RING_CTRL.ENABLE (n : Nat) : Fld := ⟨0x071020 + 0x40 * (n % 64), 0, 1, 0⟩
def RNG.RING_CTRL.STOP (n : Nat) : Fld := ⟨0x071020 + 0x40 * (n % 64), 1, 1, 0⟩
def RNG.RING_CTRL.ABORT (n : Nat) : Fld := ⟨0x071020 + 0x40 * (n % 64), 2, 1, 0⟩
def RNG.RING_CTRL.RESUME (n : Nat) : Fld := ⟨0x071020 + 0x40 * (n % 64), 3, 1, 0⟩
def RNG.RING_STATUS.STATE (n : Nat) : Fld := ⟨0x071024 + 0x40 * (n % 64), 0, 3, 0⟩
def RNG.RING_STATUS.CFG_ERR (n : Nat) : Fld := ⟨0x071024 + 0x40 * (n % 64), 3, 1, 0⟩
def RNG.RING_STATUS.CFG_CAUSE (n : Nat) : Fld := ⟨0x071024 + 0x40 * (n % 64), 4, 4, 0⟩
def RNG.RING_STATUS.TAGS_HELD (n : Nat) : Fld := ⟨0x071024 + 0x40 * (n % 64), 8, 8, 0⟩
def RNG.RING_INDEX.CONS (n : Nat) : Fld := ⟨0x071028 + 0x40 * (n % 64), 0, 16, 0⟩
def RNG.RING_INDEX.PROD (n : Nat) : Fld := ⟨0x071028 + 0x40 * (n % 64), 16, 16, 0⟩
def RNG.RING_FAULT.REASON (n : Nat) : Fld := ⟨0x07102C + 0x40 * (n % 64), 0, 4, 0⟩
def RNG.RING_FAULT.STATUS (n : Nat) : Fld := ⟨0x07102C + 0x40 * (n % 64), 8, 8, 0⟩
def RNG.RING_FAULT.INDEX (n : Nat) : Fld := ⟨0x07102C + 0x40 * (n % 64), 16, 16, 0⟩

/-! EVT: spec/03_rings_doorbells.md -/
def EVT.ROUTE.TARGETS (s : Nat) : Fld := ⟨0x081000 + 0x4 * (s % 256), 0, 9, 0⟩
def EVT.ERING_BASE_LO.ADDR (n : Nat) : Fld := ⟨0x083000 + 0x20 * (n % 4), 4, 28, 0⟩
def EVT.ERING_BASE_HI.ADDR (n : Nat) : Fld := ⟨0x083004 + 0x20 * (n % 4), 0, 8, 0⟩
def EVT.ERING_BASE_HI.ENTRIES_LOG2 (n : Nat) : Fld := ⟨0x083004 + 0x20 * (n % 4), 8, 4, 4⟩
def EVT.ERING_BASE_HI.ENABLE (n : Nat) : Fld := ⟨0x083004 + 0x20 * (n % 4), 31, 1, 0⟩
def EVT.ERING_HEAD_LO.ADDR (n : Nat) : Fld := ⟨0x083008 + 0x20 * (n % 4), 2, 30, 0⟩
def EVT.ERING_HEAD_HI.ADDR (n : Nat) : Fld := ⟨0x08300C + 0x20 * (n % 4), 0, 8, 0⟩
def EVT.ERING_STATUS.WRITE_INDEX (n : Nat) : Fld := ⟨0x083010 + 0x20 * (n % 4), 0, 16, 0⟩
def EVT.ERING_STATUS.OVERFLOW (n : Nat) : Fld := ⟨0x083010 + 0x20 * (n % 4), 16, 1, 0⟩
def EVT.ERING_LOST.LOST_TOTAL (n : Nat) : Fld := ⟨0x083014 + 0x20 * (n % 4), 0, 32, 0⟩
def EVT.RAISE.SOURCE : Fld := ⟨0x080010, 0, 8, 0⟩
def EVT.PEND.BITS (t : Nat) (w : Nat) : Fld := ⟨0x082000 + 0x20 * (t % 5) + 0x4 * (w % 8), 0, 32, 0⟩

/-! VOT: spec/04_voted_complex.md -/
def VOT.SETUP_LOCK.CLOSED : Fld := ⟨0x090000, 0, 1, 0⟩
def VOT.STATUS.MODE : Fld := ⟨0x090004, 0, 2, 0⟩
def VOT.STATUS.OUT_CORE : Fld := ⟨0x090004, 2, 2, 3⟩
def VOT.STATUS.VOTE2_REASON : Fld := ⟨0x090004, 4, 3, 0⟩
def VOT.STATUS.FAILSTOP : Fld := ⟨0x090004, 8, 1, 0⟩
def VOT.STATUS.REJOIN_ACTIVE : Fld := ⟨0x090004, 9, 1, 0⟩
def VOT.STATUS.LEAD_BARRED : Fld := ⟨0x090004, 10, 1, 0⟩
def VOT.STATUS.DEBUG_SEEN : Fld := ⟨0x090004, 11, 1, 0⟩
def VOT.CMD.OP : Fld := ⟨0x090008, 0, 4, 0⟩
def VOT.CMD.CORE : Fld := ⟨0x090008, 4, 2, 0⟩
def VOT.CMD_STATUS.PENDING : Fld := ⟨0x09000C, 0, 1, 0⟩
def VOT.CMD_STATUS.STATUS : Fld := ⟨0x09000C, 8, 8, 0⟩
def VOT.DRAM_WINDOW.BASE : Fld := ⟨0x090010, 0, 3, 0⟩
def VOT.KEAFY_CTRL.U_TICK : Fld := ⟨0x090014, 0, 1, 0⟩
def VOT.LATENT_LIMIT.LIMIT : Fld := ⟨0x090018, 0, 4, 4⟩
def VOT.DEBUG_CTRL.ALLOW : Fld := ⟨0x09001C, 0, 1, 0⟩
def VOT.DEBUG_CTRL.ALLOW_LEAD : Fld := ⟨0x09001C, 1, 1, 0⟩
def VOT.DEBUG_CTRL.REF : Fld := ⟨0x09001C, 2, 2, 0⟩
def VOT.CMP_TEST.DONE : Fld := ⟨0x090020, 0, 1, 0⟩
def VOT.CMP_TEST.FAIL : Fld := ⟨0x090020, 1, 1, 0⟩
def VOT.CMP_TEST.DETECTED : Fld := ⟨0x090020, 2, 4, 0⟩
def VOT.MINORITY.EGRESS (c : Nat) : Fld := ⟨0x090030 + 0x4 * (c % 3), 0, 16, 0⟩
def VOT.MINORITY.LATENT (c : Nat) : Fld := ⟨0x090030 + 0x4 * (c % 3), 16, 8, 0⟩
def VOT.MINORITY.LATENT_HOUR (c : Nat) : Fld := ⟨0x090030 + 0x4 * (c % 3), 24, 4, 0⟩
def VOT.LAST_EVENT.CORE : Fld := ⟨0x090040, 0, 2, 0⟩
def VOT.LAST_EVENT.KIND : Fld := ⟨0x090040, 2, 3, 0⟩
def VOT.LAST_EVENT_TIME.TICK : Fld := ⟨0x090044, 0, 32, 0⟩
def VOT.LAST_EVENT_ADDR.ADDR : Fld := ⟨0x090048, 0, 32, 0⟩

/-! CYC: spec/05_cyclic_execution.md -/
def CYC.SETUP_LOCK.CLOSED : Fld := ⟨0x0A0000, 0, 1, 0⟩
def CYC.BASE.N : Fld := ⟨0x0A0004, 0, 8, 4⟩
def CYC.CYCLE_LO.NUMBER : Fld := ⟨0x0A0008, 0, 32, 0⟩
def CYC.CYCLE_HI.NUMBER : Fld := ⟨0x0A000C, 0, 32, 0⟩
def CYC.PROGRAM_GEN.GEN : Fld := ⟨0x0A0010, 0, 32, 0⟩
def CYC.CROSS_BUDGET.TICKS : Fld := ⟨0x0A0014, 0, 16, 0x1f4⟩
def CYC.CROSS_MAX_DEFER.CYCLES : Fld := ⟨0x0A0018, 0, 16, 0x400⟩
def CYC.FERRY_STATUS.STATE : Fld := ⟨0x0A001C, 0, 2, 0⟩
def CYC.FERRY_STATUS.LAST_BLOCK : Fld := ⟨0x0A001C, 8, 3, 0⟩
def CYC.FERRY_STATUS.DEFERRALS : Fld := ⟨0x0A001C, 16, 16, 0⟩
def CYC.FERRY_DIRTY.DIRTY : Fld := ⟨0x0A0020, 0, 18, 0⟩
def CYC.FORCE_STATUS.ENTRIES : Fld := ⟨0x0A0024, 0, 13, 0⟩
def CYC.TASK_DEBUG_LO.ENABLE : Fld := ⟨0x0A0028, 0, 32, 0⟩
def CYC.TASK_DEBUG_HI.ENABLE : Fld := ⟨0x0A002C, 0, 32, 0⟩
def CYC.TASK_HOLD_LO.HOLD : Fld := ⟨0x0A0030, 0, 32, 0⟩
def CYC.TASK_HOLD_HI.HOLD : Fld := ⟨0x0A0034, 0, 32, 0⟩
def CYC.CLASS_CFG.ENABLE (k : Nat) : Fld := ⟨0x0A0100 + 0x20 * (k % 8), 0, 1, 0⟩
def CYC.CLASS_CFG.EXP (k : Nat) : Fld := ⟨0x0A0100 + 0x20 * (k % 8), 4, 4, 0⟩
def CYC.CLASS_CFG.OVERRUN_ACTION (k : Nat) : Fld := ⟨0x0A0100 + 0x20 * (k % 8), 8, 1, 0⟩
def CYC.CLASS_CFG.OVERRUN_LIMIT (k : Nat) : Fld := ⟨0x0A0100 + 0x20 * (k % 8), 12, 4, 3⟩
def CYC.CLASS_STATUS.PHASE (k : Nat) : Fld := ⟨0x0A0104 + 0x20 * (k % 8), 0, 3, 0⟩
def CYC.CLASS_STATUS.CONSEC (k : Nat) : Fld := ⟨0x0A0104 + 0x20 * (k % 8), 8, 8, 0⟩
def CYC.CLASS_OVERRUNS.COUNT (k : Nat) : Fld := ⟨0x0A0108 + 0x20 * (k % 8), 0, 32, 0⟩
def CYC.CLASS_EXEC_MAX.TICKS (k : Nat) : Fld := ⟨0x0A010C + 0x20 * (k % 8), 0, 31, 0⟩
def CYC.CLASS_EXEC_MAX.CLEAR (k : Nat) : Fld := ⟨0x0A010C + 0x20 * (k % 8), 31, 1, 0⟩
def CYC.CLASS_EXEC_LAST.TICKS (k : Nat) : Fld := ⟨0x0A0110 + 0x20 * (k % 8), 0, 31, 0⟩
def CYC.OUT_OWNER.OWNER (w : Nat) (j : Nat) : Fld := ⟨0x0A1000 + 0x4 * (w % 128), 4 * (j % 8), 4, 0xf⟩

/-! FLD: spec/06_crossings.md -/
def FLD.SETUP_LOCK.CLOSED : Fld := ⟨0x0B0000, 0, 1, 0⟩
def FLD.ETHERTYPE.VALUE : Fld := ⟨0x0B0004, 0, 16, 0x88b5⟩
def FLD.STATION_TABLE_LO.ADDR : Fld := ⟨0x0B0008, 5, 27, 0⟩
def FLD.STATION_TABLE_HI.ADDR : Fld := ⟨0x0B000C, 0, 8, 0⟩
def FLD.MGMT_TIMEOUT.TICKS : Fld := ⟨0x0B0010, 0, 24, 0x30d40⟩
def FLD.CROSS_CFG.ENABLE (c : Nat) : Fld := ⟨0x0B0100 + 0x40 * (c % 4), 0, 1, 0⟩
def FLD.CROSS_CFG.RATE_MODE (c : Nat) : Fld := ⟨0x0B0100 + 0x40 * (c % 4), 1, 2, 0⟩
def FLD.CROSS_CFG.CFG_CAUSE (c : Nat) : Fld := ⟨0x0B0100 + 0x40 * (c % 4), 4, 4, 0⟩
def FLD.CROSS_CFG.POSITIONS (c : Nat) : Fld := ⟨0x0B0100 + 0x40 * (c % 4), 16, 10, 0⟩
def FLD.CROSS_STATUS.LINK (c : Nat) : Fld := ⟨0x0B0104 + 0x40 * (c % 4), 0, 1, 0⟩
def FLD.CROSS_STATUS.RATE (c : Nat) : Fld := ⟨0x0B0104 + 0x40 * (c % 4), 1, 1, 0⟩
def FLD.CROSS_STATUS.BREAK (c : Nat) : Fld := ⟨0x0B0104 + 0x40 * (c % 4), 2, 1, 0⟩
def FLD.CROSS_STATUS.RELAY (c : Nat) : Fld := ⟨0x0B0104 + 0x40 * (c % 4), 3, 1, 0⟩
def FLD.CROSS_STATUS.BREAK_SEGMENT (c : Nat) : Fld := ⟨0x0B0104 + 0x40 * (c % 4), 4, 10, 0⟩
def FLD.CROSS_STATUS.ADMITTED (c : Nat) : Fld := ⟨0x0B0104 + 0x40 * (c % 4), 16, 10, 0⟩
def FLD.CROSS_FCS_ERRORS.COUNT (c : Nat) : Fld := ⟨0x0B0108 + 0x40 * (c % 4), 0, 32, 0⟩
def FLD.CROSS_PAIR_ERRORS.COUNT (c : Nat) : Fld := ⟨0x0B010C + 0x40 * (c % 4), 0, 32, 0⟩
def FLD.CROSS_DISCARDS.COUNT (c : Nat) : Fld := ⟨0x0B0110 + 0x40 * (c % 4), 0, 32, 0⟩
def FLD.CROSS_STALE_COUNT.COUNT (c : Nat) : Fld := ⟨0x0B0114 + 0x40 * (c % 4), 0, 32, 0⟩
def FLD.CROSS_HIGH_EPOCH.EPOCH (c : Nat) : Fld := ⟨0x0B0118 + 0x40 * (c % 4), 0, 32, 0⟩
def FLD.CROSS_DOWN_SEQ.SEQUENCE (c : Nat) : Fld := ⟨0x0B011C + 0x40 * (c % 4), 0, 32, 0⟩

/-! PIM: spec/06_crossings.md -/
def PIM.SETUP_LOCK.CLOSED : Fld := ⟨0x0C0000, 0, 1, 0⟩
def PIM.OUTPUT_PAIR_FAULTS.COUNT : Fld := ⟨0x0C0008, 0, 32, 0⟩
def PIM.VERSION_ECC.COUNT : Fld := ⟨0x0C000C, 0, 32, 0⟩
def PIM.VALID.VALID (w : Nat) : Fld := ⟨0x0C0100 + 0x4 * (w % 64), 0, 32, 0⟩

/-! FIO: spec/07_fast_io_spur.md -/
def FIO.SETUP_LOCK.CLOSED : Fld := ⟨0x0D0000, 0, 1, 0⟩
def FIO.CTRL.ENABLE : Fld := ⟨0x0D0004, 0, 1, 0⟩
def FIO.CTRL.CFG_ERR : Fld := ⟨0x0D0004, 1, 1, 0⟩
def FIO.CTRL.CFG_CAUSE : Fld := ⟨0x0D0004, 4, 4, 0⟩
def FIO.IMAGE.IN_BASE : Fld := ⟨0x0D0008, 0, 16, 0⟩
def FIO.IMAGE.OUT_BASE : Fld := ⟨0x0D0008, 16, 16, 0⟩
def FIO.WB_TIME.MS : Fld := ⟨0x0D000C, 0, 16, 0xa⟩
def FIO.GROUP_CFG.RESUME (g : Nat) : Fld := ⟨0x0D0040 + 0x10 * (g % 4), 0, 1, 0⟩
def FIO.GROUP_CFG.AUTO_RETRY (g : Nat) : Fld := ⟨0x0D0040 + 0x10 * (g % 4), 1, 1, 0⟩
def FIO.GROUP_STATUS.STATE (g : Nat) : Fld := ⟨0x0D0044 + 0x10 * (g % 4), 0, 2, 2⟩
def FIO.GROUP_STATUS.RECOVERING (g : Nat) : Fld := ⟨0x0D0044 + 0x10 * (g % 4), 2, 1, 1⟩
def FIO.GROUP_STATUS.AWAIT_ACK (g : Nat) : Fld := ⟨0x0D0044 + 0x10 * (g % 4), 3, 1, 0⟩
def FIO.GROUP_STATUS.VOLTAGE (g : Nat) : Fld := ⟨0x0D0044 + 0x10 * (g % 4), 16, 16, 0⟩
def FIO.GROUP_ACK.ACK (g : Nat) : Fld := ⟨0x0D0048 + 0x10 * (g % 4), 0, 1, 0⟩
def FIO.GROUP_COUNTS.UNDER (g : Nat) : Fld := ⟨0x0D004C + 0x10 * (g % 4), 0, 16, 0⟩
def FIO.GROUP_COUNTS.LOST (g : Nat) : Fld := ⟨0x0D004C + 0x10 * (g % 4), 16, 16, 0⟩
def FIO.CH_CFG.DIR (n : Nat) : Fld := ⟨0x0D0100 + 0x10 * (n % 32), 0, 2, 0⟩
def FIO.CH_CFG.TYPE (n : Nat) : Fld := ⟨0x0D0100 + 0x10 * (n % 32), 2, 1, 0⟩
def FIO.CH_CFG.FILTER_KIND (n : Nat) : Fld := ⟨0x0D0100 + 0x10 * (n % 32), 3, 1, 0⟩
def FIO.CH_CFG.WB_ENABLE (n : Nat) : Fld := ⟨0x0D0100 + 0x10 * (n % 32), 4, 1, 0⟩
def FIO.CH_CFG.OUT_SOURCE (n : Nat) : Fld := ⟨0x0D0100 + 0x10 * (n % 32), 5, 1, 0⟩
def FIO.CH_CFG.STOP_VALUE (n : Nat) : Fld := ⟨0x0D0100 + 0x10 * (n % 32), 6, 2, 0⟩
def FIO.CH_CFG.INT_SHIFT (n : Nat) : Fld := ⟨0x0D0100 + 0x10 * (n % 32), 12, 4, 0⟩
def FIO.CH_CFG.INT_LIMIT (n : Nat) : Fld := ⟨0x0D0100 + 0x10 * (n % 32), 16, 8, 0xc8⟩
def FIO.CH_DEBOUNCE.US (n : Nat) : Fld := ⟨0x0D0104 + 0x10 * (n % 32), 0, 16, 0x3e8⟩
def FIO.CH_STATUS.STATE (n : Nat) : Fld := ⟨0x0D0108 + 0x10 * (n % 32), 0, 1, 0⟩
def FIO.CH_STATUS.RAW (n : Nat) : Fld := ⟨0x0D0108 + 0x10 * (n % 32), 1, 1, 0⟩
def FIO.CH_STATUS.READBACK (n : Nat) : Fld := ⟨0x0D0108 + 0x10 * (n % 32), 2, 2, 0⟩
def FIO.CH_STATUS.VALID (n : Nat) : Fld := ⟨0x0D0108 + 0x10 * (n % 32), 4, 1, 0⟩
def FIO.CH_STATUS.WIRE_BREAK (n : Nat) : Fld := ⟨0x0D0108 + 0x10 * (n % 32), 5, 1, 0⟩
def FIO.CH_STATUS.LATCHED_OFF (n : Nat) : Fld := ⟨0x0D0108 + 0x10 * (n % 32), 6, 1, 0⟩
def FIO.CH_STATUS.DIAG (n : Nat) : Fld := ⟨0x0D0108 + 0x10 * (n % 32), 8, 3, 0⟩
def FIO.CH_STATUS.PARTNER (n : Nat) : Fld := ⟨0x0D0108 + 0x10 * (n % 32), 16, 5, 0⟩
def FIO.CH_CLEAR.CLEAR (n : Nat) : Fld := ⟨0x0D010C + 0x10 * (n % 32), 0, 1, 0⟩
def FIO.CNT_CFG.MODE (c : Nat) : Fld := ⟨0x0D0300 + 0x20 * (c % 4), 0, 2, 0⟩
def FIO.CNT_CFG.INVERT_DIR (c : Nat) : Fld := ⟨0x0D0300 + 0x20 * (c % 4), 2, 1, 0⟩
def FIO.CNT_CFG.INDEX_ENABLE (c : Nat) : Fld := ⟨0x0D0300 + 0x20 * (c % 4), 3, 1, 0⟩
def FIO.CNT_CFG.INDEX_RESET (c : Nat) : Fld := ⟨0x0D0300 + 0x20 * (c % 4), 4, 1, 0⟩
def FIO.CNT_CFG.INDEX_EDGE (c : Nat) : Fld := ⟨0x0D0300 + 0x20 * (c % 4), 5, 1, 0⟩
def FIO.CNT_CFG.GLITCH (c : Nat) : Fld := ⟨0x0D0300 + 0x20 * (c % 4), 8, 6, 0x14⟩
def FIO.CNT_VALUE.VALUE (c : Nat) : Fld := ⟨0x0D0304 + 0x20 * (c % 4), 0, 32, 0⟩
def FIO.CNT_LOAD.VALUE (c : Nat) : Fld := ⟨0x0D0308 + 0x20 * (c % 4), 0, 32, 0⟩
def FIO.CNT_INDEX_LATCH.VALUE (c : Nat) : Fld := ⟨0x0D030C + 0x20 * (c % 4), 0, 32, 0⟩
def FIO.CNT_STATUS.QUAD_ERRORS (c : Nat) : Fld := ⟨0x0D0310 + 0x20 * (c % 4), 0, 16, 0⟩
def FIO.CNT_STATUS.INDEX_SEEN (c : Nat) : Fld := ⟨0x0D0310 + 0x20 * (c % 4), 16, 1, 0⟩
def FIO.CNT_STATUS.HELD (c : Nat) : Fld := ⟨0x0D0310 + 0x20 * (c % 4), 17, 1, 0⟩
def FIO.PRB_CFG.CHANNEL (p : Nat) : Fld := ⟨0x0D0400 + 0x20 * (p % 16), 0, 5, 0⟩
def FIO.PRB_CFG.EDGE (p : Nat) : Fld := ⟨0x0D0400 + 0x20 * (p % 16), 5, 2, 0⟩
def FIO.PRB_CFG.SOURCE (p : Nat) : Fld := ⟨0x0D0400 + 0x20 * (p % 16), 7, 1, 0⟩
def FIO.PRB_CFG.QUANTITY (p : Nat) : Fld := ⟨0x0D0400 + 0x20 * (p % 16), 8, 3, 0⟩
def FIO.PRB_CFG.CONTINUOUS (p : Nat) : Fld := ⟨0x0D0400 + 0x20 * (p % 16), 11, 1, 0⟩
def FIO.PRB_CFG.ARM_SRC (p : Nat) : Fld := ⟨0x0D0400 + 0x20 * (p % 16), 12, 1, 0⟩
def FIO.PRB_CTRL.ARM (p : Nat) : Fld := ⟨0x0D0404 + 0x20 * (p % 16), 0, 1, 0⟩
def FIO.PRB_CTRL.DISARM (p : Nat) : Fld := ⟨0x0D0404 + 0x20 * (p % 16), 1, 1, 0⟩
def FIO.PRB_VALUE_LO.VALUE (p : Nat) : Fld := ⟨0x0D0408 + 0x20 * (p % 16), 0, 32, 0⟩
def FIO.PRB_VALUE_HI.VALUE (p : Nat) : Fld := ⟨0x0D040C + 0x20 * (p % 16), 0, 32, 0⟩
def FIO.PRB_STATUS.ARMED (p : Nat) : Fld := ⟨0x0D0410 + 0x20 * (p % 16), 0, 1, 0⟩
def FIO.PRB_STATUS.LATCHED (p : Nat) : Fld := ⟨0x0D0410 + 0x20 * (p % 16), 1, 1, 0⟩
def FIO.PRB_STATUS.OVERWRITES (p : Nat) : Fld := ⟨0x0D0410 + 0x20 * (p % 16), 8, 8, 0⟩

/-! SPR: spec/07_fast_io_spur.md -/
def SPR.SETUP_LOCK.CLOSED : Fld := ⟨0x0E0000, 0, 1, 0⟩
def SPR.UNIT_TRIG.KIND (u : Nat) : Fld := ⟨0x0E0100 + 0x40 * (u % 16), 0, 4, 0⟩
def SPR.UNIT_TRIG.CHANNEL (u : Nat) : Fld := ⟨0x0E0100 + 0x40 * (u % 16), 4, 5, 0⟩
def SPR.UNIT_TRIG.EDGE (u : Nat) : Fld := ⟨0x0E0100 + 0x40 * (u % 16), 9, 2, 0⟩
def SPR.UNIT_TRIG.SOURCE (u : Nat) : Fld := ⟨0x0E0100 + 0x40 * (u % 16), 11, 1, 0⟩
def SPR.UNIT_TRIG.COUNTER (u : Nat) : Fld := ⟨0x0E0100 + 0x40 * (u % 16), 12, 2, 0⟩
def SPR.UNIT_TRIG.DIRECTION (u : Nat) : Fld := ⟨0x0E0100 + 0x40 * (u % 16), 14, 2, 0⟩
def SPR.UNIT_TRIG.CHAIN_UNIT (u : Nat) : Fld := ⟨0x0E0100 + 0x40 * (u % 16), 16, 4, 0⟩
def SPR.UNIT_ACTION.OUT_CHANNEL (u : Nat) : Fld := ⟨0x0E0104 + 0x40 * (u % 16), 0, 5, 0⟩
def SPR.UNIT_ACTION.KIND (u : Nat) : Fld := ⟨0x0E0104 + 0x40 * (u % 16), 5, 3, 0⟩
def SPR.UNIT_ACTION.TIMING (u : Nat) : Fld := ⟨0x0E0104 + 0x40 * (u % 16), 8, 2, 0⟩
def SPR.UNIT_ACTION.ONCE (u : Nat) : Fld := ⟨0x0E0104 + 0x40 * (u % 16), 10, 1, 0⟩
def SPR.UNIT_ACTION.ARM_SRC (u : Nat) : Fld := ⟨0x0E0104 + 0x40 * (u % 16), 11, 1, 0⟩
def SPR.UNIT_ACTION.PARAM_SRC (u : Nat) : Fld := ⟨0x0E0104 + 0x40 * (u % 16), 12, 1, 0⟩
def SPR.UNIT_ACTION.NOTIFY (u : Nat) : Fld := ⟨0x0E0104 + 0x40 * (u % 16), 13, 1, 0⟩
def SPR.UNIT_ACTION.RUN_IN_STOP (u : Nat) : Fld := ⟨0x0E0104 + 0x40 * (u % 16), 14, 1, 0⟩
def SPR.UNIT_PARAM.PARAM (u : Nat) : Fld := ⟨0x0E0108 + 0x40 * (u % 16), 0, 32, 0⟩
def SPR.UNIT_PATTERN_VALUE.VALUE (u : Nat) : Fld := ⟨0x0E010C + 0x40 * (u % 16), 0, 32, 0⟩
def SPR.UNIT_PATTERN_CARE.CARE (u : Nat) : Fld := ⟨0x0E0110 + 0x40 * (u % 16), 0, 32, 0⟩
def SPR.UNIT_DELAY.DELAY (u : Nat) : Fld := ⟨0x0E0114 + 0x40 * (u % 16), 0, 32, 0⟩
def SPR.UNIT_PULSE.TICKS (u : Nat) : Fld := ⟨0x0E0118 + 0x40 * (u % 16), 0, 24, 0x7d0⟩
def SPR.UNIT_CTRL.ARM (u : Nat) : Fld := ⟨0x0E011C + 0x40 * (u % 16), 0, 1, 0⟩
def SPR.UNIT_CTRL.DISARM (u : Nat) : Fld := ⟨0x0E011C + 0x40 * (u % 16), 1, 1, 0⟩
def SPR.UNIT_CTRL.FLUSH (u : Nat) : Fld := ⟨0x0E011C + 0x40 * (u % 16), 2, 1, 0⟩
def SPR.UNIT_STATUS.ARMED (u : Nat) : Fld := ⟨0x0E0120 + 0x40 * (u % 16), 0, 1, 0⟩
def SPR.UNIT_STATUS.QUEUED (u : Nat) : Fld := ⟨0x0E0120 + 0x40 * (u % 16), 1, 4, 0⟩
def SPR.UNIT_STATUS.CFG_ERR (u : Nat) : Fld := ⟨0x0E0120 + 0x40 * (u % 16), 5, 1, 0⟩
def SPR.UNIT_STATUS.CFG_CAUSE (u : Nat) : Fld := ⟨0x0E0120 + 0x40 * (u % 16), 8, 4, 0⟩
def SPR.UNIT_STATUS.PULSE_ACTIVE (u : Nat) : Fld := ⟨0x0E0120 + 0x40 * (u % 16), 12, 1, 0⟩
def SPR.UNIT_FIRED.COUNT (u : Nat) : Fld := ⟨0x0E0124 + 0x40 * (u % 16), 0, 32, 0⟩
def SPR.UNIT_LOST.MISSED (u : Nat) : Fld := ⟨0x0E0128 + 0x40 * (u % 16), 0, 16, 0⟩
def SPR.UNIT_LOST.SUPPRESSED (u : Nat) : Fld := ⟨0x0E0128 + 0x40 * (u % 16), 16, 16, 0⟩
def SPR.UNIT_LAST_LO.TICK (u : Nat) : Fld := ⟨0x0E012C + 0x40 * (u % 16), 0, 32, 0⟩
def SPR.UNIT_LAST_HI.TICK (u : Nat) : Fld := ⟨0x0E0130 + 0x40 * (u % 16), 0, 32, 0⟩

/-! MOT: spec/08_motion.md -/
def MOT.SETUP_LOCK.CLOSED : Fld := ⟨0x0F0000, 0, 1, 0⟩
def MOT.CTRL.ENABLE : Fld := ⟨0x0F0004, 0, 1, 0⟩
def MOT.CTRL.CFG_ERR : Fld := ⟨0x0F0004, 1, 1, 0⟩
def MOT.CTRL.CFG_CAUSE : Fld := ⟨0x0F0004, 4, 4, 0⟩
def MOT.AXIS_TABLE_LO.ADDR : Fld := ⟨0x0F0008, 6, 26, 0⟩
def MOT.AXIS_TABLE_HI.ADDR : Fld := ⟨0x0F000C, 0, 8, 0⟩
def MOT.CAM_DIR_LO.ADDR : Fld := ⟨0x0F0010, 4, 28, 0⟩
def MOT.CAM_DIR_HI.ADDR : Fld := ⟨0x0F0014, 0, 8, 0⟩
def MOT.APPLY_OFFSET.NS : Fld := ⟨0x0F0018, 0, 32, 0⟩
def MOT.EXTERNAL_LEAD.CYCLES : Fld := ⟨0x0F001C, 0, 4, 2⟩
def MOT.PASS_STATUS.LAST : Fld := ⟨0x0F0020, 0, 16, 0⟩
def MOT.PASS_STATUS.MAX : Fld := ⟨0x0F0020, 16, 16, 0⟩
def MOT.PASS_CTRL.CLEAR_MAX : Fld := ⟨0x0F0024, 0, 1, 0⟩
def MOT.COMMIT_WAITS.COUNT : Fld := ⟨0x0F0028, 0, 32, 0⟩
def MOT.AXES.PRESENT : Fld := ⟨0x0F002C, 0, 10, 0⟩
def MOT.AXES.FAULTED : Fld := ⟨0x0F002C, 16, 10, 0⟩
def MOT.FAULT.AXIS (w : Nat) : Fld := ⟨0x0F0040 + 0x4 * (w % 16), 0, 32, 0⟩
def MOT.SHAFT_POS_LO.POS (j : Nat) : Fld := ⟨0x0F0100 + 0x10 * (j % 8), 0, 32, 0⟩
def MOT.SHAFT_POS_HI.POS (j : Nat) : Fld := ⟨0x0F0104 + 0x10 * (j % 8), 0, 32, 0⟩
def MOT.SHAFT_VEL.VEL (j : Nat) : Fld := ⟨0x0F0108 + 0x10 * (j % 8), 0, 32, 0⟩
def MOT.SHAFT_STATE.STATE (j : Nat) : Fld := ⟨0x0F010C + 0x10 * (j % 8), 0, 3, 0⟩

/-! LOP: spec/09_loops.md -/
def LOP.SETUP_LOCK.CLOSED : Fld := ⟨0x100000, 0, 1, 0⟩
def LOP.CTRL.ENABLE : Fld := ⟨0x100004, 0, 1, 0⟩
def LOP.CTRL.CFG_ERR : Fld := ⟨0x100004, 1, 1, 0⟩
def LOP.CTRL.CFG_CAUSE : Fld := ⟨0x100004, 4, 4, 0⟩
def LOP.TABLE_LO.ADDR : Fld := ⟨0x100008, 6, 26, 0⟩
def LOP.TABLE_HI.ADDR : Fld := ⟨0x10000C, 0, 8, 0⟩
def LOP.ACTIVE.P : Fld := ⟨0x100010, 0, 10, 0⟩
def LOP.ACTIVE.AUTO : Fld := ⟨0x100010, 16, 10, 0⟩
def LOP.BOUND.TICKS : Fld := ⟨0x100014, 0, 16, 0x5a⟩
def LOP.QUEUE.DEPTH : Fld := ⟨0x100018, 0, 10, 0⟩
def LOP.QUEUE.PEAK : Fld := ⟨0x100018, 16, 10, 0⟩
def LOP.QUEUE.CLEAR : Fld := ⟨0x100018, 31, 1, 0⟩
def LOP.WORST.TICKS : Fld := ⟨0x10001C, 0, 16, 0⟩
def LOP.WORST.INSTANCE : Fld := ⟨0x10001C, 16, 9, 0⟩
def LOP.WORST.CLEAR : Fld := ⟨0x10001C, 31, 1, 0⟩
def LOP.REPLACED.COUNT : Fld := ⟨0x100020, 0, 32, 0⟩
def LOP.FAULT.INSTANCE (w : Nat) : Fld := ⟨0x100040 + 0x4 * (w % 16), 0, 32, 0⟩
def LOP.SAT.INSTANCE (w : Nat) : Fld := ⟨0x100080 + 0x4 * (w % 16), 0, 32, 0⟩
def LOP.INST_DELAY.LAST (i : Nat) : Fld := ⟨0x101000 + 0x4 * (i % 512), 0, 16, 0⟩
def LOP.INST_DELAY.MAX (i : Nat) : Fld := ⟨0x101000 + 0x4 * (i % 512), 16, 16, 0⟩

/-! CLP: spec/10_current_loops.md -/
def CLP.SETUP_LOCK.CLOSED : Fld := ⟨0x110000, 0, 1, 0⟩
def CLP.CTRL.ENABLE : Fld := ⟨0x110004, 0, 1, 0⟩
def CLP.CTRL.CFG_ERR : Fld := ⟨0x110004, 1, 1, 0⟩
def CLP.CTRL.CFG_CAUSE : Fld := ⟨0x110004, 4, 4, 0⟩
def CLP.IMAGE.IN_BASE : Fld := ⟨0x110008, 0, 16, 0⟩
def CLP.IMAGE.OUT_BASE : Fld := ⟨0x110008, 16, 16, 0⟩
def CLP.TABLE_LO.ADDR : Fld := ⟨0x11000C, 3, 29, 0⟩
def CLP.TABLE_HI.ADDR : Fld := ⟨0x110010, 0, 8, 0⟩
def CLP.CH_CFG.MODE (n : Nat) : Fld := ⟨0x110100 + 0x40 * (n % 8), 0, 2, 0⟩
def CLP.CH_CFG.OUT_SOURCE (n : Nat) : Fld := ⟨0x110100 + 0x40 * (n % 8), 2, 1, 0⟩
def CLP.CH_CFG.CHAR (n : Nat) : Fld := ⟨0x110100 + 0x40 * (n % 8), 3, 2, 0⟩
def CLP.CH_CFG.LOOP_POWER (n : Nat) : Fld := ⟨0x110100 + 0x40 * (n % 8), 5, 1, 0⟩
def CLP.CH_CFG.HART_MODE (n : Nat) : Fld := ⟨0x110100 + 0x40 * (n % 8), 6, 2, 0⟩
def CLP.CH_CFG.RATE (n : Nat) : Fld := ⟨0x110100 + 0x40 * (n % 8), 8, 2, 0⟩
def CLP.CH_CFG.STOP_VALUE (n : Nat) : Fld := ⟨0x110100 + 0x40 * (n % 8), 10, 2, 0⟩
def CLP.CH_CFG.ALARM_TIME (n : Nat) : Fld := ⟨0x110100 + 0x40 * (n % 8), 16, 8, 4⟩
def CLP.CH_RANGE_LO.LO (n : Nat) : Fld := ⟨0x110104 + 0x40 * (n % 8), 0, 32, 0⟩
def CLP.CH_RANGE_HI.HI (n : Nat) : Fld := ⟨0x110108 + 0x40 * (n % 8), 0, 32, 0x42c80000⟩
def CLP.CH_CUTOFF.CUTOFF (n : Nat) : Fld := ⟨0x11010C + 0x40 * (n % 8), 0, 32, 0x3c23d70a⟩
def CLP.CH_ALARM_OUT.LOW (n : Nat) : Fld := ⟨0x110110 + 0x40 * (n % 8), 0, 16, 0xdac⟩
def CLP.CH_ALARM_OUT.HIGH (n : Nat) : Fld := ⟨0x110110 + 0x40 * (n % 8), 16, 16, 0x53fc⟩
def CLP.CH_SUBST.MA (n : Nat) : Fld := ⟨0x110114 + 0x40 * (n % 8), 0, 32, 0x40800000⟩
def CLP.CH_STATUS.VALID (n : Nat) : Fld := ⟨0x110118 + 0x40 * (n % 8), 0, 1, 0⟩
def CLP.CH_STATUS.ALARM_LOW (n : Nat) : Fld := ⟨0x110118 + 0x40 * (n % 8), 1, 1, 0⟩
def CLP.CH_STATUS.ALARM_HIGH (n : Nat) : Fld := ⟨0x110118 + 0x40 * (n % 8), 2, 1, 0⟩
def CLP.CH_STATUS.RANGE (n : Nat) : Fld := ⟨0x110118 + 0x40 * (n % 8), 3, 1, 0⟩
def CLP.CH_STATUS.OPEN (n : Nat) : Fld := ⟨0x110118 + 0x40 * (n % 8), 4, 1, 0⟩
def CLP.CH_STATUS.LOOP_SHORT (n : Nat) : Fld := ⟨0x110118 + 0x40 * (n % 8), 5, 1, 0⟩
def CLP.CH_STATUS.COMPLIANCE (n : Nat) : Fld := ⟨0x110118 + 0x40 * (n % 8), 6, 1, 0⟩
def CLP.CH_STATUS.ALARM_NOT_SIGNALLED (n : Nat) : Fld := ⟨0x110118 + 0x40 * (n % 8), 7, 1, 0⟩
def CLP.CH_STATUS.FAILED (n : Nat) : Fld := ⟨0x110118 + 0x40 * (n % 8), 8, 1, 0⟩
def CLP.CH_STATUS.HART_BUSY (n : Nat) : Fld := ⟨0x110118 + 0x40 * (n % 8), 9, 1, 0⟩
def CLP.CH_CURRENT.MA (n : Nat) : Fld := ⟨0x11011C + 0x40 * (n % 8), 0, 32, 0⟩
def CLP.CH_VALUE.VALUE (n : Nat) : Fld := ⟨0x110120 + 0x40 * (n % 8), 0, 32, 0⟩
def CLP.CH_HEADROOM.MV (n : Nat) : Fld := ⟨0x110124 + 0x40 * (n % 8), 0, 16, 0⟩
def CLP.CH_TRIM.OFFSET (n : Nat) : Fld := ⟨0x110128 + 0x40 * (n % 8), 0, 16, 0⟩
def CLP.CH_TRIM.GAIN (n : Nat) : Fld := ⟨0x110128 + 0x40 * (n % 8), 16, 16, 0⟩
def CLP.CH_HART_STATS.FRAMES_OK (n : Nat) : Fld := ⟨0x11012C + 0x40 * (n % 8), 0, 16, 0⟩
def CLP.CH_HART_STATS.FRAMES_BAD (n : Nat) : Fld := ⟨0x11012C + 0x40 * (n % 8), 16, 16, 0⟩

/-! PAR: spec/11_pair.md -/
def PAR.SETUP_LOCK.CLOSED : Fld := ⟨0x120000, 0, 1, 0⟩
def PAR.CFG.HOME : Fld := ⟨0x120004, 0, 1, 0⟩
def PAR.CFG.TAKEBACK : Fld := ⟨0x120004, 1, 1, 1⟩
def PAR.CFG.UNTETHERED_TAKEOVER : Fld := ⟨0x120004, 2, 1, 1⟩
def PAR.CFG.DIVERGENCE_LIMIT : Fld := ⟨0x120004, 4, 4, 3⟩
def PAR.LEASE.TICKS : Fld := ⟨0x120008, 0, 24, 0x4e20⟩
def PAR.WITNESS_PATH.TICKS : Fld := ⟨0x12000C, 0, 20, 0xfa0⟩
def PAR.WITNESS_CFG.ENABLE : Fld := ⟨0x120010, 0, 1, 0⟩
def PAR.WITNESS_CFG.PORT : Fld := ⟨0x120010, 1, 3, 4⟩
def PAR.WITNESS_MAC_LO.MAC : Fld := ⟨0x120014, 0, 32, 0⟩
def PAR.WITNESS_MAC_HI.MAC : Fld := ⟨0x120018, 0, 16, 0⟩
def PAR.TIMING.LINK_LOSS : Fld := ⟨0x12001C, 0, 7, 0xa⟩
def PAR.UNTETHERED_SILENCE.US : Fld := ⟨0x120020, 0, 20, 0x1f4⟩
def PAR.TAKEBACK_HOLDOFF.SECONDS : Fld := ⟨0x120024, 0, 16, 0x3c⟩
def PAR.DIGEST.BLOCKS : Fld := ⟨0x120028, 0, 7, 4⟩
def PAR.CMD.OP : Fld := ⟨0x120030, 0, 4, 0⟩
def PAR.CMD.PRIV : Fld := ⟨0x120030, 12, 3, 0⟩
def PAR.CMD.SESSION : Fld := ⟨0x120030, 16, 16, 0⟩
def PAR.CMD_STATUS.PENDING : Fld := ⟨0x120034, 0, 1, 0⟩
def PAR.CMD_STATUS.STATUS : Fld := ⟨0x120034, 8, 8, 0⟩
def PAR.CMD_STATUS.REASON : Fld := ⟨0x120034, 16, 4, 0⟩
def PAR.STATUS.STATE : Fld := ⟨0x120040, 0, 3, 5⟩
def PAR.STATUS.UNIT : Fld := ⟨0x120040, 3, 1, 0⟩
def PAR.STATUS.PARTNER_STATE : Fld := ⟨0x120040, 4, 3, 5⟩
def PAR.STATUS.ELIGIBLE : Fld := ⟨0x120040, 7, 1, 0⟩
def PAR.STATUS.LINK0_UP : Fld := ⟨0x120040, 8, 1, 0⟩
def PAR.STATUS.LINK1_UP : Fld := ⟨0x120040, 9, 1, 0⟩
def PAR.STATUS.WITNESS_REACHABLE : Fld := ⟨0x120040, 10, 1, 0⟩
def PAR.STATUS.LEASE_HELD : Fld := ⟨0x120040, 11, 1, 0⟩
def PAR.STATUS.REQUEST_PENDING : Fld := ⟨0x120040, 12, 1, 0⟩
def PAR.STATUS.TOKEN_RAISED : Fld := ⟨0x120040, 13, 1, 0⟩
def PAR.STATUS.UNTETHER_REASON : Fld := ⟨0x120040, 16, 4, 0⟩
def PAR.STATUS.INELIGIBLE : Fld := ⟨0x120040, 20, 4, 1⟩
def PAR.EPOCH.EPOCH : Fld := ⟨0x120044, 0, 32, 0⟩
def PAR.TICK_OFFSET_LO.OFFSET : Fld := ⟨0x120048, 0, 32, 0⟩
def PAR.TICK_OFFSET_HI.OFFSET : Fld := ⟨0x12004C, 0, 32, 0⟩
def PAR.LAG.LAST : Fld := ⟨0x120050, 0, 16, 0⟩
def PAR.LAG.MAX : Fld := ⟨0x120050, 16, 16, 0⟩
def PAR.STREAM_LAST.BYTES : Fld := ⟨0x120054, 0, 32, 0⟩
def PAR.STREAM_MAX.BYTES : Fld := ⟨0x120058, 0, 31, 0⟩
def PAR.STREAM_MAX.CLEAR : Fld := ⟨0x120058, 31, 1, 0⟩
def PAR.BUDGET_OVER.COUNT : Fld := ⟨0x12005C, 0, 32, 0⟩
def PAR.DIVERGENCE.COUNT : Fld := ⟨0x120060, 0, 16, 0⟩
def PAR.DIVERGENCE.BLOCK_HOUR : Fld := ⟨0x120060, 16, 4, 0⟩
def PAR.DIVERGENCE_BLOCK.INDEX : Fld := ⟨0x120064, 0, 32, 0⟩
def PAR.SWITCHES.COUNT : Fld := ⟨0x120068, 0, 16, 0⟩
def PAR.SWITCHES.LAST_KIND : Fld := ⟨0x120068, 16, 4, 0⟩
def PAR.LAST_SWITCH.TICK : Fld := ⟨0x12006C, 0, 32, 0⟩
def PAR.LINK_ERRORS.CRC (l : Nat) : Fld := ⟨0x120080 + 0x4 * (l % 2), 0, 16, 0⟩
def PAR.LINK_ERRORS.NAK (l : Nat) : Fld := ⟨0x120080 + 0x4 * (l % 2), 16, 16, 0⟩
def PAR.TRACK_BASE.ADDR (n : Nat) : Fld := ⟨0x120100 + 0x8 * (n % 8), 0, 28, 0⟩
def PAR.TRACK_SIZE.BLOCKS (n : Nat) : Fld := ⟨0x120104 + 0x8 * (n % 8), 0, 20, 0⟩

/-! TIM: spec/13_time.md -/
def TIM.SETUP_LOCK.CLOSED : Fld := ⟨0x130000, 0, 1, 0⟩
def TIM.CFG.ROLE : Fld := ⟨0x130004, 0, 2, 0⟩
def TIM.CFG.SLAVE_PORT : Fld := ⟨0x130004, 2, 1, 0⟩
def TIM.CFG.MASTER_PLANT : Fld := ⟨0x130004, 3, 2, 0⟩
def TIM.CFG.DELAY_MECH : Fld := ⟨0x130004, 5, 1, 0⟩
def TIM.CFG.PROFILE : Fld := ⟨0x130004, 6, 1, 0⟩
def TIM.CFG.CROSSING_TIME : Fld := ⟨0x130004, 8, 4, 0⟩
def TIM.CFG.DOMAIN : Fld := ⟨0x130004, 16, 8, 0⟩
def TIM.CFG.SYNC_LOG2 : Fld := ⟨0x130004, 24, 4, 0xd⟩
def TIM.INC_LO.FRAC : Fld := ⟨0x130008, 0, 32, 0⟩
def TIM.INC_HI.NS : Fld := ⟨0x13000C, 0, 4, 5⟩
def TIM.INC_HI.PENDING : Fld := ⟨0x13000C, 31, 1, 0⟩
def TIM.PT_LO.NS : Fld := ⟨0x130010, 0, 32, 0⟩
def TIM.PT_HI.NS : Fld := ⟨0x130014, 0, 32, 0⟩
def TIM.PT_FRAC.FRAC : Fld := ⟨0x130018, 0, 32, 0⟩
def TIM.SNAP_TICK_LO.TICK : Fld := ⟨0x13001C, 0, 32, 0⟩
def TIM.SNAP_TICK_HI.TICK : Fld := ⟨0x130020, 0, 32, 0⟩
def TIM.CMD.OP : Fld := ⟨0x130024, 0, 2, 0⟩
def TIM.CMD.PRIV : Fld := ⟨0x130024, 12, 3, 0⟩
def TIM.CMD.SESSION : Fld := ⟨0x130024, 16, 16, 0⟩
def TIM.SET_LO.VALUE : Fld := ⟨0x130028, 0, 32, 0⟩
def TIM.SET_HI.VALUE : Fld := ⟨0x13002C, 0, 32, 0⟩
def TIM.CMD_STATUS.PENDING : Fld := ⟨0x130030, 0, 1, 0⟩
def TIM.CMD_STATUS.STATUS : Fld := ⟨0x130030, 8, 8, 0⟩
def TIM.CMD_STATUS.REASON : Fld := ⟨0x130030, 16, 4, 0⟩
def TIM.STATUS.SET : Fld := ⟨0x130034, 0, 1, 0⟩
def TIM.STATUS.UNCALIBRATED : Fld := ⟨0x130034, 1, 1, 0⟩
def TIM.STATUS.HOLDOVER : Fld := ⟨0x130034, 2, 1, 0⟩
def TIM.STATUS.PAIR_FOLLOW : Fld := ⟨0x130034, 3, 1, 0⟩
def TIM.HOLDOVER_TIME.MS : Fld := ⟨0x130038, 0, 16, 0x7d0⟩
def TIM.CMP_TARGET.TICK (u : Nat) : Fld := ⟨0x130100 + 0x10 * (u % 8), 0, 32, 0⟩
def TIM.CMP_PERIOD.TICKS (u : Nat) : Fld := ⟨0x130104 + 0x10 * (u % 8), 0, 31, 0⟩
def TIM.CMP_CTRL.ARM (u : Nat) : Fld := ⟨0x130108 + 0x10 * (u % 8), 0, 1, 0⟩
def TIM.CMP_CTRL.DISARM (u : Nat) : Fld := ⟨0x130108 + 0x10 * (u % 8), 1, 1, 0⟩
def TIM.CMP_STATUS.ARMED (u : Nat) : Fld := ⟨0x13010C + 0x10 * (u % 8), 0, 1, 0⟩
def TIM.CMP_STATUS.LATE (u : Nat) : Fld := ⟨0x13010C + 0x10 * (u % 8), 1, 1, 0⟩
def TIM.CMP_FIRE_TICK.TICK (u : Nat) : Fld := ⟨0x130109 + 0x10 * (u % 8), 0, 32, 0⟩
def TIM.CAP_CFG.SELECT (u : Nat) : Fld := ⟨0x130200 + 0x20 * (u % 4), 0, 4, 0⟩
def TIM.CAP_TICK_LO.TICK (u : Nat) : Fld := ⟨0x130204 + 0x20 * (u % 4), 0, 32, 0⟩
def TIM.CAP_TICK_HI.TICK (u : Nat) : Fld := ⟨0x130208 + 0x20 * (u % 4), 0, 32, 0⟩
def TIM.CAP_PT_LO.NS (u : Nat) : Fld := ⟨0x13020C + 0x20 * (u % 4), 0, 32, 0⟩
def TIM.CAP_PT_HI.NS (u : Nat) : Fld := ⟨0x130210 + 0x20 * (u % 4), 0, 32, 0⟩
def TIM.CAP_STATUS.SEQ (u : Nat) : Fld := ⟨0x130214 + 0x20 * (u % 4), 0, 8, 0⟩
def TIM.CAP_STATUS.OVERWRITES (u : Nat) : Fld := ⟨0x130214 + 0x20 * (u % 4), 8, 8, 0⟩

/-! CAN: spec/14_can.md -/
def CAN.SETUP_LOCK.CLOSED : Fld := ⟨0x140000, 0, 1, 0⟩
def CAN.CH_CFG.ENABLE (c : Nat) : Fld := ⟨0x140100 + 0x40 * (c % 2), 0, 1, 0⟩
def CAN.CH_CFG.FD (c : Nat) : Fld := ⟨0x140100 + 0x40 * (c % 2), 1, 1, 0⟩
def CAN.CH_CFG.TDC (c : Nat) : Fld := ⟨0x140100 + 0x40 * (c % 2), 2, 1, 0⟩
def CAN.CH_CFG.TDCO (c : Nat) : Fld := ⟨0x140100 + 0x40 * (c % 2), 8, 8, 0⟩
def CAN.CH_NBT.NBRP (c : Nat) : Fld := ⟨0x140104 + 0x40 * (c % 2), 0, 8, 1⟩
def CAN.CH_NBT.NTSEG1 (c : Nat) : Fld := ⟨0x140104 + 0x40 * (c % 2), 8, 8, 0x9e⟩
def CAN.CH_NBT.NTSEG2 (c : Nat) : Fld := ⟨0x140104 + 0x40 * (c % 2), 16, 7, 0x27⟩
def CAN.CH_NBT.NSJW (c : Nat) : Fld := ⟨0x140104 + 0x40 * (c % 2), 24, 7, 0x27⟩
def CAN.CH_DBT.DBRP (c : Nat) : Fld := ⟨0x140108 + 0x40 * (c % 2), 0, 5, 3⟩
def CAN.CH_DBT.DTSEG1 (c : Nat) : Fld := ⟨0x140108 + 0x40 * (c % 2), 8, 5, 0x12⟩
def CAN.CH_DBT.DTSEG2 (c : Nat) : Fld := ⟨0x140108 + 0x40 * (c % 2), 16, 4, 4⟩
def CAN.CH_DBT.DSJW (c : Nat) : Fld := ⟨0x140108 + 0x40 * (c % 2), 24, 4, 4⟩
def CAN.CH_STATUS.STATE (c : Nat) : Fld := ⟨0x14010C + 0x40 * (c % 2), 0, 2, 0⟩
def CAN.CH_STATUS.LISTEN_ONLY (c : Nat) : Fld := ⟨0x14010C + 0x40 * (c % 2), 2, 1, 1⟩
def CAN.CH_STATUS.CFG_ERR (c : Nat) : Fld := ⟨0x14010C + 0x40 * (c % 2), 3, 1, 0⟩
def CAN.CH_STATUS.LEC (c : Nat) : Fld := ⟨0x14010C + 0x40 * (c % 2), 4, 4, 0⟩
def CAN.CH_STATUS.TEC (c : Nat) : Fld := ⟨0x14010C + 0x40 * (c % 2), 8, 8, 0⟩
def CAN.CH_STATUS.REC (c : Nat) : Fld := ⟨0x14010C + 0x40 * (c % 2), 16, 8, 0⟩
def CAN.CH_STATUS.RECOVERY (c : Nat) : Fld := ⟨0x14010C + 0x40 * (c % 2), 24, 8, 0⟩
def CAN.CH_COUNTS.BUS_OFF (c : Nat) : Fld := ⟨0x140110 + 0x40 * (c % 2), 0, 16, 0⟩
def CAN.CH_COUNTS.EXPIRED (c : Nat) : Fld := ⟨0x140110 + 0x40 * (c % 2), 16, 16, 0⟩
def CAN.CH_RX_DROP.NO_RECEIVE (c : Nat) : Fld := ⟨0x140114 + 0x40 * (c % 2), 0, 16, 0⟩
def CAN.CH_RX_DROP.UNMATCHED (c : Nat) : Fld := ⟨0x140114 + 0x40 * (c % 2), 16, 16, 0⟩
def CAN.CH_ERRORS.TX_ERR (c : Nat) : Fld := ⟨0x140118 + 0x40 * (c % 2), 0, 16, 0⟩
def CAN.CH_ERRORS.RX_ERR (c : Nat) : Fld := ⟨0x140118 + 0x40 * (c % 2), 16, 16, 0⟩
def CAN.CH_TT_CFG.ENABLE (c : Nat) : Fld := ⟨0x14011C + 0x40 * (c % 2), 0, 1, 0⟩
def CAN.CH_TT_CFG.SCHED_EXP (c : Nat) : Fld := ⟨0x14011C + 0x40 * (c % 2), 4, 4, 0⟩
def CAN.CH_TT_STATUS.CYCLE (c : Nat) : Fld := ⟨0x140120 + 0x40 * (c % 2), 0, 6, 0⟩
def CAN.CH_TT_STATUS.LOADED (c : Nat) : Fld := ⟨0x140120 + 0x40 * (c % 2), 6, 1, 0⟩
def CAN.CH_TT_STATUS.MISSED (c : Nat) : Fld := ⟨0x140120 + 0x40 * (c % 2), 16, 16, 0⟩
def CAN.MB_CFG.MODE (c : Nat) (b : Nat) : Fld := ⟨0x141000 + 0x2000 * (c % 2) + 0x80 * (b % 64), 0, 2, 0⟩
def CAN.MB_CFG.IDE (c : Nat) (b : Nat) : Fld := ⟨0x141000 + 0x2000 * (c % 2) + 0x80 * (b % 64), 2, 1, 0⟩
def CAN.MB_CFG.TT (c : Nat) (b : Nat) : Fld := ⟨0x141000 + 0x2000 * (c % 2) + 0x80 * (b % 64), 3, 1, 0⟩
def CAN.MB_CFG.NOTIFY (c : Nat) (b : Nat) : Fld := ⟨0x141000 + 0x2000 * (c % 2) + 0x80 * (b % 64), 4, 1, 0⟩
def CAN.MB_FILTER.ID (c : Nat) (b : Nat) : Fld := ⟨0x141004 + 0x2000 * (c % 2) + 0x80 * (b % 64), 0, 29, 0⟩
def CAN.MB_MASK.MASK (c : Nat) (b : Nat) : Fld := ⟨0x141008 + 0x2000 * (c % 2) + 0x80 * (b % 64), 0, 29, 0⟩
def CAN.MB_STAT.NEW (c : Nat) (b : Nat) : Fld := ⟨0x14100C + 0x2000 * (c % 2) + 0x80 * (b % 64), 0, 1, 0⟩
def CAN.MB_STAT.UPDATING (c : Nat) (b : Nat) : Fld := ⟨0x14100C + 0x2000 * (c % 2) + 0x80 * (b % 64), 1, 1, 0⟩
def CAN.MB_STAT.OVERWRITTEN (c : Nat) (b : Nat) : Fld := ⟨0x14100C + 0x2000 * (c % 2) + 0x80 * (b % 64), 2, 1, 0⟩
def CAN.MB_STAT.QUEUED (c : Nat) (b : Nat) : Fld := ⟨0x14100C + 0x2000 * (c % 2) + 0x80 * (b % 64), 3, 1, 0⟩
def CAN.MB_STAT.IN_TX (c : Nat) (b : Nat) : Fld := ⟨0x14100C + 0x2000 * (c % 2) + 0x80 * (b % 64), 4, 1, 0⟩
def CAN.MB_STAT.SEQ (c : Nat) (b : Nat) : Fld := ⟨0x14100C + 0x2000 * (c % 2) + 0x80 * (b % 64), 8, 8, 0⟩
def CAN.MB_ID.ID (c : Nat) (b : Nat) : Fld := ⟨0x141010 + 0x2000 * (c % 2) + 0x80 * (b % 64), 0, 32, 0⟩
def CAN.MB_CTRL.CTRL (c : Nat) (b : Nat) : Fld := ⟨0x141014 + 0x2000 * (c % 2) + 0x80 * (b % 64), 0, 16, 0⟩
def CAN.MB_TICK_LO.TICK (c : Nat) (b : Nat) : Fld := ⟨0x141018 + 0x2000 * (c % 2) + 0x80 * (b % 64), 0, 32, 0⟩
def CAN.MB_TICK_HI.TICK (c : Nat) (b : Nat) : Fld := ⟨0x14101C + 0x2000 * (c % 2) + 0x80 * (b % 64), 0, 32, 0⟩
def CAN.MB_DATA.DATA (c : Nat) (b : Nat) (j : Nat) : Fld := ⟨0x141020 + 0x2000 * (c % 2) + 0x80 * (b % 64) + 0x4 * (j % 16), 0, 32, 0⟩

/-! ACQ: spec/15_acquisition.md -/
def ACQ.SETUP_LOCK.CLOSED : Fld := ⟨0x150000, 0, 1, 0⟩
def ACQ.TRIG_VALUE_LO.VALUE : Fld := ⟨0x150008, 0, 32, 0⟩
def ACQ.TRIG_VALUE_HI.VALUE : Fld := ⟨0x15000C, 0, 32, 0⟩
def ACQ.TRIG_CARE_LO.CARE : Fld := ⟨0x150010, 0, 32, 0⟩
def ACQ.TRIG_CARE_HI.CARE : Fld := ⟨0x150014, 0, 32, 0⟩
def ACQ.TRIG_CFG.EDGE_MODE : Fld := ⟨0x150018, 0, 2, 0⟩
def ACQ.TRIG_CFG.QUAL_PROBE : Fld := ⟨0x150018, 2, 6, 0⟩
def ACQ.TRIG_CFG.QUAL_EDGE : Fld := ⟨0x150018, 8, 1, 0⟩
def ACQ.SEGMENTS.COUNT : Fld := ⟨0x15001C, 0, 13, 1⟩
def ACQ.POST_RECORDS.COUNT : Fld := ⟨0x150020, 0, 28, 0x4000⟩
def ACQ.POST_TIMEOUT.TICKS : Fld := ⟨0x150024, 0, 32, 0⟩
def ACQ.GAP_MAX.COUNT : Fld := ⟨0x150028, 0, 13, 0x100⟩
def ACQ.RESUME.FREE : Fld := ⟨0x15002C, 0, 9, 0x40⟩
def ACQ.STATUS.STATE : Fld := ⟨0x150030, 0, 2, 0⟩
def ACQ.STATUS.SEGMENT : Fld := ⟨0x150030, 4, 12, 0⟩
def ACQ.STATUS.GAP_ACTIVE : Fld := ⟨0x150030, 16, 1, 0⟩
def ACQ.STATUS.ARCHIVING : Fld := ⟨0x150030, 17, 1, 0⟩
def ACQ.QUEUE.LEVEL : Fld := ⟨0x150034, 0, 10, 0⟩
def ACQ.QUEUE.PEAK : Fld := ⟨0x150034, 16, 10, 0⟩
def ACQ.QUEUE.CLEAR : Fld := ⟨0x150034, 31, 1, 0⟩
def ACQ.LAST_DEAD.TICKS : Fld := ⟨0x150038, 0, 32, 0⟩
def ACQ.MAX_DEAD.TICKS : Fld := ⟨0x15003C, 0, 31, 0⟩
def ACQ.MAX_DEAD.CLEAR : Fld := ⟨0x15003C, 31, 1, 0⟩
def ACQ.LOST_TOTAL.COUNT : Fld := ⟨0x150040, 0, 32, 0⟩
def ACQ.MISSED_TRIGGERS.COUNT : Fld := ⟨0x150044, 0, 32, 0⟩
def ACQ.GAPS.COUNT : Fld := ⟨0x150048, 0, 32, 0⟩
def ACQ.PROBE_SRC.SOURCE (p : Nat) : Fld := ⟨0x150100 + 0x4 * (p % 64), 0, 9, 0x1b5⟩
def ACQ.TAP.INDEX (t : Nat) : Fld := ⟨0x150200 + 0x4 * (t % 128), 0, 16, 0⟩
def ACQ.TAP.BIT (t : Nat) : Fld := ⟨0x150200 + 0x4 * (t % 128), 16, 5, 0⟩
def ACQ.TAP.IMAGE (t : Nat) : Fld := ⟨0x150200 + 0x4 * (t % 128), 21, 1, 0⟩

/-! REC: spec/18_records_update_identity.md -/
def REC.EVENT_OLDEST_LO.SEQ : Fld := ⟨0x160000, 0, 32, 0⟩
def REC.EVENT_OLDEST_HI.SEQ : Fld := ⟨0x160004, 0, 32, 0⟩
def REC.EVENT_OLDEST_ADDR.OFFSET : Fld := ⟨0x160008, 0, 25, 0⟩
def REC.EVENT_NEXT_LO.SEQ : Fld := ⟨0x16000C, 0, 32, 1⟩
def REC.EVENT_NEXT_HI.SEQ : Fld := ⟨0x160010, 0, 32, 0⟩
def REC.CHANGE_OLDEST_LO.SEQ : Fld := ⟨0x160014, 0, 32, 0⟩
def REC.CHANGE_OLDEST_HI.SEQ : Fld := ⟨0x160018, 0, 32, 0⟩
def REC.CHANGE_OLDEST_ADDR.OFFSET : Fld := ⟨0x16001C, 0, 24, 0⟩
def REC.CHANGE_NEXT_LO.SEQ : Fld := ⟨0x160020, 0, 32, 1⟩
def REC.CHANGE_NEXT_HI.SEQ : Fld := ⟨0x160024, 0, 32, 0⟩
def REC.CHANGE_ARCHIVED_LO.SEQ : Fld := ⟨0x160028, 0, 32, 0⟩
def REC.CHANGE_ARCHIVED_HI.SEQ : Fld := ⟨0x16002C, 0, 32, 0⟩
def REC.STATUS.QUEUE : Fld := ⟨0x160030, 0, 8, 0⟩
def REC.STATUS.ARCHIVE_FAULT : Fld := ⟨0x160030, 8, 1, 0⟩
def REC.LOST.COUNT : Fld := ⟨0x160034, 0, 32, 0⟩

/-! UPD: spec/18_records_update_identity.md -/
def UPD.CMD.OP : Fld := ⟨0x170004, 0, 4, 0⟩
def UPD.CMD.ENTRY : Fld := ⟨0x170004, 4, 3, 0⟩
def UPD.CMD.SESSION : Fld := ⟨0x170004, 16, 16, 0⟩
def UPD.CMD_STATUS.STATUS : Fld := ⟨0x170008, 8, 8, 0⟩
def UPD.CMD_STATUS.REASON : Fld := ⟨0x170008, 16, 4, 0⟩
def UPD.ACTIVE.SLOT : Fld := ⟨0x17000C, 0, 1, 0⟩
def UPD.ACTIVE.ACTIVATE_PENDING : Fld := ⟨0x17000C, 1, 1, 0⟩
def UPD.ACTIVE.TRIAL_STARTS : Fld := ⟨0x17000C, 8, 1, 0⟩
def UPD.SLOT_STATE.STATE (s : Nat) : Fld := ⟨0x170010 + 0x8 * (s % 2), 0, 3, 0⟩
def UPD.SLOT_VERSION.VERSION (s : Nat) : Fld := ⟨0x170014 + 0x8 * (s % 2), 0, 32, 0⟩
def UPD.CONFIRM_TIME.SECONDS : Fld := ⟨0x170020, 0, 16, 0x384⟩
def UPD.CONFIRM_REMAINING.SECONDS : Fld := ⟨0x170024, 0, 16, 0⟩
def UPD.ROLLBACK.COUNTER (k : Nat) : Fld := ⟨0x170030 + 0x4 * (k % 4), 0, 32, 0⟩
def UPD.VERIFIED.VALID (v : Nat) : Fld := ⟨0x170040 + 0x4 * (v % 8), 0, 1, 0⟩
def UPD.VERIFIED.KIND (v : Nat) : Fld := ⟨0x170040 + 0x4 * (v % 8), 1, 3, 0⟩
def UPD.CONFIG_DIGEST.DIGEST (w : Nat) : Fld := ⟨0x170060 + 0x4 * (w % 8), 0, 32, 0⟩

/-! SEC: spec/18_records_update_identity.md -/
def SEC.SERIAL.ASCII (w : Nat) : Fld := ⟨0x180000 + 0x4 * (w % 4), 0, 32, Config.serial (w % 4)⟩
def SEC.DEVICE_KEY_ID_LO.ID : Fld := ⟨0x180010, 0, 32, Config.deviceKeyIdLo⟩
def SEC.DEVICE_KEY_ID_HI.ID : Fld := ⟨0x180014, 0, 32, Config.deviceKeyIdHi⟩
def SEC.STATUS.PLANT_KEYS : Fld := ⟨0x180018, 0, 3, 0⟩
def SEC.STATUS.LEASE_KEY : Fld := ⟨0x180018, 3, 1, 0⟩
def SEC.STATUS.TRUST_ESTABLISHED : Fld := ⟨0x180018, 4, 1, 0⟩
def SEC.LEASE_KCV.KCV : Fld := ⟨0x18001C, 0, 32, 0⟩
def SEC.LEASE_KEY.KEY (w : Nat) : Fld := ⟨0x180020 + 0x4 * (w % 8), 0, 32, 0⟩
def SEC.CMD.OP : Fld := ⟨0x180040, 0, 4, 0⟩
def SEC.CMD.PRIV : Fld := ⟨0x180040, 12, 3, 0⟩
def SEC.CMD.SESSION : Fld := ⟨0x180040, 16, 16, 0⟩
def SEC.CMD_STATUS.STATUS : Fld := ⟨0x180044, 8, 8, 0⟩
def SEC.CMD_STATUS.REASON : Fld := ⟨0x180044, 16, 4, 0⟩
def SEC.AUTH_FAILS.COUNT : Fld := ⟨0x180048, 0, 32, 0⟩

/-! PLN: spec/13_time.md -/
def PLN.SETUP_LOCK.CLOSED : Fld := ⟨0x190000, 0, 1, 0⟩
def PLN.PORT_CFG.ENABLE (p : Nat) : Fld := ⟨0x190100 + 0x40 * (p % 2), 0, 1, 0⟩
def PLN.PORT_CFG.PROMISC (p : Nat) : Fld := ⟨0x190100 + 0x40 * (p % 2), 1, 1, 0⟩
def PLN.PORT_CFG.PTP_RING (p : Nat) : Fld := ⟨0x190100 + 0x40 * (p % 2), 8, 6, 0⟩
def PLN.PORT_MAC_LO.MAC (p : Nat) : Fld := ⟨0x190104 + 0x40 * (p % 2), 0, 32, Config.macLo (p % 2)⟩
def PLN.PORT_MAC_HI.MAC (p : Nat) : Fld := ⟨0x190108 + 0x40 * (p % 2), 0, 16, Config.macHi (p % 2)⟩
def PLN.PORT_STATUS.LINK (p : Nat) : Fld := ⟨0x19010C + 0x40 * (p % 2), 0, 1, 0⟩
def PLN.PORT_DROPPED.COUNT (p : Nat) : Fld := ⟨0x190110 + 0x40 * (p % 2), 0, 32, 0⟩
def PLN.PORT_FCS_ERRORS.COUNT (p : Nat) : Fld := ⟨0x190114 + 0x40 * (p % 2), 0, 32, 0⟩

/-- The register table of SYS. -/
def rowsSYS : List FieldRow :=
  [⟨fun _ _ _ => SYS.CARRIER_STATUS.SLOT, 0x40, [], .RO, .C, .basic⟩,
   ⟨fun _ _ _ => SYS.CARRIER_STATUS.SLOT_FAULT, 0x40, [], .RO, .C, .basic⟩,
   ⟨fun _ _ _ => SYS.CARRIER_STATUS.SEATED, 0x40, [], .RO, .C, .basic⟩,
   ⟨fun _ _ _ => SYS.CARRIER_STATUS.PARTNER_SEATED, 0x40, [], .RO, .C, .basic⟩,
   ⟨fun _ _ _ => SYS.CARRIER_STATUS.TOKEN_SELF_LIVE, 0x40, [], .RO, .C, .basic⟩,
   ⟨fun _ _ _ => SYS.CARRIER_STATUS.TOKEN_PARTNER_LIVE, 0x40, [], .RO, .C, .basic⟩,
   ⟨fun _ _ _ => SYS.CARRIER_STATUS.DRIVERS_ENABLED, 0x40, [], .RO, .C, .basic⟩,
   ⟨fun _ _ _ => SYS.CARRIER_STATUS.LATCH_REQUEST, 0x40, [], .RO, .C, .basic⟩,
   ⟨fun _ _ _ => SYS.CARRIER_STATUS.EEPROM_VALID, 0x40, [], .RO, .C, .basic⟩,
   ⟨fun _ _ _ => SYS.CARRIER_STATUS.CARRIER_REV, 0x40, [], .RO, .C, .expert⟩,
   ⟨fun _ _ _ => SYS.FAULT_LED.AWAIT, 0x44, [], .W1C, .A, .basic⟩,
   ⟨fun _ _ _ => SYS.FAULT_LED.RAISE, 0x44, [], .WO, .C, .basic⟩,
   ⟨fun _ _ _ => SYS.SPEED_CTRL.ENABLE, 0x80, [], .RW, .A, .expert⟩,
   ⟨fun _ _ _ => SYS.SPEED_FLOOR.FLOOR, 0x84, [], .RW, .A, .expert⟩,
   ⟨fun _ _ _ => SYS.SPEED_STATUS.LOW_SEEN, 0x88, [], .W1C, .A, .basic⟩,
   ⟨fun n _ _ => SYS.SPEED.COUNT n, 0x90, [(8, 0x4)], .RO, .C, .basic⟩,
   ⟨fun n _ _ => SYS.SPEED.VALID n, 0x90, [(8, 0x4)], .RO, .C, .basic⟩,
   ⟨fun n _ _ => SYS.SPEED.BELOW_FLOOR n, 0x90, [(8, 0x4)], .RO, .C, .basic⟩,
   ⟨fun n _ _ => SYS.SPEED.SEQ n, 0x90, [(8, 0x4)], .RO, .C, .basic⟩,
   ⟨fun _ _ _ => SYS.STATUS.RUN, 0x10, [], .RO, .C, .basic⟩,
   ⟨fun _ _ _ => SYS.STATUS.FORCED, 0x10, [], .RO, .C, .basic⟩,
   ⟨fun _ _ _ => SYS.STATUS.HELD, 0x10, [], .RO, .C, .basic⟩,
   ⟨fun _ _ _ => SYS.STATUS.FERRY_ACTIVE, 0x10, [], .RO, .C, .basic⟩,
   ⟨fun _ _ _ => SYS.STATUS.STOP_CAUSE, 0x10, [], .RO, .C, .basic⟩,
   ⟨fun _ _ _ => SYS.CMD.OP, 0x20, [], .WO, .C, .basic⟩,
   ⟨fun _ _ _ => SYS.CMD.TASK, 0x20, [], .WO, .C, .basic⟩,
   ⟨fun _ _ _ => SYS.CMD.PRIV, 0x20, [], .WO, .C, .basic⟩,
   ⟨fun _ _ _ => SYS.CMD.SESSION, 0x20, [], .WO, .C, .basic⟩,
   ⟨fun _ _ _ => SYS.CMD_STATUS.PENDING, 0x24, [], .RO, .C, .basic⟩,
   ⟨fun _ _ _ => SYS.CMD_STATUS.STATUS, 0x24, [], .RO, .C, .basic⟩,
   ⟨fun _ _ _ => SYS.CMD_STATUS.REASON, 0x24, [], .RO, .C, .basic⟩,
   ⟨fun _ _ _ => SYS.RUN_CFG.AUTOSTART, 0x28, [], .RW, .P, .basic⟩,
   ⟨fun _ _ _ => SYS.IDENT.FAMILY, 0x0, [], .RO, .P, .basic⟩,
   ⟨fun _ _ _ => SYS.IDENT.HW_REV, 0x0, [], .RO, .P, .basic⟩,
   ⟨fun _ _ _ => SYS.IDENT.VARIANT, 0x0, [], .RO, .P, .basic⟩]

/-- The register table of PWR. -/
def rowsPWR : List FieldRow :=
  [⟨fun _ _ _ => PWR.SETUP_LOCK.CLOSED, 0x0, [], .W1S, .D, .basic⟩,
   ⟨fun _ _ _ => PWR.QUIESCE_TIME.US, 0x4, [], .RWS, .D, .expert⟩,
   ⟨fun _ _ _ => PWR.PMBUS_ERRORS.NACK, 0x8, [], .RO, .C, .expert⟩,
   ⟨fun _ _ _ => PWR.PMBUS_ERRORS.PEC, 0x8, [], .RO, .C, .expert⟩,
   ⟨fun _ _ _ => PWR.ACCESS_DOWN.COUNT, 0xC, [], .RO, .C, .basic⟩,
   ⟨fun _ _ _ => PWR.ACCESS_DOWN.INITIATOR, 0xC, [], .RO, .C, .basic⟩,
   ⟨fun _ _ _ => PWR.ACCESS_DOWN.DOMAIN, 0xC, [], .RO, .C, .basic⟩,
   ⟨fun _ _ _ => PWR.D6_CHANNELS_OFF.CHANNELS, 0x10, [], .RO, .C, .basic⟩,
   ⟨fun d _ _ => PWR.D_CFG.AUTO d, 0x100, [(8, 0x80)], .RW, .D, .basic⟩,
   ⟨fun d _ _ => PWR.D_CFG.AUTO_OFF d, 0x100, [(8, 0x80)], .RW, .D, .expert⟩,
   ⟨fun d _ _ => PWR.D_CFG.CONTEXT_SAVE d, 0x100, [(8, 0x80)], .RW, .D, .expert⟩,
   ⟨fun d _ _ => PWR.D_CFG.RUN_ENTRY d, 0x100, [(8, 0x80)], .RW, .D, .expert⟩,
   ⟨fun d _ _ => PWR.D_CFG.IDLE_TIME d, 0x100, [(8, 0x80)], .RW, .D, .basic⟩,
   ⟨fun d _ _ => PWR.D_REQ.STATE d, 0x104, [(8, 0x80)], .WO, .C, .basic⟩,
   ⟨fun d _ _ => PWR.D_REQ.RAIL d, 0x104, [(8, 0x80)], .WO, .C, .basic⟩,
   ⟨fun d _ _ => PWR.D_STATUS.STATE d, 0x108, [(8, 0x80)], .RO, .C, .basic⟩,
   ⟨fun d _ _ => PWR.D_STATUS.RAIL d, 0x108, [(8, 0x80)], .RO, .C, .basic⟩,
   ⟨fun d _ _ => PWR.D_STATUS.BUSY d, 0x108, [(8, 0x80)], .RO, .C, .basic⟩,
   ⟨fun d _ _ => PWR.D_STATUS.PENDING d, 0x108, [(8, 0x80)], .RO, .C, .basic⟩,
   ⟨fun d _ _ => PWR.D_STATUS.SAVED d, 0x108, [(8, 0x80)], .RO, .C, .basic⟩,
   ⟨fun d _ _ => PWR.D_STATUS.STAGE d, 0x108, [(8, 0x80)], .RO, .C, .expert⟩,
   ⟨fun d _ _ => PWR.D_STATUS.FAILED_STAGE d, 0x108, [(8, 0x80)], .RO, .C, .basic⟩,
   ⟨fun d _ _ => PWR.D_STATUS.LAST_STATUS d, 0x108, [(8, 0x80)], .RO, .C, .basic⟩,
   ⟨fun d _ _ => PWR.D_STATUS.LAST_REASON d, 0x108, [(8, 0x80)], .RO, .C, .basic⟩,
   ⟨fun d _ _ => PWR.D_VOTE.VOTES d, 0x10C, [(8, 0x80)], .RO, .C, .basic⟩,
   ⟨fun d _ _ => PWR.D_VOTE_SET.SET d, 0x110, [(8, 0x80)], .WO, .C, .basic⟩,
   ⟨fun d _ _ => PWR.D_VOTE_CLEAR.CLEAR d, 0x114, [(8, 0x80)], .WO, .C, .basic⟩,
   ⟨fun d _ _ => PWR.D_COUNTS.REFUSED d, 0x118, [(8, 0x80)], .RO, .C, .basic⟩,
   ⟨fun d _ _ => PWR.D_COUNTS.ABORTED d, 0x118, [(8, 0x80)], .RO, .C, .basic⟩,
   ⟨fun d _ _ => PWR.D_ENTRIES.ENTRIES d, 0x11C, [(8, 0x80)], .RO, .C, .basic⟩,
   ⟨fun d _ _ => PWR.D_ENTRIES.WAKE_IN_ENTRY d, 0x11C, [(8, 0x80)], .RO, .C, .basic⟩,
   ⟨fun d _ _ => PWR.D_LAST_REFUSER.ID d, 0x120, [(8, 0x80)], .RO, .C, .basic⟩,
   ⟨fun d _ _ => PWR.D_LAST_REFUSER.ABORT d, 0x120, [(8, 0x80)], .RO, .C, .basic⟩,
   ⟨fun d _ _ => PWR.D_LAST_REFUSER.VALID d, 0x120, [(8, 0x80)], .RO, .C, .basic⟩,
   ⟨fun d _ _ => PWR.D_CLEAR.ACCOUNTS d, 0x124, [(8, 0x80)], .WO, .C, .expert⟩,
   ⟨fun d j _ => PWR.D_REFUSER.ID d j, 0x140, [(8, 0x80), (8, 0x4)], .RO, .C, .basic⟩,
   ⟨fun d j _ => PWR.D_REFUSER.VALID d j, 0x140, [(8, 0x80), (8, 0x4)], .RO, .C, .basic⟩,
   ⟨fun d j _ => PWR.D_REFUSER.COUNT d j, 0x140, [(8, 0x80), (8, 0x4)], .RO, .C, .basic⟩]

/-- The register table of RST. -/
def rowsRST : List FieldRow :=
  [⟨fun _ _ _ => RST.SETUP_LOCK.CLOSED, 0x0, [], .W1S, .D, .basic⟩,
   ⟨fun _ _ _ => RST.CAUSE.KIND, 0x4, [], .RO, .C, .basic⟩,
   ⟨fun _ _ _ => RST.CAUSE.SOURCE, 0x4, [], .RO, .C, .basic⟩,
   ⟨fun _ _ _ => RST.CMD.OP, 0x8, [], .WO, .C, .basic⟩,
   ⟨fun _ _ _ => RST.CMD.TARGET, 0x8, [], .WO, .C, .basic⟩,
   ⟨fun _ _ _ => RST.CMD.PRIV, 0x8, [], .WO, .C, .basic⟩,
   ⟨fun _ _ _ => RST.CMD.SESSION, 0x8, [], .WO, .C, .basic⟩,
   ⟨fun _ _ _ => RST.CMD_STATUS.PENDING, 0xC, [], .RO, .C, .basic⟩,
   ⟨fun _ _ _ => RST.CMD_STATUS.STATUS, 0xC, [], .RO, .C, .basic⟩,
   ⟨fun _ _ _ => RST.CMD_STATUS.REASON, 0xC, [], .RO, .C, .basic⟩,
   ⟨fun _ _ _ => RST.WDT_CFG.ENABLE, 0x10, [], .W1S, .C, .basic⟩,
   ⟨fun _ _ _ => RST.WDT_CFG.ACTION, 0x10, [], .RW, .C, .basic⟩,
   ⟨fun _ _ _ => RST.WDT_CFG.FEEDER, 0x10, [], .RW, .C, .basic⟩,
   ⟨fun _ _ _ => RST.WDT_TIMEOUT.MS, 0x14, [], .RW, .C, .basic⟩,
   ⟨fun _ _ _ => RST.WDT_KICK.KEY, 0x18, [], .WO, .C, .basic⟩,
   ⟨fun _ _ _ => RST.WDT_STATUS.REMAINING, 0x1C, [], .RO, .C, .basic⟩,
   ⟨fun _ _ _ => RST.WDT_STATUS.BAD_KICKS, 0x1C, [], .RO, .C, .expert⟩,
   ⟨fun _ _ _ => RST.COUNTS_A.POR, 0x20, [], .RO, .P, .basic⟩,
   ⟨fun _ _ _ => RST.COUNTS_A.MODULE, 0x20, [], .RO, .P, .basic⟩,
   ⟨fun _ _ _ => RST.COUNTS_B.WARM, 0x24, [], .RO, .P, .basic⟩,
   ⟨fun _ _ _ => RST.COUNTS_B.WDT, 0x24, [], .RO, .P, .basic⟩,
   ⟨fun _ _ _ => RST.START_STATUS.STAGE, 0x28, [], .RO, .C, .basic⟩,
   ⟨fun _ _ _ => RST.START_STATUS.DONE, 0x28, [], .RO, .C, .basic⟩,
   ⟨fun _ _ _ => RST.START_STATUS.PASSED, 0x28, [], .RO, .C, .basic⟩,
   ⟨fun _ _ _ => RST.START_LIMIT.SECONDS, 0x2C, [], .RW, .A, .expert⟩]

/-- The register table of BST. -/
def rowsBST : List FieldRow :=
  [⟨fun _ _ _ => BST.SETUP_LOCK.CLOSED, 0x0, [], .W1S, .D, .basic⟩,
   ⟨fun _ _ _ => BST.CMD.OP, 0x4, [], .WO, .C, .basic⟩,
   ⟨fun _ _ _ => BST.CMD.TARGET, 0x4, [], .WO, .C, .basic⟩,
   ⟨fun _ _ _ => BST.CMD_STATUS.BUSY, 0x8, [], .RO, .C, .basic⟩,
   ⟨fun _ _ _ => BST.CMD_STATUS.STATUS, 0x8, [], .RO, .C, .basic⟩,
   ⟨fun _ _ _ => BST.CMD_STATUS.REASON, 0x8, [], .RO, .C, .basic⟩,
   ⟨fun _ _ _ => BST.RESULT.TARGET, 0xC, [], .RO, .C, .basic⟩,
   ⟨fun _ _ _ => BST.RESULT.PASS, 0xC, [], .RO, .C, .basic⟩,
   ⟨fun _ _ _ => BST.RESULT.REPAIRED, 0xC, [], .RO, .C, .basic⟩,
   ⟨fun _ _ _ => BST.FAIL_ADDR_LO.ADDR, 0x10, [], .RO, .C, .expert⟩,
   ⟨fun _ _ _ => BST.FAIL_ADDR_HI.ADDR, 0x14, [], .RO, .C, .expert⟩,
   ⟨fun _ _ _ => BST.SIG_LO.SIG, 0x18, [], .RO, .C, .expert⟩,
   ⟨fun _ _ _ => BST.SIG_HI.SIG, 0x1C, [], .RO, .C, .expert⟩,
   ⟨fun _ _ _ => BST.EXP_LO.EXP, 0x20, [], .RO, .C, .expert⟩,
   ⟨fun _ _ _ => BST.EXP_HI.EXP, 0x24, [], .RO, .C, .expert⟩,
   ⟨fun _ _ _ => BST.PASSED.TARGETS, 0x28, [], .RO, .C, .basic⟩,
   ⟨fun _ _ _ => BST.FAILED.TARGETS, 0x2C, [], .RO, .C, .basic⟩,
   ⟨fun _ _ _ => BST.REPAIRS.ROWS, 0x30, [], .RO, .P, .basic⟩,
   ⟨fun _ _ _ => BST.ROT_CFG.ENABLE, 0x34, [], .RW, .D, .basic⟩,
   ⟨fun _ _ _ => BST.ROT_CFG.INTERVAL, 0x34, [], .RW, .D, .expert⟩,
   ⟨fun _ _ _ => BST.ROT_LEAD.MASK, 0x38, [], .RW, .D, .expert⟩,
   ⟨fun _ _ _ => BST.ROT_TRAIL.MASK, 0x3C, [], .RW, .D, .expert⟩,
   ⟨fun _ _ _ => BST.ROT_ELEMENTS.COUNT, 0x40, [], .RW, .D, .expert⟩,
   ⟨fun _ _ _ => BST.ROT_STATUS.ITEM, 0x44, [], .RO, .C, .basic⟩,
   ⟨fun _ _ _ => BST.ROT_STATUS.ACTIVE, 0x44, [], .RO, .C, .basic⟩,
   ⟨fun _ _ _ => BST.ROT_COUNTS.PASSES, 0x48, [], .RO, .A, .basic⟩,
   ⟨fun _ _ _ => BST.ROT_COUNTS.FAILS, 0x48, [], .RO, .A, .basic⟩,
   ⟨fun _ _ _ => BST.ROT_SKIPS.COUNT, 0x4C, [], .RO, .A, .basic⟩,
   ⟨fun _ _ _ => BST.ROT_SKIPS.LAST_CAUSE, 0x4C, [], .RO, .A, .basic⟩,
   ⟨fun _ _ _ => BST.SVC_RELEASE.CORES, 0x50, [], .W1S, .C, .basic⟩,
   ⟨fun w _ _ => BST.REPORT.DATA w, 0x100, [(32, 0x4)], .RO, .P, .basic⟩]

/-- The register table of PRT. -/
def rowsPRT : List FieldRow :=
  [⟨fun _ _ _ => PRT.CTRL.ENFORCE, 0x0, [], .W1S, .D, .basic⟩,
   ⟨fun _ _ _ => PRT.CMD.OP, 0x4, [], .WO, .C, .basic⟩,
   ⟨fun _ _ _ => PRT.CMD_MASK.INITIATORS, 0x8, [], .RW, .D, .basic⟩,
   ⟨fun _ _ _ => PRT.CMD_STATUS.BUSY, 0xC, [], .RO, .C, .basic⟩,
   ⟨fun _ _ _ => PRT.CMD_STATUS.STATUS, 0xC, [], .RO, .C, .basic⟩,
   ⟨fun _ _ _ => PRT.CMD_STATUS.CAUSE, 0xC, [], .RO, .C, .basic⟩,
   ⟨fun _ _ _ => PRT.RULE_EPOCH.L0, 0x10, [], .RO, .C, .basic⟩,
   ⟨fun _ _ _ => PRT.RULE_EPOCH.L1, 0x10, [], .RO, .C, .basic⟩,
   ⟨fun _ _ _ => PRT.DRAIN.TICKS, 0x14, [], .RO, .C, .expert⟩,
   ⟨fun _ _ _ => PRT.HOLD.TICKS, 0x18, [], .RO, .C, .expert⟩,
   ⟨fun _ _ _ => PRT.OVERLAP.REGION_A, 0x1C, [], .RO, .C, .basic⟩,
   ⟨fun _ _ _ => PRT.OVERLAP.REGION_B, 0x1C, [], .RO, .C, .basic⟩,
   ⟨fun _ _ _ => PRT.FAULT_INFO.INITIATOR, 0x20, [], .RO, .C, .basic⟩,
   ⟨fun _ _ _ => PRT.FAULT_INFO.LEVEL, 0x20, [], .RO, .C, .basic⟩,
   ⟨fun _ _ _ => PRT.FAULT_INFO.KIND, 0x20, [], .RO, .C, .basic⟩,
   ⟨fun _ _ _ => PRT.FAULT_INFO.AS_OWNER, 0x20, [], .RO, .C, .basic⟩,
   ⟨fun _ _ _ => PRT.FAULT_ADDR_LO.ADDR, 0x24, [], .RO, .C, .basic⟩,
   ⟨fun _ _ _ => PRT.FAULT_ADDR_HI.ADDR, 0x28, [], .RO, .C, .basic⟩,
   ⟨fun _ _ _ => PRT.FAULT_COUNT.COUNT, 0x2C, [], .RO, .C, .basic⟩,
   ⟨fun r _ _ => PRT.REGION_BASE_LO.ADDR r, 0x800, [(48, 0x20)], .RW, .D, .basic⟩,
   ⟨fun r _ _ => PRT.REGION_BASE_HI.ADDR r, 0x804, [(48, 0x20)], .RW, .D, .basic⟩,
   ⟨fun r _ _ => PRT.REGION_BASE_HI.ENABLE r, 0x804, [(48, 0x20)], .RW, .D, .basic⟩,
   ⟨fun r _ _ => PRT.REGION_LIMIT_LO.ADDR r, 0x808, [(48, 0x20)], .RW, .D, .basic⟩,
   ⟨fun r _ _ => PRT.REGION_LIMIT_HI.ADDR r, 0x80C, [(48, 0x20)], .RW, .D, .basic⟩,
   ⟨fun r _ _ => PRT.REGION_READ.MASK r, 0x810, [(48, 0x20)], .RW, .D, .basic⟩,
   ⟨fun r _ _ => PRT.REGION_WRITE.MASK r, 0x814, [(48, 0x20)], .RW, .D, .basic⟩,
   ⟨fun n _ _ => PRT.BLOCK_READ.MASK n, 0x1000, [(256, 0x8)], .RW, .D, .basic⟩,
   ⟨fun n _ _ => PRT.BLOCK_WRITE.MASK n, 0x1004, [(256, 0x8)], .RW, .D, .basic⟩,
   ⟨fun i _ _ => PRT.INIT_DEFAULT.PERM i, 0x2000, [(22, 0x4)], .RW, .D, .basic⟩,
   ⟨fun i r _ => PRT.INIT_RULE_BASE_LO.ADDR i r, 0x4000, [(22, 0x100), (16, 0x10)], .RW, .D, .basic⟩,
   ⟨fun i r _ => PRT.INIT_RULE_BASE_HI.ADDR i r, 0x4004, [(22, 0x100), (16, 0x10)], .RW, .D, .basic⟩,
   ⟨fun i r _ => PRT.INIT_RULE_BASE_HI.PERM i r, 0x4004, [(22, 0x100), (16, 0x10)], .RW, .D, .basic⟩,
   ⟨fun i r _ => PRT.INIT_RULE_BASE_HI.ENABLE i r, 0x4004, [(22, 0x100), (16, 0x10)], .RW, .D, .basic⟩,
   ⟨fun i r _ => PRT.INIT_RULE_LIMIT_LO.ADDR i r, 0x4008, [(22, 0x100), (16, 0x10)], .RW, .D, .basic⟩,
   ⟨fun i r _ => PRT.INIT_RULE_LIMIT_HI.ADDR i r, 0x400C, [(22, 0x100), (16, 0x10)], .RW, .D, .basic⟩]

/-- The register table of ARB. -/
def rowsARB : List FieldRow :=
  [⟨fun _ _ _ => ARB.SETUP_LOCK.CLOSED, 0x0, [], .W1S, .D, .basic⟩,
   ⟨fun _ _ _ => ARB.WINDOW.TICKS, 0x4, [], .RWS, .D, .expert⟩,
   ⟨fun _ _ _ => ARB.REVOKE.ENABLE, 0x8, [], .RWS, .D, .expert⟩,
   ⟨fun k _ _ => ARB.CLASS_DEADLINE.TICKS k, 0x80, [(8, 0x4)], .RWS, .D, .expert⟩,
   ⟨fun i _ _ => ARB.INIT_DEADLINE.TICKS i, 0x100, [(22, 0x4)], .RWS, .D, .expert⟩,
   ⟨fun i _ _ => ARB.INIT_QUOTA.GRANTS i, 0x180, [(22, 0x4)], .RWS, .D, .expert⟩,
   ⟨fun t _ _ => ARB.TARGET_LATE.COUNT t, 0x200, [(10, 0x10)], .RO, .C, .basic⟩,
   ⟨fun t _ _ => ARB.TARGET_REVOKES.COUNT t, 0x204, [(10, 0x10)], .RO, .C, .expert⟩,
   ⟨fun t _ _ => ARB.TARGET_MASKED.COUNT t, 0x208, [(10, 0x10)], .RO, .C, .expert⟩,
   ⟨fun t _ _ => ARB.TARGET_PEAK_WAIT.TICKS t, 0x20C, [(10, 0x10)], .RO, .C, .basic⟩,
   ⟨fun t _ _ => ARB.TARGET_PEAK_WAIT.CLEAR t, 0x20C, [(10, 0x10)], .WO, .C, .basic⟩]

/-- The register table of LCK. -/
def rowsLCK : List FieldRow :=
  [⟨fun _ _ _ => LCK.REQUEST.LOCK, 0x4, [], .WO, .C, .basic⟩,
   ⟨fun _ _ _ => LCK.REQUEST.OP, 0x4, [], .WO, .C, .basic⟩,
   ⟨fun _ _ _ => LCK.RESULT.STATUS, 0x8, [], .RO, .C, .basic⟩,
   ⟨fun _ _ _ => LCK.RESULT.REASON, 0x8, [], .RO, .C, .basic⟩,
   ⟨fun _ _ _ => LCK.RESULT.LOCK, 0x8, [], .RO, .C, .basic⟩,
   ⟨fun _ _ _ => LCK.RESULT.WAITING, 0x8, [], .RO, .C, .basic⟩,
   ⟨fun _ _ _ => LCK.BREAK.LOCK, 0xC, [], .WO, .C, .expert⟩,
   ⟨fun _ _ _ => LCK.BREAK.GO, 0xC, [], .WO, .C, .expert⟩,
   ⟨fun _ _ _ => LCK.COUNTS.DEADLOCKS, 0x10, [], .RO, .C, .basic⟩,
   ⟨fun _ _ _ => LCK.COUNTS.BROKEN, 0x10, [], .RO, .C, .basic⟩,
   ⟨fun _ _ _ => LCK.COUNTS.FOREIGN, 0x10, [], .RO, .C, .expert⟩,
   ⟨fun i _ _ => LCK.WAIT.LOCK i, 0x20, [(8, 0x4)], .RO, .C, .expert⟩,
   ⟨fun i _ _ => LCK.WAIT.VALID i, 0x20, [(8, 0x4)], .RO, .C, .expert⟩,
   ⟨fun l _ _ => LCK.LOCK_STATUS.OWNER l, 0x100, [(64, 0x4)], .RO, .C, .basic⟩,
   ⟨fun l _ _ => LCK.LOCK_STATUS.HELD l, 0x100, [(64, 0x4)], .RO, .C, .basic⟩,
   ⟨fun l _ _ => LCK.LOCK_STATUS.BROKEN l, 0x100, [(64, 0x4)], .RO, .C, .basic⟩,
   ⟨fun l _ _ => LCK.LOCK_STATUS.HOLD_EXCEEDED l, 0x100, [(64, 0x4)], .RO, .C, .basic⟩,
   ⟨fun l _ _ => LCK.LOCK_STATUS.WAITERS l, 0x100, [(64, 0x4)], .RO, .C, .basic⟩,
   ⟨fun l _ _ => LCK.LOCK_HOLD_LIMIT.US l, 0x200, [(64, 0x4)], .RW, .D, .expert⟩]

/-- The register table of RNG. -/
def rowsRNG : List FieldRow :=
  [⟨fun _ _ _ => RNG.SETUP_LOCK.CLOSED, 0x0, [], .W1S, .D, .basic⟩,
   ⟨fun _ _ _ => RNG.TAGS.IN_FLIGHT, 0x8, [], .RO, .C, .basic⟩,
   ⟨fun _ _ _ => RNG.TAGS.PEAK, 0x8, [], .RO, .C, .expert⟩,
   ⟨fun _ _ _ => RNG.TAGS.CLEAR_PEAK, 0x8, [], .WO, .C, .expert⟩,
   ⟨fun _ _ _ => RNG.URGENT.RESERVED_TAGS, 0xC, [], .RW, .D, .expert⟩,
   ⟨fun _ _ _ => RNG.URGENT_WINDOW.TICKS, 0x10, [], .RW, .D, .expert⟩,
   ⟨fun _ _ _ => RNG.DB_IGNORED.COUNT, 0x14, [], .RO, .C, .basic⟩,
   ⟨fun _ _ _ => RNG.DB_IGNORED.LAST_RING, 0x14, [], .RO, .C, .basic⟩,
   ⟨fun _ _ _ => RNG.DB_IGNORED.LAST_CAUSE, 0x14, [], .RO, .C, .basic⟩,
   ⟨fun _ _ _ => RNG.DB_IGNORED.CLEAR, 0x14, [], .WO, .C, .basic⟩,
   ⟨fun n _ _ => RNG.RING_DESC_BASE_LO.ADDR n, 0x1000, [(64, 0x40)], .RWS, .D, .basic⟩,
   ⟨fun n _ _ => RNG.RING_DESC_BASE_HI.ADDR n, 0x1004, [(64, 0x40)], .RWS, .D, .basic⟩,
   ⟨fun n _ _ => RNG.RING_DESC_BASE_HI.ENTRIES_LOG2 n, 0x1004, [(64, 0x40)], .RWS, .D, .basic⟩,
   ⟨fun n _ _ => RNG.RING_COMP_BASE_LO.ADDR n, 0x1008, [(64, 0x40)], .RWS, .D, .basic⟩,
   ⟨fun n _ _ => RNG.RING_COMP_BASE_HI.ADDR n, 0x100C, [(64, 0x40)], .RWS, .D, .basic⟩,
   ⟨fun n _ _ => RNG.RING_DOORBELL_LO.ADDR n, 0x1010, [(64, 0x40)], .RWS, .D, .basic⟩,
   ⟨fun n _ _ => RNG.RING_DOORBELL_HI.ADDR n, 0x1014, [(64, 0x40)], .RWS, .D, .basic⟩,
   ⟨fun n _ _ => RNG.RING_CFG.OWNER n, 0x1018, [(64, 0x40)], .RWS, .D, .basic⟩,
   ⟨fun n _ _ => RNG.RING_CFG.ENGINE n, 0x1018, [(64, 0x40)], .RWS, .D, .basic⟩,
   ⟨fun n _ _ => RNG.RING_CFG.NOTIFY_SRC n, 0x1018, [(64, 0x40)], .RW, .D, .basic⟩,
   ⟨fun n _ _ => RNG.RING_CFG.CRIT_ONLY n, 0x1018, [(64, 0x40)], .RWS, .D, .basic⟩,
   ⟨fun n _ _ => RNG.RING_CFG.CONTINUE_ON_FAULT n, 0x1018, [(64, 0x40)], .RW, .D, .expert⟩,
   ⟨fun n _ _ => RNG.RING_CFG.MAX_INFLIGHT n, 0x1018, [(64, 0x40)], .RW, .D, .expert⟩,
   ⟨fun n _ _ => RNG.RING_DEADLINE.DEFAULT n, 0x101C, [(64, 0x40)], .RW, .D, .basic⟩,
   ⟨fun n _ _ => RNG.RING_CTRL.ENABLE n, 0x1020, [(64, 0x40)], .RW, .D, .basic⟩,
   ⟨fun n _ _ => RNG.RING_CTRL.STOP n, 0x1020, [(64, 0x40)], .WO, .D, .basic⟩,
   ⟨fun n _ _ => RNG.RING_CTRL.ABORT n, 0x1020, [(64, 0x40)], .WO, .D, .expert⟩,
   ⟨fun n _ _ => RNG.RING_CTRL.RESUME n, 0x1020, [(64, 0x40)], .WO, .D, .basic⟩,
   ⟨fun n _ _ => RNG.RING_STATUS.STATE n, 0x1024, [(64, 0x40)], .RO, .D, .basic⟩,
   ⟨fun n _ _ => RNG.RING_STATUS.CFG_ERR n, 0x1024, [(64, 0x40)], .RO, .D, .basic⟩,
   ⟨fun n _ _ => RNG.RING_STATUS.CFG_CAUSE n, 0x1024, [(64, 0x40)], .RO, .D, .basic⟩,
   ⟨fun n _ _ => RNG.RING_STATUS.TAGS_HELD n, 0x1024, [(64, 0x40)], .RO, .D, .expert⟩,
   ⟨fun n _ _ => RNG.RING_INDEX.CONS n, 0x1028, [(64, 0x40)], .RO, .D, .basic⟩,
   ⟨fun n _ _ => RNG.RING_INDEX.PROD n, 0x1028, [(64, 0x40)], .RO, .D, .basic⟩,
   ⟨fun n _ _ => RNG.RING_FAULT.REASON n, 0x102C, [(64, 0x40)], .RO, .D, .basic⟩,
   ⟨fun n _ _ => RNG.RING_FAULT.STATUS n, 0x102C, [(64, 0x40)], .RO, .D, .basic⟩,
   ⟨fun n _ _ => RNG.RING_FAULT.INDEX n, 0x102C, [(64, 0x40)], .RO, .D, .basic⟩]

/-- The register table of EVT. -/
def rowsEVT : List FieldRow :=
  [⟨fun s _ _ => EVT.ROUTE.TARGETS s, 0x1000, [(256, 0x4)], .RW, .D, .basic⟩,
   ⟨fun n _ _ => EVT.ERING_BASE_LO.ADDR n, 0x3000, [(4, 0x20)], .RW, .D, .basic⟩,
   ⟨fun n _ _ => EVT.ERING_BASE_HI.ADDR n, 0x3004, [(4, 0x20)], .RW, .D, .basic⟩,
   ⟨fun n _ _ => EVT.ERING_BASE_HI.ENTRIES_LOG2 n, 0x3004, [(4, 0x20)], .RW, .D, .basic⟩,
   ⟨fun n _ _ => EVT.ERING_BASE_HI.ENABLE n, 0x3004, [(4, 0x20)], .RW, .D, .basic⟩,
   ⟨fun n _ _ => EVT.ERING_HEAD_LO.ADDR n, 0x3008, [(4, 0x20)], .RW, .D, .basic⟩,
   ⟨fun n _ _ => EVT.ERING_HEAD_HI.ADDR n, 0x300C, [(4, 0x20)], .RW, .D, .basic⟩,
   ⟨fun n _ _ => EVT.ERING_STATUS.WRITE_INDEX n, 0x3010, [(4, 0x20)], .RO, .D, .basic⟩,
   ⟨fun n _ _ => EVT.ERING_STATUS.OVERFLOW n, 0x3010, [(4, 0x20)], .W1C, .D, .basic⟩,
   ⟨fun n _ _ => EVT.ERING_LOST.LOST_TOTAL n, 0x3014, [(4, 0x20)], .RO, .D, .basic⟩,
   ⟨fun _ _ _ => EVT.RAISE.SOURCE, 0x10, [], .WO, .C, .expert⟩,
   ⟨fun t w _ => EVT.PEND.BITS t w, 0x2000, [(5, 0x20), (8, 0x4)], .W1C, .C, .basic⟩]

/-- The register table of VOT. -/
def rowsVOT : List FieldRow :=
  [⟨fun _ _ _ => VOT.SETUP_LOCK.CLOSED, 0x0, [], .W1S, .D, .basic⟩,
   ⟨fun _ _ _ => VOT.STATUS.MODE, 0x4, [], .RO, .C, .basic⟩,
   ⟨fun _ _ _ => VOT.STATUS.OUT_CORE, 0x4, [], .RO, .C, .basic⟩,
   ⟨fun _ _ _ => VOT.STATUS.VOTE2_REASON, 0x4, [], .RO, .C, .basic⟩,
   ⟨fun _ _ _ => VOT.STATUS.FAILSTOP, 0x4, [], .RO, .C, .basic⟩,
   ⟨fun _ _ _ => VOT.STATUS.REJOIN_ACTIVE, 0x4, [], .RO, .C, .basic⟩,
   ⟨fun _ _ _ => VOT.STATUS.LEAD_BARRED, 0x4, [], .RO, .C, .basic⟩,
   ⟨fun _ _ _ => VOT.STATUS.DEBUG_SEEN, 0x4, [], .RO, .C, .basic⟩,
   ⟨fun _ _ _ => VOT.CMD.OP, 0x8, [], .WO, .C, .basic⟩,
   ⟨fun _ _ _ => VOT.CMD.CORE, 0x8, [], .WO, .C, .basic⟩,
   ⟨fun _ _ _ => VOT.CMD_STATUS.PENDING, 0xC, [], .RO, .C, .basic⟩,
   ⟨fun _ _ _ => VOT.CMD_STATUS.STATUS, 0xC, [], .RO, .C, .basic⟩,
   ⟨fun _ _ _ => VOT.DRAM_WINDOW.BASE, 0x10, [], .RWS, .D, .basic⟩,
   ⟨fun _ _ _ => VOT.KEAFY_CTRL.U_TICK, 0x14, [], .RW, .D, .expert⟩,
   ⟨fun _ _ _ => VOT.LATENT_LIMIT.LIMIT, 0x18, [], .RW, .D, .expert⟩,
   ⟨fun _ _ _ => VOT.DEBUG_CTRL.ALLOW, 0x1C, [], .RW, .D, .expert⟩,
   ⟨fun _ _ _ => VOT.DEBUG_CTRL.ALLOW_LEAD, 0x1C, [], .RW, .D, .expert⟩,
   ⟨fun _ _ _ => VOT.DEBUG_CTRL.REF, 0x1C, [], .RW, .D, .expert⟩,
   ⟨fun _ _ _ => VOT.CMP_TEST.DONE, 0x20, [], .RO, .C, .basic⟩,
   ⟨fun _ _ _ => VOT.CMP_TEST.FAIL, 0x20, [], .RO, .C, .basic⟩,
   ⟨fun _ _ _ => VOT.CMP_TEST.DETECTED, 0x20, [], .RO, .C, .expert⟩,
   ⟨fun c _ _ => VOT.MINORITY.EGRESS c, 0x30, [(3, 0x4)], .RO, .A, .basic⟩,
   ⟨fun c _ _ => VOT.MINORITY.LATENT c, 0x30, [(3, 0x4)], .RO, .A, .basic⟩,
   ⟨fun c _ _ => VOT.MINORITY.LATENT_HOUR c, 0x30, [(3, 0x4)], .RO, .A, .basic⟩,
   ⟨fun _ _ _ => VOT.LAST_EVENT.CORE, 0x40, [], .RO, .A, .basic⟩,
   ⟨fun _ _ _ => VOT.LAST_EVENT.KIND, 0x40, [], .RO, .A, .basic⟩,
   ⟨fun _ _ _ => VOT.LAST_EVENT_TIME.TICK, 0x44, [], .RO, .A, .basic⟩,
   ⟨fun _ _ _ => VOT.LAST_EVENT_ADDR.ADDR, 0x48, [], .RO, .A, .expert⟩]

/-- The register table of CYC. -/
def rowsCYC : List FieldRow :=
  [⟨fun _ _ _ => CYC.SETUP_LOCK.CLOSED, 0x0, [], .W1S, .D, .basic⟩,
   ⟨fun _ _ _ => CYC.BASE.N, 0x4, [], .RWS, .D, .basic⟩,
   ⟨fun _ _ _ => CYC.CYCLE_LO.NUMBER, 0x8, [], .RO, .D, .basic⟩,
   ⟨fun _ _ _ => CYC.CYCLE_HI.NUMBER, 0xC, [], .RO, .D, .basic⟩,
   ⟨fun _ _ _ => CYC.PROGRAM_GEN.GEN, 0x10, [], .RWS, .A, .basic⟩,
   ⟨fun _ _ _ => CYC.CROSS_BUDGET.TICKS, 0x14, [], .RW, .D, .expert⟩,
   ⟨fun _ _ _ => CYC.CROSS_MAX_DEFER.CYCLES, 0x18, [], .RW, .D, .expert⟩,
   ⟨fun _ _ _ => CYC.FERRY_STATUS.STATE, 0x1C, [], .RO, .C, .basic⟩,
   ⟨fun _ _ _ => CYC.FERRY_STATUS.LAST_BLOCK, 0x1C, [], .RO, .C, .basic⟩,
   ⟨fun _ _ _ => CYC.FERRY_STATUS.DEFERRALS, 0x1C, [], .RO, .C, .basic⟩,
   ⟨fun _ _ _ => CYC.FERRY_DIRTY.DIRTY, 0x20, [], .RO, .C, .basic⟩,
   ⟨fun _ _ _ => CYC.FORCE_STATUS.ENTRIES, 0x24, [], .RO, .C, .basic⟩,
   ⟨fun _ _ _ => CYC.TASK_DEBUG_LO.ENABLE, 0x28, [], .RWS, .D, .expert⟩,
   ⟨fun _ _ _ => CYC.TASK_DEBUG_HI.ENABLE, 0x2C, [], .RWS, .D, .expert⟩,
   ⟨fun _ _ _ => CYC.TASK_HOLD_LO.HOLD, 0x30, [], .RO, .C, .basic⟩,
   ⟨fun _ _ _ => CYC.TASK_HOLD_HI.HOLD, 0x34, [], .RO, .C, .basic⟩,
   ⟨fun k _ _ => CYC.CLASS_CFG.ENABLE k, 0x100, [(8, 0x20)], .RWS, .D, .basic⟩,
   ⟨fun k _ _ => CYC.CLASS_CFG.EXP k, 0x100, [(8, 0x20)], .RWS, .D, .basic⟩,
   ⟨fun k _ _ => CYC.CLASS_CFG.OVERRUN_ACTION k, 0x100, [(8, 0x20)], .RW, .D, .expert⟩,
   ⟨fun k _ _ => CYC.CLASS_CFG.OVERRUN_LIMIT k, 0x100, [(8, 0x20)], .RW, .D, .expert⟩,
   ⟨fun k _ _ => CYC.CLASS_STATUS.PHASE k, 0x104, [(8, 0x20)], .RO, .C, .basic⟩,
   ⟨fun k _ _ => CYC.CLASS_STATUS.CONSEC k, 0x104, [(8, 0x20)], .RO, .C, .basic⟩,
   ⟨fun k _ _ => CYC.CLASS_OVERRUNS.COUNT k, 0x108, [(8, 0x20)], .RO, .A, .basic⟩,
   ⟨fun k _ _ => CYC.CLASS_EXEC_MAX.TICKS k, 0x10C, [(8, 0x20)], .RO, .C, .basic⟩,
   ⟨fun k _ _ => CYC.CLASS_EXEC_MAX.CLEAR k, 0x10C, [(8, 0x20)], .WO, .C, .basic⟩,
   ⟨fun k _ _ => CYC.CLASS_EXEC_LAST.TICKS k, 0x110, [(8, 0x20)], .RO, .C, .basic⟩,
   ⟨fun w _ _ => CYC.OUT_OWNER.OWNER w 0, 0x1000, [(128, 0x4)], .RW, .D, .basic⟩,
   ⟨fun w _ _ => CYC.OUT_OWNER.OWNER w 1, 0x1000, [(128, 0x4)], .RW, .D, .basic⟩,
   ⟨fun w _ _ => CYC.OUT_OWNER.OWNER w 2, 0x1000, [(128, 0x4)], .RW, .D, .basic⟩,
   ⟨fun w _ _ => CYC.OUT_OWNER.OWNER w 3, 0x1000, [(128, 0x4)], .RW, .D, .basic⟩,
   ⟨fun w _ _ => CYC.OUT_OWNER.OWNER w 4, 0x1000, [(128, 0x4)], .RW, .D, .basic⟩,
   ⟨fun w _ _ => CYC.OUT_OWNER.OWNER w 5, 0x1000, [(128, 0x4)], .RW, .D, .basic⟩,
   ⟨fun w _ _ => CYC.OUT_OWNER.OWNER w 6, 0x1000, [(128, 0x4)], .RW, .D, .basic⟩,
   ⟨fun w _ _ => CYC.OUT_OWNER.OWNER w 7, 0x1000, [(128, 0x4)], .RW, .D, .basic⟩]

/-- The register table of FLD. -/
def rowsFLD : List FieldRow :=
  [⟨fun _ _ _ => FLD.SETUP_LOCK.CLOSED, 0x0, [], .W1S, .D, .basic⟩,
   ⟨fun _ _ _ => FLD.ETHERTYPE.VALUE, 0x4, [], .RWS, .D, .expert⟩,
   ⟨fun _ _ _ => FLD.STATION_TABLE_LO.ADDR, 0x8, [], .RWS, .D, .basic⟩,
   ⟨fun _ _ _ => FLD.STATION_TABLE_HI.ADDR, 0xC, [], .RWS, .D, .basic⟩,
   ⟨fun _ _ _ => FLD.MGMT_TIMEOUT.TICKS, 0x10, [], .RW, .D, .expert⟩,
   ⟨fun c _ _ => FLD.CROSS_CFG.ENABLE c, 0x100, [(4, 0x40)], .RWS, .D, .basic⟩,
   ⟨fun c _ _ => FLD.CROSS_CFG.RATE_MODE c, 0x100, [(4, 0x40)], .RW, .D, .expert⟩,
   ⟨fun c _ _ => FLD.CROSS_CFG.CFG_CAUSE c, 0x100, [(4, 0x40)], .RO, .D, .basic⟩,
   ⟨fun c _ _ => FLD.CROSS_CFG.POSITIONS c, 0x100, [(4, 0x40)], .RWS, .D, .basic⟩,
   ⟨fun c _ _ => FLD.CROSS_STATUS.LINK c, 0x104, [(4, 0x40)], .RO, .C, .basic⟩,
   ⟨fun c _ _ => FLD.CROSS_STATUS.RATE c, 0x104, [(4, 0x40)], .RO, .C, .basic⟩,
   ⟨fun c _ _ => FLD.CROSS_STATUS.BREAK c, 0x104, [(4, 0x40)], .RO, .C, .basic⟩,
   ⟨fun c _ _ => FLD.CROSS_STATUS.RELAY c, 0x104, [(4, 0x40)], .RO, .C, .basic⟩,
   ⟨fun c _ _ => FLD.CROSS_STATUS.BREAK_SEGMENT c, 0x104, [(4, 0x40)], .RO, .C, .basic⟩,
   ⟨fun c _ _ => FLD.CROSS_STATUS.ADMITTED c, 0x104, [(4, 0x40)], .RO, .C, .basic⟩,
   ⟨fun c _ _ => FLD.CROSS_FCS_ERRORS.COUNT c, 0x108, [(4, 0x40)], .RO, .C, .basic⟩,
   ⟨fun c _ _ => FLD.CROSS_PAIR_ERRORS.COUNT c, 0x10C, [(4, 0x40)], .RO, .C, .basic⟩,
   ⟨fun c _ _ => FLD.CROSS_DISCARDS.COUNT c, 0x110, [(4, 0x40)], .RO, .C, .expert⟩,
   ⟨fun c _ _ => FLD.CROSS_STALE_COUNT.COUNT c, 0x114, [(4, 0x40)], .RO, .C, .basic⟩,
   ⟨fun c _ _ => FLD.CROSS_HIGH_EPOCH.EPOCH c, 0x118, [(4, 0x40)], .RO, .C, .basic⟩,
   ⟨fun c _ _ => FLD.CROSS_DOWN_SEQ.SEQUENCE c, 0x11C, [(4, 0x40)], .RO, .C, .expert⟩]

/-- The register table of PIM. -/
def rowsPIM : List FieldRow :=
  [⟨fun _ _ _ => PIM.SETUP_LOCK.CLOSED, 0x0, [], .W1S, .D, .basic⟩,
   ⟨fun _ _ _ => PIM.OUTPUT_PAIR_FAULTS.COUNT, 0x8, [], .RO, .C, .basic⟩,
   ⟨fun _ _ _ => PIM.VERSION_ECC.COUNT, 0xC, [], .RO, .C, .expert⟩,
   ⟨fun w _ _ => PIM.VALID.VALID w, 0x100, [(64, 0x4)], .RO, .C, .basic⟩]

/-- The register table of FIO. -/
def rowsFIO : List FieldRow :=
  [⟨fun _ _ _ => FIO.SETUP_LOCK.CLOSED, 0x0, [], .W1S, .D, .basic⟩,
   ⟨fun _ _ _ => FIO.CTRL.ENABLE, 0x4, [], .RWS, .D, .basic⟩,
   ⟨fun _ _ _ => FIO.CTRL.CFG_ERR, 0x4, [], .RO, .D, .basic⟩,
   ⟨fun _ _ _ => FIO.CTRL.CFG_CAUSE, 0x4, [], .RO, .D, .basic⟩,
   ⟨fun _ _ _ => FIO.IMAGE.IN_BASE, 0x8, [], .RWS, .D, .basic⟩,
   ⟨fun _ _ _ => FIO.IMAGE.OUT_BASE, 0x8, [], .RWS, .D, .basic⟩,
   ⟨fun _ _ _ => FIO.WB_TIME.MS, 0xC, [], .RW, .D, .expert⟩,
   ⟨fun g _ _ => FIO.GROUP_CFG.RESUME g, 0x40, [(4, 0x10)], .RW, .D, .basic⟩,
   ⟨fun g _ _ => FIO.GROUP_CFG.AUTO_RETRY g, 0x40, [(4, 0x10)], .RW, .D, .expert⟩,
   ⟨fun g _ _ => FIO.GROUP_STATUS.STATE g, 0x44, [(4, 0x10)], .RO, .C, .basic⟩,
   ⟨fun g _ _ => FIO.GROUP_STATUS.RECOVERING g, 0x44, [(4, 0x10)], .RO, .C, .basic⟩,
   ⟨fun g _ _ => FIO.GROUP_STATUS.AWAIT_ACK g, 0x44, [(4, 0x10)], .RO, .C, .basic⟩,
   ⟨fun g _ _ => FIO.GROUP_STATUS.VOLTAGE g, 0x44, [(4, 0x10)], .RO, .C, .basic⟩,
   ⟨fun g _ _ => FIO.GROUP_ACK.ACK g, 0x48, [(4, 0x10)], .WO, .C, .basic⟩,
   ⟨fun g _ _ => FIO.GROUP_COUNTS.UNDER g, 0x4C, [(4, 0x10)], .RO, .C, .expert⟩,
   ⟨fun g _ _ => FIO.GROUP_COUNTS.LOST g, 0x4C, [(4, 0x10)], .RO, .C, .expert⟩,
   ⟨fun n _ _ => FIO.CH_CFG.DIR n, 0x100, [(32, 0x10)], .RWS, .D, .basic⟩,
   ⟨fun n _ _ => FIO.CH_CFG.TYPE n, 0x100, [(32, 0x10)], .RWS, .D, .basic⟩,
   ⟨fun n _ _ => FIO.CH_CFG.FILTER_KIND n, 0x100, [(32, 0x10)], .RW, .D, .basic⟩,
   ⟨fun n _ _ => FIO.CH_CFG.WB_ENABLE n, 0x100, [(32, 0x10)], .RW, .D, .basic⟩,
   ⟨fun n _ _ => FIO.CH_CFG.OUT_SOURCE n, 0x100, [(32, 0x10)], .RWS, .D, .basic⟩,
   ⟨fun n _ _ => FIO.CH_CFG.STOP_VALUE n, 0x100, [(32, 0x10)], .RW, .D, .basic⟩,
   ⟨fun n _ _ => FIO.CH_CFG.INT_SHIFT n, 0x100, [(32, 0x10)], .RW, .D, .expert⟩,
   ⟨fun n _ _ => FIO.CH_CFG.INT_LIMIT n, 0x100, [(32, 0x10)], .RW, .D, .expert⟩,
   ⟨fun n _ _ => FIO.CH_DEBOUNCE.US n, 0x104, [(32, 0x10)], .RW, .D, .basic⟩,
   ⟨fun n _ _ => FIO.CH_STATUS.STATE n, 0x108, [(32, 0x10)], .RO, .C, .basic⟩,
   ⟨fun n _ _ => FIO.CH_STATUS.RAW n, 0x108, [(32, 0x10)], .RO, .C, .basic⟩,
   ⟨fun n _ _ => FIO.CH_STATUS.READBACK n, 0x108, [(32, 0x10)], .RO, .C, .basic⟩,
   ⟨fun n _ _ => FIO.CH_STATUS.VALID n, 0x108, [(32, 0x10)], .RO, .C, .basic⟩,
   ⟨fun n _ _ => FIO.CH_STATUS.WIRE_BREAK n, 0x108, [(32, 0x10)], .RO, .C, .basic⟩,
   ⟨fun n _ _ => FIO.CH_STATUS.LATCHED_OFF n, 0x108, [(32, 0x10)], .RO, .C, .basic⟩,
   ⟨fun n _ _ => FIO.CH_STATUS.DIAG n, 0x108, [(32, 0x10)], .RO, .C, .basic⟩,
   ⟨fun n _ _ => FIO.CH_STATUS.PARTNER n, 0x108, [(32, 0x10)], .RO, .C, .basic⟩,
   ⟨fun n _ _ => FIO.CH_CLEAR.CLEAR n, 0x10C, [(32, 0x10)], .WO, .C, .basic⟩,
   ⟨fun c _ _ => FIO.CNT_CFG.MODE c, 0x300, [(4, 0x20)], .RWS, .D, .basic⟩,
   ⟨fun c _ _ => FIO.CNT_CFG.INVERT_DIR c, 0x300, [(4, 0x20)], .RW, .D, .basic⟩,
   ⟨fun c _ _ => FIO.CNT_CFG.INDEX_ENABLE c, 0x300, [(4, 0x20)], .RW, .D, .basic⟩,
   ⟨fun c _ _ => FIO.CNT_CFG.INDEX_RESET c, 0x300, [(4, 0x20)], .RW, .D, .expert⟩,
   ⟨fun c _ _ => FIO.CNT_CFG.INDEX_EDGE c, 0x300, [(4, 0x20)], .RW, .D, .expert⟩,
   ⟨fun c _ _ => FIO.CNT_CFG.GLITCH c, 0x300, [(4, 0x20)], .RW, .D, .expert⟩] ++
  [⟨fun c _ _ => FIO.CNT_VALUE.VALUE c, 0x304, [(4, 0x20)], .RO, .C, .basic⟩,
   ⟨fun c _ _ => FIO.CNT_LOAD.VALUE c, 0x308, [(4, 0x20)], .WO, .C, .basic⟩,
   ⟨fun c _ _ => FIO.CNT_INDEX_LATCH.VALUE c, 0x30C, [(4, 0x20)], .RO, .C, .basic⟩,
   ⟨fun c _ _ => FIO.CNT_STATUS.QUAD_ERRORS c, 0x310, [(4, 0x20)], .RO, .C, .basic⟩,
   ⟨fun c _ _ => FIO.CNT_STATUS.INDEX_SEEN c, 0x310, [(4, 0x20)], .W1C, .C, .basic⟩,
   ⟨fun c _ _ => FIO.CNT_STATUS.HELD c, 0x310, [(4, 0x20)], .RO, .C, .basic⟩,
   ⟨fun p _ _ => FIO.PRB_CFG.CHANNEL p, 0x400, [(16, 0x20)], .RW, .D, .basic⟩,
   ⟨fun p _ _ => FIO.PRB_CFG.EDGE p, 0x400, [(16, 0x20)], .RW, .D, .basic⟩,
   ⟨fun p _ _ => FIO.PRB_CFG.SOURCE p, 0x400, [(16, 0x20)], .RW, .D, .expert⟩,
   ⟨fun p _ _ => FIO.PRB_CFG.QUANTITY p, 0x400, [(16, 0x20)], .RW, .D, .basic⟩,
   ⟨fun p _ _ => FIO.PRB_CFG.CONTINUOUS p, 0x400, [(16, 0x20)], .RW, .D, .basic⟩,
   ⟨fun p _ _ => FIO.PRB_CFG.ARM_SRC p, 0x400, [(16, 0x20)], .RW, .D, .expert⟩,
   ⟨fun p _ _ => FIO.PRB_CTRL.ARM p, 0x404, [(16, 0x20)], .WO, .C, .basic⟩,
   ⟨fun p _ _ => FIO.PRB_CTRL.DISARM p, 0x404, [(16, 0x20)], .WO, .C, .basic⟩,
   ⟨fun p _ _ => FIO.PRB_VALUE_LO.VALUE p, 0x408, [(16, 0x20)], .RO, .C, .basic⟩,
   ⟨fun p _ _ => FIO.PRB_VALUE_HI.VALUE p, 0x40C, [(16, 0x20)], .RO, .C, .basic⟩,
   ⟨fun p _ _ => FIO.PRB_STATUS.ARMED p, 0x410, [(16, 0x20)], .RO, .C, .basic⟩,
   ⟨fun p _ _ => FIO.PRB_STATUS.LATCHED p, 0x410, [(16, 0x20)], .W1C, .C, .basic⟩,
   ⟨fun p _ _ => FIO.PRB_STATUS.OVERWRITES p, 0x410, [(16, 0x20)], .RO, .C, .expert⟩]

/-- The register table of SPR. -/
def rowsSPR : List FieldRow :=
  [⟨fun _ _ _ => SPR.SETUP_LOCK.CLOSED, 0x0, [], .W1S, .D, .basic⟩,
   ⟨fun u _ _ => SPR.UNIT_TRIG.KIND u, 0x100, [(16, 0x40)], .RW, .D, .basic⟩,
   ⟨fun u _ _ => SPR.UNIT_TRIG.CHANNEL u, 0x100, [(16, 0x40)], .RW, .D, .basic⟩,
   ⟨fun u _ _ => SPR.UNIT_TRIG.EDGE u, 0x100, [(16, 0x40)], .RW, .D, .basic⟩,
   ⟨fun u _ _ => SPR.UNIT_TRIG.SOURCE u, 0x100, [(16, 0x40)], .RW, .D, .expert⟩,
   ⟨fun u _ _ => SPR.UNIT_TRIG.COUNTER u, 0x100, [(16, 0x40)], .RW, .D, .basic⟩,
   ⟨fun u _ _ => SPR.UNIT_TRIG.DIRECTION u, 0x100, [(16, 0x40)], .RW, .D, .basic⟩,
   ⟨fun u _ _ => SPR.UNIT_TRIG.CHAIN_UNIT u, 0x100, [(16, 0x40)], .RW, .D, .expert⟩,
   ⟨fun u _ _ => SPR.UNIT_ACTION.OUT_CHANNEL u, 0x104, [(16, 0x40)], .RW, .D, .basic⟩,
   ⟨fun u _ _ => SPR.UNIT_ACTION.KIND u, 0x104, [(16, 0x40)], .RW, .D, .basic⟩,
   ⟨fun u _ _ => SPR.UNIT_ACTION.TIMING u, 0x104, [(16, 0x40)], .RW, .D, .basic⟩,
   ⟨fun u _ _ => SPR.UNIT_ACTION.ONCE u, 0x104, [(16, 0x40)], .RW, .D, .basic⟩,
   ⟨fun u _ _ => SPR.UNIT_ACTION.ARM_SRC u, 0x104, [(16, 0x40)], .RW, .D, .basic⟩,
   ⟨fun u _ _ => SPR.UNIT_ACTION.PARAM_SRC u, 0x104, [(16, 0x40)], .RW, .D, .basic⟩,
   ⟨fun u _ _ => SPR.UNIT_ACTION.NOTIFY u, 0x104, [(16, 0x40)], .RW, .D, .basic⟩,
   ⟨fun u _ _ => SPR.UNIT_ACTION.RUN_IN_STOP u, 0x104, [(16, 0x40)], .RW, .D, .expert⟩,
   ⟨fun u _ _ => SPR.UNIT_PARAM.PARAM u, 0x108, [(16, 0x40)], .RW, .D, .basic⟩,
   ⟨fun u _ _ => SPR.UNIT_PATTERN_VALUE.VALUE u, 0x10C, [(16, 0x40)], .RW, .D, .expert⟩,
   ⟨fun u _ _ => SPR.UNIT_PATTERN_CARE.CARE u, 0x110, [(16, 0x40)], .RW, .D, .expert⟩,
   ⟨fun u _ _ => SPR.UNIT_DELAY.DELAY u, 0x114, [(16, 0x40)], .RW, .D, .basic⟩,
   ⟨fun u _ _ => SPR.UNIT_PULSE.TICKS u, 0x118, [(16, 0x40)], .RW, .D, .basic⟩,
   ⟨fun u _ _ => SPR.UNIT_CTRL.ARM u, 0x11C, [(16, 0x40)], .WO, .C, .basic⟩,
   ⟨fun u _ _ => SPR.UNIT_CTRL.DISARM u, 0x11C, [(16, 0x40)], .WO, .C, .basic⟩,
   ⟨fun u _ _ => SPR.UNIT_CTRL.FLUSH u, 0x11C, [(16, 0x40)], .WO, .C, .basic⟩,
   ⟨fun u _ _ => SPR.UNIT_STATUS.ARMED u, 0x120, [(16, 0x40)], .RO, .C, .basic⟩,
   ⟨fun u _ _ => SPR.UNIT_STATUS.QUEUED u, 0x120, [(16, 0x40)], .RO, .C, .basic⟩,
   ⟨fun u _ _ => SPR.UNIT_STATUS.CFG_ERR u, 0x120, [(16, 0x40)], .RO, .C, .basic⟩,
   ⟨fun u _ _ => SPR.UNIT_STATUS.CFG_CAUSE u, 0x120, [(16, 0x40)], .RO, .C, .basic⟩,
   ⟨fun u _ _ => SPR.UNIT_STATUS.PULSE_ACTIVE u, 0x120, [(16, 0x40)], .RO, .C, .basic⟩,
   ⟨fun u _ _ => SPR.UNIT_FIRED.COUNT u, 0x124, [(16, 0x40)], .RO, .C, .basic⟩,
   ⟨fun u _ _ => SPR.UNIT_LOST.MISSED u, 0x128, [(16, 0x40)], .RO, .C, .basic⟩,
   ⟨fun u _ _ => SPR.UNIT_LOST.SUPPRESSED u, 0x128, [(16, 0x40)], .RO, .C, .basic⟩,
   ⟨fun u _ _ => SPR.UNIT_LAST_LO.TICK u, 0x12C, [(16, 0x40)], .RO, .C, .basic⟩,
   ⟨fun u _ _ => SPR.UNIT_LAST_HI.TICK u, 0x130, [(16, 0x40)], .RO, .C, .basic⟩]

/-- The register table of MOT. -/
def rowsMOT : List FieldRow :=
  [⟨fun _ _ _ => MOT.SETUP_LOCK.CLOSED, 0x0, [], .W1S, .D, .basic⟩,
   ⟨fun _ _ _ => MOT.CTRL.ENABLE, 0x4, [], .RWS, .D, .basic⟩,
   ⟨fun _ _ _ => MOT.CTRL.CFG_ERR, 0x4, [], .RO, .D, .basic⟩,
   ⟨fun _ _ _ => MOT.CTRL.CFG_CAUSE, 0x4, [], .RO, .D, .basic⟩,
   ⟨fun _ _ _ => MOT.AXIS_TABLE_LO.ADDR, 0x8, [], .RWS, .D, .basic⟩,
   ⟨fun _ _ _ => MOT.AXIS_TABLE_HI.ADDR, 0xC, [], .RWS, .D, .basic⟩,
   ⟨fun _ _ _ => MOT.CAM_DIR_LO.ADDR, 0x10, [], .RWS, .D, .basic⟩,
   ⟨fun _ _ _ => MOT.CAM_DIR_HI.ADDR, 0x14, [], .RWS, .D, .basic⟩,
   ⟨fun _ _ _ => MOT.APPLY_OFFSET.NS, 0x18, [], .RW, .D, .expert⟩,
   ⟨fun _ _ _ => MOT.EXTERNAL_LEAD.CYCLES, 0x1C, [], .RW, .D, .expert⟩,
   ⟨fun _ _ _ => MOT.PASS_STATUS.LAST, 0x20, [], .RO, .C, .basic⟩,
   ⟨fun _ _ _ => MOT.PASS_STATUS.MAX, 0x20, [], .RO, .C, .basic⟩,
   ⟨fun _ _ _ => MOT.PASS_CTRL.CLEAR_MAX, 0x24, [], .WO, .C, .basic⟩,
   ⟨fun _ _ _ => MOT.COMMIT_WAITS.COUNT, 0x28, [], .RO, .C, .expert⟩,
   ⟨fun _ _ _ => MOT.AXES.PRESENT, 0x2C, [], .RO, .C, .basic⟩,
   ⟨fun _ _ _ => MOT.AXES.FAULTED, 0x2C, [], .RO, .C, .basic⟩,
   ⟨fun w _ _ => MOT.FAULT.AXIS w, 0x40, [(16, 0x4)], .RO, .C, .basic⟩,
   ⟨fun j _ _ => MOT.SHAFT_POS_LO.POS j, 0x100, [(8, 0x10)], .RO, .C, .basic⟩,
   ⟨fun j _ _ => MOT.SHAFT_POS_HI.POS j, 0x104, [(8, 0x10)], .RO, .C, .basic⟩,
   ⟨fun j _ _ => MOT.SHAFT_VEL.VEL j, 0x108, [(8, 0x10)], .RO, .C, .basic⟩,
   ⟨fun j _ _ => MOT.SHAFT_STATE.STATE j, 0x10C, [(8, 0x10)], .RO, .C, .basic⟩]

/-- The register table of LOP. -/
def rowsLOP : List FieldRow :=
  [⟨fun _ _ _ => LOP.SETUP_LOCK.CLOSED, 0x0, [], .W1S, .D, .basic⟩,
   ⟨fun _ _ _ => LOP.CTRL.ENABLE, 0x4, [], .RWS, .D, .basic⟩,
   ⟨fun _ _ _ => LOP.CTRL.CFG_ERR, 0x4, [], .RO, .D, .basic⟩,
   ⟨fun _ _ _ => LOP.CTRL.CFG_CAUSE, 0x4, [], .RO, .D, .basic⟩,
   ⟨fun _ _ _ => LOP.TABLE_LO.ADDR, 0x8, [], .RWS, .D, .basic⟩,
   ⟨fun _ _ _ => LOP.TABLE_HI.ADDR, 0xC, [], .RWS, .D, .basic⟩,
   ⟨fun _ _ _ => LOP.ACTIVE.P, 0x10, [], .RO, .C, .basic⟩,
   ⟨fun _ _ _ => LOP.ACTIVE.AUTO, 0x10, [], .RO, .C, .basic⟩,
   ⟨fun _ _ _ => LOP.BOUND.TICKS, 0x14, [], .RO, .C, .basic⟩,
   ⟨fun _ _ _ => LOP.QUEUE.DEPTH, 0x18, [], .RO, .C, .expert⟩,
   ⟨fun _ _ _ => LOP.QUEUE.PEAK, 0x18, [], .RO, .C, .expert⟩,
   ⟨fun _ _ _ => LOP.QUEUE.CLEAR, 0x18, [], .WO, .C, .expert⟩,
   ⟨fun _ _ _ => LOP.WORST.TICKS, 0x1C, [], .RO, .C, .basic⟩,
   ⟨fun _ _ _ => LOP.WORST.INSTANCE, 0x1C, [], .RO, .C, .basic⟩,
   ⟨fun _ _ _ => LOP.WORST.CLEAR, 0x1C, [], .WO, .C, .basic⟩,
   ⟨fun _ _ _ => LOP.REPLACED.COUNT, 0x20, [], .RO, .C, .expert⟩,
   ⟨fun w _ _ => LOP.FAULT.INSTANCE w, 0x40, [(16, 0x4)], .RO, .C, .basic⟩,
   ⟨fun w _ _ => LOP.SAT.INSTANCE w, 0x80, [(16, 0x4)], .RO, .C, .basic⟩,
   ⟨fun i _ _ => LOP.INST_DELAY.LAST i, 0x1000, [(512, 0x4)], .RO, .C, .basic⟩,
   ⟨fun i _ _ => LOP.INST_DELAY.MAX i, 0x1000, [(512, 0x4)], .RO, .C, .basic⟩]

/-- The register table of CLP. -/
def rowsCLP : List FieldRow :=
  [⟨fun _ _ _ => CLP.SETUP_LOCK.CLOSED, 0x0, [], .W1S, .D, .basic⟩,
   ⟨fun _ _ _ => CLP.CTRL.ENABLE, 0x4, [], .RWS, .D, .basic⟩,
   ⟨fun _ _ _ => CLP.CTRL.CFG_ERR, 0x4, [], .RO, .D, .basic⟩,
   ⟨fun _ _ _ => CLP.CTRL.CFG_CAUSE, 0x4, [], .RO, .D, .basic⟩,
   ⟨fun _ _ _ => CLP.IMAGE.IN_BASE, 0x8, [], .RWS, .D, .basic⟩,
   ⟨fun _ _ _ => CLP.IMAGE.OUT_BASE, 0x8, [], .RWS, .D, .basic⟩,
   ⟨fun _ _ _ => CLP.TABLE_LO.ADDR, 0xC, [], .RWS, .D, .expert⟩,
   ⟨fun _ _ _ => CLP.TABLE_HI.ADDR, 0x10, [], .RWS, .D, .expert⟩,
   ⟨fun n _ _ => CLP.CH_CFG.MODE n, 0x100, [(8, 0x40)], .RWS, .D, .basic⟩,
   ⟨fun n _ _ => CLP.CH_CFG.OUT_SOURCE n, 0x100, [(8, 0x40)], .RWS, .D, .basic⟩,
   ⟨fun n _ _ => CLP.CH_CFG.CHAR n, 0x100, [(8, 0x40)], .RWS, .D, .basic⟩,
   ⟨fun n _ _ => CLP.CH_CFG.LOOP_POWER n, 0x100, [(8, 0x40)], .RW, .D, .basic⟩,
   ⟨fun n _ _ => CLP.CH_CFG.HART_MODE n, 0x100, [(8, 0x40)], .RWS, .D, .basic⟩,
   ⟨fun n _ _ => CLP.CH_CFG.RATE n, 0x100, [(8, 0x40)], .RWS, .D, .basic⟩,
   ⟨fun n _ _ => CLP.CH_CFG.STOP_VALUE n, 0x100, [(8, 0x40)], .RW, .D, .basic⟩,
   ⟨fun n _ _ => CLP.CH_CFG.ALARM_TIME n, 0x100, [(8, 0x40)], .RW, .D, .expert⟩,
   ⟨fun n _ _ => CLP.CH_RANGE_LO.LO n, 0x104, [(8, 0x40)], .RW, .D, .basic⟩,
   ⟨fun n _ _ => CLP.CH_RANGE_HI.HI n, 0x108, [(8, 0x40)], .RW, .D, .basic⟩,
   ⟨fun n _ _ => CLP.CH_CUTOFF.CUTOFF n, 0x10C, [(8, 0x40)], .RW, .D, .expert⟩,
   ⟨fun n _ _ => CLP.CH_ALARM_OUT.LOW n, 0x110, [(8, 0x40)], .RW, .D, .expert⟩,
   ⟨fun n _ _ => CLP.CH_ALARM_OUT.HIGH n, 0x110, [(8, 0x40)], .RW, .D, .expert⟩,
   ⟨fun n _ _ => CLP.CH_SUBST.MA n, 0x114, [(8, 0x40)], .RW, .D, .expert⟩,
   ⟨fun n _ _ => CLP.CH_STATUS.VALID n, 0x118, [(8, 0x40)], .RO, .C, .basic⟩,
   ⟨fun n _ _ => CLP.CH_STATUS.ALARM_LOW n, 0x118, [(8, 0x40)], .RO, .C, .basic⟩,
   ⟨fun n _ _ => CLP.CH_STATUS.ALARM_HIGH n, 0x118, [(8, 0x40)], .RO, .C, .basic⟩,
   ⟨fun n _ _ => CLP.CH_STATUS.RANGE n, 0x118, [(8, 0x40)], .RO, .C, .basic⟩,
   ⟨fun n _ _ => CLP.CH_STATUS.OPEN n, 0x118, [(8, 0x40)], .RO, .C, .basic⟩,
   ⟨fun n _ _ => CLP.CH_STATUS.LOOP_SHORT n, 0x118, [(8, 0x40)], .RO, .C, .basic⟩,
   ⟨fun n _ _ => CLP.CH_STATUS.COMPLIANCE n, 0x118, [(8, 0x40)], .RO, .C, .basic⟩,
   ⟨fun n _ _ => CLP.CH_STATUS.ALARM_NOT_SIGNALLED n, 0x118, [(8, 0x40)], .RO, .C, .basic⟩,
   ⟨fun n _ _ => CLP.CH_STATUS.FAILED n, 0x118, [(8, 0x40)], .RO, .C, .basic⟩,
   ⟨fun n _ _ => CLP.CH_STATUS.HART_BUSY n, 0x118, [(8, 0x40)], .RO, .C, .expert⟩,
   ⟨fun n _ _ => CLP.CH_CURRENT.MA n, 0x11C, [(8, 0x40)], .RO, .C, .basic⟩,
   ⟨fun n _ _ => CLP.CH_VALUE.VALUE n, 0x120, [(8, 0x40)], .RO, .C, .basic⟩,
   ⟨fun n _ _ => CLP.CH_HEADROOM.MV n, 0x124, [(8, 0x40)], .RO, .C, .expert⟩,
   ⟨fun n _ _ => CLP.CH_TRIM.OFFSET n, 0x128, [(8, 0x40)], .RW, .P, .expert⟩,
   ⟨fun n _ _ => CLP.CH_TRIM.GAIN n, 0x128, [(8, 0x40)], .RW, .P, .expert⟩,
   ⟨fun n _ _ => CLP.CH_HART_STATS.FRAMES_OK n, 0x12C, [(8, 0x40)], .RO, .C, .expert⟩,
   ⟨fun n _ _ => CLP.CH_HART_STATS.FRAMES_BAD n, 0x12C, [(8, 0x40)], .RO, .C, .expert⟩]

/-- The register table of PAR. -/
def rowsPAR : List FieldRow :=
  [⟨fun _ _ _ => PAR.SETUP_LOCK.CLOSED, 0x0, [], .W1S, .D, .basic⟩,
   ⟨fun _ _ _ => PAR.CFG.HOME, 0x4, [], .RWS, .P, .basic⟩,
   ⟨fun _ _ _ => PAR.CFG.TAKEBACK, 0x4, [], .RW, .P, .expert⟩,
   ⟨fun _ _ _ => PAR.CFG.UNTETHERED_TAKEOVER, 0x4, [], .RW, .D, .expert⟩,
   ⟨fun _ _ _ => PAR.CFG.DIVERGENCE_LIMIT, 0x4, [], .RW, .D, .expert⟩,
   ⟨fun _ _ _ => PAR.LEASE.TICKS, 0x8, [], .RWS, .D, .basic⟩,
   ⟨fun _ _ _ => PAR.WITNESS_PATH.TICKS, 0xC, [], .RWS, .D, .expert⟩,
   ⟨fun _ _ _ => PAR.WITNESS_CFG.ENABLE, 0x10, [], .RWS, .D, .basic⟩,
   ⟨fun _ _ _ => PAR.WITNESS_CFG.PORT, 0x10, [], .RWS, .D, .basic⟩,
   ⟨fun _ _ _ => PAR.WITNESS_MAC_LO.MAC, 0x14, [], .RWS, .D, .basic⟩,
   ⟨fun _ _ _ => PAR.WITNESS_MAC_HI.MAC, 0x18, [], .RWS, .D, .basic⟩,
   ⟨fun _ _ _ => PAR.TIMING.LINK_LOSS, 0x1C, [], .RW, .D, .expert⟩,
   ⟨fun _ _ _ => PAR.UNTETHERED_SILENCE.US, 0x20, [], .RW, .D, .expert⟩,
   ⟨fun _ _ _ => PAR.TAKEBACK_HOLDOFF.SECONDS, 0x24, [], .RW, .P, .expert⟩,
   ⟨fun _ _ _ => PAR.DIGEST.BLOCKS, 0x28, [], .RW, .D, .expert⟩,
   ⟨fun _ _ _ => PAR.CMD.OP, 0x30, [], .WO, .C, .basic⟩,
   ⟨fun _ _ _ => PAR.CMD.PRIV, 0x30, [], .WO, .C, .basic⟩,
   ⟨fun _ _ _ => PAR.CMD.SESSION, 0x30, [], .WO, .C, .basic⟩,
   ⟨fun _ _ _ => PAR.CMD_STATUS.PENDING, 0x34, [], .RO, .C, .basic⟩,
   ⟨fun _ _ _ => PAR.CMD_STATUS.STATUS, 0x34, [], .RO, .C, .basic⟩,
   ⟨fun _ _ _ => PAR.CMD_STATUS.REASON, 0x34, [], .RO, .C, .basic⟩,
   ⟨fun _ _ _ => PAR.STATUS.STATE, 0x40, [], .RO, .C, .basic⟩,
   ⟨fun _ _ _ => PAR.STATUS.UNIT, 0x40, [], .RO, .C, .basic⟩,
   ⟨fun _ _ _ => PAR.STATUS.PARTNER_STATE, 0x40, [], .RO, .C, .basic⟩,
   ⟨fun _ _ _ => PAR.STATUS.ELIGIBLE, 0x40, [], .RO, .C, .basic⟩,
   ⟨fun _ _ _ => PAR.STATUS.LINK0_UP, 0x40, [], .RO, .C, .basic⟩,
   ⟨fun _ _ _ => PAR.STATUS.LINK1_UP, 0x40, [], .RO, .C, .basic⟩,
   ⟨fun _ _ _ => PAR.STATUS.WITNESS_REACHABLE, 0x40, [], .RO, .C, .basic⟩,
   ⟨fun _ _ _ => PAR.STATUS.LEASE_HELD, 0x40, [], .RO, .C, .basic⟩,
   ⟨fun _ _ _ => PAR.STATUS.REQUEST_PENDING, 0x40, [], .RO, .C, .basic⟩,
   ⟨fun _ _ _ => PAR.STATUS.TOKEN_RAISED, 0x40, [], .RO, .C, .basic⟩,
   ⟨fun _ _ _ => PAR.STATUS.UNTETHER_REASON, 0x40, [], .RO, .C, .basic⟩,
   ⟨fun _ _ _ => PAR.STATUS.INELIGIBLE, 0x40, [], .RO, .C, .basic⟩,
   ⟨fun _ _ _ => PAR.EPOCH.EPOCH, 0x44, [], .RO, .P, .basic⟩,
   ⟨fun _ _ _ => PAR.TICK_OFFSET_LO.OFFSET, 0x48, [], .RO, .A, .expert⟩,
   ⟨fun _ _ _ => PAR.TICK_OFFSET_HI.OFFSET, 0x4C, [], .RO, .A, .expert⟩,
   ⟨fun _ _ _ => PAR.LAG.LAST, 0x50, [], .RO, .C, .basic⟩,
   ⟨fun _ _ _ => PAR.LAG.MAX, 0x50, [], .RO, .C, .basic⟩,
   ⟨fun _ _ _ => PAR.STREAM_LAST.BYTES, 0x54, [], .RO, .C, .basic⟩,
   ⟨fun _ _ _ => PAR.STREAM_MAX.BYTES, 0x58, [], .RO, .C, .basic⟩] ++
  [⟨fun _ _ _ => PAR.STREAM_MAX.CLEAR, 0x58, [], .WO, .C, .basic⟩,
   ⟨fun _ _ _ => PAR.BUDGET_OVER.COUNT, 0x5C, [], .RO, .C, .basic⟩,
   ⟨fun _ _ _ => PAR.DIVERGENCE.COUNT, 0x60, [], .RO, .A, .basic⟩,
   ⟨fun _ _ _ => PAR.DIVERGENCE.BLOCK_HOUR, 0x60, [], .RO, .A, .basic⟩,
   ⟨fun _ _ _ => PAR.DIVERGENCE_BLOCK.INDEX, 0x64, [], .RO, .A, .expert⟩,
   ⟨fun _ _ _ => PAR.SWITCHES.COUNT, 0x68, [], .RO, .P, .basic⟩,
   ⟨fun _ _ _ => PAR.SWITCHES.LAST_KIND, 0x68, [], .RO, .P, .basic⟩,
   ⟨fun _ _ _ => PAR.LAST_SWITCH.TICK, 0x6C, [], .RO, .P, .basic⟩,
   ⟨fun l _ _ => PAR.LINK_ERRORS.CRC l, 0x80, [(2, 0x4)], .RO, .C, .expert⟩,
   ⟨fun l _ _ => PAR.LINK_ERRORS.NAK l, 0x80, [(2, 0x4)], .RO, .C, .expert⟩,
   ⟨fun n _ _ => PAR.TRACK_BASE.ADDR n, 0x100, [(8, 0x8)], .RWS, .D, .basic⟩,
   ⟨fun n _ _ => PAR.TRACK_SIZE.BLOCKS n, 0x104, [(8, 0x8)], .RWS, .D, .basic⟩]

/-- The register table of TIM. -/
def rowsTIM : List FieldRow :=
  [⟨fun _ _ _ => TIM.SETUP_LOCK.CLOSED, 0x0, [], .W1S, .D, .basic⟩,
   ⟨fun _ _ _ => TIM.CFG.ROLE, 0x4, [], .RWS, .D, .basic⟩,
   ⟨fun _ _ _ => TIM.CFG.SLAVE_PORT, 0x4, [], .RWS, .D, .basic⟩,
   ⟨fun _ _ _ => TIM.CFG.MASTER_PLANT, 0x4, [], .RWS, .D, .expert⟩,
   ⟨fun _ _ _ => TIM.CFG.DELAY_MECH, 0x4, [], .RWS, .D, .expert⟩,
   ⟨fun _ _ _ => TIM.CFG.PROFILE, 0x4, [], .RWS, .D, .basic⟩,
   ⟨fun _ _ _ => TIM.CFG.CROSSING_TIME, 0x4, [], .RWS, .D, .basic⟩,
   ⟨fun _ _ _ => TIM.CFG.DOMAIN, 0x4, [], .RWS, .D, .expert⟩,
   ⟨fun _ _ _ => TIM.CFG.SYNC_LOG2, 0x4, [], .RW, .D, .expert⟩,
   ⟨fun _ _ _ => TIM.INC_LO.FRAC, 0x8, [], .RW, .A, .basic⟩,
   ⟨fun _ _ _ => TIM.INC_HI.NS, 0xC, [], .RW, .A, .basic⟩,
   ⟨fun _ _ _ => TIM.INC_HI.PENDING, 0xC, [], .RO, .C, .basic⟩,
   ⟨fun _ _ _ => TIM.PT_LO.NS, 0x10, [], .RO, .A, .basic⟩,
   ⟨fun _ _ _ => TIM.PT_HI.NS, 0x14, [], .RO, .A, .basic⟩,
   ⟨fun _ _ _ => TIM.PT_FRAC.FRAC, 0x18, [], .RO, .A, .expert⟩,
   ⟨fun _ _ _ => TIM.SNAP_TICK_LO.TICK, 0x1C, [], .RO, .C, .basic⟩,
   ⟨fun _ _ _ => TIM.SNAP_TICK_HI.TICK, 0x20, [], .RO, .C, .basic⟩,
   ⟨fun _ _ _ => TIM.CMD.OP, 0x24, [], .WO, .C, .basic⟩,
   ⟨fun _ _ _ => TIM.CMD.PRIV, 0x24, [], .WO, .C, .basic⟩,
   ⟨fun _ _ _ => TIM.CMD.SESSION, 0x24, [], .WO, .C, .basic⟩,
   ⟨fun _ _ _ => TIM.SET_LO.VALUE, 0x28, [], .RW, .C, .basic⟩,
   ⟨fun _ _ _ => TIM.SET_HI.VALUE, 0x2C, [], .RW, .C, .basic⟩,
   ⟨fun _ _ _ => TIM.CMD_STATUS.PENDING, 0x30, [], .RO, .C, .basic⟩,
   ⟨fun _ _ _ => TIM.CMD_STATUS.STATUS, 0x30, [], .RO, .C, .basic⟩,
   ⟨fun _ _ _ => TIM.CMD_STATUS.REASON, 0x30, [], .RO, .C, .basic⟩,
   ⟨fun _ _ _ => TIM.STATUS.SET, 0x34, [], .RO, .A, .basic⟩,
   ⟨fun _ _ _ => TIM.STATUS.UNCALIBRATED, 0x34, [], .RO, .C, .basic⟩,
   ⟨fun _ _ _ => TIM.STATUS.HOLDOVER, 0x34, [], .RO, .C, .basic⟩,
   ⟨fun _ _ _ => TIM.STATUS.PAIR_FOLLOW, 0x34, [], .RO, .C, .basic⟩,
   ⟨fun _ _ _ => TIM.HOLDOVER_TIME.MS, 0x38, [], .RW, .D, .expert⟩,
   ⟨fun u _ _ => TIM.CMP_TARGET.TICK u, 0x100, [(8, 0x10)], .RW, .D, .basic⟩,
   ⟨fun u _ _ => TIM.CMP_PERIOD.TICKS u, 0x104, [(8, 0x10)], .RW, .D, .basic⟩,
   ⟨fun u _ _ => TIM.CMP_CTRL.ARM u, 0x108, [(8, 0x10)], .WO, .C, .basic⟩,
   ⟨fun u _ _ => TIM.CMP_CTRL.DISARM u, 0x108, [(8, 0x10)], .WO, .C, .basic⟩,
   ⟨fun u _ _ => TIM.CMP_STATUS.ARMED u, 0x10C, [(8, 0x10)], .RO, .C, .basic⟩,
   ⟨fun u _ _ => TIM.CMP_STATUS.LATE u, 0x10C, [(8, 0x10)], .W1C, .C, .basic⟩,
   ⟨fun u _ _ => TIM.CMP_FIRE_TICK.TICK u, 0x109, [(8, 0x10)], .RO, .C, .basic⟩,
   ⟨fun u _ _ => TIM.CAP_CFG.SELECT u, 0x200, [(4, 0x20)], .RW, .D, .basic⟩,
   ⟨fun u _ _ => TIM.CAP_TICK_LO.TICK u, 0x204, [(4, 0x20)], .RO, .C, .basic⟩,
   ⟨fun u _ _ => TIM.CAP_TICK_HI.TICK u, 0x208, [(4, 0x20)], .RO, .C, .basic⟩] ++
  [⟨fun u _ _ => TIM.CAP_PT_LO.NS u, 0x20C, [(4, 0x20)], .RO, .C, .basic⟩,
   ⟨fun u _ _ => TIM.CAP_PT_HI.NS u, 0x210, [(4, 0x20)], .RO, .C, .basic⟩,
   ⟨fun u _ _ => TIM.CAP_STATUS.SEQ u, 0x214, [(4, 0x20)], .RO, .C, .basic⟩,
   ⟨fun u _ _ => TIM.CAP_STATUS.OVERWRITES u, 0x214, [(4, 0x20)], .RO, .C, .expert⟩]

/-- The register table of CAN. -/
def rowsCAN : List FieldRow :=
  [⟨fun _ _ _ => CAN.SETUP_LOCK.CLOSED, 0x0, [], .W1S, .D, .basic⟩,
   ⟨fun c _ _ => CAN.CH_CFG.ENABLE c, 0x100, [(2, 0x40)], .RWS, .D, .basic⟩,
   ⟨fun c _ _ => CAN.CH_CFG.FD c, 0x100, [(2, 0x40)], .RWS, .D, .basic⟩,
   ⟨fun c _ _ => CAN.CH_CFG.TDC c, 0x100, [(2, 0x40)], .RW, .D, .expert⟩,
   ⟨fun c _ _ => CAN.CH_CFG.TDCO c, 0x100, [(2, 0x40)], .RW, .D, .expert⟩,
   ⟨fun c _ _ => CAN.CH_NBT.NBRP c, 0x104, [(2, 0x40)], .RWS, .D, .basic⟩,
   ⟨fun c _ _ => CAN.CH_NBT.NTSEG1 c, 0x104, [(2, 0x40)], .RWS, .D, .basic⟩,
   ⟨fun c _ _ => CAN.CH_NBT.NTSEG2 c, 0x104, [(2, 0x40)], .RWS, .D, .basic⟩,
   ⟨fun c _ _ => CAN.CH_NBT.NSJW c, 0x104, [(2, 0x40)], .RWS, .D, .basic⟩,
   ⟨fun c _ _ => CAN.CH_DBT.DBRP c, 0x108, [(2, 0x40)], .RWS, .D, .basic⟩,
   ⟨fun c _ _ => CAN.CH_DBT.DTSEG1 c, 0x108, [(2, 0x40)], .RWS, .D, .basic⟩,
   ⟨fun c _ _ => CAN.CH_DBT.DTSEG2 c, 0x108, [(2, 0x40)], .RWS, .D, .basic⟩,
   ⟨fun c _ _ => CAN.CH_DBT.DSJW c, 0x108, [(2, 0x40)], .RWS, .D, .basic⟩,
   ⟨fun c _ _ => CAN.CH_STATUS.STATE c, 0x10C, [(2, 0x40)], .RO, .C, .basic⟩,
   ⟨fun c _ _ => CAN.CH_STATUS.LISTEN_ONLY c, 0x10C, [(2, 0x40)], .RO, .C, .basic⟩,
   ⟨fun c _ _ => CAN.CH_STATUS.CFG_ERR c, 0x10C, [(2, 0x40)], .RO, .C, .basic⟩,
   ⟨fun c _ _ => CAN.CH_STATUS.LEC c, 0x10C, [(2, 0x40)], .RO, .C, .basic⟩,
   ⟨fun c _ _ => CAN.CH_STATUS.TEC c, 0x10C, [(2, 0x40)], .RO, .C, .basic⟩,
   ⟨fun c _ _ => CAN.CH_STATUS.REC c, 0x10C, [(2, 0x40)], .RO, .C, .basic⟩,
   ⟨fun c _ _ => CAN.CH_STATUS.RECOVERY c, 0x10C, [(2, 0x40)], .RO, .C, .basic⟩,
   ⟨fun c _ _ => CAN.CH_COUNTS.BUS_OFF c, 0x110, [(2, 0x40)], .RO, .C, .basic⟩,
   ⟨fun c _ _ => CAN.CH_COUNTS.EXPIRED c, 0x110, [(2, 0x40)], .RO, .C, .basic⟩,
   ⟨fun c _ _ => CAN.CH_RX_DROP.NO_RECEIVE c, 0x114, [(2, 0x40)], .RO, .C, .basic⟩,
   ⟨fun c _ _ => CAN.CH_RX_DROP.UNMATCHED c, 0x114, [(2, 0x40)], .RO, .C, .expert⟩,
   ⟨fun c _ _ => CAN.CH_ERRORS.TX_ERR c, 0x118, [(2, 0x40)], .RO, .C, .expert⟩,
   ⟨fun c _ _ => CAN.CH_ERRORS.RX_ERR c, 0x118, [(2, 0x40)], .RO, .C, .expert⟩,
   ⟨fun c _ _ => CAN.CH_TT_CFG.ENABLE c, 0x11C, [(2, 0x40)], .RW, .D, .expert⟩,
   ⟨fun c _ _ => CAN.CH_TT_CFG.SCHED_EXP c, 0x11C, [(2, 0x40)], .RWS, .D, .expert⟩,
   ⟨fun c _ _ => CAN.CH_TT_STATUS.CYCLE c, 0x120, [(2, 0x40)], .RO, .C, .expert⟩,
   ⟨fun c _ _ => CAN.CH_TT_STATUS.LOADED c, 0x120, [(2, 0x40)], .RO, .C, .expert⟩,
   ⟨fun c _ _ => CAN.CH_TT_STATUS.MISSED c, 0x120, [(2, 0x40)], .RO, .C, .expert⟩,
   ⟨fun c b _ => CAN.MB_CFG.MODE c b, 0x1000, [(2, 0x2000), (64, 0x80)], .RW, .D, .basic⟩,
   ⟨fun c b _ => CAN.MB_CFG.IDE c b, 0x1000, [(2, 0x2000), (64, 0x80)], .RW, .D, .basic⟩,
   ⟨fun c b _ => CAN.MB_CFG.TT c b, 0x1000, [(2, 0x2000), (64, 0x80)], .RW, .D, .expert⟩,
   ⟨fun c b _ => CAN.MB_CFG.NOTIFY c b, 0x1000, [(2, 0x2000), (64, 0x80)], .RW, .D, .basic⟩,
   ⟨fun c b _ => CAN.MB_FILTER.ID c b, 0x1004, [(2, 0x2000), (64, 0x80)], .RW, .D, .basic⟩,
   ⟨fun c b _ => CAN.MB_MASK.MASK c b, 0x1008, [(2, 0x2000), (64, 0x80)], .RW, .D, .basic⟩,
   ⟨fun c b _ => CAN.MB_STAT.NEW c b, 0x100C, [(2, 0x2000), (64, 0x80)], .W1C, .C, .basic⟩,
   ⟨fun c b _ => CAN.MB_STAT.UPDATING c b, 0x100C, [(2, 0x2000), (64, 0x80)], .RO, .C, .basic⟩,
   ⟨fun c b _ => CAN.MB_STAT.OVERWRITTEN c b, 0x100C, [(2, 0x2000), (64, 0x80)], .W1C, .C, .basic⟩] ++
  [⟨fun c b _ => CAN.MB_STAT.QUEUED c b, 0x100C, [(2, 0x2000), (64, 0x80)], .RO, .C, .basic⟩,
   ⟨fun c b _ => CAN.MB_STAT.IN_TX c b, 0x100C, [(2, 0x2000), (64, 0x80)], .RO, .C, .basic⟩,
   ⟨fun c b _ => CAN.MB_STAT.SEQ c b, 0x100C, [(2, 0x2000), (64, 0x80)], .RO, .C, .basic⟩,
   ⟨fun c b _ => CAN.MB_ID.ID c b, 0x1010, [(2, 0x2000), (64, 0x80)], .RO, .C, .basic⟩,
   ⟨fun c b _ => CAN.MB_CTRL.CTRL c b, 0x1014, [(2, 0x2000), (64, 0x80)], .RO, .C, .basic⟩,
   ⟨fun c b _ => CAN.MB_TICK_LO.TICK c b, 0x1018, [(2, 0x2000), (64, 0x80)], .RO, .C, .basic⟩,
   ⟨fun c b _ => CAN.MB_TICK_HI.TICK c b, 0x101C, [(2, 0x2000), (64, 0x80)], .RO, .C, .basic⟩,
   ⟨fun c b j => CAN.MB_DATA.DATA c b j, 0x1020, [(2, 0x2000), (64, 0x80), (16, 0x4)], .RO, .C, .basic⟩]

/-- The register table of ACQ. -/
def rowsACQ : List FieldRow :=
  [⟨fun _ _ _ => ACQ.SETUP_LOCK.CLOSED, 0x0, [], .W1S, .D, .basic⟩,
   ⟨fun _ _ _ => ACQ.TRIG_VALUE_LO.VALUE, 0x8, [], .RW, .D, .basic⟩,
   ⟨fun _ _ _ => ACQ.TRIG_VALUE_HI.VALUE, 0xC, [], .RW, .D, .basic⟩,
   ⟨fun _ _ _ => ACQ.TRIG_CARE_LO.CARE, 0x10, [], .RW, .D, .basic⟩,
   ⟨fun _ _ _ => ACQ.TRIG_CARE_HI.CARE, 0x14, [], .RW, .D, .basic⟩,
   ⟨fun _ _ _ => ACQ.TRIG_CFG.EDGE_MODE, 0x18, [], .RW, .D, .basic⟩,
   ⟨fun _ _ _ => ACQ.TRIG_CFG.QUAL_PROBE, 0x18, [], .RW, .D, .basic⟩,
   ⟨fun _ _ _ => ACQ.TRIG_CFG.QUAL_EDGE, 0x18, [], .RW, .D, .basic⟩,
   ⟨fun _ _ _ => ACQ.SEGMENTS.COUNT, 0x1C, [], .RW, .D, .basic⟩,
   ⟨fun _ _ _ => ACQ.POST_RECORDS.COUNT, 0x20, [], .RW, .D, .basic⟩,
   ⟨fun _ _ _ => ACQ.POST_TIMEOUT.TICKS, 0x24, [], .RW, .D, .basic⟩,
   ⟨fun _ _ _ => ACQ.GAP_MAX.COUNT, 0x28, [], .RW, .D, .expert⟩,
   ⟨fun _ _ _ => ACQ.RESUME.FREE, 0x2C, [], .RW, .D, .expert⟩,
   ⟨fun _ _ _ => ACQ.STATUS.STATE, 0x30, [], .RO, .C, .basic⟩,
   ⟨fun _ _ _ => ACQ.STATUS.SEGMENT, 0x30, [], .RO, .C, .basic⟩,
   ⟨fun _ _ _ => ACQ.STATUS.GAP_ACTIVE, 0x30, [], .RO, .C, .basic⟩,
   ⟨fun _ _ _ => ACQ.STATUS.ARCHIVING, 0x30, [], .RO, .C, .basic⟩,
   ⟨fun _ _ _ => ACQ.QUEUE.LEVEL, 0x34, [], .RO, .C, .expert⟩,
   ⟨fun _ _ _ => ACQ.QUEUE.PEAK, 0x34, [], .RO, .C, .expert⟩,
   ⟨fun _ _ _ => ACQ.QUEUE.CLEAR, 0x34, [], .WO, .C, .expert⟩,
   ⟨fun _ _ _ => ACQ.LAST_DEAD.TICKS, 0x38, [], .RO, .C, .basic⟩,
   ⟨fun _ _ _ => ACQ.MAX_DEAD.TICKS, 0x3C, [], .RO, .C, .basic⟩,
   ⟨fun _ _ _ => ACQ.MAX_DEAD.CLEAR, 0x3C, [], .WO, .C, .basic⟩,
   ⟨fun _ _ _ => ACQ.LOST_TOTAL.COUNT, 0x40, [], .RO, .C, .basic⟩,
   ⟨fun _ _ _ => ACQ.MISSED_TRIGGERS.COUNT, 0x44, [], .RO, .C, .basic⟩,
   ⟨fun _ _ _ => ACQ.GAPS.COUNT, 0x48, [], .RO, .C, .basic⟩,
   ⟨fun p _ _ => ACQ.PROBE_SRC.SOURCE p, 0x100, [(64, 0x4)], .RW, .D, .basic⟩,
   ⟨fun t _ _ => ACQ.TAP.INDEX t, 0x200, [(128, 0x4)], .RW, .D, .basic⟩,
   ⟨fun t _ _ => ACQ.TAP.BIT t, 0x200, [(128, 0x4)], .RW, .D, .basic⟩,
   ⟨fun t _ _ => ACQ.TAP.IMAGE t, 0x200, [(128, 0x4)], .RW, .D, .basic⟩]

/-- The register table of REC. -/
def rowsREC : List FieldRow :=
  [⟨fun _ _ _ => REC.EVENT_OLDEST_LO.SEQ, 0x0, [], .RO, .P, .basic⟩,
   ⟨fun _ _ _ => REC.EVENT_OLDEST_HI.SEQ, 0x4, [], .RO, .P, .basic⟩,
   ⟨fun _ _ _ => REC.EVENT_OLDEST_ADDR.OFFSET, 0x8, [], .RO, .P, .basic⟩,
   ⟨fun _ _ _ => REC.EVENT_NEXT_LO.SEQ, 0xC, [], .RO, .P, .basic⟩,
   ⟨fun _ _ _ => REC.EVENT_NEXT_HI.SEQ, 0x10, [], .RO, .P, .basic⟩,
   ⟨fun _ _ _ => REC.CHANGE_OLDEST_LO.SEQ, 0x14, [], .RO, .P, .basic⟩,
   ⟨fun _ _ _ => REC.CHANGE_OLDEST_HI.SEQ, 0x18, [], .RO, .P, .basic⟩,
   ⟨fun _ _ _ => REC.CHANGE_OLDEST_ADDR.OFFSET, 0x1C, [], .RO, .P, .basic⟩,
   ⟨fun _ _ _ => REC.CHANGE_NEXT_LO.SEQ, 0x20, [], .RO, .P, .basic⟩,
   ⟨fun _ _ _ => REC.CHANGE_NEXT_HI.SEQ, 0x24, [], .RO, .P, .basic⟩,
   ⟨fun _ _ _ => REC.CHANGE_ARCHIVED_LO.SEQ, 0x28, [], .RO, .P, .basic⟩,
   ⟨fun _ _ _ => REC.CHANGE_ARCHIVED_HI.SEQ, 0x2C, [], .RO, .P, .basic⟩,
   ⟨fun _ _ _ => REC.STATUS.QUEUE, 0x30, [], .RO, .C, .expert⟩,
   ⟨fun _ _ _ => REC.STATUS.ARCHIVE_FAULT, 0x30, [], .RO, .A, .basic⟩,
   ⟨fun _ _ _ => REC.LOST.COUNT, 0x34, [], .RO, .A, .basic⟩]

/-- The register table of UPD. -/
def rowsUPD : List FieldRow :=
  [⟨fun _ _ _ => UPD.CMD.OP, 0x4, [], .WO, .C, .basic⟩,
   ⟨fun _ _ _ => UPD.CMD.ENTRY, 0x4, [], .WO, .C, .basic⟩,
   ⟨fun _ _ _ => UPD.CMD.SESSION, 0x4, [], .WO, .C, .basic⟩,
   ⟨fun _ _ _ => UPD.CMD_STATUS.STATUS, 0x8, [], .RO, .C, .basic⟩,
   ⟨fun _ _ _ => UPD.CMD_STATUS.REASON, 0x8, [], .RO, .C, .basic⟩,
   ⟨fun _ _ _ => UPD.ACTIVE.SLOT, 0xC, [], .RO, .P, .basic⟩,
   ⟨fun _ _ _ => UPD.ACTIVE.ACTIVATE_PENDING, 0xC, [], .RO, .C, .basic⟩,
   ⟨fun _ _ _ => UPD.ACTIVE.TRIAL_STARTS, 0xC, [], .RO, .P, .expert⟩,
   ⟨fun s _ _ => UPD.SLOT_STATE.STATE s, 0x10, [(2, 0x8)], .RO, .P, .basic⟩,
   ⟨fun s _ _ => UPD.SLOT_VERSION.VERSION s, 0x14, [(2, 0x8)], .RO, .P, .basic⟩,
   ⟨fun _ _ _ => UPD.CONFIRM_TIME.SECONDS, 0x20, [], .RW, .P, .expert⟩,
   ⟨fun _ _ _ => UPD.CONFIRM_REMAINING.SECONDS, 0x24, [], .RO, .C, .basic⟩,
   ⟨fun k _ _ => UPD.ROLLBACK.COUNTER k, 0x30, [(4, 0x4)], .RO, .P, .basic⟩,
   ⟨fun v _ _ => UPD.VERIFIED.VALID v, 0x40, [(8, 0x4)], .RO, .C, .basic⟩,
   ⟨fun v _ _ => UPD.VERIFIED.KIND v, 0x40, [(8, 0x4)], .RO, .C, .basic⟩,
   ⟨fun w _ _ => UPD.CONFIG_DIGEST.DIGEST w, 0x60, [(8, 0x4)], .RO, .P, .basic⟩]

/-- The register table of SEC. -/
def rowsSEC : List FieldRow :=
  [⟨fun w _ _ => SEC.SERIAL.ASCII w, 0x0, [(4, 0x4)], .RO, .P, .basic⟩,
   ⟨fun _ _ _ => SEC.DEVICE_KEY_ID_LO.ID, 0x10, [], .RO, .P, .basic⟩,
   ⟨fun _ _ _ => SEC.DEVICE_KEY_ID_HI.ID, 0x14, [], .RO, .P, .basic⟩,
   ⟨fun _ _ _ => SEC.STATUS.PLANT_KEYS, 0x18, [], .RO, .P, .basic⟩,
   ⟨fun _ _ _ => SEC.STATUS.LEASE_KEY, 0x18, [], .RO, .P, .basic⟩,
   ⟨fun _ _ _ => SEC.STATUS.TRUST_ESTABLISHED, 0x18, [], .RO, .P, .basic⟩,
   ⟨fun _ _ _ => SEC.LEASE_KCV.KCV, 0x1C, [], .RO, .P, .basic⟩,
   ⟨fun w _ _ => SEC.LEASE_KEY.KEY w, 0x20, [(8, 0x4)], .WO, .C, .expert⟩,
   ⟨fun _ _ _ => SEC.CMD.OP, 0x40, [], .WO, .C, .expert⟩,
   ⟨fun _ _ _ => SEC.CMD.PRIV, 0x40, [], .WO, .C, .expert⟩,
   ⟨fun _ _ _ => SEC.CMD.SESSION, 0x40, [], .WO, .C, .expert⟩,
   ⟨fun _ _ _ => SEC.CMD_STATUS.STATUS, 0x44, [], .RO, .C, .expert⟩,
   ⟨fun _ _ _ => SEC.CMD_STATUS.REASON, 0x44, [], .RO, .C, .expert⟩,
   ⟨fun _ _ _ => SEC.AUTH_FAILS.COUNT, 0x48, [], .RO, .A, .basic⟩]

/-- The register table of PLN. -/
def rowsPLN : List FieldRow :=
  [⟨fun _ _ _ => PLN.SETUP_LOCK.CLOSED, 0x0, [], .W1S, .D, .basic⟩,
   ⟨fun p _ _ => PLN.PORT_CFG.ENABLE p, 0x100, [(2, 0x40)], .RWS, .D, .basic⟩,
   ⟨fun p _ _ => PLN.PORT_CFG.PROMISC p, 0x100, [(2, 0x40)], .RW, .D, .expert⟩,
   ⟨fun p _ _ => PLN.PORT_CFG.PTP_RING p, 0x100, [(2, 0x40)], .RW, .D, .basic⟩,
   ⟨fun p _ _ => PLN.PORT_MAC_LO.MAC p, 0x104, [(2, 0x40)], .RO, .P, .basic⟩,
   ⟨fun p _ _ => PLN.PORT_MAC_HI.MAC p, 0x108, [(2, 0x40)], .RO, .P, .basic⟩,
   ⟨fun p _ _ => PLN.PORT_STATUS.LINK p, 0x10C, [(2, 0x40)], .RO, .C, .basic⟩,
   ⟨fun p _ _ => PLN.PORT_DROPPED.COUNT p, 0x110, [(2, 0x40)], .RO, .C, .basic⟩,
   ⟨fun p _ _ => PLN.PORT_FCS_ERRORS.COUNT p, 0x114, [(2, 0x40)], .RO, .C, .expert⟩]

/-- The register table of block number `b` (R553); blocks 0x1A and up hold none. -/
def rowsOf (b : Nat) : List FieldRow :=
  match b with
  | 0 => rowsSYS
  | 1 => rowsPWR
  | 2 => rowsRST
  | 3 => rowsBST
  | 4 => rowsPRT
  | 5 => rowsARB
  | 6 => rowsLCK
  | 7 => rowsRNG
  | 8 => rowsEVT
  | 9 => rowsVOT
  | 10 => rowsCYC
  | 11 => rowsFLD
  | 12 => rowsPIM
  | 13 => rowsFIO
  | 14 => rowsSPR
  | 15 => rowsMOT
  | 16 => rowsLOP
  | 17 => rowsCLP
  | 18 => rowsPAR
  | 19 => rowsTIM
  | 20 => rowsCAN
  | 21 => rowsACQ
  | 22 => rowsREC
  | 23 => rowsUPD
  | 24 => rowsSEC
  | 25 => rowsPLN
  | _ => []

/-- R553. The power domain whose state governs access to block `b`. -/
def blockDomain (b : Nat) : Nat :=
  match b with
  | 9 => 1
  | 11 => 4
  | 13 => 5
  | 14 => 5
  | 15 => 5
  | 16 => 5
  | 17 => 6
  | 20 => 5
  | 21 => 7
  | 23 => 2
  | 24 => 2
  | 25 => 4
  | _ => 0

/-- R561. Whether block `b` has a set-up lock. -/
def blockHasLock (b : Nat) : Bool :=
  b ∈ [1, 2, 3, 5, 7, 9, 10, 11, 12, 13, 14, 15, 16, 17, 18, 19, 20, 21, 25]

end Sys2Proof.Machine
end

