-- ==== Sys2Proof/Machine/Sparse.lean ====
section
/-! DEFINITION. Sparse maps from numbers: lists of (key, value) pairs with keys strictly rising, in which a
value equal to the one an unlisted key reads as is never listed. Memory, the register file and the arrays of
engine state are such maps. -/

namespace Sys2Proof.Machine

/-- The value listed at `k`. -/
def Sparse.find {α : Type} : List (Nat × α) → Nat → Option α
  | [], _ => none
  | (a, b) :: r, k => if a = k then some b else Sparse.find r k

/-- The value at `k`, where `d` is what an unlisted key reads as. -/
def Sparse.get {α : Type} (d : α) (l : List (Nat × α)) (k : Nat) : α := (Sparse.find l k).getD d

/-- The list with `v` listed at `k`. -/
def Sparse.insert {α : Type} : List (Nat × α) → Nat → α → List (Nat × α)
  | [], k, v => [(k, v)]
  | (a, b) :: r, k, v =>
    if k < a then (k, v) :: (a, b) :: r else if k = a then (k, v) :: r else (a, b) :: Sparse.insert r k v

/-- The list without the key `k`. -/
def Sparse.erase {α : Type} (l : List (Nat × α)) (k : Nat) : List (Nat × α) := l.filter (fun p => p.1 != k)

/-- The map with `v` at `k`; a value equal to `d` is not listed. -/
def Sparse.put {α : Type} [DecidableEq α] (d : α) (l : List (Nat × α)) (k : Nat) (v : α) : List (Nat × α) :=
  if v = d then Sparse.erase l k else Sparse.insert l k v

/-- Keys strictly rising. -/
def Sparse.sorted {α : Type} : List (Nat × α) → Bool
  | [] => true
  | [_] => true
  | p :: q :: r => decide (p.1 < q.1) && Sparse.sorted (q :: r)

/-- The canonical form. -/
def Sparse.wf {α : Type} [DecidableEq α] (d : Nat → α) (l : List (Nat × α)) : Bool :=
  Sparse.sorted l && l.all (fun p => decide (p.2 ≠ d p.1))

/-- A list of numbers with `k` in it once. -/
def addOnce (l : List Nat) (k : Nat) : List Nat := if l.contains k then l else l ++ [k]

end Sys2Proof.Machine
end

