-- ==== Sys2Proof/Machine/State.lean ====
section
/-! DEFINITION. The state of the module: every register of the 26 blocks, memory, and the parts of the state
that no register holds; the queue of commands that wait; the state after reset.

Marks (notes/assumptions): DESIGN CHOICE 4, 9, 128. -/

namespace Sys2Proof.Machine

/-- The state. -/
structure State where
  /-- R8. The tick counter. -/
  tick : Tick
  /-- R553, R562. The register fields whose value is not their reset value, by `Fld.id`. -/
  regs : List (Nat × Nat)
  /-- R416. Plant time in units of 2^-32 ns, 96 bits. -/
  plant : Nat
  /-- R392. The active protection table: the shadows as they stood at the last commit. -/
  prtActive : List (Nat × Nat)
  /-- R5. Memory: the bytes that are not what an unlisted address reads as. -/
  mem : List Host.Cell
  /-- R581. The 8-byte check units (address / 8) that hold an uncorrectable error. -/
  poison : List Nat
  /-- R582. Whether DRAM is lost, how often it has been, and the units written since. -/
  dramLost : Bool
  dramLoss : Nat
  dramWritten : List Nat
  /-- The number of free values used (the model's own field, notes/assumptions/6.md). -/
  free : Nat
  /-- Messages and frames sent, the newest last (the model's own field, notes/assumptions/4.md). -/
  sent : List Sent
  rng : Rng
  fab : Fabric
  vot : Vot
  cyc : Cyc
  fer : Ferry
  fio : Fio
  crs : Cross
  mot : Mot
  lop : Lop
  clp : Clp
  can : List (Nat × CanCh)
  acq : Acq
  pwr : PwrS
  rst : Rst
  bst : Bst
  log : Recorder
  upd : Upd
  par : Par
  car : Car
  tim : Tim
  /-- The commands that wait, first in, first out. -/
  pending : List Instr
  deriving DecidableEq, Repr

/-- No command ends in a fault: every misuse the spec names has an effect that the spec gives (a refusal
status, a cause code, a counted discard). -/
inductive Fault where
  deriving DecidableEq, Repr

/-- Why a command is refused by the model itself. -/
inductive Refusal where
  /-- Raised by an arm of `exec` for a command that has no meaning yet. Safe: the model stops. -/
  | notModelled (mnemonic : String)
  deriving DecidableEq, Repr

/-- The machine when supply is first applied (R500, R562): every register field at its reset value, nothing
listed in memory, no command waiting. -/
def State.reset : State where
  tick := 0
  plant := 0
  regs := []
  prtActive := []
  mem := []
  poison := []
  dramLost := false
  dramLoss := 0
  dramWritten := []
  free := 0
  sent := []
  rng := {}
  fab := {}
  vot := {}
  cyc := {}
  fer := {}
  fio := {}
  crs := {}
  mot := {}
  lop := {}
  clp := {}
  can := []
  acq := {}
  pwr := {}
  rst := {}
  bst := {}
  log := {}
  upd := {}
  par := {}
  car := {}
  tim := {}
  pending := []

end Sys2Proof.Machine
end

