-- ==== Sys2Proof/Machine/Ops.lean ====
section
/-! DEFINITION. Named operations on the state: register fields, event assertions, recorder records, votes and
wakes of power domains, the protection table, the arbiters' arrival, and memory as the interconnect serves it
(spec/00, 03, 12, 16, 18).

Marks (notes/assumptions): DEDUCED 17, 25, 122, 130, 133, 142; DESIGN CHOICE 3, 4, 6, 10, 11, 12. -/

namespace Sys2Proof.Machine

/-- What every meaning answers. -/
abbrev Answer := Host.Outcome State Fault Refusal

/-! ## Register fields -/

/-- The value of a field. -/
def State.get (s : State) (f : Fld) : Nat := Sparse.get f.rst s.regs f.id

/-- The state with a field set; the value is cut to the field's width. -/
def State.set (s : State) (f : Fld) (v : Nat) : State :=
  { s with regs := Sparse.put f.rst s.regs f.id (v % 2 ^ f.w) }

/-- A field as a truth value. -/
def State.bit (s : State) (f : Fld) : Bool := s.get f != 0

/-- A one-bit field set from a truth value. -/
def State.setB (s : State) (f : Fld) (b : Bool) : State := s.set f (b2n b)

/-- A saturating count raised by `k`. -/
def State.bump (s : State) (f : Fld) (k : Nat := 1) : State := s.set f (satAdd (s.get f) k (2 ^ f.w - 1))

/-- A wrapping count raised by 1. -/
def State.wrap (s : State) (f : Fld) : State := s.set f (s.get f + 1)

/-- A field of the active protection table (R392). -/
def State.act (s : State) (f : Fld) : Nat := Sparse.get f.rst s.prtActive f.id

/-- A 64-bit quantity kept in a low and a high field. -/
def State.get2 (s : State) (lo hi : Fld) : Nat := s.get lo + s.get hi * 2 ^ lo.w

def State.set2 (s : State) (lo hi : Fld) (v : Nat) : State := (s.set lo v).set hi (v / 2 ^ lo.w)

/-- The tick counter as a number. -/
def State.now (s : State) : Nat := s.tick.toNat

/-- A value that nothing constrains (notes/assumptions/6.md), and the count of such values advanced. -/
def State.fresh (s : State) : Nat × State := (Config.freeValue s.free, { s with free := s.free + 1 })

/-- A message or frame sent. -/
def State.send (s : State) (m : Sent) : State := { s with sent := s.sent ++ [m] }

/-- R344, R345, R356. A Ransel message queued for both links: it takes the next SEQ, and a lead counts its
bytes, but for HEARTBEAT, HELLO, NAK and TETHER_DATA. -/
def State.ransel (s : State) (kind : Nat) (payload : List Nat) : State :=
  let p := s.par
  let n := if s.get PAR.STATUS.STATE = 2 ∧ ¬ kind ∈ [1, 2, 3, 0x50] then 12 + payload.length else 0
  { s with
    sent := s.sent ++ [.ransel kind p.sendSeq payload]
    par := { p with sendSeq := (p.sendSeq + 1) % 2 ^ 32, cycleBytes := p.cycleBytes + n, lastSent := s.now } }

/-! ## Pair state, as other blocks ask for it (R381) -/

def State.pairState (s : State) : Nat := s.get PAR.STATUS.STATE
def State.isDriving (s : State) : Bool := s.pairState == 0 || s.pairState == 2
def State.isTrail (s : State) : Bool := s.pairState == 3 || s.pairState == 4

/-- R350, R361. Whether the unit sends the stream that a trail executes from: a LEAD, and an ALONE that has named a tether
cycle and has yet to see its partner tethered. -/
def State.streams (s : State) : Bool := s.pairState == 2 || (s.pairState == 0 && s.par.tetherSent.isSome)
def State.inRun (s : State) : Bool := s.bit SYS.STATUS.RUN

/-- Plant time in ns, 0 while it is not set (R527). -/
def State.plantNs (s : State) : Nat := if s.bit TIM.STATUS.SET then s.plant / 2 ^ 32 % 2 ^ 64 else 0

/-! ## Event assertions -/

/-- R95. An event source asserted with a data word: delivered when the command's effect is complete. -/
def State.post (s : State) (src data : Nat) : State :=
  { s with rng := { s.rng with evq := s.rng.evq ++ [⟨src, data % 2 ^ 32, true⟩] } }

/-! ## Recorder records (R527 to R529) -/

/-- R527. ORIGIN of an initiator. -/
def originOf (init : Nat) : Nat :=
  if init = 0 then 1 else if 4 ≤ init ∧ init ≤ 7 then 2 else if init = 18 then 3 else 0

def State.queueRec (s : State) (r : Rec) : State :=
  let q := s.log.queue ++ [r]
  ({ s with log := { s.log with queue := q } }).set REC.STATUS.QUEUE q.length

/-- R529. An event record queued, or dropped and counted: 112 of the 128 places take event records. -/
def State.recordEvent (s : State) (code : Nat) (data : List Nat) : State :=
  if 112 ≤ s.log.queue.length + b2n (s.log.lost != 0) then
    ({ s with log := { s.log with lost := s.log.lost + 1 } }).bump REC.LOST.COUNT
  else
    let mk (c : Nat) (d : List Nat) : Rec :=
      { code := c, change := false, tick := s.now, plant := s.plantNs, data := d }
    let s1 := if s.log.lost = 0 then s else
      (({ s with log := { s.log with lost := 0 } }).queueRec
        (mk 2 (leBytes 4 s.log.lost ++ leBytes 4 0))).post 224 s.log.lost
    s1.queueRec (mk code data)

/-- R528, R529. A change-log record queued; none is ever dropped. -/
def State.recordChange (s : State) (code origin priv session : Nat) (data : List Nat)
    (copy : Bool := false) : State :=
  s.queueRec { code := code, change := true, flags := if copy then 4 else 0, origin := origin, priv := priv,
               session := session, tick := s.now, plant := s.plantNs, data := data }

/-- R528. COMMAND: block, OP, argument, STATUS and REASON. -/
def State.recordCommand (s : State) (block op arg status reason origin priv session : Nat) : State :=
  s.recordChange 0x8001 origin priv session
    (leBytes 1 block ++ leBytes 1 op ++ leBytes 2 arg ++ leBytes 1 status ++ leBytes 1 reason ++ [0, 0])

/-- Sources of the field and time chapters that write recorder entries. -/
def recordedMore : List Nat :=
  [49, 52, 53, 54, 80, 82, 97, 112, 117, 128, 130, 144, 146, 147, 148, 178, 179, 183, 188, 202, 203]

/-- The sources whose assertions also write recorder entries, as the chapters' source tables say. -/
def recorded (e : Ev) : Bool :=
  (e.src ∈ [0, 1, 3, 10, 13, 40, 41, 44, 45, 46, 208, 211, 217, 218, 219, 225, 227, 228, 230, 231, 249, 251])
  || (16 ≤ e.src && e.src ≤ 22) || (e.src == 184 && bitsOf e.data 1 2 == 2) || (e.src == 209 && bitsOf e.data 8 8 == 0x60)
  || (160 ≤ e.src && e.src ≤ 173 && e.src != 169) || (e.src ∈ recordedMore)

/-! ## Power domains (spec/16) -/

def State.domState (s : State) (d : Nat) : Nat := if d = 0 then 0 else s.get (PWR.D_STATUS.STATE d)
def State.domOn (s : State) (d : Nat) : Bool := s.domState d == 0
def State.domFailed (s : State) (d : Nat) : Bool := s.domState d == 3

def State.dom (s : State) (d : Nat) : PwrRt := Sparse.get {} s.pwr.doms d
def State.setDom (s : State) (d : Nat) (r : PwrRt) : State :=
  { s with pwr := { s.pwr with doms := Sparse.put {} s.pwr.doms d r } }

/-- R515. A failed engine target stays in its disabled state. -/
def State.targetFailed (s : State) (ts : List Nat) : Bool := ts.any fun t => (s.get BST.FAILED.TARGETS).testBit t

/-- The domain of each ring engine (R68): the ring controller, the ferry engine and the recorder lie in D0. -/
def engineDomain (e : Nat) : Nat :=
  match e with
  | 1 => 4 | 2 => 5 | 3 => 5 | 4 => 6 | 5 => 5 | 6 => 5 | 7 => 7 | 9 => 2 | 11 => 4 | _ => 0

/-- R499. The data word of source 9. -/
def domWord (d new old rail : Nat) : Nat := d + 8 * new + 64 * old + 512 * rail

/-- R53. The rail voltage of a setting, in mV. -/
def railMv (r : Nat) : Nat := if r = 0 then 720 else if r = 2 then 880 else 800

/-- R488. The retention level, in mV. -/
def retainMv : Nat := 600

/-- R493. A voltage in ULINEAR16, the exponent as VOUT_MODE reports it (two's complement in its low 5 bits). The value is
rounded to the nearest (notes/assumptions/130.md). -/
def ulinear16 (mode mv : Nat) : Nat :=
  let e := toSigned 5 (mode % 32)
  (if e < 0 then (mv * 2 ^ (-e).toNat + 500) / 1000 else (mv + 500 * 2 ^ e.toNat) / (1000 * 2 ^ e.toNat)) % 2 ^ 16

/-- R493. The bytes of a command: PAGE_PLUS_WRITE with its data, PAGE_PLUS_READ, or VOUT_MODE. -/
def PmBus.bytes (c : PmBus) (mode : Nat) : List Nat :=
  if c.cmd = 0x20 then [0x20]
  else if c.read then [0x06, c.cmd]
  else if c.cmd = 0x21 then [0x05, 0x21] ++ leBytes 2 (ulinear16 mode c.mv)
  else [0x05, c.cmd, 0]

/-- R493. The command at the head of the bus queue is sent. -/
def State.busSend (s : State) : State :=
  match s.pwr.bus with
  | c :: _ => s.send (.pmbus c.page (c.bytes s.pwr.voutMode))
  | [] => s

/-- R493. A command queued for the regulator, sent at once where the bus is free. -/
def State.busAdd (s : State) (c : PmBus) : State :=
  let free := s.pwr.bus.isEmpty && s.pwr.retryAt.isNone
  let s := { s with pwr := { s.pwr with bus := s.pwr.bus ++ [c] } }
  if free then s.busSend else s

/-- R488, R493. Rail `d` set to a voltage with VOUT_COMMAND (0x21). -/
def State.railTo (s : State) (d mv : Nat) : State := s.busAdd { page := d, cmd := 0x21, mv := mv }

/-- R488, R493. Rail `d` switched off with OPERATION (0x01). -/
def State.railOff (s : State) (d : Nat) : State := s.busAdd { page := d, cmd := 0x01 }

/-- R493. A read: STATUS_WORD (0x79) of a page, or VOUT_MODE (0x20). -/
def State.busRead (s : State) (d cmd : Nat) : State := s.busAdd { page := d, cmd := cmd, read := true }

/-- R56, R61. The first window of domain `d` begins now, at its logic ready. -/
def State.speedStart (s : State) (d : Nat) : State :=
  { s with car := { s.car with
    speedFrom := Sparse.insert s.car.speedFrom d s.now, speedPart := s.car.speedPart.filter (· != d) } }

/-- R61. Domain `d` is in RETAIN, OFF or FAILED: no window runs, COUNT and VALID are held at 0. -/
def State.speedStop (s : State) (d : Nat) : State :=
  ((State.set { s with car := { s.car with speedFrom := Sparse.erase s.car.speedFrom d } } (SYS.SPEED.COUNT d) 0).set
    (SYS.SPEED.VALID d) 0)

/-- R60. The running window of domain `d` is not full: the domain has left ON, or its monitor was disabled. -/
def State.speedBroken (s : State) (d : Nat) : State :=
  { s with car := { s.car with speedPart := addOnce s.car.speedPart d } }

/-- R491. A wake starts: stage 1 sets the rail. -/
def State.startWake (s : State) (d : Nat) : State :=
  let rt := s.dom d
  let s := s.setDom d { rt with wakeFrom := s.domState d, retried := false, wakeAfter := false, wakeNoted := false
                                since := s.now }
  ((s.set (PWR.D_STATUS.STATE d) 5).set (PWR.D_STATUS.STAGE d) 1).railTo d (railMv (s.get (PWR.D_STATUS.RAIL d)))

/-- R482, R490. A wake event of domain `d`: it wakes a domain in RETAIN or OFF, and counts during an entry. -/
def State.wakeEvent (s : State) (d : Nat) : State :=
  match s.domState d with
  | 1 => s.startWake d
  | 2 => s.startWake d
  | 4 =>
    let rt := s.dom d
    let s1 := (s.setDom d { rt with wakeAfter := true, wakeNoted := true }).bump (PWR.D_ENTRIES.WAKE_IN_ENTRY d)
    if rt.wakeNoted then s1 else s1.post 12 d
  | _ => s

/-- R488. Domain `d` quiesces: accesses newly presented to it are held. -/
def State.quiesces (s : State) (d : Nat) : Bool := s.domState d == 4 && (s.dom d).quiesce

/-- R492. An access to a domain that is not ON. -/
def State.accessDown (s : State) (init d : Nat) : State :=
  ((s.bump PWR.ACCESS_DOWN.COUNT).set PWR.ACCESS_DOWN.INITIATOR init).set PWR.ACCESS_DOWN.DOMAIN d

/-! ## The address map (R5) -/

inductive Range where
  | sram | pair | rom | reg | mram | dram | none
  deriving DecidableEq, Repr

def rangeOf (a : Nat) : Range :=
  if a < 0x1800000 then .sram
  else if 0x2000000 ≤ a ∧ a < 0x2400000 then .pair
  else if 0x4000000 ≤ a ∧ a < 0x4100000 then .rom
  else if 0x10000000 ≤ a ∧ a < 0x11000000 then .reg
  else if 0x20000000 ≤ a ∧ a < 0x24000000 then .mram
  else if 0x800000000 ≤ a ∧ a < 0xA00000000 then .dram
  else .none

/-- Whether `[a, a + n)` lies in one range of the map. -/
def within (r : Range) (a n : Nat) : Bool := rangeOf a == r && (n == 0 || rangeOf (a + n - 1) == r)

/-- Control SRAM or DRAM, wholly inside one of them. -/
def inSramDram (a n : Nat) : Bool := within .sram a n || within .dram a n

def inputImage (a : Nat) : Bool := 0x2000000 ≤ a && a < 0x2080000
def outputImage (a : Nat) : Bool := 0x2080000 ≤ a && a < 0x2100000
def critical (a : Nat) : Bool := 0x2100000 ≤ a && a < 0x2400000

/-! ## The protection table (R385 to R391) -/

/-- R385. The kinds of access: 0 read, 1 write, 2 execute. -/
inductive Kind where
  | read | write | exec
  deriving DecidableEq, Repr

def Kind.code : Kind → Nat
  | .read => 0 | .write => 1 | .exec => 2

/-- Who makes an access: the requester's ID, the ring's owner where it is ring-driven (R87), the
deadline, where it is not the initiator's own (R384), and the ring on whose tag it goes (R85). -/
structure Via where
  init  : Nat
  owner : Option Nat := none
  due   : Option Nat := none
  ring  : Option Nat := none
  deriving DecidableEq, Repr

/-- A refusal by the table: level, the ID whose check failed, whether as owner, the first refused byte. -/
structure Refused where
  level : Nat
  id    : Nat
  owner : Bool
  addr  : Nat
  deriving DecidableEq, Repr

/-- The first address of `[a, a + n)` whose granule of `g` bytes fails `ok`. -/
def firstBad (ok : Nat → Bool) (g a n : Nat) : Option Nat :=
  ((List.range ((a + n - 1) / g - a / g + 1)).find? (fun i => !ok (a / g + i))).map
    (fun i => max a ((a / g + i) * g))

/-- R390. The active memory regions grant `id` the kind in the 4 KiB block `p`. -/
def State.regionGrants (s : State) (id : Nat) (k : Kind) (p : Nat) : Bool :=
  (List.range 48).any fun r =>
    s.act (PRT.REGION_BASE_HI.ENABLE r) == 1
    && decide (s.act (PRT.REGION_BASE_LO.ADDR r) + s.act (PRT.REGION_BASE_HI.ADDR r) * 2 ^ 20 ≤ p)
    && decide (p ≤ s.act (PRT.REGION_LIMIT_LO.ADDR r) + s.act (PRT.REGION_LIMIT_HI.ADDR r) * 2 ^ 20)
    && Nat.testBit (if k = .write then s.act (PRT.REGION_WRITE.MASK r) else s.act (PRT.REGION_READ.MASK r)) id

/-- R391. PERM of `id` for the 64-byte granule `q`: its first enabled rule that contains it, or the default. -/
def State.ruleFor (s : State) (id q : Nat) : Nat :=
  match (List.range 16).find? (fun r =>
      s.act (PRT.INIT_RULE_BASE_HI.ENABLE id r) == 1
      && decide (s.act (PRT.INIT_RULE_BASE_LO.ADDR id r) + s.act (PRT.INIT_RULE_BASE_HI.ADDR id r) * 2 ^ 26 ≤ q)
      && decide (q ≤ s.act (PRT.INIT_RULE_LIMIT_LO.ADDR id r)
                    + s.act (PRT.INIT_RULE_LIMIT_HI.ADDR id r) * 2 ^ 26)) with
  | some r => s.act (PRT.INIT_RULE_BASE_HI.PERM id r)
  | none => s.act (PRT.INIT_DEFAULT.PERM id)

/-- R388, R389, R555. What is refused at level 0 whatever ENFORCE says. -/
def alwaysRefused (v : Via) (k : Kind) (a n : Nat) : Option Nat :=
  match firstBad (fun g => rangeOf (g * 4096) != .none) 4096 a n with
  | some b => some b
  | none =>
    if rangeOf a = .reg ∧ (0x101A0000 ≤ a ∨ k = .exec ∨ n ≠ 4 ∨ a % 4 ≠ 0 ∨ v.owner.isSome) then some a
    else match firstBad (fun g => !(rangeOf (g * 4096) == .rom && k == .write)) 4096 a n with
      | some b => some b
      | none => none

/-- R385. Level 0, then level 1, for one ID. -/
def State.checkId (s : State) (id : Nat) (owner : Bool) (k : Kind) (a n : Nat) : Option Refused :=
  let l0 : Option Nat :=
    if rangeOf a = .reg then
      let m := if k = .write then s.act (PRT.BLOCK_WRITE.MASK (bitsOf a 16 8))
               else s.act (PRT.BLOCK_READ.MASK (bitsOf a 16 8))
      if m.testBit id then none else some a
    else firstBad (s.regionGrants id k) 4096 a n
  match l0 with
  | some b => some ⟨0, id, owner, b⟩
  | none =>
    (firstBad (fun q => (s.ruleFor id q).testBit k.code) 64 a n).map fun b => ⟨1, id, owner, b⟩

/-- R546. The settings area of the slot that is not active, and whether it is read-only: while the active slot is TRIAL. -/
def State.oldArea (s : State) : Nat := 0x23000000 + 0x100000 * (1 - s.get UPD.ACTIVE.SLOT)
def State.areaLocked (s : State) : Bool := s.get (UPD.SLOT_STATE.STATE (s.get UPD.ACTIVE.SLOT)) == 2

/-- R385 to R388. The check of an access: as the requester, then as the ring's owner. -/
def State.check (s : State) (v : Via) (k : Kind) (a n : Nat) : Option Refused :=
  if n = 0 then none else
  match alwaysRefused v k a n with
  | some b => some ⟨0, v.init, false, b⟩
  | none =>
    if k = .write ∧ s.areaLocked ∧ overlaps a n s.oldArea 0x100000 then some ⟨0, v.init, false, max a s.oldArea⟩
    else if !s.bit PRT.CTRL.ENFORCE then none
    else match s.checkId v.init false k a n with
      | some r => some r
      | none => match v.owner with
        | some o => s.checkId o true k a n
        | none => none

/-- R387, R415. A refusal recorded; source 208 at most once per millisecond for each ID. -/
def State.noteRefused (s : State) (r : Refused) (k : Kind) : State :=
  let s := ((((s.set PRT.FAULT_INFO.INITIATOR r.id).set PRT.FAULT_INFO.LEVEL r.level).set
    PRT.FAULT_INFO.KIND k.code).setB PRT.FAULT_INFO.AS_OWNER r.owner).bump PRT.FAULT_COUNT.COUNT
  let s := s.set2 PRT.FAULT_ADDR_LO.ADDR PRT.FAULT_ADDR_HI.ADDR r.addr
  let quiet := match Sparse.find s.fab.protLast r.id with
    | some t => decide (s.now < t + ticksPerMs)
    | none => false
  if quiet then s
  else ({ s with fab := { s.fab with protLast := Sparse.insert s.fab.protLast r.id s.now } }).post 208
    (r.id + 32 * r.level + 64 * k.code + 256 * b2n r.owner + bitsOf r.addr 12 20 * 4096)

/-! ## The arbiters, as transactions arrive (R398 to R403) -/

/-- R398. The deadline-ranked target of an address. -/
def targetOf (a : Nat) : Option Nat :=
  match rangeOf a with
  | .sram => some (bitsOf a 12 3)
  | .pair => some 8
  | .dram => some 9
  | _ => none

/-- R398. Occupancy of one transaction. DRAM refresh (initiator 32) takes 70 ticks. -/
def occupancy (t : Nat) (x : Txn) : Nat :=
  if x.init = 32 then 70 else if t = 9 then (if x.len ≤ 64 then 10 else 14) else if x.len ≤ 64 then 1 else 4

/-- R401. Transactions that no arrival revokes. -/
def Txn.fixed (x : Txn) : Bool :=
  decide (x.len ≤ 64) || decide (x.init ≤ 3) || x.atomic || x.bell || x.init == 32 || decide (3 ≤ x.revoked)

/-- R399. Whether `x` is served before `y`: the nearer deadline, the lower ID, the earlier presentation. -/
def Txn.before (x y : Txn) : Bool :=
  decide (x.deadline < y.deadline) || (x.deadline == y.deadline &&
    (decide (x.init < y.init) || (x.init == y.init && decide (x.arrival < y.arrival))))

def State.arb (s : State) (t : Nat) : Arbiter := Sparse.get {} s.fab.arbs t
/-- R482. Whether an arbiter has a transaction of initiators 4 to 7. -/
def Arbiter.ofService (a : Arbiter) : Bool :=
  (a.waiting ++ (a.inService.map (·.1)).toList ++ a.chosen.toList).any fun x => decide (4 ≤ x.init) && decide (x.init ≤ 7)

/-- An arbiter changes: the tick is kept at the DRAM port, and where a service core's transaction was or is (R482). -/
def State.setArb (s : State) (t : Nat) (a : Arbiter) : State :=
  { s with fab := { s.fab with
    arbs := Sparse.put {} s.fab.arbs t a, dramAt := if t = 9 then s.now else s.fab.dramAt
    svcAt := if (s.arb t).ofService || a.ofService then s.now else s.fab.svcAt } }

/-- R405, R413. A grant: the longest wait, lateness and its source, and the quota's count (R403). -/
def State.grant (s : State) (t : Nat) (x : Txn) (counted : Bool) : State :=
  let wait := s.now - x.arrival
  let s := if s.get (ARB.TARGET_PEAK_WAIT.TICKS t) < wait
    then s.set (ARB.TARGET_PEAK_WAIT.TICKS t) (min wait 0xFFFF) else s
  let s := if s.now ≤ x.deadline then s else
    let s1 := s.bump (ARB.TARGET_LATE.COUNT t)
    let quiet := match Sparse.find s.fab.lateTick t with
      | some k => decide (s.now < k + ticksPerMs)
      | none => false
    if quiet then s1
    else ({ s1 with fab := { s1.fab with lateTick := Sparse.insert s1.fab.lateTick t s.now } }).post 210 t
  let q := s.get (ARB.INIT_QUOTA.GRANTS x.init)
  if !counted || x.init < 4 || 21 < x.init || q = 0 then s else
    let a := s.arb t
    let g := Sparse.get 0 a.grants x.init + 1
    let a := { a with grants := Sparse.insert a.grants x.init g }
    if g < q || a.masked.contains x.init then s.setArb t a else
      let s := (s.setArb t { a with masked := a.masked ++ [x.init] }).bump (ARB.TARGET_MASKED.COUNT t)
      if s.fab.quotaTold.contains x.init then s
      else ({ s with fab := { s.fab with quotaTold := s.fab.quotaTold ++ [x.init] } }).post 212 (t + 256 * x.init)

/-- A transaction enters service. -/
def State.serve (s : State) (t : Nat) (x : Txn) (counted : Bool) : State :=
  let s := s.grant t x counted
  s.setArb t { s.arb t with inService := some (x, s.now + occupancy t x) }

/-- R400, R401. A transaction arrives at a target: it is served at once, becomes the one chosen next, waits,
or revokes the one in service, which later restarts with its deadline, check and epoch (R402). -/
def State.arrive (s : State) (t : Nat) (x : Txn) : State :=
  let a := s.arb t
  match a.inService with
  | none => s.serve t x true
  | some (y, fin) =>
    let wait := (fin - s.now) + (match a.chosen with | some c => occupancy t c | none => 0) + occupancy t x
    if s.bit ARB.REVOKE.ENABLE && !y.fixed && decide (x.deadline < y.deadline) && decide (x.deadline < s.now + wait)
    then
      let y' := { y with revoked := y.revoked + 1 }
      let s := (s.setArb t { a with waiting := a.waiting ++ [y'], inService := none }).bump
        (ARB.TARGET_REVOKES.COUNT t)
      let s := if y'.revoked = 3 then s.post 211 (t + 256 * y.init) else s
      s.serve t x true
    else match a.chosen with
      | none => s.setArb t { a with chosen := some x }
      | some _ => s.setArb t { a with waiting := a.waiting ++ [x] }

/-- R384. The running class: the class of highest priority in execute. -/
def State.runClass (s : State) : Option Nat :=
  (List.range 8).find? fun k => s.get (CYC.CLASS_STATUS.PHASE k) == 2

/-- R384. The deadline of an initiator's own transactions. -/
def State.ownDue (s : State) (init : Nat) : Nat :=
  s.now + (match (if init ≤ 3 then s.runClass else none) with
    | some k => s.get (ARB.CLASS_DEADLINE.TICKS k)
    | none => s.get (ARB.INIT_DEADLINE.TICKS init))

/-- R85. Whether a transaction of ring `n` with this deadline finds a tag. -/
def State.tagFree (s : State) (n deadline : Nat) : Bool :=
  let urgent := decide (deadline ≤ s.now + s.get RNG.URGENT_WINDOW.TICKS)
  let cap := if urgent then 128 else 128 - s.get RNG.URGENT.RESERVED_TAGS
  decide (s.get RNG.TAGS.IN_FLIGHT < cap) &&
    decide (s.get (RNG.RING_STATUS.TAGS_HELD n) < s.get (RNG.RING_CFG.MAX_INFLIGHT n))

/-- R85. A tag taken by a transaction of ring `n`, and given back at its end. -/
def State.takeTag (s : State) (n : Nat) : State :=
  let k := s.get RNG.TAGS.IN_FLIGHT + 1
  let s := (s.set RNG.TAGS.IN_FLIGHT k).set (RNG.RING_STATUS.TAGS_HELD n) (s.get (RNG.RING_STATUS.TAGS_HELD n) + 1)
  if s.get RNG.TAGS.PEAK < k then s.set RNG.TAGS.PEAK k else s

def State.giveTag (s : State) (n : Nat) : State :=
  (s.set RNG.TAGS.IN_FLIGHT (s.get RNG.TAGS.IN_FLIGHT - 1)).set (RNG.RING_STATUS.TAGS_HELD n)
    (s.get (RNG.RING_STATUS.TAGS_HELD n) - 1)

/-- R85. A ring-driven transaction joins its target's arbiter with a tag, or waits for one. -/
def State.tagged (s : State) (n t : Nat) (x : Txn) : State :=
  if s.tagFree n x.deadline then (s.takeTag n).arrive t x
  else { s with rng := { s.rng with tagWaits := s.rng.tagWaits ++ [⟨n, x.deadline, .data t x⟩] } }

/-- R399. A transaction presented: it joins its target's arbiter. At a target without one it takes no time, and a ring-driven
one gives its tag straight back (notes/assumptions/133.md). -/
def State.present (s : State) (v : Via) (a n : Nat) (write : Bool) (atomic : Bool := false)
    (bell : Bool := false) : State :=
  match targetOf a, v.ring with
  | none, none => s
  | none, some r => (s.takeTag r).giveTag r
  | some t, r =>
    let x : Txn := { init := v.init, addr := a, len := n, write := write, deadline := v.due.getD (s.ownDue v.init),
                     arrival := s.now, epoch0 := s.get PRT.RULE_EPOCH.L0, epoch1 := s.get PRT.RULE_EPOCH.L1,
                     atomic := atomic, bell := bell, ring := r }
    match r with
    | none => s.arrive t x
    | some n => s.tagged n t x

/-! ## Memory contents -/

/-- R211, R505. What an unlisted address reads as: zero; in the pair region a pair-word of value 0. -/
def memDefault (a : Nat) : Byte := if within .pair a 1 && decide (4 ≤ a % 8) then 0xFF else 0

def State.byte (s : State) (a : Nat) : Byte := Sparse.get (memDefault a) s.mem a

/-- R582. A byte as a read returns it: in lost DRAM, a free value until the unit is written. -/
def State.readByte (s : State) (a : Nat) : Nat :=
  if s.dramLost && within .dram a 1 && !s.dramWritten.contains (a / 8) then
    Config.lostDramByte s.dramLoss s.now a % 256
  else (s.byte a).toNat

/-- The bytes `[a, a + n)` as a read returns them. -/
def State.bytes (s : State) (a n : Nat) : List Nat := (List.range n).map fun i => s.readByte (a + i)

/-- The check units that `[a, a + n)` touches. -/
def unitsOf (a n : Nat) : List Nat :=
  if n = 0 then [] else (List.range ((a + n - 1) / 8 - a / 8 + 1)).map (fun i => a / 8 + i)

/-- R581, R582. Whether a read of the unit is uncorrectable. -/
def State.unitBad (s : State) (u : Nat) : Bool :=
  s.poison.contains u ||
  (s.dramLost && within .dram (u * 8) 1 && !s.dramWritten.contains u && Config.lostDramError s.dramLoss s.now u)

/-- Memory with one byte stored. -/
def putByte (m : List Host.Cell) (a b : Nat) : List Host.Cell :=
  Sparse.put (memDefault a) m a (BitVec.ofNat 8 b)

/-- Memory with bytes stored from `a` on. -/
def putBytes : List Host.Cell → Nat → List Nat → List Host.Cell
  | m, _, [] => m
  | m, a, b :: bs => putBytes (putByte m a b) (a + 1) bs

/-- The units that `[a, a + n)` covers whole. -/
def wholeUnits (a n : Nat) : List Nat := (unitsOf a n).filter fun u => decide (a ≤ u * 8 ∧ u * 8 + 8 ≤ a + n)

/-- R582. The units of lost DRAM that `[a, a + n)` touches, and that nothing has written since. -/
def State.lostUnits (s : State) (a n : Nat) : List Nat :=
  if s.dramLost && within .dram a 1 then (unitsOf a n).filter fun u => !s.dramWritten.contains u else []

/-- Memory with the bytes of units of lost DRAM as they stand before a write: free values. -/
def State.lostFilled (s : State) (us : List Nat) : List Host.Cell :=
  us.foldl (fun m u => putBytes m (u * 8) ((List.range 8).map fun i =>
    Config.lostDramByte s.dramLoss s.now (u * 8 + i) % 256)) s.mem

/-- Bytes stored, with check bits: whole units lose their errors and are no longer lost. -/
def State.store (s : State) (a : Nat) (bs : List Nat) : State :=
  let whole := wholeUnits a bs.length
  let lost := s.lostUnits a bs.length
  { s with
    mem := putBytes (s.lostFilled (lost.filter fun u => !whole.contains u)) a bs
    poison := if s.poison = [] then [] else s.poison.filter (fun u => !whole.contains u)
    dramWritten := if lost = [] then s.dramWritten else s.dramWritten ++ lost }

/-- R582. DRAM is lost. -/
def State.loseDram (s : State) : State :=
  { s with
    mem := s.mem.filter fun c => !within .dram c.1 1
    poison := s.poison.filter fun u => !within .dram (u * 8) 1
    dramLost := true, dramLoss := s.dramLoss + 1, dramWritten := [] }

/-- Why an access moved nothing. -/
inductive Err where
  | prot (r : Refused)
  | target
  | pairAddr
  | pairBad
  | ecc
  deriving DecidableEq, Repr

/-- The completion status of an error (R82, R396). -/
def Err.status : Err → Nat
  | .prot _ => 0x20
  | .target => 0x20
  | .pairAddr => 0x10
  | .pairBad => 0x21
  | .ecc => 0x22

/-- R80. DETAIL of a protection fault: bit 0 as the owner, bit 1 the level. -/
def Err.detail : Err → Nat
  | .prot r => b2n r.owner + 2 * r.level
  | _ => 0

/-! ## What a write sets off -/

/-- R88, R89. A ring enters FAULTED; RING_n_FAULT keeps the first fault since RESUME or enable. -/
def State.ringFault (s : State) (n reason status index : Nat) : State :=
  if s.get (RNG.RING_STATUS.STATE n) = 4 then s else
  let s := s.set (RNG.RING_STATUS.STATE n) 4
  let s := if s.get (RNG.RING_FAULT.REASON n) = 0 then
    ((s.set (RNG.RING_FAULT.REASON n) reason).set (RNG.RING_FAULT.STATUS n) status).set (RNG.RING_FAULT.INDEX n) index
    else s
  s.post 232 (n + 256 * reason + 65536 * status)

def State.ring (s : State) (n : Nat) : RingRt := Sparse.get {} s.rng.rings n
def State.setRing (s : State) (n : Nat) (r : RingRt) : State :=
  { s with rng := { s.rng with rings := Sparse.put {} s.rng.rings n r } }

/-- Address of ring `n`'s doorbell word. -/
def State.bellAddr (s : State) (n : Nat) : Nat :=
  s.get (RNG.RING_DOORBELL_LO.ADDR n) * 4 + s.get (RNG.RING_DOORBELL_HI.ADDR n) * 2 ^ 32

/-- Entries of ring `n`. -/
def State.ringSize (s : State) (n : Nat) : Nat := 2 ^ s.get (RNG.RING_DESC_BASE_HI.ENTRIES_LOG2 n)

/-- R72. A doorbell write that is ignored. -/
def State.bellIgnored (s : State) (n cause init : Nat) : State :=
  (((s.bump RNG.DB_IGNORED.COUNT).set RNG.DB_IGNORED.LAST_RING n).set RNG.DB_IGNORED.LAST_CAUSE cause).post 234
    (n + 256 * cause + 65536 * init)

/-- The class in execute and its cycle number. -/
def State.execCycle (s : State) : Option (Nat × Nat) :=
  s.runClass.map fun k => (k, (Sparse.get {} s.cyc.classes k).cycle)

/-- R73, R77, R482. A doorbell write that passes R72, carrying `prod`. An overrun faults the ring with INDEX its CONS and STATUS
0: no descriptor is at fault (notes/assumptions/133.md). -/
def State.bellAccept (s : State) (n prod init : Nat) : State :=
  let cons := s.get (RNG.RING_INDEX.CONS n)
  let new := (prod + 65536 - cons) % 65536
  let old := (s.get (RNG.RING_INDEX.PROD n) + 65536 - cons) % 65536
  if s.ringSize n < new then s.ringFault n 4 0 cons
  else if new < old then s.bellIgnored n 3 init
  else
    let rt := s.ring n
    let s := (s.set (RNG.RING_INDEX.PROD n) prod).setRing n
      (if new = old then rt else { rt with bells := rt.bells ++ [⟨prod, s.now, s.execCycle⟩] })
    if s.get (RNG.RING_CFG.ENGINE n) = 7 then s.wakeEvent 7 else s

/-- R71 to R73. A write of `bs` at `a` by `init` that touches the doorbell word of the enabled ring `n`. Of several causes the
first in the order of their codes is reported (notes/assumptions/133.md). -/
def State.bellWrite (s : State) (init a : Nat) (bs : List Nat) (n : Nat) : State :=
  if s.get (RNG.RING_STATUS.STATE n) = 0 || !overlaps a bs.length (s.bellAddr n) 4 then s
  else if init ≠ s.get (RNG.RING_CFG.OWNER n) then s.bellIgnored n 0 init
  else if a ≠ s.bellAddr n ∨ bs.length ≠ 4 then s.bellIgnored n 1 init
  else
    let w := leNat bs
    if bitsOf w 16 6 ≠ n ∨ bitsOf w 22 10 ≠ 0 then s.bellIgnored n 2 init
    else s.bellAccept n (bitsOf w 0 16) init

/-- R72. A write that the protection table refuses, on a watched doorbell word: it is counted, and raises source 234. No cause
code is the table's own: it is reported as a foreign writer unless it is the owner's partial write, the order of the causes
that `bellWrite` has too (notes/assumptions/133.md). -/
def State.bellRefused (s : State) (init a len n : Nat) : State :=
  if s.get (RNG.RING_STATUS.STATE n) = 0 || !overlaps a len (s.bellAddr n) 4 then s
  else s.bellIgnored n (if init = s.get (RNG.RING_CFG.OWNER n) ∧ (a ≠ s.bellAddr n ∨ len ≠ 4) then 1 else 0) init

def State.bellsRefused (s : State) (init a len : Nat) : State :=
  (List.range 64).foldl (fun s n => s.bellRefused init a len n) s

/-- R78. Fields of word 0. -/
def Desc.opcode (d : Desc) : Nat := bitsOf d.w0 0 8
def Desc.crit (d : Desc) : Bool := d.w0.testBit 8
def Desc.notify (d : Desc) : Bool := d.w0.testBit 9
def Desc.fence (d : Desc) : Bool := d.w0.testBit 10
def Desc.chain (d : Desc) : Bool := d.w0.testBit 11
def Desc.expire (d : Desc) : Bool := d.w0.testBit 12
def Desc.eflags (d : Desc) : Nat := bitsOf d.w0 13 3
def Desc.tag (d : Desc) : Nat := bitsOf d.w0 16 16

/-- R78. The primary address, and the secondary where it is an address. -/
def Desc.primary (d : Desc) : Nat := d.w2 + bitsOf d.w3 0 8 * 2 ^ 32
def Desc.secondary (d : Desc) : Nat := d.w4 + bitsOf d.w5 0 8 * 2 ^ 32

/-- R78, R81. A descriptor ends: its completion record waits for DESCRIPTOR_COMPLETE, and
CHAIN on any status but DONE aborts the next descriptor where that has not started. -/
def State.finish (s : State) (d : Started) (status : Nat) (bytes : Nat := 0) (detail : Nat := 0) : State :=
  let s := if d.d.chain && status != 0 && s.get (RNG.RING_INDEX.CONS d.ring) == (d.idx + 1) % 65536
    then s.setRing d.ring { s.ring d.ring with chainAbort := true } else s
  { s with rng := { s.rng with
    started := s.rng.started.filter (fun x => !(x.ring == d.ring && x.idx == d.idx))
    finished := s.rng.finished ++ [⟨d, ⟨status, bytes, detail, s.now⟩⟩] } }

/-- R81. A descriptor that an access error ends (R82, R90). -/
def State.finishErr (s : State) (d : Started) (e : Err) (bytes : Nat := 0) : State :=
  s.finish d e.status bytes e.detail

def State.startedAt (s : State) (n idx : Nat) : Option Started :=
  s.rng.started.find? fun d => d.ring == n && d.idx == idx

/-- The started descriptor (ring, index) ends. -/
def State.finishAt (s : State) (p : Option (Nat × Nat)) (status : Nat) (bytes : Nat := 0) (detail : Nat := 0) :
    State :=
  match p with
  | none => s
  | some (n, i) => match s.startedAt n i with
    | some d => s.finish d status bytes detail
    | none => s

/-- R175. The staged map is dropped and tracking disarmed; a STAGE or CROSS that waits ends with `status`. The classes
that a crossing holds stay named until they start. -/
def State.ferryDrop (s : State) (status : Nat) : State :=
  let f := s.fer
  let s := (s.finishAt f.stager status ((f.map.map (·.bytes)).getD 0)).finishAt f.crosser status f.crossBytes
  ((({ s with fer := { crossing := f.crossing } }).set CYC.FERRY_STATUS.STATE 0).set CYC.FERRY_DIRTY.DIRTY 0).set SYS.STATUS.FERRY_ACTIVE 0

/-- R538. A verified entry invalidated; a map staged from it is dropped. -/
def State.dropVerified (s : State) (v : Nat) (byWrite : Bool) : State :=
  let fromIt := match s.fer.map with | some m => m.entryId == v | none => false
  let s := if fromIt then s.ferryDrop 0x33 else s
  (({ s with upd := { s.upd with entries := Sparse.erase s.upd.entries v } }).set (UPD.VERIFIED.VALID v) 0).post 226
    (v + 256 * b2n byWrite)

/-- R162. Size of a source element. -/
def convSrcSize (c : Nat) : Nat :=
  match c with
  | 1 => 4 | 2 => 8 | 3 => 1 | 4 => 2 | 5 => 2 | 6 => 4 | 7 => 4 | 8 => 4 | 9 => 8 | 10 => 4
  | 13 => 24 | 14 => 8 | 16 => 16 | _ => 0

def FerryEntry.srcLen (e : FerryEntry) : Nat := convSrcSize e.conv * e.count

/-- R168. The granules of a write that touch an armed SRC range become dirty. -/
def State.markDirty (s : State) (a n : Nat) : State :=
  match s.fer.map with
  | none => s
  | some m =>
    let gs := if n = 0 then [] else (List.range ((a + n - 1) / 64 - a / 64 + 1)).map (fun i => a / 64 + i)
    let hit (g : Nat) : Bool := m.entries.any fun e =>
      overlaps e.src e.srcLen a n && overlaps e.src e.srcLen (g * 64) 64
        && overlaps (max a (g * 64)) (min (a + n) (g * 64 + 64) - max a (g * 64)) e.src e.srcLen
    let d := (gs.filter hit).foldl addOnce s.fer.dirty
    ({ s with fer := { s.fer with dirty := d } }).set CYC.FERRY_DIRTY.DIRTY d.length

/-- R361. Blocks of the TRACK regions already sent that a write touches are sent again. -/
def State.markTether (s : State) (a n : Nat) : State :=
  if !s.par.tethering || n = 0 then s else
  let bs := ((List.range ((a + n - 1) / 4096 - a / 4096 + 1)).map (fun i => a / 4096 + i)).filter fun b =>
    (List.range 8).any fun r => decide (s.get (PAR.TRACK_BASE.ADDR r) ≤ b ∧
      b < s.get (PAR.TRACK_BASE.ADDR r) + s.get (PAR.TRACK_SIZE.BLOCKS r))
  { s with par := { s.par with tetherDirty := bs.foldl addOnce s.par.tetherDirty } }

/-- What a write that has reached memory sets off: doorbells (R72), verified entries (R538), the ferry's and the
tether's marks (R168, R361), and the reservation of the voted complex (R106). -/
def State.written (s : State) (init a : Nat) (bs : List Nat) : State :=
  let n := bs.length
  let s := (List.range 64).foldl (fun s i => s.bellWrite init a bs i) s
  let s := s.upd.entries.foldl (fun s e => if overlaps a n e.2.addr e.2.len then s.dropVerified e.1 true else s) s
  let s := (s.markDirty a n).markTether a n
  match s.vot.reserve with
  | some r => if overlaps a n (r / 4 * 4) 4 then { s with vot := { s.vot with reserve := none } } else s
  | none => s

/-! ## Accesses -/

/-- R396. A pair-region access of an engine or a service core: 8-byte aligned, a multiple of 8, at most 256. -/
def pairShape (a n : Nat) : Bool := a % 8 == 0 && n % 8 == 0 && decide (n ≤ 256)

/-- R11. Whether 8 bytes are a valid pair-word. -/
def pairOk (bs : List Nat) : Bool := leAt bs 4 4 == compl32 (leAt bs 0 4)

/-- Whether every pair-word of a list of bytes is valid. -/
def pairsOk : Nat → List Nat → Bool
  | 0, _ => true
  | k + 1, bs => pairOk (bs.take 8) && pairsOk k (bs.drop 8)

/-- R492. DRAM reached in its power state: a wake starts in RETAIN; nothing answers in OFF or FAILED. -/
def State.dramUp (s : State) (init a n : Nat) : Bool × State :=
  if !within .dram a n then (true, s)
  else match s.domState 3 with
    | 0 => (true, s)
    | 2 => (false, s.accessDown init 3)
    | 3 => (false, s.accessDown init 3)
    | _ => (true, s.wakeEvent 3)

/-- A read transaction of an engine or a service core. -/
def State.read (s : State) (v : Via) (a n : Nat) (k : Kind := .read) : State × Except Err (List Nat) :=
  match s.check v k a n with
  | some r => (s.noteRefused r k, .error (.prot r))
  | none =>
    if within .pair a 1 && !pairShape a n then (s, .error .pairAddr)
    else
      let (up, s) := s.dramUp v.init a n
      if !up then (s, .error .ecc)
      else
        let s := s.present v a n false
        if (unitsOf a n).any s.unitBad then (s, .error .ecc)
        else (s, .ok (s.bytes a n))

/-- R581. A write that covers only part of a unit with an uncorrectable error is refused whole. -/
def State.partialBad (s : State) (a n : Nat) : Bool :=
  (unitsOf a n).any fun u => s.unitBad u && !(wholeUnits a n).contains u

/-- R75, R401. Whether a write touches a doorbell word of an enabled ring or an event-ring head word. -/
def State.sideEffect (s : State) (a n : Nat) : Bool :=
  ((List.range 64).any fun i => s.get (RNG.RING_STATUS.STATE i) != 0 && overlaps a n (s.bellAddr i) 4)
  || (List.range 4).any fun e => s.bit (EVT.ERING_BASE_HI.ENABLE e)
    && overlaps a n (s.get (EVT.ERING_HEAD_LO.ADDR e) * 4 + s.get (EVT.ERING_HEAD_HI.ADDR e) * 2 ^ 32) 4

/-- A write transaction of an engine or a service core (R396, R397). -/
def State.write (s : State) (v : Via) (a : Nat) (bs : List Nat) : State × Except Err Unit :=
  let n := bs.length
  match s.check v .write a n with
  | some r => ((s.noteRefused r .write).bellsRefused v.init a n, .error (.prot r))
  | none =>
    if within .pair a 1 && inputImage a then (s, .error .target)
    else if within .pair a 1 && !pairShape a n then (s, .error .pairAddr)
    else if within .pair a 1 && !pairsOk (n / 8) bs then (s, .error .pairBad)
    else
      let (up, s) := s.dramUp v.init a n
      if !up then (s, .error .ecc)
      else
        let s := s.present v a n true false (s.sideEffect a n)
        if s.partialBad a n then (s, .error .ecc)
        else ((s.store a bs).written v.init a bs, .ok ())

/-- R87. How far a transaction that starts at `a` may reach: 256 bytes, not across a 4 KiB boundary. -/
def span (a n : Nat) : Nat := min (min n 256) (4096 - a % 4096)

/-- Bytes read transaction by transaction, up to the first that fails; `fuel` bounds their number. -/
def State.readAll (s : State) (v : Via) : Nat → Nat → Nat → State × List Nat × Option Err
  | 0, _, _ => (s, [], none)
  | fuel + 1, a, n =>
    if n = 0 then (s, [], none) else
    match s.read v a (span a n) with
    | (s, .error e) => (s, [], some e)
    | (s, .ok bs) =>
      let (s, rest, e) := s.readAll v fuel (a + span a n) (n - span a n)
      (s, bs ++ rest, e)

/-- A buffer read (R87). -/
def State.readBuf (s : State) (v : Via) (a n : Nat) : State × List Nat × Option Err := s.readAll v (n + 1) a n

/-- Bytes written transaction by transaction; answers the number written and the error that stopped them. -/
def State.writeAll (s : State) (v : Via) : Nat → Nat → List Nat → State × Nat × Option Err
  | 0, _, _ => (s, 0, none)
  | fuel + 1, a, bs =>
    if bs.length = 0 then (s, 0, none) else
    let k := span a bs.length
    match s.write v a (bs.take k) with
    | (s, .error e) => (s, 0, some e)
    | (s, .ok _) =>
      let (s, m, e) := s.writeAll v fuel (a + k) (bs.drop k)
      (s, k + m, e)

/-- A buffer written (R87, R90). -/
def State.writeBuf (s : State) (v : Via) (a : Nat) (bs : List Nat) : State × Nat × Option Err :=
  s.writeAll v (bs.length + 1) a bs

/-- How an access for a descriptor is made: as the engine, checked also as the ring's owner, under the
descriptor's deadline and with a tag of its ring (R85 to R87). -/
def State.via (s : State) (init : Nat) (d : Started) : Via :=
  { init := init, owner := some (s.get (RNG.RING_CFG.OWNER d.ring)), due := some d.deadline, ring := some d.ring }

/-! ## The pair region as the module itself writes it (R194, R397) -/

/-- A pair-word from its value. -/
def pairBytes (v : Nat) : List Nat := leBytes 4 v ++ leBytes 4 (compl32 v)

/-- The value word at `a`. -/
def State.word (s : State) (a : Nat) : Nat := leNat (s.bytes a 4)

/-- The pair-word at `a`: whether it is valid and can be read, and its value. -/
def State.pairAt (s : State) (a : Nat) : Bool × Nat :=
  let bs := s.bytes a 8
  (pairOk bs && !s.unitBad (a / 8), leAt bs 0 4)

/-- A value and its complement stored by PIM or the crossing engine, which generate the complement. -/
def State.putPair (s : State) (init a v : Nat) : State := (s.store a (pairBytes v)).written init a (pairBytes v)

/-- Value words stored as pair-words from `a` on. -/
def State.putPairs (s : State) (init : Nat) : Nat → List Nat → State
  | _, [] => s
  | a, v :: vs => (s.putPair init a v).putPairs init (a + 8) vs

/-! ## Delivery of events (R94 to R99, R120) -/

/-- R95. The interrupt request of core target `t`: 0 the voted complex, 1 to 4 the service cores. -/
def State.irq (s : State) (t : Nat) : Bool := (List.range 8).any fun w => s.bit (EVT.PEND.BITS t w)

/-- R120. The voted complex requests an interrupt. -/
def State.irq0 (s : State) : Bool := s.irq 0

def State.core (s : State) (c : Nat) : Core := s.vot.cores.getD c {}

def State.setCore (s : State) (c : Nat) (k : Core) : State :=
  { s with vot := { s.vot with cores := s.vot.cores.set c k } }

/-- The cores that run. -/
def State.running (s : State) : List Nat := (List.range 3).filter fun c => (s.core c).running

/-- R120. The delivery point that the voter sets now: the highest minstret of the running cores, plus 64. -/
def State.deliveryPoint (s : State) : Nat := (s.running.map fun c => (s.core c).minstret).foldl max 0 + 64

/-- R120. A delivery point is set, unless one is. A lead tells its trail (R352). -/
def State.setDelivery (s : State) : State :=
  if s.vot.delivery.isSome then s else
  let p := s.deliveryPoint
  let s := { s with vot := { s.vot with delivery := some p } }
  if s.streams then
    s.ransel 0x13 (leBytes 8 p ++ (List.range 8).flatMap fun w => leBytes 4 (s.get (EVT.PEND.BITS 0 w)))
  else s

/-- R95. A core target notified. On a trail, target 0 delivers only what the lead's DELIVERY carries (R352). -/
def State.notifyCore (s : State) (t src : Nat) : State :=
  let before := s.irq0
  let f := EVT.PEND.BITS t (src / 32)
  let s := s.set f (setBit (s.get f) (src % 32))
  let s := if t = 0 && !before && !s.isTrail then s.setDelivery else s
  if 1 ≤ t then s.wakeEvent 2 else s

def State.ering (s : State) (n : Nat) : ERingRt := Sparse.get {} s.rng.erings n
def State.setERing (s : State) (n : Nat) (r : ERingRt) : State :=
  { s with rng := { s.rng with erings := Sparse.put {} s.rng.erings n r } }

/-- R99. A record of event ring `n` is dropped. -/
def State.eringDrop (s : State) (n : Nat) (failed : Bool) : State :=
  let rt := s.ering n
  let s := s.setERing n { rt with lost := satAdd rt.lost 1 0xFFFF, episode := true }
  let s := (s.bump (EVT.ERING_LOST.LOST_TOTAL n)).set (EVT.ERING_STATUS.OVERFLOW n) 1
  if rt.episode then s else s.post 235 (n + 256 * b2n failed)

/-- R97. The 16 bytes of an event-ring record. -/
def eringBytes (e : Ev) (phase : Bool) (lost tick : Nat) : List Nat :=
  [e.src, b2n phase + 2 * b2n (lost != 0)] ++ leBytes 2 lost ++ leBytes 4 e.data ++ leBytes 8 tick

/-- R97 to R99. An assertion routed to event ring `n`. -/
def State.notifyRing (s : State) (n : Nat) (e : Ev) : State :=
  if !s.bit (EVT.ERING_BASE_HI.ENABLE n) then s else
  let size := 2 ^ s.get (EVT.ERING_BASE_HI.ENTRIES_LOG2 n)
  let idx := s.get (EVT.ERING_STATUS.WRITE_INDEX n)
  let used (s : State) : Nat := (idx + 65536 - (s.ering n).head) % 65536
  -- the head word is read only when the own count shows the ring full
  let (s, failed) : State × Bool :=
    if used s < size then (s, false) else
    let h := s.get (EVT.ERING_HEAD_LO.ADDR n) * 4 + s.get (EVT.ERING_HEAD_HI.ADDR n) * 2 ^ 32
    match s.read { init := 8 } h 4 with
    | (s, .ok bs) => (s.setERing n { s.ering n with head := leAt bs 0 2 }, false)
    | (s, .error _) => (s, true)
  if size ≤ used s then s.eringDrop n failed else
  let a := s.get (EVT.ERING_BASE_LO.ADDR n) * 16 + s.get (EVT.ERING_BASE_HI.ADDR n) * 2 ^ 32 + 16 * (idx % size)
  match s.write { init := 8 } a (eringBytes e (idx / size % 2 == 0) (s.ering n).lost s.now) with
  | (s, .ok _) =>
    (s.setERing n { s.ering n with lost := 0, episode := false }).set (EVT.ERING_STATUS.WRITE_INDEX n) (idx + 1)
  | (s, .error _) => s.eringDrop n true

/-- R95. One assertion delivered to the recorder and to every target its route names. -/
def State.deliver (s : State) (e : Ev) : State :=
  let s := if e.hw && recorded e then
    s.recordEvent 1 (leBytes 2 e.src ++ [0, 0] ++ leBytes 4 e.data) else s
  let t := s.get (EVT.ROUTE.TARGETS e.src)
  (List.range 9).foldl (fun s i =>
    if !t.testBit i then s else if i < 5 then s.notifyCore i e.src else s.notifyRing (i - 5) e) s

/-- The assertions of a command delivered in order, those they cause included; `fuel` bounds their number. -/
def State.flushN : Nat → State → State
  | 0, s => s
  | fuel + 1, s =>
    match s.rng.evq with
    | [] => s
    | e :: r => State.flushN fuel (({ s with rng := { s.rng with evq := r } }).deliver e)

/-- Every assertion that the command made is delivered. -/
def State.flush (s : State) : State := s.flushN 4096

/-! ## Eligibility (R374, R380, R383) -/

/-- R541. The configuration digest in force. -/
def State.configDigest (s : State) : List Nat := (List.range 8).map fun w => s.get (UPD.CONFIG_DIGEST.DIGEST w)

/-- R374. The first failing reason, or 0. -/
def State.ineligible (s : State) : Nat :=
  if !(s.pairState == 3 || (s.pairState == 4 && s.get PAR.STATUS.UNTETHER_REASON == 1
        && s.bit PAR.CFG.UNTETHERED_TAKEOVER)) then 1
  else if s.bit VOT.STATUS.LEAD_BARRED || decide (2 ≤ s.get VOT.STATUS.MODE) then 2
  else if !s.bit RST.START_STATUS.PASSED then 3
  else if [1, 4, 5].any s.domFailed then 4
  else if s.bit SYS.CARRIER_STATUS.SLOT_FAULT || !s.bit SYS.CARRIER_STATUS.SEATED then 5
  else if s.par.hello.map (·.digest) != some s.configDigest then 6
  else if s.par.diverged then 7
  else 0

/-- R326. UNIT of PAR.STATUS: 0 unit A, 1 unit B. -/
def State.unit (s : State) : Nat := s.get PAR.STATUS.UNIT

/-- Whether this unit is the home unit. -/
def State.isHome (s : State) : Bool := s.get PAR.CFG.HOME == s.unit

/-- R374, R380, R383. ELIGIBLE and INELIGIBLE follow their conditions. A trail that stops being eligible asserts
source 170; the take-back hold-off of a home unit starts and breaks with its conditions. -/
def State.refreshPair (s : State) : State :=
  let r := s.ineligible
  let was := s.bit PAR.STATUS.ELIGIBLE
  let s := (s.setB PAR.STATUS.ELIGIBLE (r == 0)).set PAR.STATUS.INELIGIBLE r
  let s := if was && r != 0 && s.isTrail then s.post 170 r else s
  let hold := s.pairState == 3 && r == 0 && s.isHome && s.bit PAR.CFG.TAKEBACK && s.bit RST.START_STATUS.PASSED
  match hold, s.par.eligibleSince with
  | true, none => ({ s with par := { s.par with eligibleSince := some s.now } }).post 171 0
  | false, some _ => { s with par := { s.par with eligibleSince := none } }
  | _, _ => s

/-! ## The end of a command -/

/-- What follows every command: eligibility is judged again (R374), and the events are delivered (R95). -/
def State.settle (s : State) : State := s.refreshPair.flush

/-- A command's answer: its effect is complete and its events are delivered. -/
def State.done (s : State) : Answer := .next s.settle

/-! ## Time (R51, R416) -/

/-- R19. PARTNER_RESET_OUT is released at the end of its 20 us. -/
def State.resetOutEnd (s : State) : State :=
  match s.car.resetOutUntil with
  | some t => if s.now < t then s
    else State.send { s with car := { s.car with resetOutUntil := none } } (.pin "PARTNER_RESET_OUT" true)
  | none => s

end Sys2Proof.Machine
end

