-- ==== Sys2Proof/Machine/Frames.lean ====
section
/-! DEFINITION. Frames as the module sends them: Ethernet framing, the UCP header, and LEASE frames with their
authentication (spec/06 R185, R186, R195; spec/11 R363, R364). A frame is held from its destination address to
its last body byte, padded to 60 bytes; the port appends the FCS.

Marks (notes/assumptions): DEDUCED 136. -/

namespace Sys2Proof.Machine

/-- R185. An untagged Ethernet frame. -/
def etherFrame (dst src etype : Nat) (payload : List Nat) : List Nat :=
  let f := beBytes 6 dst ++ beBytes 6 src ++ beBytes 2 etype ++ payload
  f ++ List.replicate (60 - f.length) 0

/-- R186. The UCP header. -/
def ucpHeader (kind flags epoch source len seq : Nat) : List Nat :=
  [1, kind] ++ beBytes 2 flags ++ beBytes 4 epoch ++ beBytes 2 source ++ beBytes 2 len ++ beBytes 4 seq

/-- R434. MAC address of a port: crossing ports 0 to 3, plant ports 4 and 5. -/
def portMac (port : Nat) : Nat :=
  if port < 4 then Config.crossMac port
  else Config.macHi (port - 4) * 2 ^ 32 + Config.macLo (port - 4)

/-- R186. SOURCE of this unit. -/
def State.source (s : State) : Nat := 0xF000 + s.unit

/-- A UCP frame of this unit sent on a port. -/
def State.sendUcp (s : State) (port dst kind flags epoch seq : Nat) (body : List Nat) : State :=
  s.send (.frame port (etherFrame dst (portMac port) (s.get FLD.ETHERTYPE.VALUE)
    (ucpHeader kind flags epoch s.source body.length seq ++ body)))

/-! ## LEASE frames (R195, R364) -/

/-- R195. Body bytes 0x00 to 0x17. -/
def leaseHead (op unit carrier epoch ticks nonce : Nat) : List Nat :=
  [op, unit, 0, 0] ++ beBytes 8 carrier ++ beBytes 4 epoch ++ beBytes 4 ticks ++ beBytes 4 nonce

/-- R364. AUTH over the UCP header and body bytes 0x00 to 0x17. -/
def leaseAuth (key header head : List Nat) : List Nat :=
  (kmac256 key (header ++ head) [0x55, 0x43, 0x50, 0x20, 0x4C, 0x45, 0x41, 0x53, 0x45]).take 16

/-- R186, R364. The next SEQUENCE of a sender's LEASE frames on a port. The persistent base keeps ahead, so that a start of D0
never goes back. -/
def State.nextLeaseSeq (s : State) (port source : Nat) : Nat × State :=
  let key := 65536 * port + source
  let q := Sparse.get s.par.leaseStart s.par.leaseSeq key + 1
  let b := if s.par.seqBase + 65536 ≤ q then s.par.seqBase + 65536 else s.par.seqBase
  (q % 2 ^ 32, { s with par := { s.par with leaseSeq := Sparse.insert s.par.leaseSeq key q, seqBase := b } })

/-- R364. At each start of D0 the persistent base advances. -/
def State.leaseStart (s : State) : State :=
  let b := s.par.seqBase + 65536
  { s with par := { s.par with seqBase := b, leaseStart := b, leaseSeq := [] } }

/-- A LEASE frame sent on a port. While no lease key is committed AUTH is a free value. -/
def State.sendLease (s : State) (port dst source epoch op unit carrier leaseEpoch ticks nonce : Nat) : State :=
  let (q, s) := s.nextLeaseSeq port source
  let head := leaseHead op unit carrier leaseEpoch ticks nonce
  let hdr := ucpHeader 3 0 epoch source 40 q
  let (auth, s) : List Nat × State := match s.upd.leaseKey with
    | some k => (leaseAuth k hdr head, s)
    | none => let (v, s) := s.fresh; (beBytes 16 v, s)
  s.send (.frame port (etherFrame dst (portMac port) (s.get FLD.ETHERTYPE.VALUE) (hdr ++ head ++ auth)))

/-- R363. The witness's MAC address, and the port through which it is reached. -/
def State.witnessMac (s : State) : Nat := s.get PAR.WITNESS_MAC_HI.MAC * 2 ^ 32 + s.get PAR.WITNESS_MAC_LO.MAC
def State.witnessPort (s : State) : Nat := s.get PAR.WITNESS_CFG.PORT
def State.hasWitness (s : State) : Bool := s.bit PAR.WITNESS_CFG.ENABLE

/-- R366. LEASE_TICKS of a renewal and of an EPOCH_REQUEST. -/
def State.leaseTicks (s : State) : Nat := s.get PAR.LEASE.TICKS - s.get PAR.WITNESS_PATH.TICKS

/-- A LEASE frame of this unit to its witness, which leaves through D4 (R363), with a new NONCE. -/
def State.toWitness (s : State) (op epoch ticks : Nat) : State :=
  if !s.hasWitness || !s.domOn 4 then s else
  let nonce := (s.par.nonce + 1) % 2 ^ 32
  let s := { s with par := { s.par with nonce := nonce } }
  let s := s.sendLease s.witnessPort s.witnessMac s.source s.par.ownEpoch op s.unit s.car.carrierId epoch ticks nonce
  if op = 1 then { s with par := { s.par with openRenews := s.par.openRenews ++ [(nonce, s.now, ticks)] } }
  else { s with par := { s.par with openRequest := some nonce } }

end Sys2Proof.Machine
end

