-- ==== Sys2Proof/Machine/Interconnect.lean ====
section
/-! DEFINITION. Protection commits, arbiters and locks (spec/12_interconnect.md).

Marks (notes/assumptions): DEDUCED 140. -/

namespace Sys2Proof.Machine

/-! ## Changing the rules (R392 to R395) -/

/-- R390. First and last 4 KiB block of region `r`, as its shadow has them. -/
def State.regionBase (s : State) (r : Nat) : Nat :=
  s.get (PRT.REGION_BASE_LO.ADDR r) + s.get (PRT.REGION_BASE_HI.ADDR r) * 2 ^ 20

def State.regionLimit (s : State) (r : Nat) : Nat :=
  s.get (PRT.REGION_LIMIT_LO.ADDR r) + s.get (PRT.REGION_LIMIT_HI.ADDR r) * 2 ^ 20

/-- R390, R393. Whether a region has its limit not below its base, inside one range of memory. -/
def State.regionFits (s : State) (r : Nat) : Bool :=
  let b := s.regionBase r; let l := s.regionLimit r
  let rg := rangeOf (b * 4096)
  decide (b ≤ l) && rg != .none && rg != .reg && within rg (b * 4096) ((l - b + 1) * 4096)

def State.enabledRegions (s : State) : List Nat := (List.range 48).filter fun r => s.bit (PRT.REGION_BASE_HI.ENABLE r)

/-- R395. The two lowest-numbered regions that overlap. -/
def State.overlapPair (s : State) : Option (Nat × Nat) :=
  let rs := s.enabledRegions
  (rs.flatMap fun a => (rs.filter fun b => decide (a < b)).map fun b => (a, b)).find? fun p =>
    decide (s.regionBase p.1 ≤ s.regionLimit p.2) && decide (s.regionBase p.2 ≤ s.regionLimit p.1)

/-- Whether a field belongs to level 0 (regions and slots), and to level 1 of initiator `i`. -/
def isLevel0 (id : Nat) : Bool := decide (0x040800 * 32 ≤ id) && decide (id < 0x042000 * 32)
def isLevel1 (i id : Nat) : Bool :=
  id / 32 == 0x042000 + 4 * i || (decide (0x044000 + 0x100 * i ≤ id / 32) && decide (id / 32 < 0x044100 + 0x100 * i))

/-- R392. The shadows that `sel` selects become active. -/
def State.swapIn (s : State) (sel : Nat → Bool) : State :=
  let kept := s.prtActive.filter fun p => !sel p.1
  { s with prtActive := (s.regs.filter fun p => sel p.1).foldl (fun l p => Sparse.insert l p.1 p.2) kept }

/-- R395. A commit refused. -/
def State.prtRefuse (s : State) (init op level cause : Nat) : State :=
  (((s.set PRT.CMD_STATUS.STATUS 0x60).set PRT.CMD_STATUS.CAUSE cause).post 209
    (level + 0x60 * 256 + cause * 65536)).recordCommand 4 op 0 0x60 cause (originOf init) 0xFF 0

/-- R393. A commit whose check has passed: hold, swap, release; the drain runs. The hold lasts at most 400
ticks, which the manual does not fix (notes/assumptions/6.md). -/
def State.prtSwap (s : State) (init op level : Nat) (sel : Nat → Bool) : State :=
  let f := if level = 0 then PRT.RULE_EPOCH.L0 else PRT.RULE_EPOCH.L1
  let s := (s.swapIn sel).wrap f
  let (h, s) := s.fresh
  let s := (s.set PRT.HOLD.TICKS (h % 401)).set PRT.CMD_STATUS.BUSY 1
  ({ s with fab := { s.fab with drain := some ⟨level, s.now, s.get f⟩ } }).recordCommand 4 op 0 0 0 (originOf init) 0xFF 0

def State.commitL0 (s : State) (init : Nat) : State :=
  if s.bit PRT.CMD_STATUS.BUSY then s.prtRefuse init 1 0 3
  else match s.enabledRegions.find? (fun r => !s.regionFits r) with
    | some r => ((s.set PRT.OVERLAP.REGION_A r).set PRT.OVERLAP.REGION_B 0).prtRefuse init 1 0 2
    | none => match s.overlapPair with
      | some (a, b) => ((s.set PRT.OVERLAP.REGION_A a).set PRT.OVERLAP.REGION_B b).prtRefuse init 1 0 1
      | none => s.prtSwap init 1 0 isLevel0

/-- R393. Whether every enabled rule of initiator `i` has its limit not below its base. -/
def State.rulesFit (s : State) (i : Nat) : Bool :=
  (List.range 16).all fun r => !s.bit (PRT.INIT_RULE_BASE_HI.ENABLE i r) ||
    decide (s.get (PRT.INIT_RULE_BASE_LO.ADDR i r) + s.get (PRT.INIT_RULE_BASE_HI.ADDR i r) * 2 ^ 26
      ≤ s.get (PRT.INIT_RULE_LIMIT_LO.ADDR i r) + s.get (PRT.INIT_RULE_LIMIT_HI.ADDR i r) * 2 ^ 26)

def State.commitL1 (s : State) (init : Nat) : State :=
  let ids := (List.range 22).filter fun i => (s.get PRT.CMD_MASK.INITIATORS).testBit i
  if s.bit PRT.CMD_STATUS.BUSY then s.prtRefuse init 2 1 3
  else if ids.any (fun i => !s.rulesFit i) then s.prtRefuse init 2 1 2
  else s.prtSwap init 2 1 fun f => ids.any fun i => isLevel1 i f

/-- R395. A write of PRT.CMD. -/
def State.prtCmd (s : State) (init op : Nat) : State :=
  match op with
  | 0 => s
  | 1 => s.commitL0 init
  | 2 => s.commitL1 init
  | _ => s.prtRefuse init 3 0 (if s.bit PRT.CMD_STATUS.BUSY then 3 else 4)

def execCommitL0 (init : Fin 22) (s : State) : Answer := (s.prtCmd init 1).done
def execCommitL1 (init : Fin 22) (s : State) : Answer := (s.prtCmd init 2).done
def execPrtCmdReserved (init : Fin 22) (s : State) : Answer := (s.prtCmd init 3).done

/-- Every transaction at the arbiters. -/
def State.transactions (s : State) : List Txn :=
  s.fab.arbs.flatMap fun p => p.2.waiting ++ (p.2.inService.map (·.1)).toList ++ p.2.chosen.toList

/-- R393, R394. Whether an access checked under the epoch before the drain's is still in flight. -/
def State.oldInFlight (s : State) (d : Drain) : Bool :=
  s.transactions.any fun x => x.init != 32 && (if d.level = 0 then x.epoch0 else x.epoch1) != d.epoch

def State.drainDone (s : State) : State :=
  match s.fab.drain with
  | none => s
  | some d =>
    if s.oldInFlight d then s
    else
      let s := { s with fab := { s.fab with drain := none } }
      let s := ((s.set PRT.CMD_STATUS.BUSY 0).set PRT.CMD_STATUS.STATUS 0).set PRT.CMD_STATUS.CAUSE 0
      (s.set PRT.DRAIN.TICKS (min (s.now - d.start) 0xFFFFFF)).post 209 d.level

def execPrtDrainComplete (s : State) : Answer := s.drainDone.done

/-- R388. ENFORCE is W1S. -/
def execEnforce (s : State) : Answer := (s.set PRT.CTRL.ENFORCE 1).done

/-! ## Arbiters (R398 to R405) -/

/-- R399, R403. The transaction an arbiter chooses: among those not masked, or among all where every one is. -/
def Arbiter.pick (a : Arbiter) : Option Txn :=
  let free := a.waiting.filter fun x => !a.masked.contains x.init
  (if free = [] then a.waiting else free).foldl (fun b x => match b with
    | none => some x
    | some y => if x.before y then some x else some y) none

/-- An arbiter chooses the next transaction while one is in service (R400). -/
def Arbiter.choose (a : Arbiter) : Arbiter :=
  if a.chosen.isSome then a
  else match a.pick with
    | some x => { a with chosen := some x, waiting := a.waiting.erase x }
    | none => a

/-- R399, R400. The transaction in service ends once it has had its time, its tag is given back (R85), and the one chosen
before is granted. -/
def State.arbGrant (s : State) (t : Nat) : State :=
  match (s.arb t).inService with
  | none => s
  | some (y, fin) =>
    if s.now < fin then s else
    let s := match y.ring with
      | some n => s.giveTag n
      | none => s
    let a := ({ s.arb t with inService := none } : Arbiter).choose
    match a.chosen with
    | none => s.setArb t a
    | some x =>
      let a := { a with chosen := none }
      let s := if x.init = 32 then s.setArb t { a with inService := some (x, s.now + occupancy t x) }
        else (s.setArb t a).serve t x (!a.masked.contains x.init)
      s.setArb t (s.arb t).choose

def execArbiterGrant (t : Fin 10) (s : State) : Answer := (s.arbGrant t).done

/-- R403. A quota window starts at a multiple of WINDOW: every mask is lifted. -/
def State.windowStart (s : State) : State :=
  if s.now % s.get ARB.WINDOW.TICKS ≠ 0 then s
  else { s with fab := { s.fab with
    quotaTold := []
    arbs := s.fab.arbs.filterMap fun p =>
      let a := { p.2 with grants := [], masked := [] }
      if a = {} then none else some (p.1, a) } }

def execQuotaWindowStart (s : State) : Answer := s.windowStart.done

def execPeakWaitClear (t : Fin 10) (s : State) : Answer := (s.set (ARB.TARGET_PEAK_WAIT.TICKS t) 0).done

/-- R398. Refresh takes the DRAM port ahead of the transactions that wait. -/
def State.refresh (s : State) : State :=
  let x : Txn := { init := 32, addr := 0x800000000, len := 0, write := false, deadline := s.now,
                   arrival := s.now, epoch0 := 0, epoch1 := 0 }
  let a := s.arb 9
  match a.inService with
  | none => s.setArb 9 { a with inService := some (x, s.now + 70) }
  | some _ => s.setArb 9 { a with chosen := some x, waiting := a.chosen.toList ++ a.waiting }

def execDramRefresh (s : State) : Answer := s.refresh.done

/-! ## Locks (R406 to R411) -/

def State.lockHeld (s : State) (l : Nat) : Bool := s.bit (LCK.LOCK_STATUS.HELD l)
def State.lockOwner (s : State) (l : Nat) : Option Nat :=
  if s.lockHeld l then some (s.get (LCK.LOCK_STATUS.OWNER l)) else none

/-- The lock that initiator `i` waits for. -/
def State.waitsFor (s : State) (i : Nat) : Option Nat :=
  if s.bit (LCK.WAIT.VALID i) then some (s.get (LCK.WAIT.LOCK i)) else none

def State.lockRt (s : State) (l : Nat) : LockRt := Sparse.get {} s.fab.locks l
def State.setLockRt (s : State) (l : Nat) (r : LockRt) : State :=
  { s with fab := { s.fab with locks := Sparse.put {} s.fab.locks l r } }

/-- R406. What LCK.RESULT holds for initiator `i`. -/
def State.lockResult (s : State) (i : Nat) : LockResult := Sparse.get {} s.fab.results i
def State.setResult (s : State) (i : Nat) (r : LockResult) : State :=
  { s with fab := { s.fab with results := Sparse.put {} s.fab.results i r } }

/-- R352. A lead tells its trail how request `k` of initiator 0 was decided. -/
def State.tellLock (s : State) (k lock status : Nat) : State :=
  if s.streams then s.ransel 0x14 (leBytes 8 k ++ [lock, status, 0, 0]) else s

/-- R352. The requests of initiator 0 are counted in order. -/
def State.countLock (s : State) : State := { s with vot := { s.vot with lockIdx := s.vot.lockIdx + 1 } }

/-- A request decided. -/
def State.verdict (s : State) (i lock status reason : Nat) : State :=
  let s := s.setResult i { status := status, reason := reason, lock := lock, waiting := (s.waitsFor i).isSome }
  if i = 0 then s.countLock.tellLock s.vot.lockIdx lock status else s

/-- R406, R407. Initiator `i` becomes the owner. -/
def State.own (s : State) (l i : Nat) : State :=
  let s := ((s.set (LCK.LOCK_STATUS.OWNER l) i).set (LCK.LOCK_STATUS.HELD l) 1).set (LCK.LOCK_STATUS.BROKEN l) 0
  (s.set (LCK.LOCK_STATUS.HOLD_EXCEEDED l) 0).setLockRt l { s.lockRt l with since := s.now }

/-- Initiator `i` no longer waits. -/
def State.unwait (s : State) (i : Nat) : State :=
  match s.waitsFor i with
  | none => s
  | some l =>
    let rt := s.lockRt l
    let s := (s.set (LCK.WAIT.VALID i) 0).set (LCK.WAIT.LOCK i) 0
    let s := if i = 0 then { s with vot := { s.vot with lockWait := none } } else s
    (s.set (LCK.LOCK_STATUS.WAITERS l) (clearBit (s.get (LCK.LOCK_STATUS.WAITERS l)) i)).setLockRt l
      { rt with waiters := rt.waiters.filter (· != i) }

/-- R407. Initiator `i`, the first waiter, acquires lock `l`. -/
def State.passTo (s : State) (l i : Nat) (broken : Bool) : State :=
  let st := if broken then 0x51 else 0
  let k := s.vot.lockWait
  let s := ((s.unwait i).own l i).setResult i { status := st, lock := l }
  (match (if i = 0 then k else none) with
    | some k => s.tellLock k l st
    | none => s).post 216 (l + 256 * i + 2048 * b2n broken)

/-- R407, R411. A released lock passes to its first waiter, or becomes free. On a trail, initiator 0 acquires only what the
lead's LOCK messages say. -/
def State.passLock (s : State) (l : Nat) (broken : Bool) : State :=
  match (s.lockRt l).waiters.filter fun i => i != 0 || !s.isTrail with
  | i :: _ => s.passTo l i broken
  | [] =>
    let w := (s.lockRt l).waiters
    let s := ((s.set (LCK.LOCK_STATUS.OWNER l) 0).set (LCK.LOCK_STATUS.HELD l) 0).setB (LCK.LOCK_STATUS.BROKEN l) broken
    (s.set (LCK.LOCK_STATUS.HOLD_EXCEEDED l) 0).setLockRt l { waiters := w }

/-- R409, R410. A held lock released as broken. -/
def State.breakLock (s : State) (l : Nat) : State :=
  match s.lockOwner l with
  | none => s
  | some o => ((s.bump LCK.COUNTS.BROKEN).post 218 (l + 256 * o)).passLock l true

/-- R411. A trail keeps the locks of initiator 0 apart from its own: one more, and one less. -/
def State.hold0 (s : State) (l : Nat) : State := { s with fab := { s.fab with held0 := addOnce s.fab.held0 l } }
def State.drop0 (s : State) (l : Nat) : State := { s with fab := { s.fab with held0 := s.fab.held0.filter (· != l) } }

/-- R411. A unit becomes a trail: the locks of initiator 0 are no longer contended, and pass to its own waiters. -/
def State.giveHeld (s : State) : State :=
  (List.range 64).foldl (fun s l => if s.lockOwner l == some 0 then (s.passLock l false).hold0 l else s) s

/-- R411. A unit is a trail no longer: initiator 0 owns what it held. A lock that another initiator of this unit has is released as
broken for it (the model's choice, notes/assumptions/140.md). -/
def State.takeHeld (s : State) : State :=
  let ls := s.fab.held0
  ls.foldl (fun s l =>
    let s := match s.lockOwner l with
      | some o => (s.bump LCK.COUNTS.BROKEN).post 218 (l + 256 * o)
      | none => s
    s.own l 0) { s with fab := { s.fab with held0 := [] } }

/-- R409. The reset of the owners `ids`: their waits are cancelled and their locks released as broken. -/
def State.breakOwners (s : State) (ids : List Nat) : State :=
  let s := if ids.contains 0 then
      s.fab.held0.foldl (fun s l => (s.bump LCK.COUNTS.BROKEN).post 218 l) { s with fab := { s.fab with held0 := [] } }
    else s
  let s := ids.foldl (fun s i =>
    if (s.waitsFor i).isSome then (s.unwait i).setResult i { s.lockResult i with waiting := false } else s) s
  (List.range 64).foldl (fun s l => match s.lockOwner l with
    | some o => if ids.contains o then s.breakLock l else s
    | none => s) s

/-- R408. Whether the chain of owners and waits from owner `o` reaches `i`; 64 steps count as a circle. -/
def State.chainReaches (s : State) (i : Nat) : Nat → Nat → Bool
  | 0, _ => true
  | fuel + 1, o =>
    if o = i then true
    else match s.waitsFor o with
      | none => false
      | some l => match s.lockOwner l with
        | none => false
        | some o' => s.chainReaches i fuel o'

def State.deadlock (s : State) (i lock : Nat) : State :=
  ((s.bump LCK.COUNTS.DEADLOCKS).post 219 (lock + 256 * i)).verdict i lock 0x50 0

/-- A free lock acquired. -/
def State.acquire (s : State) (i lock : Nat) : State :=
  let broken := s.bit (LCK.LOCK_STATUS.BROKEN lock)
  (s.own lock i).verdict i lock (if broken then 0x51 else 0) 0

def State.lockTry (s : State) (i lock : Nat) : State :=
  if s.lockHeld lock then s.verdict i lock 0x60 1 else s.acquire i lock

/-- R408. Initiator `i` joins the waiters of a held lock. -/
def State.joinLock (s : State) (i lock : Nat) : State :=
  let rt := s.lockRt lock
  let s := (s.set (LCK.WAIT.LOCK i) lock).set (LCK.WAIT.VALID i) 1
  let s := (s.set (LCK.LOCK_STATUS.WAITERS lock) (setBit (s.get (LCK.LOCK_STATUS.WAITERS lock)) i)).setLockRt lock
    { rt with waiters := rt.waiters ++ [i] }
  s.setResult i { lock := lock, waiting := true }

def State.lockWait (s : State) (i lock : Nat) : State :=
  if (s.waitsFor i).isSome then s.verdict i lock 0x60 2
  else match s.lockOwner lock with
    | none => s.acquire i lock
    | some o =>
      if s.chainReaches i 64 o then s.deadlock i lock
      else if i ≠ 0 then s.joinLock i lock
      else { s.countLock.joinLock 0 lock with vot := { s.countLock.vot with lockWait := some s.vot.lockIdx } }

def State.lockRelease (s : State) (i lock : Nat) : State :=
  if s.lockOwner lock ≠ some i then s.verdict i lock 0x60 3
  else (s.passLock lock false).verdict i lock 0 0

def State.lockCancel (s : State) (i lock : Nat) : State :=
  if (s.waitsFor i).isNone then s.verdict i lock 0x60 4 else (s.unwait i).verdict i lock 0 0

/-- R411. On a trail, a request of initiator 0 takes the outcome that the lead's LOCK message carries. A CANCEL takes back
the WAIT, which no message will decide. -/
def State.lockFollow (s : State) (op lock status : Nat) : State :=
  let won := status == 0 || status == 0x51
  let s := if won && op == 0 then s.hold0 lock
    else if won && op == 1 then (s.unwait 0).hold0 lock
    else if won && op == 2 then s.drop0 lock
    else if won then
      let f := s.par.follow
      { s.unwait 0 with par := { s.par with follow := { f with lockReqs := f.lockReqs.filter fun r => r.2.2 != 1 } } }
    else if op == 1 && status == 0x50 then s.unwait 0 else s
  s.setResult 0 { status := status, reason := if status = 0x60 then op + 1 else 0, lock := lock,
                  waiting := (s.waitsFor 0).isSome }

def State.lockFollowed (s : State) (op lock : Nat) : State :=
  let k := s.vot.lockIdx
  let s := s.countLock
  match s.par.follow.locks.find? (fun m => m.1 == k) with
  | some m =>
    ({ s with par := { s.par with follow := { s.par.follow with locks := s.par.follow.locks.erase m } } }).lockFollow
      op lock m.2.2
  | none =>
    let s := if op = 1 ∧ s.waitsFor 0 = none then s.joinLock 0 lock else s
    { s with par := { s.par with follow := { s.par.follow with
        lockReqs := s.par.follow.lockReqs ++ [(k, lock, op)] } } }

/-- R406. A write of LCK.REQUEST. -/
def State.lockRequest (s : State) (init lock op : Nat) : State :=
  if 8 ≤ init then s.bump LCK.COUNTS.FOREIGN
  else if init = 0 ∧ s.isTrail then s.lockFollowed op lock
  else match op with
    | 0 => s.lockTry init lock
    | 1 => s.lockWait init lock
    | 2 => s.lockRelease init lock
    | _ => s.lockCancel init lock

def execLckTry (init : Fin 22) (lock : Fin 64) (s : State) : Answer := (s.lockRequest init lock 0).done
def execLckWait (init : Fin 22) (lock : Fin 64) (s : State) : Answer := (s.lockRequest init lock 1).done
def execLockRelease (init : Fin 22) (lock : Fin 64) (s : State) : Answer := (s.lockRequest init lock 2).done
def execCancel (init : Fin 22) (lock : Fin 64) (s : State) : Answer := (s.lockRequest init lock 3).done

/-- R406, R558. A read of LCK.RESULT: the fields show the reader's own result. -/
def State.resultRead (s : State) (init : Nat) : State :=
  let r := s.lockResult init
  (((s.set LCK.RESULT.STATUS r.status).set LCK.RESULT.REASON r.reason).set LCK.RESULT.LOCK r.lock).setB
    LCK.RESULT.WAITING r.waiting

def execLockResultRead (init : Fin 22) (s : State) : Answer := (s.resultRead init).done

def execLockBreak (lock : Fin 64) (s : State) : Answer := (s.breakLock lock).done

/-- R410. A lock held longer than its limit, once for each holding. -/
def State.lockHold (s : State) (l : Nat) : State :=
  let limit := s.get (LCK.LOCK_HOLD_LIMIT.US l)
  match s.lockOwner l with
  | none => s
  | some o =>
    if limit = 0 || s.bit (LCK.LOCK_STATUS.HOLD_EXCEEDED l)
       || decide (s.now ≤ (s.lockRt l).since + limit * ticksPerUs) then s
    else (s.set (LCK.LOCK_STATUS.HOLD_EXCEEDED l) 1).post 217 (l + 256 * o)

def execLockHold (lock : Fin 64) (s : State) : Answer := (s.lockHold lock).done

end Sys2Proof.Machine
end

