-- ==== Sys2Proof/Machine/PairCore.lean ====
section
/-! DEFINITION. The pair state as other blocks move it: the drive token and its gate, epochs, the
lease given back, going OUT, untethering and demotion (spec/11 R340, R370, R371, R374, R375, R380, R381;
spec/01 R33, R34).

Marks (notes/assumptions): DEDUCED 85, 93, 106; PRESUMED 81. -/

namespace Sys2Proof.Machine

/-! ## Pair time (R341) -/

/-- R341. An own tick in pair time, and back. -/
def State.inPair (s : State) (t : Nat) : Nat := (t + s.get2 PAR.TICK_OFFSET_LO.OFFSET PAR.TICK_OFFSET_HI.OFFSET) % 2 ^ 64
def State.fromPair (s : State) (t : Nat) : Nat :=
  (t + 2 ^ 64 - s.get2 PAR.TICK_OFFSET_LO.OFFSET PAR.TICK_OFFSET_HI.OFFSET) % 2 ^ 64

/-- R341. The own tick in pair time. -/
def State.pairTick (s : State) : Nat := s.inPair s.now

/-! ## Eligibility (R374, R380) -/

/-- R455. A unit that is not driving: both CAN channels go to bus monitoring, and a frame in transmission is cut off and
stays queued. -/
def State.canSilence (s : State) : State :=
  (List.range 2).foldl (fun s c =>
    let ch := Sparse.get {} s.can c
    let s := match ch.inTx with
      | some b => s.set (CAN.MB_STAT.IN_TX c b) 0
      | none => s
    ({ s with can := Sparse.put {} s.can c { ch with inTx := none } }).set (CAN.CH_STATUS.LISTEN_ONLY c) 1) s

/-- R376. A unit that has taken over launches no DOWN frame before its take-over DOWN. -/
def State.takeoverPending (s : State) : Bool := s.par.takeoverDue

/-- R327, R331, R332. A unit that no longer drives transmits no HART: a trail leaves what a ring of initiator 0 has in progress
to the new lead's completion, everything else is REFUSED with DETAIL 1. -/
def State.hartQuiet (s : State) (trail : Bool) : State :=
  s.clp.jobs.foldl (fun s (e : Nat × HartJob) =>
    let j := e.2
    let s := ({ s with clp := { s.clp with jobs := Sparse.erase s.clp.jobs e.1 } }).setB (CLP.CH_STATUS.HART_BUSY e.1) false
    if trail && s.get (RNG.RING_CFG.OWNER j.ring) == 0 then
      let mark (x : Started) : Started := if x.ring == j.ring && x.idx == j.idx then { x with accepted := false } else x
      { s with rng := { s.rng with started := s.rng.started.map mark } }
    else s.finishAt (some (j.ring, j.idx)) 0x60 0 1) s

/-- R411. Whether a pair state is a trail's. -/
def trailState (p : Nat) : Bool := p == 3 || p == 4

/-- R381, R383, R411. The pair state changes. -/
def State.setPairState (s : State) (new : Nat) (reason : Nat := 0) : State :=
  let old := s.pairState
  if new = old ∧ reason = s.get PAR.STATUS.UNTETHER_REASON then s.refreshPair
  else
    let s := if new = 0 ∨ new = 2 then s else s.canSilence.hartQuiet (new == 3)
    let s := if trailState new = trailState old then s else if trailState new then s.giveHeld else s.takeHeld
    ((((s.set PAR.STATUS.STATE new).set PAR.STATUS.UNTETHER_REASON reason).post 160
      (new + 16 * old + 256 * reason)).setB TIM.STATUS.PAIR_FOLLOW (new == 3 || new == 4)).refreshPair

/-! ## The drive token and its gate (R33, R34, R371) -/

/-- R320. A closed stage is not diagnosed: what it has been so far no longer counts. -/
def State.stagesShut (s : State) : State :=
  (List.range 8).foldl (fun s n =>
    let c := Sparse.get {} s.clp.chans n
    { s with clp := { s.clp with chans := Sparse.put {} s.clp.chans n { c with goodFrom := none, badFrom := none } } }) s

/-- R34. The gate is open only while the own token is live, the partner's is not, and the unit is seated. -/
def State.gate (s : State) : State :=
  let up := s.bit SYS.CARRIER_STATUS.TOKEN_SELF_LIVE && !s.bit SYS.CARRIER_STATUS.TOKEN_PARTNER_LIVE
    && s.bit SYS.CARRIER_STATUS.SEATED
  (if up then s else s.stagesShut).setB SYS.CARRIER_STATUS.DRIVERS_ENABLED up

/-- R371. The token is raised: only by a driving unit that is seated. The claim window is 10 us. -/
def State.tokenRaise (s : State) : State :=
  if !s.isDriving || !s.bit SYS.CARRIER_STATUS.SEATED || s.bit SYS.CARRIER_STATUS.SLOT_FAULT then s
  else
    let s := (s.set PAR.STATUS.TOKEN_RAISED 1).send (.pin "DRIVE_TOKEN" true)
    { s with par := { s.par with
      claimUntil := some (s.now + 10 * ticksPerUs)
      selfDeadAt := if s.bit SYS.CARRIER_STATUS.TOKEN_SELF_LIVE then none else some s.now } }

/-- The token is stopped. -/
def State.tokenStop (s : State) : State :=
  if !s.bit PAR.STATUS.TOKEN_RAISED then s
  else
    let s := (s.set PAR.STATUS.TOKEN_RAISED 0).send (.pin "DRIVE_TOKEN" false)
    { s with par := { s.par with claimUntil := none, selfDeadAt := none } }

/-! ## Epochs and the lease (R340, R366) -/

/-- R340. An epoch sent, received or seen: PAR.EPOCH keeps the highest. -/
def State.seeEpoch (s : State) (e : Nat) : State :=
  if s.get PAR.EPOCH.EPOCH < e then s.set PAR.EPOCH.EPOCH e else s

/-- R340. A new epoch of the unit's own. -/
def State.takeEpoch (s : State) (e : Nat) : State :=
  (({ s with par := { s.par with ownEpoch := e } }).seeEpoch e).post 164 e

/-- R366. RENEW with a new NONCE. -/
def State.renew (s : State) (ticks : Nat) : State := s.toWitness 1 s.par.ownEpoch ticks

/-- R365. The lease given back: a RENEW with LEASE_TICKS 0. -/
def State.releaseLease (s : State) : State :=
  let s := s.renew 0
  ({ s with par := { s.par with openRenews := [] } }).set PAR.STATUS.LEASE_HELD 0

/-- R368. EPOCH_REQUEST, naming the highest known epoch. -/
def State.requestEpoch (s : State) : State :=
  if !s.hasWitness || !s.domOn 4 then s
  else (s.toWitness 3 (s.get PAR.EPOCH.EPOCH) s.leaseTicks).set PAR.STATUS.REQUEST_PENDING 1

/-- An EPOCH_REQUEST is no longer open. -/
def State.closeRequest (s : State) : State :=
  ({ s with par := { s.par with openRequest := none } }).set PAR.STATUS.REQUEST_PENDING 0

/-! ## Leaving a role -/

/-- R375, R383. YIELD on both links. -/
def State.sendYield (s : State) (cause : Nat) : State :=
  let c := Config.yieldCause cause
  (s.ransel 0x43 (leBytes 4 s.par.ownEpoch ++ [c, 0, 0, 0])).post 166 (1 + 256 * c)

/-- R149, R379. A hand-over under way is given up. -/
def State.dropHandover (s : State) : State :=
  { s with par := { s.par with handover := none, tethering := false, tetherSent := none, awaitGrant := false, takeoverDue := false } }

/-- R379. HANDOVER, once every class cycle released before its boundary has committed. -/
def State.handoverSend (s : State) : State :=
  match s.par.handover with
  | none => s
  | some h =>
    if h.sent.isSome || s.pairState != 2 || (List.range 8).any (fun k => s.get (CYC.CLASS_STATUS.PHASE k) != 0) then s
    else
      let h' := { h with sent := some s.pairTick }
      State.ransel { s with par := { s.par with handover := some h' } } 0x42 (leBytes 8 h.due ++ leBytes 4 h.epoch)

/-- R26, R38. A start as ALONE that waits for a grant is given up. -/
def State.noAlone (s : State) : State := { s with par := { s.par with aloneAsked := false } }

/-- R375, R381. The unit goes OUT: a driving unit sends YIELD and releases its lease; the token stops, and a start as ALONE
that waits for a grant is given up. -/
def State.goOut (s : State) (cause : Nat) : State :=
  if s.pairState = 5 then ((s.tokenStop).closeRequest).noAlone else
  let s := if s.isDriving then s.sendYield cause else s
  let s := if s.isDriving then s.releaseLease else s
  ((((s.tokenStop).dropHandover).closeRequest).noAlone).setPairState 5

/-- R381. A tethered trail untethers. -/
def State.untether (s : State) (reason : Nat) : State :=
  if s.pairState = 3 then
    ({ s with par := { s.par with tetherFrom := none, tetherData := [], handIn := none } }).setPairState 4 reason
  else s

/-- R370. A driving unit demotes itself: cause 0 a higher epoch, 1 the partner's token. -/
def State.demote (s : State) (cause : Nat) : State :=
  if !s.isDriving then s
  else ((((s.tokenStop).dropHandover).closeRequest).setPairState 4 6).post 173 cause

/-- R370, R207. An UP frame or an answer of the witness shows epoch `e`: source 54 where it is above the unit's own
and above every one asserted before; a driving unit with a lower epoch of its own demotes itself. -/
def State.epochAbove (s : State) (e : Nat) : State :=
  let own := if s.isDriving then s.par.ownEpoch else s.get PAR.EPOCH.EPOCH
  let s := if own < e ∧ s.par.told54 < e
    then ({ s with par := { s.par with told54 := e } }).post 54 e else s
  let s := s.seeEpoch e
  if own < e ∧ s.isDriving then s.demote 0 else s

/-- R495, R375. D1, D4 or D5 of a driving unit FAILED. -/
def State.domainLost (s : State) (d : Nat) : State :=
  if s.isDriving && d ∈ [1, 4, 5] then s.goOut 1 else s.refreshPair

end Sys2Proof.Machine
end

