-- ==== Sys2Proof/Machine/Fio.lean ====
section
/-! DEFINITION. Fast field channels, their groups, counters and touch probes, and the spur units
(spec/07_fast_io_spur.md).

Marks (notes/assumptions): DEDUCED 51, 52, 53, 96; DESIGN CHOICE 126, 137. -/

namespace Sys2Proof.Machine

/-! ## The level at the pin (R228) -/

/-- A bit of each of the 32 channels as one word. -/
def packBits (k : Nat) (f : Nat → Bool) : Nat := (List.range k).foldl (fun a n => a + 2 ^ n * b2n (f n)) 0

/-- R153. The force entry of a kind and target, bit 0 of whose mask is always set for kinds 1 and 2 (R165). -/
def State.forced (s : State) (kind target : Nat) : Option Nat :=
  (s.cyc.forces.find? fun f => f.kind == kind && f.target == target).map (·.value)

def isOutput (s : State) (n : Nat) : Bool :=
  s.get (FIO.CH_CFG.DIR n) == 1 || s.get (FIO.CH_CFG.DIR n) == 2

def State.groupState (s : State) (g : Nat) : Nat := s.get (FIO.GROUP_STATUS.STATE g)

/-- Whether the group of channel `n` is NORMAL or LOW. -/
def State.groupUp (s : State) (n : Nat) : Bool := decide (s.groupState (n / 8) ≤ 1)

def State.spurUsed (s : State) (u : Nat) : Bool := s.get (SPR.UNIT_TRIG.KIND u) != 0

/-- R228, order 4. Whether an enabled RUN_IN_STOP unit commands channel `n`. -/
def State.runsInStop (s : State) (n : Nat) : Bool :=
  (List.range 16).any fun u => s.spurUsed u && s.get (SPR.UNIT_ACTION.KIND u) != 0
    && s.get (SPR.UNIT_ACTION.OUT_CHANNEL u) == n && s.bit (SPR.UNIT_ACTION.RUN_IN_STOP u)

/-- R228. STOP_VALUE. -/
def State.stopLevel (s : State) (n : Nat) : Bool :=
  match s.get (FIO.CH_CFG.STOP_VALUE n) with
  | 1 => true
  | 2 => (s.fio.held.getD 0).testBit n
  | _ => false

/-- R227. The level of the channel's own source. -/
def State.sourceLevel (s : State) (n : Nat) : Bool :=
  if s.bit (FIO.CH_CFG.OUT_SOURCE n) then s.fio.spur.testBit n else s.fio.cmd.testBit n

/-- R228, orders 3 to 5: the level that the channel is commanded to. -/
def State.command (s : State) (n : Nat) : Bool :=
  let spur := s.bit (FIO.CH_CFG.OUT_SOURCE n)
  match s.forced 1 n with
  | some v => v.testBit 0
  | none =>
    if (!s.inRun && !s.runsInStop n) || (s.inRun && !spur && !s.fio.committed) then s.stopLevel n
    else s.sourceLevel n

/-- R228. The level at the pin of an output channel; none is high-impedance. -/
def State.pin (s : State) (n : Nat) : Option Bool :=
  if !isOutput s n || !s.domOn 5 || !s.bit SYS.CARRIER_STATUS.DRIVERS_ENABLED
     || s.bit (FIO.CH_STATUS.LATCHED_OFF n) || s.groupState (n / 8) == 3 then none
  else if s.get (FIO.CH_CFG.DIR n) = 2 ∧ s.command n = false then none
  else some (s.command n)

/-! ## Inputs (R222, R224, R225, R232, R236, R242) -/

def State.chIn (s : State) (n : Nat) : ChIn := Sparse.get {} s.fio.inputs n

def State.setChIn (s : State) (n : Nat) (c : ChIn) : State :=
  { s with fio := { s.fio with inputs := Sparse.insert s.fio.inputs n c } }

/-- R222. The comparator of channel `n` with its terminal at `volts` (units of 10 mV): between the thresholds it keeps its
state. -/
def State.inputOn (s : State) (n volts : Nat) : Bool :=
  let three := s.bit (FIO.CH_CFG.TYPE n)
  if (if three then 800 else 1000) ≤ volts then true
  else if volts ≤ (if three then 700 else 900) then false
  else s.bit (FIO.CH_STATUS.RAW n)

/-- The band of a pin at `volts`: HIGH within 3 V of L+_g, LOW within 3 V of M_g, MID between. -/
def State.band (s : State) (n volts : Nat) : Nat :=
  if s.get (FIO.GROUP_STATUS.VOLTAGE (n / 8)) ≤ volts + 300 then 2 else if volts ≤ 300 then 0 else 1

/-- The 32 channel states: raw or filtered. -/
def State.states (s : State) (raw : Bool) : Nat :=
  packBits 32 fun n => s.bit (if raw then FIO.CH_STATUS.RAW n else FIO.CH_STATUS.STATE n)

/-- EDGE 0 rising, 1 falling, 2 and 3 both. -/
def edgeMeets (edge : Nat) (rising : Bool) : Bool :=
  match edge with
  | 0 => rising
  | 1 => !rising
  | _ => true

/-- R242. Whether channel states match the pattern of unit `u`. -/
def State.patternMet (s : State) (u states : Nat) : Bool :=
  let v := s.get (SPR.UNIT_PATTERN_VALUE.VALUE u)
  let care := s.get (SPR.UNIT_PATTERN_CARE.CARE u)
  (List.range 32).all fun n => !care.testBit n || states.testBit n == v.testBit n

/-- R242. Whether a change of channel `n`, of its raw state or its filtered one, is the trigger of unit `u`: the selected edge, or
the states changing from not matching to matching. -/
def State.triggers (s : State) (u n : Nat) (raw rising : Bool) (before after : Nat) : Bool :=
  s.bit (SPR.UNIT_STATUS.ARMED u) && s.bit (SPR.UNIT_TRIG.SOURCE u) == raw
  && match s.get (SPR.UNIT_TRIG.KIND u) with
    | 1 => s.get (SPR.UNIT_TRIG.CHANNEL u) == n && edgeMeets (s.get (SPR.UNIT_TRIG.EDGE u)) rising
    | 2 => !s.patternMet u before && s.patternMet u after
    | _ => false

/-- R236. What probe `p` latches at an edge of its channel: the tick of the last raw transition, or the value that a counter had at
it, for a filtered probe too. -/
def State.probeQuantity (s : State) (p : Nat) : Nat :=
  let q := s.get (FIO.PRB_CFG.QUANTITY p)
  let c := s.chIn (s.get (FIO.PRB_CFG.CHANNEL p))
  if q = 0 ∨ 5 ≤ q then c.since % 2 ^ 64 else ofSigned 64 (toSigned 32 (c.counts.getD (q - 1) 0))

/-- R236. Whether a change of channel `n` is the edge that probe `p` waits for. -/
def State.probes (s : State) (p n : Nat) (raw rising : Bool) : Bool :=
  s.bit (FIO.PRB_STATUS.ARMED p) && s.groupUp n && s.get (FIO.PRB_CFG.CHANNEL p) == n
  && s.bit (FIO.PRB_CFG.SOURCE p) == raw && edgeMeets (s.get (FIO.PRB_CFG.EDGE p)) rising

/-- R236, R242. A change of channel `n` has come about: the units and probes that it concerns recognise it at this tick. -/
def State.noteEdge (s : State) (n : Nat) (raw rising : Bool) (before : Nat) : State :=
  let after := s.states raw
  let us := (List.range 16).filter fun u => s.triggers u n raw rising before after
  let ps := (List.range 16).filter fun p => s.probes p n raw rising
  { s with fio := { s.fio with
    spurDue := s.fio.spurDue ++ us.map (·, s.now)
    probeDue := s.fio.probeDue ++ ps.map fun p => (p, s.probeQuantity p) } }

/-- R224. The integrating filter's count at tick `t`: one sample at each multiple of 2^INT_SHIFT ticks. -/
def State.integrated (s : State) (n t : Nat) : Nat :=
  let c := s.chIn n
  let p := 2 ^ s.get (FIO.CH_CFG.INT_SHIFT n)
  let k := t / p - c.start / p
  if s.bit (FIO.CH_STATUS.RAW n) then min (s.get (FIO.CH_CFG.INT_LIMIT n)) (c.acc + k) else c.acc - k

/-- R224. Whether the filter of channel `n` has come to its raw level by tick `t`. -/
def State.filterDone (s : State) (n t : Nat) : Bool :=
  if s.bit (FIO.CH_CFG.FILTER_KIND n) then
    s.integrated n (t - 3) == (if s.bit (FIO.CH_STATUS.RAW n) then s.get (FIO.CH_CFG.INT_LIMIT n) else 0)
  else decide ((s.chIn n).start + s.get (FIO.CH_DEBOUNCE.US n) * ticksPerUs + 3 ≤ t)

/-- R224, R231. The filtered state of channel `n` takes the raw level, where the filter has come to it by tick `t`; it holds while
the group is UNDER or LOST. -/
def State.filterLook (s : State) (n t : Nat) : State :=
  let level := s.bit (FIO.CH_STATUS.RAW n)
  if !s.domOn 5 || !s.groupUp n || s.bit (FIO.CH_STATUS.STATE n) == level || !s.filterDone n t then s
  else
    let before := s.states false
    (s.setB (FIO.CH_STATUS.STATE n) level).noteEdge n false level before

/-- R221, R222, R224. The terminal of channel `n` has been at `volts` for `held` ticks: the raw state follows, after what the
filter made of the time before. On an output the band is the readback of the pin. -/
def State.sense (s : State) (n volts held : Nat) : State :=
  if !s.domOn 5 then s
  else
    let s := if isOutput s n then s.set (FIO.CH_STATUS.READBACK n) (s.band n volts) else s
    let level := s.inputOn n volts
    if s.bit (FIO.CH_STATUS.RAW n) = level then s
    else
      let t := max (s.chIn n).since (s.now - held)
      let s := s.filterLook n t
      let c := s.chIn n
      let acc := if s.groupUp n then s.integrated n t else c.acc
      let before := s.states true
      let c := { c with since := t, start := t, acc := acc, counts := (List.range 4).map fun i => s.get (FIO.CNT_VALUE.VALUE i) }
      ((s.setChIn n c).setB (FIO.CH_STATUS.RAW n) level).noteEdge n true level before

/-- R225, R231, R232. VALID: the group's supply is good, the filter has settled and no wire is broken. -/
def State.refreshValid (s : State) (n : Nat) : State :=
  s.setB (FIO.CH_STATUS.VALID n)
    (s.groupUp n && s.fio.settled.testBit n && !s.bit (FIO.CH_STATUS.WIRE_BREAK n))

/-- R222, R224. The terminal of channel `n` is at `volts` (units of 10 mV), and the filter is looked at. -/
def State.filterChange (s : State) (n volts : Nat) : State := (s.sense n volts 0).filterLook n s.now

def execInputFilterChange (n : Fin 32) (volts : Fin 65536) (s : State) : Answer := (s.filterChange n volts).done

/-- R225. The sink current has stayed on the other side of its threshold for WB_TIME. -/
def State.wireBreak (s : State) (n : Nat) (broken : Bool) : State :=
  if !s.domOn 5 || !s.groupUp n || s.get (FIO.CH_CFG.DIR n) != 0 || !s.bit (FIO.CH_CFG.WB_ENABLE n)
     || s.bit (FIO.CH_STATUS.WIRE_BREAK n) == broken then s
  else ((s.setB (FIO.CH_STATUS.WIRE_BREAK n) broken).refreshValid n).post 81 (n + 256 * b2n broken)

def execWireBreak (n : Fin 32) (broken : Bool) (s : State) : Answer := (s.wireBreak n broken).done

/-- R232. Ticks that the filter of channel `n` needs to settle. -/
def State.settleTicks (s : State) (n : Nat) : Nat :=
  if s.bit (FIO.CH_CFG.FILTER_KIND n) then s.get (FIO.CH_CFG.INT_LIMIT n) * 2 ^ s.get (FIO.CH_CFG.INT_SHIFT n)
  else s.get (FIO.CH_DEBOUNCE.US n) * ticksPerUs

/-- R231, R232. The filter of an input has settled since its group recovered. -/
def State.filterSettled (s : State) (n : Nat) : State :=
  if !s.domOn 5 || !s.groupUp n
     || decide (s.now < Sparse.get s.fio.start s.fio.recovered (n / 8) + s.settleTicks n) then s
  else ({ s with fio := { s.fio with settled := setBit s.fio.settled n } }).refreshValid n

def execFilterSettled (n : Fin 32) (s : State) : Answer := (s.filterSettled n).done

/-! ## Diagnoses and releases (R229, R230, R250) -/

/-- R250, R347. A lead tells its trail the latched channels, with latch ticks, and AWAIT_ACK. -/
def State.tellMirror (s : State) : State :=
  if !s.streams then s else
  let chans := (List.range 32).flatMap fun n =>
    if s.bit (FIO.CH_STATUS.LATCHED_OFF n) then
      [n, s.get (FIO.CH_STATUS.DIAG n), s.get (FIO.CH_STATUS.PARTNER n), 0]
        ++ leBytes 8 (s.inPair (Sparse.get 0 s.fio.latched n))
    else []
  let await := (List.range 4).foldl (fun a g => a + 2 ^ g * s.get (FIO.GROUP_STATUS.AWAIT_ACK g)) 0
  s.ransel 0x1A (chans ++ [await])

/-- R230. Channel `n` is latched off with a diagnosis. -/
def State.latchOff (s : State) (n diag partner : Nat) : State :=
  let s := ((s.set (FIO.CH_STATUS.LATCHED_OFF n) 1).set (FIO.CH_STATUS.DIAG n) diag).set
    (FIO.CH_STATUS.PARTNER n) partner
  { s with fio := { s.fio with latched := Sparse.insert s.fio.latched n s.now } }

/-- R230. A latched channel is released. -/
def State.release (s : State) (n : Nat) (auto : Bool) : State :=
  let s := ((s.set (FIO.CH_STATUS.LATCHED_OFF n) 0).set (FIO.CH_STATUS.DIAG n) 0).set (FIO.CH_STATUS.PARTNER n) 0
  ({ s with fio := { s.fio with latched := Sparse.erase s.fio.latched n } }).post 87 (n + 256 * b2n auto)

/-- R229. Diagnoses run only on the token holder, while the group is NORMAL or LOW, on channels that drive. -/
def State.diagnosed (s : State) (n : Nat) : Bool :=
  s.domOn 5 && s.groupUp n && s.bit SYS.CARRIER_STATUS.DRIVERS_ENABLED && isOutput s n
    && !s.bit (FIO.CH_STATUS.LATCHED_OFF n)

/-- R229. Channel `a` is a push-pull channel that drives: it may be suspect. -/
def State.pushPull (s : State) (a : Nat) : Bool := s.diagnosed a && s.get (FIO.CH_CFG.DIR a) == 1

/-- R229. The channel that `a` is paired with: of those suspect for 20 us (a bit each), the lowest-numbered push-pull channel
commanded to the opposite level. -/
def State.paired (s : State) (a suspects : Nat) : Option Nat :=
  if !suspects.testBit a || !s.pushPull a then none
  else (List.range 32).find? fun b => b != a && suspects.testBit b && s.pushPull b && s.command b != s.command a

/-- R229, R230. Channel `a` has been suspect for 20 us, as have the channels of `suspects`: paired, both are latched off. -/
def State.contention (s : State) (a suspects : Nat) : State :=
  match s.paired a suspects with
  | none => s
  | some b =>
    let s := (s.latchOff a 3 b).latchOff b 3 a
    let s := (s.set (FIO.CH_STATUS.READBACK a) 1).set (FIO.CH_STATUS.READBACK b) 1
    (s.post 80 (min a b + 256 * 3 + 65536 * max a b)).tellMirror

def execContention (a : Fin 32) (suspects : Nat) (s : State) : Answer := (s.contention a suspects).done

/-- R229. A push-pull channel commanded low reads HIGH with its low side in LIMIT. -/
def State.shortToSupply (s : State) (n : Nat) : State :=
  if !s.diagnosed n || s.get (FIO.CH_CFG.DIR n) != 1 || s.command n then s
  else (((s.latchOff n 1 0).set (FIO.CH_STATUS.READBACK n) 2).post 80 (n + 256)).tellMirror

def execShortToSupply (n : Fin 32) (s : State) : Answer := (s.shortToSupply n).done

/-- R229. A channel commanded high has had its high side in LIMIT for 2 ms. -/
def State.overload (s : State) (n : Nat) : State :=
  if !s.diagnosed n || !s.command n then s
  else ((s.latchOff n 2 0).post 80 (n + 512)).tellMirror

def execOverload (n : Fin 32) (s : State) : Answer := (s.overload n).done

/-- R230, R250. CLEAR: no effect on a channel that is not latched, or whose DIAG is SUPPLY_LOST, or on a trail, whose latches are
the lead's; both channels of a CONTENTION are released. -/
def State.channelClear (s : State) (n : Nat) : State :=
  let d := s.get (FIO.CH_STATUS.DIAG n)
  if s.isTrail || !s.bit (FIO.CH_STATUS.LATCHED_OFF n) || d == 4 then s
  else
    let p := s.get (FIO.CH_STATUS.PARTNER n)
    let s := s.release n false
    let s := if d == 3 && s.get (FIO.CH_STATUS.DIAG p) == 3 && s.get (FIO.CH_STATUS.PARTNER p) == n
      then s.release p false else s
    s.tellMirror

def execChannelClear (n : Fin 32) (s : State) : Answer := (s.channelClear n).done

/-- R230, R250. 100 ms after the latch, where the group retries; on a trail the lead's latches stand. -/
def State.autoRetry (s : State) (n : Nat) : State :=
  if !s.domOn 5 || s.isTrail || !s.bit (FIO.GROUP_CFG.AUTO_RETRY (n / 8)) || !s.bit (FIO.CH_STATUS.LATCHED_OFF n)
     || s.get (FIO.CH_STATUS.DIAG n) == 4 || decide (s.now < Sparse.get 0 s.fio.latched n + 100 * ticksPerMs) then s
  else (s.release n true).tellMirror

def execAutoRetry (n : Fin 32) (s : State) : Answer := (s.autoRetry n).done

/-! ## Group supplies (R231, R232) -/

def groupChans (g : Nat) : List Nat := (List.range 8).map fun i => 8 * g + i

/-- R224, R231. The integrating filters of a group that goes UNDER hold their counts. -/
def State.filtersHold (s : State) (g : Nat) : State :=
  (groupChans g).foldl (fun s n => s.setChIn n { s.chIn n with acc := s.integrated n s.now }) s

/-- R232. The filters of a recovered group count from now. -/
def State.filtersStart (s : State) (g : Nat) : State :=
  let s := (groupChans g).foldl (fun s n => s.setChIn n { s.chIn n with start := s.now }) s
  { s with fio := { s.fio with recovered := Sparse.insert s.fio.recovered g s.now } }

/-- R231. VALID clears, and the filters and the group's counter hold. -/
def State.groupDown (s : State) (g : Nat) : State :=
  let s := { s with fio := { s.fio with settled := (groupChans g).foldl clearBit s.fio.settled } }
  ((groupChans g).foldl (fun s n => s.set (FIO.CH_STATUS.VALID n) 0) s).set (FIO.CNT_STATUS.HELD g) 1

/-- R231. The outputs of a LOST group are latched off with DIAG SUPPLY_LOST; other diagnoses stay. -/
def State.supplyLatch (s : State) (g : Nat) : State :=
  if s.isTrail then s else
  (groupChans g).foldl (fun s n => if isOutput s n && !s.bit (FIO.CH_STATUS.LATCHED_OFF n) then s.latchOff n 4 0 else s) s

/-- R232. Every SUPPLY_LOST latch of the group is released. -/
def State.supplyRelease (s : State) (g : Nat) : State :=
  (groupChans g).foldl (fun s n => if s.bit (FIO.CH_STATUS.LATCHED_OFF n) && s.get (FIO.CH_STATUS.DIAG n) == 4
    then s.release n false else s) s

/-- R232. Recovery from LOST, as RESUME says. On a trail the lead's latches and AWAIT_ACK stand (R250). -/
def State.groupResume (s : State) (g : Nat) : State :=
  if s.isTrail then s
  else if s.bit (FIO.GROUP_CFG.RESUME g) then s.supplyRelease g
  else ((s.supplyLatch g).set (FIO.GROUP_STATUS.AWAIT_ACK g) 1).post 83 g

/-- R231, R232. The moves that the supply voltage (units of 10 mV) allows. -/
def State.groupMay (s : State) (old new volts : Nat) : Bool :=
  match new with
  | 0 => decide (old ≠ 0) && decide (1960 < volts) && (old == 1 || decide (s.fio.start + 10 * ticksPerMs ≤ s.now))
  | 1 => if old = 0 then decide (volts < 1920)
    else decide (2 ≤ old) && decide (1800 < volts) && decide (volts ≤ 1960) && decide (s.fio.start + 10 * ticksPerMs ≤ s.now)
  | 2 => decide (old ≤ 1) && decide (volts < 1500)
  | _ => decide (old ≠ 3) && decide (volts < 1000)

/-- R231, R232. A measurement of the group's supply: its state changes where the voltage has stayed past the
threshold for its time, and VOLTAGE and RECOVERING follow. -/
def State.groupChange (s : State) (g new volts : Nat) : State :=
  if !s.domOn 5 then s else
  let old := s.groupState g
  let s := s.set (FIO.GROUP_STATUS.VOLTAGE g) volts
  let new := if s.groupMay old new volts then new else old
  let s := s.setB (FIO.GROUP_STATUS.RECOVERING g) (decide (2 ≤ new) && decide (1800 < volts))
  if new = old then s
  else
    let s := (s.set (FIO.GROUP_STATUS.STATE g) new).post 82 (g + 4 * new + 16 * old)
    let s := if old ≤ 1 ∧ 2 ≤ new then s.filtersHold g else s
    let s :=
      if new = 2 then (s.groupDown g).bump (FIO.GROUP_COUNTS.UNDER g)
      else if new = 3 then ((s.groupDown g).bump (FIO.GROUP_COUNTS.LOST g)).supplyLatch g
      else if 2 ≤ old then
        let s := (s.filtersStart g).set (FIO.CNT_STATUS.HELD g) 0
        if old = 3 then s.groupResume g else s
      else s
    s.tellMirror

def execGroupStateChange (g : Fin 4) (new : Fin 4) (volts : Fin 65536) (s : State) : Answer :=
  (s.groupChange g new volts).done

/-- R232, R250. An ack; a trail's AWAIT_ACK is the lead's. -/
def State.groupAck (s : State) (g : Nat) : State :=
  if s.isTrail || !s.bit (FIO.GROUP_STATUS.AWAIT_ACK g) then s
  else ((s.set (FIO.GROUP_STATUS.AWAIT_ACK g) 0).supplyRelease g).tellMirror

def execGroupAck (g : Fin 4) (s : State) : Answer := (s.groupAck g).done

/-! ## Spur units (R242 to R248) -/

def State.queue (s : State) (u : Nat) : List SpurAct := Sparse.get [] s.fio.queues u

def State.setQueue (s : State) (u : Nat) (q : List SpurAct) : State :=
  ({ s with fio := { s.fio with queues := Sparse.put [] s.fio.queues u q } }).set (SPR.UNIT_STATUS.QUEUED u) q.length

/-- R248. A trigger or an action dropped. -/
def State.suppress (s : State) (u cause : Nat) : State :=
  (s.bump (SPR.UNIT_LOST.SUPPRESSED u)).post 98 (u + 256 * cause)

/-- (a - b) of bits [31:0], as a signed value. -/
def diff32 (a b : Nat) : Int := toSigned 32 (a + 2 ^ 32 - b % 2 ^ 32)

/-- R244. Whether a scheduled action is due. -/
def State.dueNow (s : State) (a : SpurAct) : Bool :=
  match a.due with
  | .now => true
  | .tick t => decide (0 ≤ diff32 s.now t)
  | .counts _ sum target => decide (target = 0) || (decide (0 < target) && decide (target ≤ sum))
      || (decide (target < 0) && decide (sum ≤ target))

/-- R245. Pulses on channel `n` end without effect. -/
def State.cancelPulse (s : State) (n : Nat) : State :=
  let s := (s.fio.pulses.filter (·.chan == n)).foldl (fun s p => s.set (SPR.UNIT_STATUS.PULSE_ACTIVE p.unit) 0) s
  { s with fio := { s.fio with pulses := s.fio.pulses.filter (·.chan != n) } }

def State.spurLevel (s : State) (n : Nat) (level : Bool) : State :=
  { s with fio := { s.fio with spur := if level then setBit s.fio.spur n else clearBit s.fio.spur n } }

/-- R245. The level of a channel after the actions of one tick. -/
def levelAfter (base : Bool) (acts : List (Nat × Nat × Nat)) : Bool :=
  acts.foldl (fun l a => match a.2.1 with
    | 1 => true
    | 3 => true
    | 5 => !l
    | _ => false) base

/-- R244, R245. The action of unit `u` on its channel, with its pulse length. Actions that reach a channel on one tick are applied
in ascending unit order, whichever command brought them. -/
def State.spurAct (s : State) (u pulse : Nat) : State :=
  let n := s.get (SPR.UNIT_ACTION.OUT_CHANNEL u)
  let k := s.get (SPR.UNIT_ACTION.KIND u)
  if k = 0 ∨ 6 ≤ k then s
  else
    let new : ChanTick := ⟨s.now, s.fio.spur.testBit n, []⟩
    let r := match Sparse.find s.fio.acted n with
      | some r => if r.tick = s.now then r else new
      | none => new
    let acts := r.acts.takeWhile (·.1 ≤ u) ++ [(u, k, pulse)] ++ r.acts.dropWhile (·.1 ≤ u)
    let level := levelAfter r.base acts
    let s := s.cancelPulse n
    let s := State.spurLevel { s with fio := { s.fio with acted := Sparse.insert s.fio.acted n { r with acts := acts } } } n level
    match acts.getLast? with
    | some (v, j, len) =>
      if j = 3 ∨ j = 4 then
        let p : SpurPulse := ⟨v, n, s.now + len, !level⟩
        State.set { s with fio := { s.fio with pulses := s.fio.pulses ++ [p] } } (SPR.UNIT_STATUS.PULSE_ACTIVE v) 1
      else s
    | none => s

/-- R248. The cause for which the pin does not show an action on channel `n`: the first row of R228 that applies. -/
def State.hides (s : State) (n : Nat) : Option Nat :=
  if !s.bit SYS.CARRIER_STATUS.DRIVERS_ENABLED then some 1
  else if s.bit (FIO.CH_STATUS.LATCHED_OFF n) && s.get (FIO.CH_STATUS.DIAG n) != 4 then some 1
  else if s.bit (FIO.CH_STATUS.LATCHED_OFF n) || s.groupState (n / 8) == 3 then some 2
  else if (s.forced 1 n).isSome then some 0
  else none

/-- R245, R248. One action command of unit `u`. -/
def State.spurCommand (s : State) (u : Nat) (a : SpurAct) : State :=
  let s := ((s.bump (SPR.UNIT_FIRED.COUNT u)).set2 (SPR.UNIT_LAST_LO.TICK u) (SPR.UNIT_LAST_HI.TICK u) a.trig).spurAct u a.pulse
  let s := if s.bit (SPR.UNIT_ACTION.NOTIFY u) then s.post 96 u else s
  match (if s.get (SPR.UNIT_ACTION.KIND u) = 0 then none else s.hides (s.get (SPR.UNIT_ACTION.OUT_CHANNEL u))) with
  | some c => s.post 98 (u + 256 * c)
  | none => s

/-- R245. The due actions at the head of unit `u`'s queue; answers how many it commanded. -/
def State.runQueue (s : State) (u : Nat) : Nat → State × Nat
  | 0 => (s, 0)
  | fuel + 1 =>
    match s.queue u with
    | [] => (s, 0)
    | a :: r =>
      if !s.dueNow a then (s, 0)
      else
        let (s, k) := ((s.setQueue u r).spurCommand u a).runQueue u fuel
        (s, k + 1)

/-- R244, R247. When the action of unit `u`, triggered at tick `trig`, is due, and its pulse length. -/
def State.schedule (s : State) (u trig : Nat) : SpurAct :=
  let d := s.get (SPR.UNIT_DELAY.DELAY u)
  ⟨trig, match s.get (SPR.UNIT_ACTION.TIMING u) with
    | 1 => .tick ((trig + d) % 2 ^ 32)
    | 2 => .counts (s.get (SPR.UNIT_TRIG.COUNTER u)) 0 (toSigned 32 d)
    | _ => .now, s.get (SPR.UNIT_PULSE.TICKS u)⟩

/-- R248. Whether the supply of a trigger channel suppresses the unit. -/
def State.supplySuppresses (s : State) (u : Nat) : Bool :=
  match s.get (SPR.UNIT_TRIG.KIND u) with
  | 1 => !s.groupUp (s.get (SPR.UNIT_TRIG.CHANNEL u))
  | 2 => (List.range 32).any fun n => (s.get (SPR.UNIT_PATTERN_CARE.CARE u)).testBit n && !s.groupUp n
  | _ => false

/-- R243, R245, R248. A trigger of unit `u` at tick `trig`: ignored while disarmed, suppressed, or accepted. -/
def State.spurTrigger (s : State) (u trig : Nat) : State :=
  if !s.bit (SPR.UNIT_STATUS.ARMED u) then s
  else if s.supplySuppresses u then s.suppress u 2
  else if !s.inRun && !s.bit (SPR.UNIT_ACTION.RUN_IN_STOP u) then s.suppress u 3
  else
    let s := if s.bit (SPR.UNIT_ACTION.ONCE u) then s.set (SPR.UNIT_STATUS.ARMED u) 0 else s
    if 8 ≤ (s.queue u).length then (s.bump (SPR.UNIT_LOST.MISSED u)).post 97 u
    else s.setQueue u (s.queue u ++ [s.schedule u trig])

/-- R242, R245. Units in ascending order run their due actions. The units chained to those that command something are triggered on
the tick after, once for each command. -/
def State.spurRun (s : State) (us : List Nat) : State :=
  let (s, fired) := us.foldl (fun (p : State × List Nat) u =>
    let (s, k) := p.1.runQueue u 9
    (s, p.2 ++ List.replicate k u)) (s, [])
  let next := (List.range 16).filter fun v => s.get (SPR.UNIT_TRIG.KIND v) == 6
  let due := next.flatMap fun v => (fired.filter (· == s.get (SPR.UNIT_TRIG.CHAIN_UNIT v))).map fun _ => (v, s.now + 1)
  { s with fio := { s.fio with chainDue := s.fio.chainDue ++ due } }

/-- Triggers of the units `us` at this tick, and what they command. -/
def State.spurFire (s : State) (us : List Nat) : State :=
  (us.foldl (fun s u => s.spurTrigger u s.now) s).spurRun us

/-- R242. The chained units whose tick has come are triggered, and act. -/
def State.chainTick (s : State) : State :=
  if s.fio.chainDue = [] then s
  else
    let due := (s.fio.chainDue.filter fun p => decide (p.2 ≤ s.now))
    let s := { s with fio := { s.fio with chainDue := s.fio.chainDue.filter fun p => decide (s.now < p.2) } }
    let due := due.filter fun p => s.domOn 5 && s.get (SPR.UNIT_TRIG.KIND p.1) == 6
    (due.foldl (fun s p => s.spurTrigger p.1 p.2) s).spurRun ((List.range 16).filter fun u => due.any (·.1 == u))

/-- R242. An INPUT_EDGE or PATTERN condition that unit `u` has recognised fires. -/
def State.inputTrigger (s : State) (u : Nat) : State :=
  match s.fio.spurDue.find? (·.1 == u) with
  | none => s
  | some e => (State.spurTrigger { s with fio := { s.fio with spurDue := s.fio.spurDue.erase e } } u e.2).spurRun [u]

def execSpurInputTrigger (u : Fin 16) (s : State) : Answer := (s.inputTrigger u).done

/-- R242. The TIME trigger of unit `u`: once for each PARAM value. -/
def State.timeTrigger (s : State) (u : Nat) : State :=
  if !s.domOn 5 || s.get (SPR.UNIT_TRIG.KIND u) != 3 || s.fio.timeDone.contains u
     || decide (diff32 s.now (s.get (SPR.UNIT_PARAM.PARAM u)) < 0) then s
  else ({ s with fio := { s.fio with timeDone := addOnce s.fio.timeDone u } }).spurFire [u]

def execSpurTimeTrigger (u : Fin 16) (s : State) : Answer := (s.timeTrigger u).done

/-- R244. A scheduled action reaches its tick. -/
def State.actionDue (s : State) (u : Nat) : State := if !s.domOn 5 then s else s.spurRun [u]

def execSpurActionDue (u : Fin 16) (s : State) : Answer := (s.actionDue u).done

/-- R245. A pulse of unit `u` reaches its end. -/
def State.pulseEnd (s : State) (u : Nat) : State :=
  match s.fio.pulses.find? (fun p => p.unit == u && decide (p.stop ≤ s.now)) with
  | none => s
  | some p =>
    let s := { s with fio := { s.fio with pulses := s.fio.pulses.erase p } }
    (s.set (SPR.UNIT_STATUS.PULSE_ACTIVE u) 0).spurLevel p.chan p.level

def execSpurPulseEnd (u : Fin 16) (s : State) : Answer := (s.pulseEnd u).done

/-- R242. The UCP_EVENT triggers of a landing from `node` with its first plain input word. -/
def State.spurLanding (s : State) (node word : Nat) : State :=
  if !s.domOn 5 then s else
  s.spurFire ((List.range 16).filter fun u =>
    let p := s.get (SPR.UNIT_PARAM.PARAM u)
    s.get (SPR.UNIT_TRIG.KIND u) == 5 && bitsOf p 0 11 == node
      && (!p.testBit 21 || word.testBit (bitsOf p 16 5)))

/-- R247. PARAM takes a value; a TIME unit may fire for a value that it has not had. -/
def State.setParam (s : State) (u v : Nat) : State :=
  let s := if s.get (SPR.UNIT_PARAM.PARAM u) = v % 2 ^ 32 then s
    else { s with fio := { s.fio with timeDone := s.fio.timeDone.filter (· != u) } }
  s.set (SPR.UNIT_PARAM.PARAM u) v

/-- R247. The chain of CHAIN_UNIT links from `v` comes to `u`. -/
def State.chainMeets (s : State) (u : Nat) : Nat → Nat → Bool
  | 0, v => v == u
  | fuel + 1, v => v == u || (s.get (SPR.UNIT_TRIG.KIND v) == 6
      && s.chainMeets u fuel (s.get (SPR.UNIT_TRIG.CHAIN_UNIT v)))

/-- R247. The first failing cause of a write that makes KIND non-zero, or 0. -/
def State.spurCause (s : State) (u value : Nat) : Nat :=
  let k := bitsOf value 0 4
  let cnt := bitsOf value 12 2
  let ak := s.get (SPR.UNIT_ACTION.KIND u)
  let tm := s.get (SPR.UNIT_ACTION.TIMING u)
  let out := s.get (SPR.UNIT_ACTION.OUT_CHANNEL u)
  if 7 ≤ k then 1
  else if 6 ≤ ak ∨ tm = 3 ∨ (tm = 1 ∧ 2 ^ 30 < s.get (SPR.UNIT_DELAY.DELAY u)) then 2
  else if ak ≠ 0 ∧ !(isOutput s out && s.bit (FIO.CH_CFG.OUT_SOURCE out)) then 3
  else if (k = 4 ∨ tm = 2) ∧ s.get (FIO.CNT_CFG.MODE cnt) = 0 then 4
  else if k = 6 ∧ s.chainMeets u 16 (bitsOf value 16 4) then 5
  else 0

/-- The fields of UNIT_u_TRIG but KIND. -/
def State.putTrig (s : State) (u value : Nat) : State :=
  ((((((s.set (SPR.UNIT_TRIG.CHANNEL u) (bitsOf value 4 5)).set (SPR.UNIT_TRIG.EDGE u) (bitsOf value 9 2)).set
    (SPR.UNIT_TRIG.SOURCE u) (bitsOf value 11 1)).set (SPR.UNIT_TRIG.COUNTER u) (bitsOf value 12 2)).set
    (SPR.UNIT_TRIG.DIRECTION u) (bitsOf value 14 2)).set (SPR.UNIT_TRIG.CHAIN_UNIT u) (bitsOf value 16 4))

/-- What unit `u` has recognised and not taken up is forgotten. -/
def State.spurForget (s : State) (u : Nat) : State :=
  { s with fio := { s.fio with spurDue := s.fio.spurDue.filter fun p => p.1 != u } }

/-- R243. Unit `u` is armed or disarmed: an edge from before it was armed is no trigger. -/
def State.setSpurArmed (s : State) (u : Nat) (on : Bool) : State :=
  (if s.bit (SPR.UNIT_STATUS.ARMED u) then s else s.spurForget u).setB (SPR.UNIT_STATUS.ARMED u) on

/-- R247. A write of UNIT_u_TRIG. -/
def State.trigWrite (s : State) (u value : Nat) : State :=
  let k := bitsOf value 0 4
  if s.spurUsed u then
    if k = 0 then (((s.set (SPR.UNIT_TRIG.KIND u) 0).setQueue u []).spurForget u) else s
  else if k = 0 then s.putTrig u value
  else
    let c := s.spurCause u value
    if c ≠ 0 then
      ((s.set (SPR.UNIT_STATUS.CFG_ERR u) 1).set (SPR.UNIT_STATUS.CFG_CAUSE u) c).post 99 (u + 256 * c)
    else
      let s := ((s.putTrig u value).set (SPR.UNIT_TRIG.KIND u) k).set (SPR.UNIT_STATUS.CFG_ERR u) 0
      let s := s.set (SPR.UNIT_STATUS.CFG_CAUSE u) 0
      { s with fio := { s.fio with timeDone := s.fio.timeDone.filter (· != u) } }

def execSpurTrigWrite (u : Fin 16) (value : Nat) (s : State) : Answer := (s.trigWrite u value).done

/-- R243. CTRL.ARM and CTRL.DISARM act where ARM_SRC is 0. -/
def State.spurArm (s : State) (u : Nat) (on : Bool) : State :=
  if s.bit (SPR.UNIT_ACTION.ARM_SRC u) then s else s.setSpurArmed u on

def execSpurArm (u : Fin 16) (s : State) : Answer := (s.spurArm u true).done
def execSpurDisarm (u : Fin 16) (s : State) : Answer := (s.spurArm u false).done

/-- FLUSH empties the queue. -/
def State.spurFlush (s : State) (u : Nat) : State := s.setQueue u []

def execSpurFlush (u : Fin 16) (s : State) : Answer := (s.spurFlush u).done

/-! ## Counters (R233 to R235) -/

/-- R233, R234. What one step of the inputs A and B does: count up, down, nothing (`some 0`), or an error (none). -/
def countStep (mode : Nat) (a a1 b b1 : Bool) : Option Int :=
  match mode with
  | 1 =>
    if a = a1 ∧ b = b1 then some 0
    else if a ≠ a1 ∧ b ≠ b1 then none
    else if a ≠ a1 then some (if a1 ≠ b then 1 else -1)
    else some (if b1 = a then 1 else -1)
  | 0 => some 0
  | _ => if !a && a1 then some (if b then -1 else 1) else some 0

/-- R244. The counted step reaches every scheduled AFTER_COUNTS action of the counter. -/
def addSteps (c : Nat) (k : Int) (a : SpurAct) : SpurAct :=
  match a.due with
  | .counts c' sum target => if c' = c then { a with due := .counts c' (sum + k) target } else a
  | _ => a

/-- R242. Whether the step from `old` to `new` passes PARAM in the unit's DIRECTION. -/
def State.compares (s : State) (u old new : Nat) : Bool :=
  let p := s.get (SPR.UNIT_PARAM.PARAM u)
  let up := decide (diff32 old p < 0) && decide (0 ≤ diff32 new p)
  let down := decide (0 < diff32 old p) && decide (diff32 new p ≤ 0)
  match s.get (SPR.UNIT_TRIG.DIRECTION u) with
  | 0 => up
  | 1 => down
  | _ => up || down

/-- R234. A quadrature step in which A and B change together. -/
def State.quadError (s : State) (c : Nat) : State :=
  let s := s.bump (FIO.CNT_STATUS.QUAD_ERRORS c)
  let quiet := match Sparse.find s.fio.quadTold c with
    | some t => decide (s.now < t + ticksPerMs)
    | none => false
  if quiet then s
  else ({ s with fio := { s.fio with quadTold := Sparse.insert s.fio.quadTold c s.now } }).post 84 c

/-- R233, R242, R244. The counter updated by a counted step. -/
def State.counted (s : State) (c : Nat) (k : Int) : State :=
  let old := s.get (FIO.CNT_VALUE.VALUE c)
  let new := ofSigned 32 ((old : Int) + k)
  let s := s.set (FIO.CNT_VALUE.VALUE c) new
  let s := { s with fio := { s.fio with queues := s.fio.queues.map fun (q : Nat × List SpurAct) => (q.1, q.2.map (addSteps c k)) } }
  let us := (List.range 16).filter fun u =>
    s.get (SPR.UNIT_TRIG.KIND u) == 4 && s.get (SPR.UNIT_TRIG.COUNTER u) == c && s.compares u old new
  (us.foldl (fun s u => s.spurTrigger u s.now) s).spurRun (List.range 16)

/-- R233, R234. The filtered inputs of counter `c` go from (`a`, `b`) to (`a1`, `b1`). -/
def State.counterStep (s : State) (c : Nat) (a a1 b b1 : Bool) : State :=
  if !s.domOn 5 || decide (2 ≤ s.groupState c) then s
  else match countStep (s.get (FIO.CNT_CFG.MODE c)) a a1 b b1 with
    | none => s.quadError c
    | some k => if k = 0 then s else s.counted c (if s.bit (FIO.CNT_CFG.INVERT_DIR c) then -k else k)

/-- R234. Whether the glitch filter of counter `c` passes the raw level of channel `n`: it has lasted GLITCH ticks. -/
def State.glitchReady (s : State) (c n : Nat) : Bool :=
  s.bit (FIO.CH_STATUS.RAW n) != (s.chIn n).glitch && decide ((s.chIn n).since + s.get (FIO.CNT_CFG.GLITCH c) ≤ s.now)

/-- The level behind the glitch filter of channel `n` changes. -/
def State.glitchFlip (s : State) (n : Nat) : State := s.setChIn n { s.chIn n with glitch := !(s.chIn n).glitch }

/-- R233, R234. The levels behind the glitch filters of inputs A and B change, as `ma` and `mb` say, on one tick. -/
def State.glitchMove (s : State) (c : Nat) (ma mb : Bool) : State :=
  let a := (s.chIn (8 * c)).glitch
  let b := (s.chIn (8 * c + 1)).glitch
  let s := if ma then s.glitchFlip (8 * c) else s
  let s := if mb then s.glitchFlip (8 * c + 1) else s
  s.counterStep c a (a != ma) b (b != mb)

/-- R233, R234. The terminals of A and B of counter `c` have been at `av` and `bv` (units of 10 mV) for `ah` and `bh` ticks: what
passes the glitch filter is counted, in the order in which it came. -/
def State.counterSeen (s : State) (c av ah bv bh : Nat) : State :=
  if !s.domOn 5 then s
  else
    let s := (s.sense (8 * c) av ah).sense (8 * c + 1) bv bh
    let ra := s.glitchReady c (8 * c)
    let rb := s.glitchReady c (8 * c + 1)
    let ta := (s.chIn (8 * c)).since
    let tb := (s.chIn (8 * c + 1)).since
    if ra ∧ rb ∧ ta < tb then (s.glitchMove c true false).glitchMove c false true
    else if ra ∧ rb ∧ tb < ta then (s.glitchMove c false true).glitchMove c true false
    else s.glitchMove c ra rb

def execCounterStep (c : Fin 4) (aVolts aHeld bVolts bHeld : Fin 65536) (s : State) : Answer :=
  (s.counterSeen c aVolts aHeld bVolts bHeld).done

/-- R233. A load is not a counter update. -/
def execCounterLoad (c : Fin 4) (value : Nat) (s : State) : Answer := (s.set (FIO.CNT_VALUE.VALUE c) value).done

/-- R235. An edge of the index channel; where it asks for it VALUE is zeroed on the next tick. -/
def State.index (s : State) (c : Nat) (rising : Bool) : State :=
  if !s.domOn 5 || decide (2 ≤ s.groupState c) || !s.bit (FIO.CNT_CFG.INDEX_ENABLE c)
     || s.bit (FIO.CNT_CFG.INDEX_EDGE c) == rising then s
  else
    let s := (s.set (FIO.CNT_INDEX_LATCH.VALUE c) (s.get (FIO.CNT_VALUE.VALUE c))).set (FIO.CNT_STATUS.INDEX_SEEN c) 1
    let s := s.post 85 c
    if s.bit (FIO.CNT_CFG.INDEX_RESET c) then { s with fio := { s.fio with zeroDue := addOnce s.fio.zeroDue c } } else s

/-- R234, R235. The terminal of the index channel is at `volts`; the edge that passes the glitch filter is an index. -/
def State.indexSeen (s : State) (c volts : Nat) : State :=
  if !s.domOn 5 then s
  else
    let n := 8 * c + 2
    let s := s.sense n volts 0
    if !s.glitchReady c n then s else (s.glitchFlip n).index c (s.bit (FIO.CH_STATUS.RAW n))

def execIndex (c : Fin 4) (volts : Fin 65536) (s : State) : Answer := (s.indexSeen c volts).done

/-! ## Touch probes (R236, R237) -/

/-- R237. The latch of probe `p`. -/
def State.probeLatch (s : State) (p value : Nat) : State :=
  let s := if s.bit (FIO.PRB_CFG.CONTINUOUS p) then
      (if s.fio.unread.contains p then s.bump (FIO.PRB_STATUS.OVERWRITES p) else s)
    else s.set (FIO.PRB_STATUS.ARMED p) 0
  let s := s.set2 (FIO.PRB_VALUE_LO.VALUE p) (FIO.PRB_VALUE_HI.VALUE p) value
  let q := (Sparse.get 0 s.fio.probeSeq p + 1) % 16
  let s := { s with fio := { s.fio with unread := addOnce s.fio.unread p
                                        probeSeq := Sparse.put 0 s.fio.probeSeq p q } }
  (s.set (FIO.PRB_STATUS.LATCHED p) 1).post 86 p

/-- R236, R237. The first edge that probe `p` has recognised is latched, where the probe is still armed. -/
def State.probeTake (s : State) (p : Nat) : State :=
  match s.fio.probeDue.find? (·.1 == p) with
  | none => s
  | some e =>
    let s := { s with fio := { s.fio with probeDue := s.fio.probeDue.erase e } }
    if s.bit (FIO.PRB_STATUS.ARMED p) then s.probeLatch p e.2 else s

/-- R236. The terminal of the channel of probe `p` was at `before` (units of 10 mV) until `held` ticks ago, and has been at `volts`
since. -/
def State.probeSeen (s : State) (p before volts held : Nat) : State :=
  if !s.domOn 5 then s
  else
    let n := s.get (FIO.PRB_CFG.CHANNEL p)
    let s := ((s.sense n before (held + 1)).sense n volts held)
    (s.filterLook n s.now).probeTake p

def execProbeLatched (p : Fin 16) (before volts held : Fin 65536) (s : State) : Answer := (s.probeSeen p before volts held).done

/-- R237. Probe `p` is armed or disarmed: an edge from before it was armed is not latched. -/
def State.setProbeArmed (s : State) (p : Nat) (on : Bool) : State :=
  let s := if s.bit (FIO.PRB_STATUS.ARMED p) then s
    else { s with fio := { s.fio with probeDue := s.fio.probeDue.filter fun e => e.1 != p } }
  s.setB (FIO.PRB_STATUS.ARMED p) on

/-- R237. Arming through PRB_p_CTRL, where ARM_SRC is 0. -/
def State.probeArm (s : State) (p : Nat) (on : Bool) : State :=
  if s.bit (FIO.PRB_CFG.ARM_SRC p) then s else s.setProbeArmed p on

def execProbeArm (p : Fin 16) (s : State) : Answer := (s.probeArm p true).done
def execProbeDisarm (p : Fin 16) (s : State) : Answer := (s.probeArm p false).done

/-- R237. A read of PRB_p_VALUE_LO freezes the high word for the next read of PRB_p_VALUE_HI. -/
def State.probeRead (s : State) (p : Nat) : State :=
  { s with fio := { s.fio with frozen := Sparse.insert s.fio.frozen p (s.get (FIO.PRB_VALUE_HI.VALUE p))
                               unread := s.fio.unread.filter (· != p) } }

def execProbeValueLoRead (p : Fin 16) (s : State) : Answer := (s.probeRead p).done

/-! ## The channels in the process image (R238, R239) -/

/-- R238. The value words of the local input block. Kind 1 force entries replace input channels in snapshots. -/
def State.fioBlock (s : State) (force : Bool) : List Nat :=
  let inState (n : Nat) : Bool := match (if force && !isOutput s n then s.forced 1 n else none) with
    | some v => v.testBit 0
    | none => if isOutput s n then s.get (FIO.CH_STATUS.READBACK n) == 2 else s.bit (FIO.CH_STATUS.STATE n)
  let five := (List.range 4).foldl (fun a g => a + 4 ^ g * s.groupState g
    + 2 ^ (8 + g) * s.get (FIO.GROUP_STATUS.AWAIT_ACK g)) 0
    + 65536 * packBits 16 fun p => s.bit (FIO.PRB_STATUS.ARMED p)
  let seqs (b : Nat) : Nat := (List.range 8).foldl (fun a p => a + 16 ^ p * Sparse.get 0 s.fio.probeSeq (b + p)) 0
  [packBits 32 inState, packBits 32 fun n => s.bit (FIO.CH_STATUS.VALID n),
   packBits 32 fun n => s.bit (FIO.CH_STATUS.WIRE_BREAK n), packBits 32 fun n => s.bit (FIO.CH_STATUS.LATCHED_OFF n),
   packBits 32 fun n => s.get (FIO.CH_STATUS.READBACK n) == 2, five]
  ++ (List.range 4).map (fun c => s.get (FIO.CNT_VALUE.VALUE c))
  ++ (List.range 4).map (fun c => s.get (FIO.CNT_INDEX_LATCH.VALUE c))
  ++ [seqs 0, seqs 8]
  ++ (List.range 16).flatMap (fun p => [s.get (FIO.PRB_VALUE_LO.VALUE p), s.get (FIO.PRB_VALUE_HI.VALUE p)])
  ++ List.replicate 16 0

/-- Address of pair-word `i` of the output image. -/
def outAddr (i : Nat) : Nat := 0x2080000 + 8 * i

/-- Address of pair-word `i` of the input image. -/
def inAddr (i : Nat) : Nat := 0x2000000 + 8 * i

/-- R190, R239. An output pair-word found invalid as it is used. -/
def State.outputFault (s : State) (i : Nat) : State := (s.bump PIM.OUTPUT_PAIR_FAULTS.COUNT).post 64 i

/-- R243. The committed SPUR_ARM bits. -/
def State.applySpurArm (s : State) (v : Nat) : State :=
  let old := s.fio.spurArm
  let s := { s with fio := { s.fio with spurArm := v } }
  (List.range 16).foldl (fun s u =>
    if !s.bit (SPR.UNIT_ACTION.ARM_SRC u) then s
    else if !s.bit (SPR.UNIT_ACTION.ONCE u) then s.setSpurArmed u (v.testBit u)
    else if v.testBit u && !old.testBit u then s.setSpurArmed u true else s) s

/-- R239. The committed PROBE_ARM bits. -/
def State.applyProbeArm (s : State) (v : Nat) : State :=
  let old := s.fio.probeArm
  let s := { s with fio := { s.fio with probeArm := v } }
  (List.range 16).foldl (fun s p =>
    if !s.bit (FIO.PRB_CFG.ARM_SRC p) then s
    else if s.bit (FIO.PRB_CFG.CONTINUOUS p) then s.setProbeArmed p (v.testBit p)
    else if v.testBit p && !old.testBit p then s.setProbeArmed p true else s) s

/-- R239. One pair-word of the local output block applied. -/
def State.applyOut (s : State) (i v : Nat) : State :=
  match i with
  | 0 => { s with fio := { s.fio with cmd := v } }
  | 1 => s.applySpurArm v
  | 2 => s.applyProbeArm v
  | _ => if s.bit (SPR.UNIT_ACTION.PARAM_SRC (i - 4)) then s.setParam (i - 4) v else s

/-- R239. The local output block applied after a commit of its owner class. -/
def State.fioApply (s : State) : State :=
  if !s.bit FIO.CTRL.ENABLE || !s.domOn 5 then s else
  let base := s.get FIO.IMAGE.OUT_BASE
  let s := { s with fio := { s.fio with committed := true } }
  ([0, 1, 2] ++ (List.range 16).map (· + 4)).foldl (fun s i =>
    let (ok, v) := s.pairAt (outAddr (base + i))
    if ok then s.applyOut i v else s.outputFault (base + i)) s

/-- R228, R248. Entry to STOP: the levels commanded are held, a low that is off among them, and the queues of units without RUN_IN_STOP are emptied. -/
def State.fioStop (s : State) : State :=
  let held := packBits 32 s.command
  let s := { s with fio := { s.fio with held := some held } }
  (List.range 16).foldl (fun s u => if s.bit (SPR.UNIT_ACTION.RUN_IN_STOP u) then s
    else ((s.queue u).foldl (fun s _ => s.suppress u 3) s).setQueue u []) s

/-- R228. Entry to RUN. -/
def State.fioRun (s : State) : State := { s with fio := { s.fio with committed := false } }

/-- R231. A start of D5. -/
def State.fioStart (s : State) : State :=
  (List.range 4).foldl (fun s g => (((s.set (FIO.GROUP_STATUS.STATE g) 2).set (FIO.GROUP_STATUS.RECOVERING g) 1).set
    (FIO.CNT_STATUS.HELD g) 1)) { s with fio := { start := s.now } }

end Sys2Proof.Machine
end

