-- ==== Sys2Proof/Machine/Rings.lean ====
section
/-! DEFINITION. Rings, descriptors, completions, the copy engine and event commands (spec/03). The stopping of
started descriptors, which each engine does in its own way, stands in Abort.lean.

Marks (notes/assumptions): DEDUCED 21, 133, 134. -/

namespace Sys2Proof.Machine

/-! ## Set-up and enable (R70, R76) -/

def State.descBase (s : State) (n : Nat) : Nat :=
  s.get (RNG.RING_DESC_BASE_LO.ADDR n) * 32 + s.get (RNG.RING_DESC_BASE_HI.ADDR n) * 2 ^ 32

def State.compBase (s : State) (n : Nat) : Nat :=
  s.get (RNG.RING_COMP_BASE_LO.ADDR n) * 16 + s.get (RNG.RING_COMP_BASE_HI.ADDR n) * 2 ^ 32

/-- Rings other than `n` that are enabled. -/
def State.otherRings (s : State) (n : Nat) : List Nat :=
  (List.range 64).filter fun m => m != n && s.get (RNG.RING_STATUS.STATE m) != 0

/-- R70. The first failing cause of checks 1 to 6, or 0. -/
def State.ringCause (s : State) (n : Nat) : Nat :=
  let k := s.get (RNG.RING_DESC_BASE_HI.ENTRIES_LOG2 n)
  let e := s.ringSize n
  let eng := s.get (RNG.RING_CFG.ENGINE n)
  if k < 2 ∨ 12 < k then 1
  else if !inSramDram (s.descBase n) (32 * e) || !inSramDram (s.compBase n) (16 * e) then 2
  else if !inSramDram (s.bellAddr n) 4 || (s.otherRings n).any (fun m => s.bellAddr m == s.bellAddr n) then 3
  else if 12 ≤ eng || s.domFailed (engineDomain eng) then 4
  else if overlaps (s.compBase n) (16 * e) (s.descBase n) (32 * e) || (s.otherRings n).any (fun m =>
      overlaps (s.compBase n) (16 * e) (s.descBase m) (32 * s.ringSize m)
      || overlaps (s.compBase n) (16 * e) (s.compBase m) (16 * s.ringSize m)) then 5
  else if 22 ≤ s.get (RNG.RING_CFG.OWNER n) then 6
  else 0

/-- R70, R88. An enable refused. -/
def State.ringRefuse (s : State) (n cause : Nat) : State :=
  (((s.set (RNG.RING_CTRL.ENABLE n) 0).set (RNG.RING_STATUS.STATE n) 0).set (RNG.RING_STATUS.CFG_ERR n) 1).set
    (RNG.RING_STATUS.CFG_CAUSE n) cause

/-- R70, R76. ENABLE set on a DISABLED ring. -/
def State.ringEnable (s : State) (n : Nat) : State :=
  if s.get (RNG.RING_STATUS.STATE n) ≠ 0 then s
  else if s.ringCause n ≠ 0 then s.ringRefuse n (s.ringCause n)
  else
    match s.read { init := 8, owner := some (s.get (RNG.RING_CFG.OWNER n)) } (s.bellAddr n) 4 with
    | (s, .error _) => s.ringRefuse n 7
    | (s, .ok bs) =>
      let p := leAt bs 0 2
      let s := (s.set (RNG.RING_CTRL.ENABLE n) 1).set (RNG.RING_STATUS.STATE n) 1
      let s := (s.set (RNG.RING_STATUS.CFG_ERR n) 0).set (RNG.RING_STATUS.CFG_CAUSE n) 0
      let s := (s.set (RNG.RING_INDEX.CONS n) p).set (RNG.RING_INDEX.PROD n) p
      let s := ((s.set (RNG.RING_FAULT.REASON n) 0).set (RNG.RING_FAULT.STATUS n) 0).set (RNG.RING_FAULT.INDEX n) 0
      s.setRing n {}

def execRingEnable (n : Fin 64) (s : State) : Answer := (s.ringEnable n).done

/-! ## The state machine (R88) -/

/-- R88. A STOPPING ring whose last started descriptor has completed. -/
def State.ringSettle (s : State) (n : Nat) : State :=
  if s.get (RNG.RING_STATUS.STATE n) ≠ 2 || s.rng.started.any (·.ring == n)
     || s.rng.finished.any (fun f => f.st.ring == n) then s
  else (s.set (RNG.RING_STATUS.STATE n) (if (s.ring n).toDisabled then 0 else 3)).post 233 n

/-- R88. STOP. -/
def State.ringStop (s : State) (n : Nat) : State :=
  if s.get (RNG.RING_STATUS.STATE n) ≠ 1 then s else (s.set (RNG.RING_STATUS.STATE n) 2).ringSettle n

def execRingStop (n : Fin 64) (s : State) : Answer := (s.ringStop n).done

/-- R88, R89. RESUME: from STOPPED or FAULTED. -/
def State.ringResume (s : State) (n : Nat) : State :=
  let st := s.get (RNG.RING_STATUS.STATE n)
  if st ≠ 3 ∧ st ≠ 4 then s
  else
    let s := ((s.set (RNG.RING_FAULT.REASON n) 0).set (RNG.RING_FAULT.STATUS n) 0).set (RNG.RING_FAULT.INDEX n) 0
    (s.set (RNG.RING_STATUS.STATE n) 1).setRing n { s.ring n with toDisabled := false }

def execRingResume (n : Fin 64) (s : State) : Answer := (s.ringResume n).done

/-- R69. CLEAR_PEAK. -/
def State.clearPeak (s : State) : State := s.set RNG.TAGS.PEAK (s.get RNG.TAGS.IN_FLIGHT)

def execTagsClearPeak (s : State) : Answer := s.clearPeak.done

def execDbIgnoredClear (s : State) : Answer := (s.set RNG.DB_IGNORED.COUNT 0).done

/-- R72, R73. A 32-bit write of `value` to the doorbell word of ring `n`, or where `half` is set a write of its
low two bytes only. Memory is written as far as protection permits. -/
def execDoorbellWrite (n : Fin 64) (init : Fin 22) (half : Bool) (value : Nat) (s : State) : Answer :=
  (s.write { init := init } (s.bellAddr n) (leBytes (if half then 2 else 4) value)).1.done

/-! ## Fetching and starting (R78, R79, R84 to R86) -/

/-- R78. A descriptor from its 32 bytes. -/
def descOf (bs : List Nat) : Desc :=
  ⟨leAt bs 0 4, leAt bs 4 4, leAt bs 8 4, leAt bs 12 4, leAt bs 16 4, leAt bs 20 4, leAt bs 24 4, leAt bs 28 4⟩

/-- R78. The value of CHECK that words 0 to 6 require. -/
def Desc.checkWord (d : Desc) : Nat :=
  compl32 (d.w0 ^^^ d.w1 ^^^ d.w2 ^^^ d.w3 ^^^ d.w4 ^^^ d.w5 ^^^ d.w6)

/-- R68. The opcodes that each engine defines. -/
def engineOps (e : Nat) : List Nat :=
  match e with
  | 0 => [0, 1, 2]
  | 1 => [1, 2, 3, 4]
  | 2 => [1, 2, 3, 4, 5, 6, 7, 8, 9, 10]
  | 3 => [1, 2, 3, 4, 5]
  | 4 => [1, 2]
  | 5 => [1, 2, 3]
  | 6 => [1, 2, 3]
  | 7 => [1, 2, 3, 4]
  | 8 => [1, 2, 3, 0x10, 0x11, 0x12, 0x13]
  | 9 => [1, 2, 3, 4, 5, 6]
  | 10 => [1, 2]
  | 11 => [1, 2]
  | _ => []

/-- The doorbell that published descriptor `idx` of ring `n`. -/
def State.publisher (s : State) (n idx : Nat) : Option Bell :=
  (s.ring n).bells.find? fun b => decide (0 < (b.prod + 65536 - idx) % 65536
    ∧ (b.prod + 65536 - idx) % 65536 ≤ s.ringSize n)

/-- The tick at which it was accepted (R78). -/
def State.publishTick (s : State) (n idx : Nat) : Nat := ((s.publisher n idx).map (·.tick)).getD s.now

/-- R352. Engines whose descriptors on a ring of initiator 0 a trail follows. -/
def followedEngine (e : Nat) : Bool := e ∈ [1, 4, 5, 6, 7, 9, 10, 11]

/-- R352. Whether this unit, a trail, leaves ring `n`'s descriptors to the lead's COMPLETION. -/
def State.follows (s : State) (n : Nat) : Bool :=
  s.isTrail && s.get (RNG.RING_CFG.OWNER n) == 0 && followedEngine (s.get (RNG.RING_CFG.ENGINE n))

/-- R93. The copy engine runs one descriptor at a time per ring and four rings at once. -/
def State.copyRoom (s : State) (n : Nat) : Bool :=
  let busy := (s.rng.started.filter fun d => s.get (RNG.RING_CFG.ENGINE d.ring) == 0).map (·.ring)
  !busy.contains n && decide (busy.length < 4)

/-- R82. Statuses that stop the ring. -/
def stopsRing (status : Nat) : Bool := status ∈ [0x10, 0x11, 0x20, 0x21, 0x22, 0x41]

/-- R88. A finished descriptor whose status will stop the ring. -/
def State.ringHalted (s : State) (n : Nat) : Bool :=
  !s.bit (RNG.RING_CFG.CONTINUE_ON_FAULT n) &&
    s.rng.finished.any fun f => f.st.ring == n && stopsRing f.res.status

/-- R84, R88. Whether ring `n` has a descriptor that its state lets start. -/
def State.ringReady (s : State) (n : Nat) : Bool :=
  s.get (RNG.RING_STATUS.STATE n) == 1 && s.get (RNG.RING_INDEX.CONS n) != s.get (RNG.RING_INDEX.PROD n)
  && s.domOn (engineDomain (s.get (RNG.RING_CFG.ENGINE n))) && !s.ringHalted n

/-- The next descriptor of ring `n`, as its memory holds it now. -/
def State.nextDesc (s : State) (n : Nat) : Desc :=
  descOf (s.bytes (s.descBase n + 32 * (s.get (RNG.RING_INDEX.CONS n) % s.ringSize n)) 32)

/-- Its absolute deadline. -/
def State.nextDeadline (s : State) (n : Nat) : Nat :=
  let w6 := (s.nextDesc n).w6
  s.publishTick n (s.get (RNG.RING_INDEX.CONS n)) + (if w6 = 0 then s.get (RNG.RING_DEADLINE.DEFAULT n) else w6)

/-- R84. Descriptors of ring `n` that have not completed. -/
def State.outstanding (s : State) (n : Nat) : Bool :=
  s.rng.started.any (·.ring == n) || s.rng.finished.any (fun f => f.st.ring == n)

/-- R93, R328. Whether the engine of ring `n` has room for `d`: the copy engine by its limits, the HART engine where the
descriptor's channel runs no other. -/
def State.engineRoom (s : State) (n : Nat) (d : Desc) : Bool :=
  match s.get (RNG.RING_CFG.ENGINE n) with
  | 0 => s.copyRoom n
  | 4 => !s.rng.started.any fun x => s.get (RNG.RING_CFG.ENGINE x.ring) == 4 && x.d.eflags == d.eflags
  | _ => true

/-- R84 to R86. Whether the next descriptor of ring `n` may start now. -/
def State.startable (s : State) (n : Nat) : Bool :=
  s.ringReady n && !((s.nextDesc n).fence && s.outstanding n) && (s.follows n || s.engineRoom n (s.nextDesc n))
  && s.tagFree n (s.nextDeadline n)

/-- R86. Whether another ring of the same engine has a descriptor ready that goes first. -/
def State.outrun (s : State) (n : Nat) : Bool :=
  (List.range 64).any fun m => m != n && s.startable m
    && s.get (RNG.RING_CFG.ENGINE m) == s.get (RNG.RING_CFG.ENGINE n)
    && (decide (s.nextDeadline m < s.nextDeadline n) || (s.nextDeadline m == s.nextDeadline n && decide (m < n)))

/-- CONS advances past descriptor `idx`. -/
def State.consume (s : State) (n idx : Nat) : State :=
  let rt := s.ring n
  (s.set (RNG.RING_INDEX.CONS n) (idx + 1)).setRing n
    { rt with bells := rt.bells.filter (fun b => b.prod != (idx + 1) % 65536) }

/-- R78, R79, R84. A fetched descriptor: left for a FENCE, aborted by CHAIN, expired, left for the engine's limit, refused as a
bad descriptor, refused as a bad opcode, or started, in this order where several hold; one whose deadline is this very tick
still starts (notes/assumptions/134.md). -/
def State.startDesc (s : State) (n : Nat) (st : Started) : State :=
  let d := st.d
  let eng := s.get (RNG.RING_CFG.ENGINE n)
  if d.fence && s.outstanding n then s
  else if (s.ring n).chainAbort then
    let s := (s.consume n st.idx)
    (s.setRing n { s.ring n with chainAbort := false }).finish st 0x33
  else if d.expire && decide (st.deadline < s.now) then (s.consume n st.idx).finish st 0x31
  else if !s.follows n && !s.engineRoom n d then s
  else
    let s := s.consume n st.idx
    let s := { s with rng := { s.rng with started := s.rng.started ++ [st] } }
    if (d.crit && d.w7 != d.checkWord) || (!d.crit && s.bit (RNG.RING_CFG.CRIT_ONLY n)) || bitsOf d.w3 8 24 != 0
    then s.finish st 0x10
    else if s.follows n then s
    else if !(engineOps eng).contains d.opcode then s.finish st 0x11
    else s

/-- R88. The fetch of ring `n`'s next descriptor, as initiator 8 and as the owner. -/
def State.fetch (s : State) (n : Nat) : State :=
  let idx := s.get (RNG.RING_INDEX.CONS n)
  let pub := s.publishTick n idx
  let cls := (s.publisher n idx).bind (·.cls)
  let a := s.descBase n + 32 * (idx % s.ringSize n)
  match s.read { init := 8, owner := some (s.get (RNG.RING_CFG.OWNER n)),
                 due := some (pub + s.get (RNG.RING_DEADLINE.DEFAULT n)), ring := some n } a 32 with
  | (s, .ok bs) =>
    let d := descOf bs
    s.startDesc n { ring := n, idx := idx, d := d,
                    deadline := pub + (if d.w6 = 0 then s.get (RNG.RING_DEADLINE.DEFAULT n) else d.w6)
                    cls := cls, bell := pub }
  | (s, .error e) =>
    -- R88: TAG 0xFFFF; CONS stays at the slot (notes/assumptions/21.md)
    let bad : Started := { ring := n, idx := idx, d := { w0 := 0xFFFF0000 },
                           deadline := pub + s.get (RNG.RING_DEADLINE.DEFAULT n) }
    (s.finish bad e.status 0 e.detail).ringFault n 2 e.status idx

/-- R84 to R86, R88. The next descriptor of ring `n` is fetched and started, where its turn has come and a tag is
free; without a tag the ring's transaction waits for one. -/
def State.fetchTurn (s : State) (n : Nat) : State :=
  if !s.ringReady n || s.outrun n || s.rng.tagWaits.any (fun w => w.ring == n && w.use == .fetch) then s
  else if !s.tagFree n (s.nextDeadline n) then
    { s with rng := { s.rng with tagWaits := s.rng.tagWaits ++ [⟨n, s.nextDeadline n, .fetch⟩] } }
  else s.fetch n

def execDescriptorFetch (n : Fin 64) (s : State) : Answer := (s.fetchTurn n).done

/-- R85. The waiter with the nearest deadline among those that find a tag. -/
def State.nextWaiter (s : State) : Option TagWait :=
  (s.rng.tagWaits.filter fun w => s.tagFree w.ring w.deadline).foldl (fun b w => match b with
    | none => some w
    | some x => if w.deadline < x.deadline then some w else some x) none

/-! ## Completion records (R80 to R82, R88) -/

/-- R80. The 16 bytes of a completion record. -/
def compBytes (n size comps : Nat) (f : Finished) : List Nat :=
  leBytes 2 f.st.d.tag ++ [f.res.status,
    b2n (comps / size % 2 == 0) + 2 * n + 128 * b2n (decide (f.st.deadline < f.res.time))]
  ++ leBytes 4 f.res.bytes ++ leBytes 4 f.res.time ++ leBytes 2 (f.st.idx % size) ++ leBytes 2 f.res.detail

/-- R583. The output buffer of a followed opcode. -/
def outBuffer (engine : Nat) (d : Desc) : Option Nat :=
  match engine, d.opcode with
  | 1, 1 => some d.secondary
  | 1, 2 => some d.secondary
  | 1, 3 => some d.secondary
  | 4, _ => some d.secondary
  | 5, 2 => some d.primary
  | 6, 2 => some d.primary
  | 7, 1 => some d.secondary
  | 10, 2 => some d.primary
  | 11, 1 => if d.eflags.testBit 2 then some d.secondary else none
  | 11, 2 => some d.primary
  | _, _ => none

/-- R352, R583. A lead tells its trail of a completion that the trail follows. -/
def State.tellCompletion (s : State) (f : Finished) (rec : List Nat) : State :=
  let e := s.get (RNG.RING_CFG.ENGINE f.st.ring)
  if !s.streams || s.get (RNG.RING_CFG.OWNER f.st.ring) != 0 || !followedEngine e then s
  else
    let data := match outBuffer e f.st.d with
      | some a => s.bytes a f.res.bytes
      | none => []
    s.ransel 0x15 ([f.st.ring, 0, 0, 0] ++ leBytes 4 data.length ++ rec ++ data)

/-- R81, R88. The completion record of the first descriptor of ring `n` that has finished. One that cannot be written faults the
ring, whatever its state. -/
def State.completeNow (s : State) (n : Nat) : State :=
  match s.rng.finished.find? (fun f => f.st.ring == n) with
  | none => s
  | some f =>
    let s := { s with rng := { s.rng with finished := s.rng.finished.erase f } }
    let rt := s.ring n
    let size := s.ringSize n
    let rec16 := compBytes n size rt.comps f
    let own := s.get (RNG.RING_CFG.OWNER n)
    match s.write { init := 8, owner := some own, due := some f.st.deadline, ring := some n }
        (s.compBase n + 16 * (rt.comps % size)) rec16 with
    | (s, .error _) => s.ringFault n 3 f.res.status f.st.idx
    | (s, .ok _) =>
      let s := s.setRing n { s.ring n with comps := rt.comps + 1 }
      let src := s.get (RNG.RING_CFG.NOTIFY_SRC n)
      let s := if f.st.d.notify && decide (src ≤ 11) then s.post (236 + src) (n + 65536 * (f.st.idx % size)) else s
      let s := if stopsRing f.res.status && !s.bit (RNG.RING_CFG.CONTINUE_ON_FAULT n)
          && s.get (RNG.RING_STATUS.STATE n) == 1
        then s.ringFault n 1 f.res.status f.st.idx else s
      (s.tellCompletion f rec16).ringSettle n

/-- R85. The record goes with a tag of the ring, and waits for one where there is none. -/
def State.complete (s : State) (n : Nat) : State :=
  match s.rng.finished.find? (fun f => f.st.ring == n) with
  | none => s
  | some f =>
    if s.tagFree n f.st.deadline then s.completeNow n
    else if s.rng.tagWaits.any (fun w => w.ring == n && w.use == .record) then s
    else { s with rng := { s.rng with tagWaits := s.rng.tagWaits ++ [⟨n, f.st.deadline, .record⟩] } }

def execDescriptorComplete (n : Fin 64) (s : State) : Answer := (s.complete n).done

/-- R85. A tag is given to a waiter: its transaction goes on. -/
def State.goOn (s : State) (w : TagWait) : State :=
  match w.use with
  | .fetch => if s.ringReady w.ring then s.fetch w.ring else s
  | .record => s.completeNow w.ring
  | .data t x => (s.takeTag w.ring).arrive t { x with arrival := s.now }

def State.tagGranted (s : State) : State :=
  match s.nextWaiter with
  | none => s
  | some w => State.goOn { s with rng := { s.rng with tagWaits := s.rng.tagWaits.erase w } } w

def execTagGranted (s : State) : Answer := s.tagGranted.done

/-! ## Descriptors as the engines take them up -/

/-- The oldest started descriptor of ring `n` that its engine, one of `engines`, has yet to take up, with this
opcode. A trail's engine does not take up what it follows (R352). -/
def State.offered (s : State) (n : Nat) (engines : List Nat) (op : Nat) : Option Started :=
  if s.follows n || !engines.contains (s.get (RNG.RING_CFG.ENGINE n)) then none
  else match s.rng.started.find? (fun d => d.ring == n && !d.accepted) with
    | some d => if d.d.opcode = op then some d else none
    | none => none

/-- The engine keeps the descriptor at work. -/
def State.accept (s : State) (d : Started) : State :=
  let mark (x : Started) : Started := if x.ring == d.ring && x.idx == d.idx then { x with accepted := true } else x
  { s with rng := { s.rng with started := s.rng.started.map mark } }

/-- A row that takes up a descriptor: nothing happens where none is offered. -/
def State.onOffer (s : State) (n : Nat) (engines : List Nat) (op : Nat) (f : State → Started → State) : State :=
  match s.offered n engines op with
  | some d => f s d
  | none => s

/-! ## The copy engine (R90 to R93) -/

def execNop (n : Fin 64) (s : State) : Answer :=
  (s.onOffer n [0] 0 fun s d =>
    let z := d.d.w1 == 0 && d.d.w2 == 0 && d.d.w3 == 0 && d.d.w4 == 0 && d.d.w5 == 0 && d.d.eflags == 0
    s.finish d (if z then 0 else 0x10)).done

/-- R92, R397. The bytes of a list up to its first invalid pair-word. -/
def validPairs : Nat → List Nat → List Nat
  | 0, _ => []
  | k + 1, bs => if pairOk (bs.take 8) then bs.take 8 ++ validPairs k (bs.drop 8) else []

/-- R87. How far one COPY transaction reaches. -/
def copySpan (a b n : Nat) : Nat := min (span a n) (4096 - b % 4096)

/-- R90, R92. COPY, transaction by transaction: bytes written and the status that ended it. -/
def State.copyLoop (s : State) (v : Via) (pair : Bool) : Nat → Nat → Nat → Nat → State × Nat × Nat × Nat
  | 0, _, _, _ => (s, 0, 0, 0)
  | fuel + 1, a, b, n =>
    if n = 0 then (s, 0, 0, 0) else
    let k := copySpan a b n
    match s.read v a k with
    | (s, .error e) => (s, 0, e.status, e.detail)
    | (s, .ok bs) =>
      let good := if pair then validPairs (k / 8) bs else bs
      if good.length < k then
        if good.length = 0 then (s, 0, 0x21, 0)
        else match s.write v b good with
          | (s, .error e) => (s, 0, e.status, e.detail)
          | (s, .ok _) => (s, good.length, 0x21, 0)
      else match s.write v b bs with
        | (s, .error e) => (s, 0, e.status, e.detail)
        | (s, .ok _) =>
          let (s, m, st, dt) := s.copyLoop v pair fuel (a + k) (b + k) (n - k)
          (s, k + m, st, dt)

/-- Whether a range touches the pair region. -/
def touchesPair (a n : Nat) : Bool := overlaps a n 0x2000000 0x400000

/-- R91, R92. The rules of COPY. -/
def copyBad (d : Desc) : Bool :=
  let a := d.primary; let b := d.secondary; let n := d.w1
  d.eflags != 0 || bitsOf d.w5 8 24 != 0 || overlaps a n b n
  || ((touchesPair a n || touchesPair b n) && !(a % 8 == 0 && b % 8 == 0 && n % 8 == 0))

def State.copy (s : State) (d : Started) : State :=
  if copyBad d.d then s.finish d 0x10
  else
    let pair := touchesPair d.d.primary d.d.w1 || touchesPair d.d.secondary d.d.w1
    let (s, m, st, dt) := s.copyLoop (s.via 8 d) pair (d.d.w1 + 1) d.d.primary d.d.secondary d.d.w1
    s.finish d st m dt

def execCopy (n : Fin 64) (s : State) : Answer := (s.onOffer n [0] 1 State.copy).done

/-- FILL, transaction by transaction. -/
def State.fillLoop (s : State) (v : Via) (pat : Nat) : Nat → Nat → Nat → State × Nat × Nat × Nat
  | 0, _, _ => (s, 0, 0, 0)
  | fuel + 1, a, n =>
    if n = 0 then (s, 0, 0, 0) else
    let k := span a n
    match s.write v a ((List.replicate (k / 4) (leBytes 4 pat)).flatten) with
    | (s, .error e) => (s, 0, e.status, e.detail)
    | (s, .ok _) =>
      let (s, m, st, dt) := s.fillLoop v pat fuel (a + k) (n - k)
      (s, k + m, st, dt)

/-- R91, R92. FILL. -/
def State.fill (s : State) (d : Started) : State :=
  let a := d.d.primary
  if d.d.eflags != 0 || d.d.w5 != 0 || a % 4 != 0 || d.d.w1 % 4 != 0 || touchesPair a d.d.w1 then s.finish d 0x10
  else
    let (s, m, st, dt) := s.fillLoop (s.via 8 d) d.d.w4 (d.d.w1 + 1) a d.d.w1
    s.finish d st m dt

def execFill (n : Fin 64) (s : State) : Answer := (s.onOffer n [0] 2 State.fill).done

/-! ## Event commands (R95, R96, R98) -/

/-- R96. EVT.RAISE: an assertion with data word 0. -/
def State.evtRaise (s : State) (src : Nat) : State :=
  { s with rng := { s.rng with evq := s.rng.evq ++ [⟨src, 0, false⟩] } }

def execEvtRaise (src : Fin 256) (s : State) : Answer := (s.evtRaise src).done

/-- R95. Bits written 1 clear; with the last of target 0 its interrupt request goes, and mip with it (R120). -/
def State.pendClear (s : State) (t w mask : Nat) : State :=
  let v := s.get (EVT.PEND.BITS t w)
  let s := s.set (EVT.PEND.BITS t w) (v - Nat.land v mask)
  if t = 0 ∧ !s.irq0 then
    (List.range 3).foldl (fun s c => if (s.core c).mip then s.setCore c { s.core c with mip := false } else s) s
  else s

def execEvtPendClear (t : Fin 5) (w : Fin 8) (mask : Nat) (s : State) : Answer := (s.pendClear t w mask).done

/-- R98. ENABLE of event ring `n` written 1 while it is 0. The count of the head, a LOST_COUNT not yet reported and an overflow
episode end with the old use of the ring; OVERFLOW stays until firmware clears it (notes/assumptions/133.md). -/
def State.eringEnable (s : State) (n : Nat) : State :=
  let k := s.get (EVT.ERING_BASE_HI.ENTRIES_LOG2 n)
  let base := s.get (EVT.ERING_BASE_LO.ADDR n) * 16 + s.get (EVT.ERING_BASE_HI.ADDR n) * 2 ^ 32
  let head := s.get (EVT.ERING_HEAD_LO.ADDR n) * 4 + s.get (EVT.ERING_HEAD_HI.ADDR n) * 2 ^ 32
  if s.bit (EVT.ERING_BASE_HI.ENABLE n) then s
  else if k < 4 ∨ 14 < k ∨ !inSramDram base (16 * 2 ^ k) ∨ !inSramDram head 4 then s
  else (((s.set (EVT.ERING_BASE_HI.ENABLE n) 1).set (EVT.ERING_STATUS.WRITE_INDEX n) 0).set
    (EVT.ERING_LOST.LOST_TOTAL n) 0).setERing n {}

def execEringEnable (n : Fin 4) (s : State) : Answer := (s.eringEnable n).done

end Sys2Proof.Machine
end

