-- ==== Sys2Proof/Machine/Acq.lean ====
section
/-! DEFINITION. Change capture: samples, records, gaps, segments, the archive (spec/15). The signals that stay high for
one tick, and the CAN lines, are what the commands' operand `pulses` says (bit p for probe p); `took` says how many 256-byte
transactions the DRAM port has taken since the last sample (notes/assumptions/61.md).

Marks (notes/assumptions): DEDUCED 62; DESIGN CHOICE 61. -/

namespace Sys2Proof.Machine

def State.setAcq (s : State) (a : Acq) : State := { s with acq := a }
def State.setJob (s : State) (j : AcqJob) : State := { s with acq := { s.acq with job := some j } }

/-! ## Samples (R460, R461) -/

/-- R461. The bit that tap `t` follows; none while its pair-word is invalid. -/
def State.tapBit (s : State) (t : Nat) : Option Bool :=
  let i := s.get (ACQ.TAP.INDEX t)
  let (ok, v) := s.pairAt (if s.bit (ACQ.TAP.IMAGE t) then outAddr i else inAddr i)
  if ok then some (v.testBit (s.get (ACQ.TAP.BIT t))) else none

/-- R460. The value of probe `p`. -/
def State.probeBit (s : State) (p : Nat) (pulses : Nat) : Bool :=
  let k := s.get (ACQ.PROBE_SRC.SOURCE p)
  if k < 32 then s.bit (FIO.CH_STATUS.RAW k)
  else if k < 64 then s.bit (FIO.CH_STATUS.STATE (k - 32))
  else if k < 96 then s.get (FIO.CH_STATUS.READBACK (k - 64)) == 2
  else if k < 112 then pulses.testBit p
  else if k < 128 then s.bit (SPR.UNIT_STATUS.ARMED (k - 112))
  else if k < 256 then (s.get (FIO.CNT_VALUE.VALUE ((k - 128) / 32))).testBit ((k - 128) % 32)
  else if k < 384 then (s.tapBit (k - 256)).getD (s.acq.prev.testBit p)
  else if k < 392 then s.get (CYC.CLASS_STATUS.PHASE (k - 384)) == 2
  else if k < 401 then pulses.testBit p
  else if k < 405 then decide (2 ≤ s.get (FIO.GROUP_STATUS.STATE (k - 401)))
  else if k < 433 then pulses.testBit p
  else if k = 433 then s.bit SYS.CARRIER_STATUS.TOKEN_SELF_LIVE
  else if k = 434 then s.bit SYS.CARRIER_STATUS.TOKEN_PARTNER_LIVE
  else if k = 435 then s.bit SYS.CARRIER_STATUS.DRIVERS_ENABLED
  else if k = 436 then pulses.testBit p
  else false

/-- The sample of all 64 probes. -/
def State.sample (s : State) (pulses : Nat) : Nat := packBits 64 fun p => s.probeBit p pulses

/-! ## The trigger (R468) -/

def State.trigValue (s : State) : Nat := s.get2 ACQ.TRIG_VALUE_LO.VALUE ACQ.TRIG_VALUE_HI.VALUE
def State.trigCare (s : State) : Nat := s.get2 ACQ.TRIG_CARE_LO.CARE ACQ.TRIG_CARE_HI.CARE

/-- Whether a sample matches. -/
def State.matches (s : State) (x : Nat) : Bool := Nat.land (Nat.xor x s.trigValue) s.trigCare == 0

/-- R468. Whether the trigger fires at sample `x`, the one before being `y`. -/
def State.fires (s : State) (y x : Nat) : Bool :=
  match s.get ACQ.TRIG_CFG.EDGE_MODE with
  | 0 => s.matches x && !s.matches y
  | 1 => !s.matches x && s.matches y
  | _ =>
    let p := s.get ACQ.TRIG_CFG.QUAL_PROBE
    s.matches x && (if s.bit ACQ.TRIG_CFG.QUAL_EDGE then y.testBit p && !x.testBit p else !y.testBit p && x.testBit p)

/-! ## The queue (R464) -/

def State.acqLevel (s : State) (j : AcqJob) : State :=
  let n := j.queue.length
  let s := (s.setJob j).set ACQ.QUEUE.LEVEL n
  if s.get ACQ.QUEUE.PEAK < n then s.set ACQ.QUEUE.PEAK n else s

/-- The registers that show the running CAPTURE. -/
def State.acqShow (s : State) (j : AcqJob) : State :=
  let st := if j.ended.isSome then 3 else if j.trig.isSome then 2 else 1
  ((s.set ACQ.STATUS.STATE st).set ACQ.STATUS.SEGMENT j.seg).setB ACQ.STATUS.GAP_ACTIVE j.gap.isSome

/-- R462. A change record. -/
def acqBytes (r : Nat × Nat × Nat) : List Nat := leBytes 8 r.2.1 ++ leBytes 8 r.2.2

/-- R475. How the engine's own accesses are made. -/
def State.acqVia (s : State) (j : AcqJob) : Via := { init := 13, owner := some (s.get (RNG.RING_CFG.OWNER j.ring)) }

/-- Where record number `k` of the running segment lies (R467, R470). -/
def AcqJob.place (j : AcqJob) (k : Nat) : Nat := j.base + 16 * (j.seg * j.recs + k % j.recs)

/-- R464. `n` of the queued transactions are written; `all` writes the records present as well. -/
def State.acqDrain (s : State) (j : AcqJob) (all : Bool) : Nat → State × AcqJob × Option Err
  | 0 => (s, j, none)
  | n + 1 =>
    if j.queue = [] ∨ (j.queue.length < 16 ∧ !all) then (s, j, none)
    else
      let blk := j.queue.take 16
      match s.write (s.acqVia j) (j.place (blk.headD (0, 0, 0)).1) (blk.flatMap acqBytes) with
      | (s, .error e) => (s, j, some e)
      | (s, .ok _) => s.acqDrain { j with queue := j.queue.drop 16 } all n

/-! ## Summaries (R470) -/

/-- Records kept, and the number of the oldest. -/
def AcqJob.kept (j : AcqJob) : Nat := min j.stored j.recs
def AcqJob.oldest (j : AcqJob) : Nat := j.stored - j.recs

/-- R470. The summary of the segment that has ended; the dead time after it follows later. -/
def State.summary (s : State) (j : AcqJob) (aborted : Bool) : List Nat :=
  let flags := b2n j.trig.isSome + 2 * b2n (j.trig.isSome && j.forced) + 4 * b2n j.timed + 8 * b2n aborted
    + 16 * b2n (decide (j.recs < j.stored)) + 32 * b2n j.gapHere
  let t := j.trig.getD (0, 0)
  let tIdx := if j.trig.isSome then t.1 % j.recs else 0xFFFFFFFF
  leBytes 2 j.seg ++ [flags, 0] ++ leBytes 4 (j.oldest % j.recs) ++ leBytes 4 tIdx ++ leBytes 4 j.kept
    ++ leBytes 8 t.2 ++ s.bytes (j.place j.oldest) 8 ++ leBytes 8 (j.ended.getD s.now) ++ leBytes 4 0 ++ leBytes 4 0
    ++ leBytes 2 (min j.segGaps 0xFFFF) ++ leBytes 2 j.segFirst ++ leBytes 4 j.segLost
    ++ leBytes 4 (if j.trig.isSome then t.1 - j.oldest else j.kept) ++ leBytes 4 0

/-- R473. The header of an archive, up to END_TICK. -/
def State.acqHead (s : State) (len segs gapMax : Nat) : List Nat :=
  [0x55, 0x41, 0x43, 0x51, 1, 0, 0, 0] ++ leBytes 4 len ++ leBytes 4 (64 * segs + 32 * gapMax) ++ leBytes 2 segs
    ++ leBytes 2 gapMax ++ leBytes 4 (s.get ACQ.TRIG_CFG.EDGE_MODE + 4 * s.get ACQ.TRIG_CFG.QUAL_PROBE
      + 256 * s.get ACQ.TRIG_CFG.QUAL_EDGE)
    ++ leBytes 8 s.trigValue ++ leBytes 8 s.trigCare ++ leBytes 4 (s.get ACQ.POST_RECORDS.COUNT)
    ++ leBytes 4 (s.get ACQ.POST_TIMEOUT.TICKS)

def State.acqTail (s : State) : List Nat :=
  (List.range 64).flatMap (fun p => leBytes 2 (s.get (ACQ.PROBE_SRC.SOURCE p)))
    ++ (List.range 128).flatMap (fun t => leBytes 4 (s.get (ACQ.TAP.INDEX t) + 65536 * s.get (ACQ.TAP.BIT t)
      + 2 ^ 21 * s.get (ACQ.TAP.IMAGE t)))
    ++ List.replicate 316 0

/-- The header of the CAPTURE that ends with a status, its CRC last. `j.head` is what its start fixed. -/
def State.archiveHeader (s : State) (j : AcqJob) (status : Nat) : List Nat :=
  let h := j.head.take 0x30 ++ leBytes 8 s.now ++ leBytes 2 status ++ List.replicate 6 0 ++ j.head.drop 0x30
  h ++ leBytes 4 (crc32c h)

/-- R471, R475. The CAPTURE ends. -/
def State.captureEnd (s : State) (j : AcqJob) (status detail : Nat) : State :=
  let last : AcqLast := ⟨s.archiveHeader j status, j.base, j.len, j.summ, 64 * j.segs + 32 * j.gapMax⟩
  let s := s.setAcq { s.acq with job := none, last := some last, endAt := s.now }
  let s := (((s.set ACQ.STATUS.STATE 0).set ACQ.STATUS.SEGMENT 0).set ACQ.STATUS.GAP_ACTIVE 0).set ACQ.QUEUE.LEVEL 0
  s.finishAt (some (j.ring, j.idx)) status j.done detail

/-- R475. A write of the engine is refused: the segment ends with ABORTED, if its summary can be written. -/
def State.captureFault (s : State) (j : AcqJob) (e : Err) : State :=
  let j := { j with ended := some (j.ended.getD s.now), queue := [] }
  match s.write (s.acqVia j) (j.summ + 64 * j.seg) (s.summary j true) with
  | (s, .ok _) => s.captureEnd { j with done := j.done + 1 } e.status e.detail
  | (s, .error _) => s.captureEnd j e.status e.detail

/-- R470. The segment has ended: its records, then its summary are written; after the last the CAPTURE completes. -/
def State.segmentDone (s : State) (j : AcqJob) : State :=
  match s.acqDrain j true 64 with
  | (s, j, some e) => s.captureFault j e
  | (s, j, none) =>
    let sum := s.summary j false
    match s.write (s.acqVia j) (j.summ + 64 * j.seg) sum with
    | (s, .error e) => s.captureEnd j e.status e.detail
    | (s, .ok _) =>
      let j := { j with written := true, done := j.done + 1 }
      let s := (s.acqLevel j).post 201 (j.seg + 65536 * (sum.getD 2 0 % 8))
      if j.segs ≤ j.seg + 1 then s.captureEnd j 0 (min j.gaps 0xFFFF) else s.acqShow j

def State.segmentEnd (s : State) : State :=
  match s.acq.job with
  | none => s
  | some j => if j.ended.isNone || j.written then s else s.segmentDone j

def execSegmentDone (s : State) : Answer := s.segmentEnd.done

/-- R467. POST_TIMEOUT has elapsed since the trigger. -/
def State.postTimeout (s : State) : State :=
  match s.acq.job with
  | none => s
  | some j => match j.trig with
    | none => s
    | some t =>
      if j.timeout = 0 || j.ended.isSome || decide (s.now < t.2 + j.timeout) then s
      else s.segmentDone { j with ended := some s.now, timed := true }

def execPostTimeoutExpiry (s : State) : Answer := s.postTimeout.done

/-! ## Records (R463, R467) -/

/-- R480. The segment's trigger is record number `k`. -/
def State.triggered (s : State) (j : AcqJob) (k : Nat) (forced : Bool) : State × AcqJob :=
  (s.post 200 (j.seg + 65536 * b2n forced),
   { j with trig := some (k, s.now), forced := forced, force := false, late := false })

/-- A record stored in the queue; it triggers where `fire` says so, and may be the last. -/
def State.storeRecord (s : State) (j : AcqJob) (x : Nat) (fire : Bool) : State :=
  let k := j.stored
  let j := { j with stored := k + 1, queue := j.queue ++ [(k, s.now, x)], first := false }
  let hit := j.trig.isNone && (fire || j.force || j.late)
  let (s, j) := if hit then s.triggered j k (!fire && !j.late) else (s, j)
  let full := match j.trig with
    | some t => decide (t.1 + j.post ≤ k)
    | none => false
  let j := if full then { j with ended := some s.now } else j
  (s.acqLevel j).acqShow j

/-- R465, R466. The gap ends with the record of sample `x`: a gap entry is written. -/
def State.gapClose (s : State) (j : AcqJob) (x : Nat) (fire : Bool) : State :=
  match j.gap with
  | none => s
  | some (t0, lost) =>
    let len := min (s.now - t0) 0xFFFFFFFF
    let more := decide (j.gapMax ≤ j.gaps)
    let k := if more then j.gaps - 1 else j.gaps
    let old := j.lastGap
    let es : List Nat := if more
      then [old.getD 0 0, 1, j.stored % j.recs, old.getD 3 0, s.now, satAdd (old.getD 5 0) lost 0xFFFFFFFF, len]
      else [j.seg, 0, j.stored % j.recs, t0, s.now, lost, len]
    let bytes := leBytes 2 (es.getD 0 0) ++ leBytes 2 (es.getD 1 0) ++ leBytes 4 (es.getD 2 0) ++ leBytes 8 (es.getD 3 0)
      ++ leBytes 8 (es.getD 4 0) ++ leBytes 4 (es.getD 5 0) ++ leBytes 4 (es.getD 6 0)
    let j' := { j with
      gap := none, gapHere := true, gaps := if more then j.gaps else j.gaps + 1, lastGap := es
      segGaps := if more then j.segGaps else j.segGaps + 1
      segFirst := if j.segGaps = 0 && !more then k else j.segFirst }
    match s.write (s.acqVia j) (j.summ + 64 * j.segs + 32 * k) bytes with
    | (s, .error e) => s.captureFault j' e
    | (s, .ok _) => ((s.bump ACQ.GAPS.COUNT).post 202 len).storeRecord j' x fire

/-- R465. A change that finds the queue full, or a gap open, is dropped. -/
def State.dropChange (s : State) (j : AcqJob) (fire : Bool) : State :=
  let g := match j.gap with
    | some (t, n) => some (t, satAdd n 1 0xFFFFFFFF)
    | none => some (s.now, 1)
  let j := { j with gap := g, segLost := satAdd j.segLost 1 0xFFFFFFFF, late := j.late || (fire && j.trig.isNone) }
  ((s.bump ACQ.LOST_TOTAL.COUNT).setJob j).acqShow j

/-- R469. A trigger condition met during dead time. -/
def State.missTrigger (s : State) (j : AcqJob) : State :=
  ((s.bump ACQ.MISSED_TRIGGERS.COUNT).post 203 j.seg).setJob { j with missed := satAdd j.missed 1 0xFFFFFFFF }

/-- Whether the queue has RESUME.FREE free entries. -/
def State.acqFree (s : State) (j : AcqJob) : Bool := decide (j.queue.length + s.get ACQ.RESUME.FREE ≤ 512)

/-- R463, R465, R468. One sample of the running CAPTURE. -/
def State.takeSample (s : State) (j : AcqJob) (x : Nat) : State :=
  let y := s.acq.prev
  let fire := s.fires y x
  let s := s.setAcq { s.acq with prev := x, sampled := some s.now }
  if j.ended.isSome then if fire then s.missTrigger j else s
  else if j.gap.isSome && s.acqFree j then s.gapClose j x fire
  else if x = y && !j.first then s
  else if j.gap.isSome || decide (512 ≤ j.queue.length) then s.dropChange j fire
  else s.storeRecord j x fire

/-- The DRAM port takes transactions, and the sampler samples. Two samples never share a tick. -/
def State.acqStep (s : State) (pulses took : Nat) : State :=
  match s.acq.job with
  | none => s
  | some j =>
    if !s.domOn 7 || s.acq.sampled = some s.now then s
    else match s.acqDrain j false took with
      | (s, j, some e) => s.captureFault j e
      | (s, j, none) => (s.acqLevel j).takeSample j (s.sample pulses)

def execAcqChangeRecord (pulses : Nat) (took : Fin 33) (s : State) : Answer := (s.acqStep pulses took).done

def execGapEnd (pulses : Nat) (took : Fin 33) (s : State) : Answer := (s.acqStep pulses took).done

/-- R469. The next segment starts, once the queue has room: the dead time is known, and the summary before takes it. -/
def State.segmentStart (s : State) (pulses took : Nat) : State :=
  match s.acq.job with
  | none => s
  | some j => match j.ended with
    | none => s
    | some t =>
      if !s.domOn 7 || !j.written || s.acq.sampled = some s.now then s
      else match s.acqDrain j false took with
        | (s, j, some e) => s.captureFault j e
        | (s, j, none) =>
          if !s.acqFree j then s.acqLevel j
          else
            let dead := min (s.now - t) 0xFFFFFFFF
            let s := s.set ACQ.LAST_DEAD.TICKS dead
            let s := if s.get ACQ.MAX_DEAD.TICKS < dead then s.set ACQ.MAX_DEAD.TICKS (min dead 0x7FFFFFFF) else s
            match s.write (s.acqVia j) (j.summ + 64 * j.seg + 0x28) (leBytes 4 dead ++ leBytes 4 j.missed) with
            | (s, .error e) => s.captureEnd j e.status e.detail
            | (s, .ok _) =>
              let j' : AcqJob := { j with
                seg := j.seg + 1, stored := 0, queue := [], first := true, trig := none, forced := false, force := false,
                late := false, ended := none, timed := false, written := false, gapHere := false, segGaps := 0, segFirst := 0,
                segLost := 0, missed := 0 }
              (s.setJob j').takeSample j' (s.sample pulses)

def execSegmentStart (pulses : Nat) (took : Fin 33) (s : State) : Answer := (s.segmentStart pulses took).done

/-! ## Descriptors (R471 to R474) -/

/-- R472. The first failing check of a CAPTURE, or 0. Cause 6 cannot arise: SOURCE has 9 bits. -/
def State.captureCause (s : State) (d : Desc) : Nat :=
  let n := s.get ACQ.SEGMENTS.COUNT
  let len := d.w1
  if !within .dram d.primary len || d.primary % 4096 != 0 || len < 65536 || 2 ^ 31 < len then 1
  else if len % n != 0 || len / n % 4096 != 0 then 2
  else if len / n / 16 ≤ s.get ACQ.POST_RECORDS.COUNT then 3
  else if d.secondary % 64 != 0 || !inSramDram d.secondary (64 * n + 32 * s.get ACQ.GAP_MAX.COUNT) then 4
  else if s.get ACQ.TRIG_CFG.EDGE_MODE = 3 then 5
  else 0

/-- R471, R472. CAPTURE. `pulses` belongs to the sample before the first. -/
def State.capture (s : State) (d : Started) (pulses : Nat) : State :=
  let k := s.captureCause d.d
  if d.d.eflags ≠ 0 || bitsOf d.d.w5 8 24 != 0 then s.finish d 0x10
  else if k ≠ 0 then s.finish d 0x10 0 k
  else if s.acq.job.isSome then s
  else
    let n := s.get ACQ.SEGMENTS.COUNT
    let g := s.get ACQ.GAP_MAX.COUNT
    let j : AcqJob := { ring := d.ring, idx := d.idx, base := d.d.primary, len := d.d.w1, summ := d.d.secondary, segs := n,
                        recs := d.d.w1 / n / 16, post := s.get ACQ.POST_RECORDS.COUNT,
                        timeout := s.get ACQ.POST_TIMEOUT.TICKS, gapMax := g,
                        head := s.acqHead d.d.w1 n g ++ s.acqTail }
    let s := s.setAcq { s.acq with job := some j, prev := s.sample pulses, sampled := some s.now }
    (s.accept d).acqShow j

def execCapture (n : Fin 64) (pulses : Nat) (s : State) : Answer :=
  (s.onOffer n [7] 1 fun s d => s.capture d pulses).done

/-- R471. FORCE_TRIGGER. -/
def State.forceTrigger (s : State) (d : Started) : State :=
  if d.d.eflags ≠ 0 ∨ d.d.w1 ≠ 0 ∨ d.d.primary ≠ 0 ∨ d.d.w4 ≠ 0 ∨ d.d.w5 ≠ 0 then s.finish d 0x10
  else match s.acq.job with
    | none => s.finish d 0 0 1
    | some j =>
      if j.trig.isSome ∨ j.ended.isSome then s.finish d 0 0 1
      else (s.setJob { j with force := true }).finish d 0

def execForceTrigger (n : Fin 64) (s : State) : Answer := (s.onOffer n [7] 2 State.forceTrigger).done

def State.setSlot (s : State) (k : Nat) (x : AcqSlot) : State :=
  s.setAcq { s.acq with slots := Sparse.put {} s.acq.slots k x }

/-- R473 to R475. ARCHIVE; `stored` says whether the eMMC took what was written. -/
def State.archive (s : State) (d : Started) (stored : Bool) : State :=
  if d.d.w1 ≠ 0 ∨ d.d.primary ≠ 0 ∨ d.d.w4 ≠ 0 ∨ d.d.w5 ≠ 0 then s.finish d 0x10
  else if s.acq.job.isSome then s
  else match s.acq.last with
    | none => s.finish d 0x60 0 2
    | some l =>
      if 2047 * 2 ^ 20 < l.len then s.finish d 0x60 0 2
      else
        let k := d.d.eflags
        let s := s.setSlot k {}
        match s.readBuf (s.via 13 d) l.summ l.sumLen with
        | (s, _, some e) => s.finish d e.status 0 (if e = .ecc then 3 else e.detail)
        | (s, sm, none) => match s.readBuf (s.via 13 d) l.base l.len with
          | (s, _, some e) => s.finish d e.status 0 (if e = .ecc then 3 else e.detail)
          | (s, buf, none) =>
            if !stored then s.finish d 0x22 0 4
            else ((s.setSlot k ⟨l.header, sm, buf⟩).post 204 k).finish d 0

def execArchive (n : Fin 64) (stored : Bool) (s : State) : Answer :=
  (s.onOffer n [7] 3 fun s d => s.archive d stored).done

/-- R474. Whether a slot has a header with the right MAGIC, FORMAT and CRC. -/
def AcqSlot.valid (x : AcqSlot) : Bool :=
  x.header.length == 1024 && x.header.take 5 == [0x55, 0x41, 0x43, 0x51, 1]
  && leAt x.header 0x3FC 4 == crc32c (x.header.take 0x3FC)

/-- R474. RESTORE: header, summary area, buffer, in slot order. -/
def State.restore (s : State) (d : Started) : State :=
  let x : AcqSlot := Sparse.get {} s.acq.slots d.d.eflags
  if d.d.w4 ≠ 0 ∨ d.d.w5 ≠ 0 ∨ d.d.primary % 4096 ≠ 0 ∨ !within .dram d.d.primary d.d.w1 then s.finish d 0x10
  else if s.acq.job.isSome then s
  else if !x.valid then s.finish d 0x60 0 4
  else if d.d.w1 < 0x100000 + leAt x.header 8 4 then s.finish d 0x10
  else
    let v := s.via 13 d
    match s.writeBuf v d.d.primary (x.header ++ x.summ) with
    | (s, m, some e) => s.finishErr d e m
    | (s, m, none) => match s.writeBuf v (d.d.primary + 0x100000) x.buf with
      | (s, k, some e) => s.finishErr d e (m + k)
      | (s, k, none) => (s.post 204 (d.d.eflags + 256)).finish d 0 (m + k)

def execRestore (n : Fin 64) (s : State) : Answer := (s.onOffer n [7] 4 State.restore).done

/-! ## Registers, abort, power (R475, R479) -/

def State.acqQueueClear (s : State) : State := s.set ACQ.QUEUE.PEAK (s.get ACQ.QUEUE.LEVEL)
def execAcqQueueClear (s : State) : Answer := s.acqQueueClear.done
def execAcqMaxDeadClear (s : State) : Answer := (s.set ACQ.MAX_DEAD.TICKS 0).done

/-- R475. The running CAPTURE of descriptor `d` is aborted: its segment ends with ABORTED, its summary is written. -/
def State.acqAbort (s : State) (d : Started) : State :=
  match s.acq.job with
  | none => s.finish d 0x33
  | some j =>
    if j.ring ≠ d.ring ∨ j.idx ≠ d.idx then s.finish d 0x33
    else if j.written then s.captureEnd j 0x33 (min j.gaps 0xFFFF)
    else
      match s.acqDrain { j with ended := some (j.ended.getD s.now) } true 64 with
      | (s, j, some e) => s.captureFault j e
      | (s, j, none) => match s.write (s.acqVia j) (j.summ + 64 * j.seg) (s.summary j true) with
        | (s, .error e) => s.captureEnd j e.status e.detail
        | (s, .ok _) => s.captureEnd { j with done := j.done + 1 } 0x33 (min j.gaps 0xFFFF)

/-- R475. D7 leaves ON: the CAPTURE ends without its summary. -/
def State.acqDown (s : State) (status : Nat) : State :=
  match s.acq.job with
  | none => s
  | some j => s.captureEnd j status 0

/-- R474. D7 starts. -/
def State.acqStart (s : State) : State := s.setAcq { slots := s.acq.slots }

end Sys2Proof.Machine
end

