-- ==== Sys2Proof/Machine/Time.lean ====
section
/-! DEFINITION. Plant time, compare and capture units, and the plant ports (spec/13_time.md).

Marks (notes/assumptions): DEDUCED 16, 141; DESIGN CHOICE 125. -/

namespace Sys2Proof.Machine

/-! ## Base cycle and boundary plant time (R134, R417, R418) -/

/-- R134. Ticks of the base cycle. -/
def State.p0 (s : State) : Nat :=
  let n := s.get CYC.BASE.N
  (if n = 0 then 1 else min n 128) * 6250

/-- R134. The cycle number: that of the last boundary. -/
def State.cycle (s : State) : Nat := s.get2 CYC.CYCLE_LO.NUMBER CYC.CYCLE_HI.NUMBER

/-- R421. The TIME message of latest boundary not after `b`. -/
def State.timeBy (s : State) (b : Nat) : Option TimFollow :=
  (s.tim.follow.filter fun f => decide (f.due ≤ b)).foldl (fun x f => match x with
    | none => some f
    | some y => if y.due < f.due then some f else some y) none

/-- R417, R420, R421. Plant time of boundary `b`, not before the last one: by exact arithmetic from the last boundary, or from that of
a TIME message, with the increment and the SET or STEP already scheduled. -/
def State.bptAt (s : State) (b : Nat) : Nat :=
  let (c, bpt, inc) := match s.timeBy b with
    | some f => (f.due, f.bpt, f.inc)
    | none => (s.cycle, s.tim.bpt, s.tim.inc)
  let run (base i j : Nat) : Nat := match s.tim.pend with
    | some (d, v) => base + s.p0 * (inc * (min j (max d i) - i) + v * (j - max d i))
    | none => base + s.p0 * inc * (j - i)
  match s.tim.cmd with
  | some m =>
    if c ≤ m.due ∧ m.due ≤ b then
      let at0 := if m.op = 1 then m.value * 2 ^ 32 else run bpt c m.due + m.value * 2 ^ 32
      run (at0 % 2 ^ 96) m.due b % 2 ^ 96
    else run bpt c b % 2 ^ 96
  | none => run bpt c b % 2 ^ 96

/-- The increment that will be in force from boundary `b`. -/
def State.incAt (s : State) (b : Nat) : Nat :=
  let inc := ((s.timeBy b).map (·.inc)).getD s.tim.inc
  match s.tim.pend with
  | some (d, v) => if d ≤ b then v else inc
  | none => inc

/-- R347, R348. A CONTROL message of a lead, naming the boundary at which the trail applies it. -/
def State.control (s : State) (b op origin priv session : Nat) (arg : List Nat) : State :=
  if !s.streams then s
  else s.ransel 0x18 (leBytes 8 b ++ [op, origin + 8 * min priv 7] ++ leBytes 2 session
    ++ arg ++ List.replicate (16 - arg.length) 0)

/-- R421. The argument of TIME. -/
def State.timeArg (s : State) (b : Nat) : List Nat :=
  let v := s.bptAt b
  leBytes 8 (v / 2 ^ 32) ++ leBytes 4 (v % 2 ^ 32) ++ leBytes 4 (ofSigned 32 ((s.incAt b : Int) - 0x500000000))

/-- R348, R421. The lead tells the trail what takes effect at boundary `b`, with origin, privilege and session of a TIM.CMD that does. -/
def State.tellTime (s : State) (b : Nat) : State :=
  match s.tim.cmd with
  | some m => if m.due = b then s.control b 0x20 m.origin 1 m.session (s.timeArg b) else s.control b 0x20 0 7 0 (s.timeArg b)
  | none => s.control b 0x20 0 7 0 (s.timeArg b)

/-- R421. What was to take effect at boundary `old` has been replaced by what takes effect at `due`. -/
def State.tellAgain (s : State) (old : Option Nat) (due : Nat) : State :=
  match old with
  | some b => if b < due ∧ s.cycle < b then s.tellTime b else s
  | none => s

/-- R417. The committed value, held within 5 ns plus or minus 1,000 ppm. -/
def clampInc (v : Nat) : Nat := if v < 21453361644 then 21453361644 else if 21496311316 < v then 21496311316 else v

/-- R417, R421, R424. A write of TIM.INC_HI commits both halves; a trail ignores it. -/
def State.incCommit (s : State) : State :=
  if s.bit TIM.STATUS.PAIR_FOLLOW then s
  else
    let v := s.get TIM.INC_LO.FRAC + s.get TIM.INC_HI.NS * 2 ^ 32
    let w := clampInc v
    let s := if w = v then s else ((s.set TIM.INC_LO.FRAC (w % 2 ^ 32)).set TIM.INC_HI.NS (w / 2 ^ 32)).post 180 0
    let due := s.cycle + 3
    let old := s.tim.pend.map (·.1)
    let s := ({ s with tim := { s.tim with pend := some (due, w), lastCommit := s.now } }).set TIM.INC_HI.PENDING 1
    let s := if s.bit TIM.STATUS.HOLDOVER then (s.set TIM.STATUS.HOLDOVER 0).post 179 0 else s
    (s.tellAgain old due).tellTime due

def execIncCommit (s : State) : Answer := s.incCommit.done

/-- R419. A read of TIM.PT_LO: one sample, latched for initiators 0 to 7. -/
def State.ptSample (s : State) : List Nat :=
  [bitsOf s.plant 32 32, bitsOf s.plant 64 32, bitsOf s.plant 0 32, bitsOf s.now 0 32, bitsOf s.now 32 32]

def State.showSample (s : State) (l : List Nat) : State :=
  ((((s.set TIM.PT_LO.NS (l.getD 0 0)).set TIM.PT_HI.NS (l.getD 1 0)).set TIM.PT_FRAC.FRAC (l.getD 2 0)).set
    TIM.SNAP_TICK_LO.TICK (l.getD 3 0)).set TIM.SNAP_TICK_HI.TICK (l.getD 4 0)

def State.ptLoRead (s : State) (init : Nat) : State :=
  let l := s.ptSample
  let s := s.showSample l
  if 8 ≤ init then s
  else { s with tim := { s.tim with latches := Sparse.insert s.tim.latches init l } }

def execPtLoRead (init : Fin 22) (s : State) : Answer := (s.ptLoRead init).done

/-! ## TIM.CMD (R420) -/

def State.timStatus (s : State) (status reason : Nat) (pending : Bool) : State :=
  ((s.set TIM.CMD_STATUS.STATUS status).set TIM.CMD_STATUS.REASON reason).setB TIM.CMD_STATUS.PENDING pending

/-- R420. A write of TIM.CMD. -/
def State.timCmd (s : State) (init op priv session : Nat) : State :=
  let reason := if 3 ≤ op then 4 else if priv ≠ 1 then 1 else if !s.isDriving then 2 else if s.inRun then 3 else 0
  if op = 0 then s
  else if reason ≠ 0 then
    (s.timStatus 0x60 reason s.tim.cmd.isSome).recordCommand 19 op 0 0x60 reason (originOf init) priv session
  else
    let s := match s.tim.cmd with
      | some m => s.recordCommand 19 m.op 0 0x32 0 m.origin 1 m.session
      | none => s
    let due := s.cycle + 3
    let m : TimCmd := ⟨due, op, s.get2 TIM.SET_LO.VALUE TIM.SET_HI.VALUE, originOf init, session⟩
    let old := s.tim.cmd.map (·.due)
    let s := { s with tim := { s.tim with cmd := some m } }
    ((s.timStatus 0 0 true).tellAgain old due).tellTime due

def execTimSet (init : Fin 22) (priv : Fin 8) (session : Fin 65536) (s : State) : Answer :=
  (s.timCmd init 1 priv session).done
def execTimStep (init : Fin 22) (priv : Fin 8) (session : Fin 65536) (s : State) : Answer :=
  (s.timCmd init 2 priv session).done
def execTimCmdReserved (init : Fin 22) (priv : Fin 8) (session : Fin 65536) (s : State) : Answer :=
  (s.timCmd init 3 priv session).done

/-- R421. A TIME message that a trail applies at its boundary; it replaces one for the same boundary. -/
def State.timeFollow (s : State) (f : TimFollow) : State :=
  { s with tim := { s.tim with follow := (s.tim.follow.filter fun g => g.due != f.due) ++ [f] } }

/-- R421, R422, R531. A TIME message applied: by a unit that has become lead since too. One that carries a TIM.CMD sets TIM.STATUS.SET and
leaves the trail's copy of its change-log record, as a SET to the value reached (notes/assumptions/141.md). -/
def State.timeNow (s : State) (f : TimFollow) : State :=
  let s := { s with plant := f.bpt, tim := { s.tim with inc := f.inc } }
  if f.priv = 7 then s
  else (s.set TIM.STATUS.SET 1).recordChange 0x8006 f.origin f.priv f.session
    ([1, 0, 0, 0, 0, 0, 0, 0] ++ leBytes 8 (f.bpt / 2 ^ 32)) true

/-- R417, R420, R421. What takes effect at the boundary that has just been counted. -/
def State.timBoundary (s : State) : State :=
  let c := s.cycle
  let s := match s.tim.pend with
    | some (d, v) => if d ≤ c
      then ({ s with tim := { s.tim with inc := v, pend := none } }).set TIM.INC_HI.PENDING 0 else s
    | none => s
  let s := match s.tim.cmd with
    | some m => if c < m.due then s else
      let p := (if m.op = 1 then m.value * 2 ^ 32 else s.plant + m.value * 2 ^ 32) % 2 ^ 96
      let s := ({ s with plant := p, tim := { s.tim with cmd := none } }).set TIM.STATUS.SET 1
      let s := (s.timStatus 0 0 false).post 183 m.op
      (s.recordCommand 19 m.op 0 0 0 m.origin 1 m.session).recordChange 0x8006 m.origin 1 m.session
        ([m.op, 0, 0, 0, 0, 0, 0, 0] ++ leBytes 8 m.value)
    | none => s
  let s := match s.tim.follow.find? (fun f => f.due == c) with
    | some f => if s.isTrail || s.isDriving then s.timeNow f else s
    | none => s
  { s with tim := { s.tim with bpt := s.plant, follow := s.tim.follow.filter (fun f => decide (c < f.due)) } }

/-- R424. No increment committed for HOLDOVER_TIME. -/
def State.holdover (s : State) : State :=
  if s.bit TIM.STATUS.HOLDOVER || decide (s.now < s.tim.lastCommit + s.get TIM.HOLDOVER_TIME.MS * ticksPerMs) then s
  else (s.set TIM.STATUS.HOLDOVER 1).post 179 1

def execHoldover (s : State) : Answer := s.holdover.done

/-! ## Time on the crossings (R426, R429) -/

/-- R426. Whether this unit's clock is master on crossing `c`. -/
def State.timedMaster (s : State) (c : Nat) : Bool :=
  (s.get TIM.CFG.CROSSING_TIME).testBit c && decide (2 ≤ s.get TIM.CFG.ROLE)
  && (s.isDriving || s.bit (FLD.CROSS_STATUS.RELAY c))

/-- R429. portNumber. -/
def State.ptpPort (s : State) (c : Nat) : Nat := c + (if s.unit = 0 then 1 else 9)

/-- R429. A PTP message on a crossing: clockIdentity, portNumber, domain, sequenceId, plant time in ns, then what
the message adds. -/
def State.ptp (s : State) (c kind : Nat) (more : List Nat) : State :=
  ({ s with tim := { s.tim with ptpSeq := (s.tim.ptpSeq + 1) % 65536 } }).send
    (.ptp c kind ([s.car.carrierId, s.ptpPort c, s.get TIM.CFG.DOMAIN, s.tim.ptpSeq, s.plant / 2 ^ 32] ++ more))

/-- R429. The interval 2^SYNC_LOG2 s in ticks. -/
def State.syncInterval (s : State) : Nat :=
  let k := s.get TIM.CFG.SYNC_LOG2
  if k = 0 then ticksPerSec else ticksPerSec / 2 ^ (16 - k)

/-- R423, R429. Sync and Announce directly behind a DOWN frame of class 0 (Announce behind any). The clockClass
that Announce carries is 248, its clockAccuracy 0xFE, while the clock is uncalibrated; what it carries otherwise the
manual leaves to IEEE 1588 (free values). -/
def State.behindDown (s : State) (c k : Nat) : State :=
  if !s.timedMaster c then s else
  let s := if k = 0 && decide (Sparse.get 0 s.tim.syncDue c ≤ s.now)
    then ({ s with tim := { s.tim with syncDue := Sparse.insert s.tim.syncDue c (s.now + s.syncInterval) } }).ptp c 0 []
    else s
  if s.now < Sparse.get 0 s.tim.annDue c then s
  else
    let s := { s with tim := { s.tim with annDue := Sparse.insert s.tim.annDue c (s.now + ticksPerSec) } }
    if s.bit TIM.STATUS.UNCALIBRATED then s.ptp c 0xB [248, 0xFE]
    else
      let (v, s) := s.fresh
      s.ptp c 0xB [v % 256, v / 256 % 256]

/-- R429. A Delay_Req of a station (its message number and port identity) is answered by the master bank; crossing time ends with
the crossing's ENABLE (R202). -/
def State.delayReq (s : State) (c seq who : Nat) : State :=
  if !s.timedMaster c || !s.domOn 4 || !s.bit (FLD.CROSS_CFG.ENABLE c) then s
  else s.send (.ptp c 9 [s.car.carrierId, s.ptpPort c, s.get TIM.CFG.DOMAIN, seq, s.plant / 2 ^ 32, who])

def execDelayReq (c : Fin 4) (seq : Fin 65536) (who : Nat) (s : State) : Answer := (s.delayReq c seq who).done

/-! ## Compare and capture units (R432, R433) -/

/-- R432. (tick[31:0] - TARGET) as a signed 32-bit value. -/
def State.pastTarget (s : State) (u : Nat) : Int := toSigned 32 (s.now + 2 ^ 32 - s.get (TIM.CMP_TARGET.TICK u))

def State.compareArm (s : State) (u : Nat) : State :=
  let s := s.set (TIM.CMP_STATUS.ARMED u) 1
  if 0 < s.pastTarget u then s.set (TIM.CMP_STATUS.LATE u) 1 else s

def execCompareArm (u : Fin 8) (s : State) : Answer := (s.compareArm u).done

def State.compareDisarm (s : State) (u : Nat) : State := s.set (TIM.CMP_STATUS.ARMED u) 0

def execCompareDisarm (u : Fin 8) (s : State) : Answer := (s.compareDisarm u).done

/-- R432. An armed unit fires where its target is reached. -/
def State.timeCompare (s : State) (u : Nat) : State :=
  if !s.bit (TIM.CMP_STATUS.ARMED u) || decide (s.pastTarget u < 0) then s
  else
    let s := (s.set (TIM.CMP_FIRE_TICK.TICK u) (s.now % 2 ^ 32)).post 176
      (u + 256 * s.get (TIM.CMP_STATUS.LATE u))
    let p := s.get (TIM.CMP_PERIOD.TICKS u)
    if p = 0 then s.set (TIM.CMP_STATUS.ARMED u) 0
    else s.set (TIM.CMP_TARGET.TICK u) (s.get (TIM.CMP_TARGET.TICK u) + p)

def execTimeCompare (u : Fin 8) (s : State) : Answer := (s.timeCompare u).done

/-- R433. Whether signal `k` occurs at this tick: a boundary, a whole second of plant time, a DOWN frame since the tick `last` of the
unit's latch, the Sync that a plant port receives. -/
def State.captureSignal (s : State) (k last : Nat) : Bool :=
  match k with
  | 0 => false
  | 1 => s.now == s.cyc.boundary
  | 2 => decide ((s.plant - s.tim.inc) / 2 ^ 32 / 10 ^ 9 < s.plant / 2 ^ 32 / 10 ^ 9)
  | 7 => Sparse.find s.tim.syncAt 0 == some s.now
  | 8 => Sparse.find s.tim.syncAt 1 == some s.now
  | k => decide (k < 7) && ((Sparse.find s.tim.downAt (k - 3)).map fun t => decide (last ≤ t)).getD false

/-- R433. The selected signal of capture unit `u` occurs. -/
def State.timeCapture (s : State) (u : Nat) : State :=
  let k := s.get (TIM.CAP_CFG.SELECT u)
  if !s.captureSignal k (s.get2 (TIM.CAP_TICK_LO.TICK u) (TIM.CAP_TICK_HI.TICK u)) then s
  else
    let s := if s.tim.unread.contains u then s.bump (TIM.CAP_STATUS.OVERWRITES u) else s
    let s := { s with tim := { s.tim with unread := addOnce s.tim.unread u } }
    let s := s.set2 (TIM.CAP_TICK_LO.TICK u) (TIM.CAP_TICK_HI.TICK u) s.now
    let s := s.set2 (TIM.CAP_PT_LO.NS u) (TIM.CAP_PT_HI.NS u) (s.plant / 2 ^ 32)
    let s := s.wrap (TIM.CAP_STATUS.SEQ u)
    s.post 177 (u + 256 * s.get (TIM.CAP_STATUS.SEQ u))

def execTimeCapture (u : Fin 4) (s : State) : Answer := (s.timeCapture u).done

/-- R437, R558. A read of TICK_LO freezes the other words of the latch. -/
def State.capRead (s : State) (u : Nat) : State :=
  let l := [s.get (TIM.CAP_TICK_HI.TICK u), s.get (TIM.CAP_PT_LO.NS u), s.get (TIM.CAP_PT_HI.NS u)]
  { s with tim := { s.tim with frozen := Sparse.insert s.tim.frozen u l, unread := s.tim.unread.filter (· != u) } }

def execCapTickLoRead (u : Fin 4) (s : State) : Answer := (s.capRead u).done

/-! ## Plant ports (R434 to R436) -/

def State.plnLink (s : State) (p : Nat) (up : Bool) : State :=
  if s.bit (PLN.PORT_STATUS.LINK p) = up then s
  else (s.setB (PLN.PORT_STATUS.LINK p) up).post 181 (p + 2 * b2n up)

def execPlnLink (p : Fin 2) (up : Bool) (s : State) : Answer := (s.plnLink p up).done

/-- Offset of the Ethernet payload, past one VLAN tag where the frame has it. -/
def etherBody (f : List Nat) : Nat := if beAt f 12 2 = 0x8100 then 18 else 14

/-- R435. Where the PTP message of a frame starts: EtherType 0x88F7, or UDP over IPv4 to port 319 or 320. -/
def ptpAt (f : List Nat) : Option Nat :=
  let o := etherBody f
  let ty := beAt f (o - 2) 2
  if ty = 0x88F7 then some o
  else
    let ihl := f.getD o 0 % 16 * 4
    if ty = 0x0800 ∧ f.getD (o + 9) 0 = 17 ∧ beAt f (o + ihl + 2) 2 ∈ [319, 320] then some (o + ihl + 8) else none

/-- R435. ENGINE_FLAGS of the plant network engine. -/
def Desc.plnPort (d : Desc) : Nat := d.eflags % 2
def Desc.oneStep (d : Desc) : Bool := d.eflags.testBit 1
def Desc.timestamp (d : Desc) : Bool := d.eflags.testBit 2

/-- Bytes of a frame replaced from `o` on. -/
def patch (f : List Nat) (o : Nat) (bs : List Nat) : List Nat := f.take o ++ bs ++ f.drop (o + bs.length)

/-- A ones' complement sum brought back to 16 bits; `fuel` bounds the carries. -/
def fold16 : Nat → Nat → Nat
  | 0, n => n % 2 ^ 16
  | fuel + 1, n => if n < 2 ^ 16 then n else fold16 fuel (n % 2 ^ 16 + n / 2 ^ 16)

/-- R427. The UDP checksum before the PTP message at `o` of frame `f`, after the message has become that of `g`: corrected word by
word as in RFC 1624; a checksum of 0 is none. -/
def udpFix (f g : List Nat) (o : Nat) : List Nat :=
  let c := beAt f (o - 2) 2
  if beAt f (etherBody f - 2) 2 ≠ 0x0800 ∨ c = 0 then g
  else
    let n := (List.range 32).foldl (fun n i =>
      let a := beAt f (o + 2 * i) 2
      let b := beAt g (o + 2 * i) 2
      if a = b then n else n + (0xFFFF - a) + b) (0xFFFF - c)
    let v := 0xFFFF - fold16 32 n
    patch g (o - 2) (beBytes 2 (if v = 0 then 0xFFFF else v))

/-- R427. A one-step event message at its time-stamp point: a Sync with originTimestamp, a Pdelay_Resp whose correctionField has the
turnaround added since the Pdelay_Req that the port last received (a free value where it has received none). -/
def State.oneStepFrame (s : State) (p o : Nat) (f : List Nat) : List Nat × State :=
  let ns := s.plant / 2 ^ 32
  if f.getD o 0 % 16 = 0 then
    (udpFix f (patch f (o + 34) (beBytes 6 (ns / 10 ^ 9) ++ beBytes 4 (ns % 10 ^ 9))) o, s)
  else
    let (since, s) := match Sparse.find s.tim.pdelayAt p with
      | some t => (ns - t, s)
      | none => s.fresh
    (udpFix f (patch f (o + 8) (beBytes 8 ((beAt f (o + 8) 8 + since * 65536) % 2 ^ 64))) o, s)

/-- R435. TRANSMIT. A one-step event message leaves with its time-stamp inserted by the engine (R427). A trail sends no PTP message but
those of the peer-delay mechanism (R426; notes/assumptions/141.md); a port that does not run sends nothing yet (R438). -/
def State.plnTransmit (s : State) (d : Started) : State :=
  let p := d.d.plnPort
  let trail := s.isTrail
  if d.d.w1 < 60 || decide (9212 < d.d.w1) || (!d.d.timestamp && (d.d.w4 != 0 || d.d.w5 != 0))
     || bitsOf d.d.w5 8 24 != 0 then s.finish d 0x10
  else if !s.bit (PLN.PORT_CFG.ENABLE p) then s
  else match s.readBuf (s.via 21 d) d.d.primary d.d.w1 with
    | (s, _, some e) => s.finishErr d e
    | (s, f, none) =>
      let kind := (ptpAt f).map fun o => f.getD o 0 % 16
      if d.d.oneStep && kind != some 0 && kind != some 3 then s.finish d 0x10
      else if trail && (kind.map fun k => !(k == 2 || k == 3 || k == 10)).getD false then s.finish d 0x60 0 1
      else
        let (g, s) := if d.d.oneStep then s.oneStepFrame p ((ptpAt f).getD 0) f else (f, s)
        let s := s.send (.frame (4 + p) g)
        if !d.d.timestamp then s.finish d 0 d.d.w1
        else match s.writeBuf (s.via 21 d) d.d.secondary (leBytes 8 (s.plant / 2 ^ 32) ++ leBytes 8 s.now) with
          | (s, _, some e) => s.finishErr d e d.d.w1
          | (s, _, none) => s.finish d 0 d.d.w1

def execPlnTransmit (n : Fin 64) (s : State) : Answer := (s.onOffer n [11] 1 State.plnTransmit).done

/-- R435. RECEIVE: the buffer waits for a frame. -/
def State.plnReceive (s : State) (d : Started) : State :=
  if d.d.w1 < 80 || decide (9228 < d.d.w1) || d.d.w4 != 0 || d.d.w5 != 0 || 1 < d.d.eflags then s.finish d 0x10
  else s.accept d

def execPlnReceive (n : Fin 64) (s : State) : Answer := (s.onOffer n [11] 2 State.plnReceive).done

/-- R86, R435. The RECEIVE that the frame fills: PTP frames fill the PTP ring's, others those of other rings. -/
def State.plnTaker (s : State) (p : Nat) (ptp : Bool) : Option Started :=
  (s.rng.started.filter fun d => d.accepted && s.get (RNG.RING_CFG.ENGINE d.ring) == 11 && d.d.opcode == 2
      && d.d.plnPort == p && ((d.ring == s.get (PLN.PORT_CFG.PTP_RING p)) == ptp)).foldl
    (fun b d => match b with
      | none => some d
      | some x => if d.deadline < x.deadline ∨ (d.deadline = x.deadline ∧ d.ring < x.ring) then some d else some x) none

/-- R435. A frame that finds no posted RECEIVE. -/
def State.plnDrop (s : State) (p : Nat) : State :=
  let s := s.bump (PLN.PORT_DROPPED.COUNT p)
  let quiet := match Sparse.find s.tim.plnDropTold p with
    | some t => decide (s.now < t + ticksPerMs)
    | none => false
  if quiet then s
  else ({ s with tim := { s.tim with plnDropTold := Sparse.insert s.tim.plnDropTold p s.now } }).post 182 p

/-- R435, R436. A frame written into the RECEIVE that takes it. -/
def State.plnFill (s : State) (d : Started) (f : List Nat) : State :=
  let cut := decide (d.d.w1 < 16 + f.length)
  let f' := f.take (d.d.w1 - 16)
  let hdr := leBytes 8 (s.plant / 2 ^ 32) ++ leBytes 4 s.now ++ leBytes 2 f.length ++ leBytes 2 (b2n cut)
  match s.writeBuf (s.via 21 d) d.d.primary (hdr ++ f') with
  | (s, m, some e) => s.finishErr d e m
  | (s, m, none) => s.finish d (b2n cut) m

/-- R427, R433. The time-stamp of a received event message of the unit's domain: Sync and Pdelay_Req, while ROLE is not OFF. -/
def State.plnStamp (s : State) (p : Nat) (f : List Nat) : State :=
  match ptpAt f with
  | none => s
  | some o =>
    if s.get TIM.CFG.ROLE = 0 ∨ f.getD (o + 4) 0 ≠ s.get TIM.CFG.DOMAIN then s
    else match f.getD o 0 % 16 with
      | 0 => { s with tim := { s.tim with syncAt := Sparse.insert s.tim.syncAt p s.now } }
      | 2 => { s with tim := { s.tim with pdelayAt := Sparse.insert s.tim.pdelayAt p (s.plant / 2 ^ 32) } }
      | _ => s

/-- R434, R435. A frame arrives at plant port `p` (bytes without FCS). LEASE frames belong to the hardware (R363),
and their rows stand for them. -/
def State.plantFrame (s : State) (p : Nat) (fcsOk : Bool) (f : List Nat) : State :=
  if !s.domOn 4 || !s.bit (PLN.PORT_CFG.ENABLE p) then s
  else if !fcsOk then s.bump (PLN.PORT_FCS_ERRORS.COUNT p)
  else if f.length < 60 || decide (9212 < f.length) || beAt f 12 2 == 0x8808
       || (beAt f 12 2 == s.get FLD.ETHERTYPE.VALUE && f.getD 15 0 == 3) then s
  else if !s.bit (PLN.PORT_CFG.PROMISC p) && f.getD 0 0 % 2 == 0 && beAt f 0 6 != portMac (4 + p) then s
  else
    -- a trail's engine fills nothing that it follows (R352)
    let s := s.plnStamp p f
    match s.plnTaker p (ptpAt f).isSome with
    | some d => s.plnFill d f
    | none => s.plnDrop p

def execPlantFrameReceived (p : Fin 2) (fcsOk : Bool) (frame : List Nat) (s : State) : Answer :=
  (s.plantFrame p fcsOk frame).done

end Sys2Proof.Machine
end

