-- ==== Sys2Proof/Machine/Can.lean ====
section
/-! DEFINITION. The CAN FD channels: message buffers, transmission, the time-triggered schedule, error states (spec/14).
What the standard ISO 11898-1 prescribes and the manual names only by it (the order of identifiers, stuff bits, the steps
of the error counters) is PRESUMED, notes/assumptions/60.md.

Marks (notes/assumptions): PRESUMED 60. -/

namespace Sys2Proof.Machine

def State.canCh (s : State) (c : Nat) : CanCh := Sparse.get {} s.can c
def State.setCanCh (s : State) (c : Nat) (ch : CanCh) : State := { s with can := Sparse.put {} s.can c ch }

/-- Whether channel `c` runs. -/
def State.canOn (s : State) (c : Nat) : Bool := s.domOn 5 && s.bit (CAN.CH_CFG.ENABLE c)

/-- A source asserted at most once per ms per channel. -/
def State.canTell (s : State) (c src data : Nat) : State :=
  let ch := s.canCh c
  let quiet := match Sparse.find ch.told src with
    | some t => decide (s.now < t + ticksPerMs)
    | none => false
  if quiet then s else (s.setCanCh c { ch with told := Sparse.insert ch.told src s.now }).post src data

/-! ## Frames (R445) -/

/-- R444. Bytes of a DLC. -/
def dlcBytes (fd : Bool) (dlc : Nat) : Nat :=
  if dlc ≤ 8 then dlc else if !fd then 8
  else match dlc with
    | 9 => 12 | 10 => 16 | 11 => 20 | 12 => 24 | 13 => 32 | 14 => 48 | _ => 64

def idIde (w : Nat) : Bool := w.testBit 29
def idFdf (w : Nat) : Bool := w.testBit 30
def idBrs (w : Nat) : Bool := w.testBit 31

/-- R448. The arbitration value: the 11 leading bits, IDE, the 18 others. -/
def arbValue (w : Nat) : Nat :=
  if idIde w then (bitsOf w 18 11 * 2 + 1) * 2 ^ 18 + bitsOf w 0 18 else bitsOf w 0 11 * 2 * 2 ^ 18

/-- Ticks of a nominal and of a data bit (R441). -/
def State.nominalBit (s : State) (c : Nat) : Nat :=
  (3 + s.get (CAN.CH_NBT.NTSEG1 c) + s.get (CAN.CH_NBT.NTSEG2 c)) * (s.get (CAN.CH_NBT.NBRP c) + 1)

def State.dataBit (s : State) (c : Nat) : Nat :=
  (3 + s.get (CAN.CH_DBT.DTSEG1 c) + s.get (CAN.CH_DBT.DTSEG2 c)) * (s.get (CAN.CH_DBT.DBRP c) + 1)

/-- R451. The worst-case duration of a frame in ticks, stuff bits included, from SOF to the end of EOF. -/
def State.canDuration (s : State) (c : Nat) (f : CanTx) : Nat :=
  let n := dlcBytes (idFdf f.ident) f.dlc
  if !idFdf f.ident then
    let stuffed := (if idIde f.ident then 54 else 34) + 8 * n
    (stuffed + (stuffed - 1) / 4 + 10) * s.nominalBit c
  else
    let arb := if idIde f.ident then 36 else 17
    let inner := 5 + 8 * n
    let stuffA := (arb - 1) / 4
    let stuffD := (arb + inner - 1) / 4 - stuffA
    let crc := if n ≤ 16 then 4 + 17 + 6 else 4 + 21 + 7
    (arb + stuffA + 10) * s.nominalBit c
      + (inner + stuffD + crc) * (if idBrs f.ident then s.dataBit c else s.nominalBit c)

/-! ## The schedule (R450, R451) -/

def State.schedOn (s : State) (c : Nat) : Bool := s.bit (CAN.CH_TT_CFG.ENABLE c) && s.bit (CAN.CH_TT_STATUS.LOADED c)

/-- Ticks of the basic cycle. -/
def State.basicCycle (s : State) (c : Nat) : Nat := s.p0 * 2 ^ s.get (CAN.CH_TT_CFG.SCHED_EXP c)

def CanSched.entry (m : CanSched) (i w : Nat) : Nat := m.entries.getD (i % m.cycles * m.windows.length + w) 0
def CanSched.kind (m : CanSched) (i w : Nat) : Nat := m.entry i w % 4
def CanSched.buffer (m : CanSched) (i w : Nat) : Nat := bitsOf (m.entry i w) 8 6

/-- The windows that are not FREE of basic cycle `i` that starts at tick `t`: start and end ticks. -/
def CanSched.held (m : CanSched) (i t : Nat) : List (Nat × Nat) :=
  ((List.range m.windows.length).filter fun w => m.kind i w != 0).map fun w =>
    let x := m.windows.getD w (0, 0)
    (t + x.1, t + x.1 + x.2)

/-- Those of this basic cycle and of the ones that follow, until the matrix repeats. -/
def State.heldAhead (s : State) (c : Nat) : List (Nat × Nat) :=
  let ch := s.canCh c
  match ch.sched with
  | none => []
  | some m => (List.range (m.cycles + 1)).flatMap fun j =>
      m.held (s.get (CAN.CH_TT_STATUS.CYCLE c) + j) (ch.start + j * s.basicCycle c)

/-- R451. Whether a frame without TT may start now: outside every window that is not FREE, and done before the next. -/
def State.fitsNow (s : State) (c : Nat) (f : CanTx) : Bool :=
  !s.schedOn c || (s.heldAhead c).all fun x =>
    decide (x.2 ≤ s.now) || (decide (s.now < x.1) && decide (s.now + s.canDuration c f < x.1))

/-! ## Offering frames to arbitration (R448, R449, R455) -/

/-- (tick[31:0] - t) as a signed value. -/
def State.since32 (s : State) (t : Nat) : Int := toSigned 32 (s.now + 2 ^ 32 - t % 2 ^ 32)

/-- R449. Whether the target of an AT_TIME frame is reached, and whether its tolerance has run out. -/
def State.canReached (s : State) (f : CanTx) : Bool := match f.due with
  | some d => decide (0 ≤ s.since32 d.1)
  | none => true

def State.canLate (s : State) (f : CanTx) : Bool := match f.due with
  | some d => decide (0 ≤ s.since32 (d.1 + d.2))
  | none => false

/-- R448. The better of two queued frames. -/
def CanTx.ahead (x y : CanTx) : Bool :=
  decide (arbValue x.ident < arbValue y.ident) || (arbValue x.ident == arbValue y.ident && decide (x.buf < y.buf))

/-- The head of a list of queued frames. -/
def canHead (l : List CanTx) : Option CanTx :=
  l.foldl (fun b f => match b with
    | none => some f
    | some g => if f.ahead g then some f else some g) none

/-- The frame that may start now: that of an open window which has made no attempt, or the head of the queue. -/
def State.canNext (s : State) (c : Nat) : Option CanTx :=
  let ch := s.canCh c
  match ch.window, ch.sched with
  | some (w, 0), some m =>
    ch.queue.find? fun f => f.buf == m.buffer (s.get (CAN.CH_TT_STATUS.CYCLE c)) w
  | _, _ => canHead (ch.queue.filter fun f => !s.bit (CAN.MB_CFG.TT c f.buf) && s.canReached f && s.fitsNow c f)

/-- The channel offers a frame to arbitration, where it may send and other nodes do not hold the bus. -/
def State.canOffer (s : State) (c : Nat) : State :=
  let ch := s.canCh c
  if !s.canOn c || !s.isDriving || s.bit (CAN.CH_STATUS.LISTEN_ONLY c) || s.get (CAN.CH_STATUS.STATE c) == 2
     || ch.inTx.isSome || ch.busy then s
  else match s.canNext c with
    | none => s
    | some f =>
      let mark (g : CanTx) : CanTx := if g.buf == f.buf then { g with tries := g.tries + 1 } else g
      let win := match ch.window with
        | some (w, 0) => some (w, 1)
        | x => x
      (s.setCanCh c { ch with inTx := some f.buf, queue := ch.queue.map mark, window := win }).set
        (CAN.MB_STAT.IN_TX c f.buf) 1

/-- The bus is known to be free, or not, as a command comes. -/
def State.canBus (s : State) (c : Nat) (free : Bool) : State :=
  (s.setCanCh c { s.canCh c with busy := !free }).canOffer c

/-! ## Error confinement (R453, R454) -/

/-- The error counters take values, and the error state follows. -/
def State.canCount (s : State) (c tec rec' : Nat) : State :=
  let old := s.get (CAN.CH_STATUS.STATE c)
  let new := if 255 < tec then 2 else if 127 < tec ∨ 127 < rec' then 1 else 0
  let s := (s.set (CAN.CH_STATUS.TEC c) (min tec 255)).set (CAN.CH_STATUS.REC c) (min rec' 255)
  if new = old then s
  else
    let s := (s.set (CAN.CH_STATUS.STATE c) new).post 184 (c + 2 * new + 8 * old)
    if new = 2 then
      let s := (s.bump (CAN.CH_COUNTS.BUS_OFF c)).set (CAN.CH_STATUS.RECOVERY c) 0
      s.setCanCh c { s.canCh c with offAt := s.now }
    else s

/-- R454. An error of kind `lec` found as transmitter or receiver. -/
def State.canError (s : State) (c lec : Nat) (tx : Bool) : State :=
  let s := s.set (CAN.CH_STATUS.LEC c) lec
  let s := s.bump (if tx then CAN.CH_ERRORS.TX_ERR c else CAN.CH_ERRORS.RX_ERR c)
  s.canTell c 189 (c + 16 * lec)

/-- A receiver's error: REC rises by 1, or by 8 where the standard says so (`eight`). -/
def State.canRxError (s : State) (c lec : Nat) (eight : Bool) : State :=
  if !s.canOn c || s.get (CAN.CH_STATUS.STATE c) == 2 then s
  else
    let s := s.canError c lec false
    ((s.canCount c (s.get (CAN.CH_STATUS.TEC c)) (s.get (CAN.CH_STATUS.REC c) + (if eight then 8 else 1))).canBus c true)

def execCanReceiveError (c : Fin 2) (lec : Fin 7) (eight : Bool) (s : State) : Answer := (s.canRxError c lec eight).done

/-- R453. The first tick at which a channel that went bus-off can have counted 128 occurrences of 11 recessive bits. -/
def State.recoverFrom (s : State) (c : Nat) : Nat := (s.canCh c).offAt + 128 * 11 * s.nominalBit c

/-- R453. 128 occurrences of 11 recessive bits: error-active, both counters 0. -/
def State.canRecover (s : State) (c : Nat) : State :=
  if !s.canOn c || s.get (CAN.CH_STATUS.STATE c) != 2 || decide (s.now < s.recoverFrom c) then s
  else (((s.set (CAN.CH_STATUS.RECOVERY c) 128).canCount c 0 0).canBus c true)

def execBusOffRecovery (c : Fin 2) (s : State) : Answer := (s.canRecover c).done

/-- R456. A driving unit leaves bus monitoring. -/
def State.canIntegrate (s : State) (c : Nat) : State :=
  if !s.canOn c || !s.isDriving || !s.bit (CAN.CH_STATUS.LISTEN_ONLY c) then s
  else ((s.set (CAN.CH_STATUS.LISTEN_ONLY c) 0).canCount c 0 0).canBus c true

def execBusIntegration (c : Fin 2) (s : State) : Answer := (s.canIntegrate c).done

/-! ## Ends of attempts (R447 to R449) -/

def State.canQueued (s : State) (c b : Nat) (q : Bool) : State := s.setB (CAN.MB_STAT.QUEUED c b) q

/-- A frame leaves its buffer with a status; the frame that waits behind it is queued. -/
def State.canFinish (s : State) (c : Nat) (f : CanTx) (status : Nat) (bytes : Nat := 0) (detail : Nat := 0) : State :=
  let ch := s.canCh c
  let next := ch.behind.filter fun g => g.buf == f.buf
  let s := s.setCanCh c { ch with
    queue := (ch.queue.filter fun g => g.buf != f.buf) ++ next
    behind := ch.behind.filter fun g => g.buf != f.buf }
  (s.canQueued c f.buf (!next.isEmpty)).finishAt (some (f.ring, f.idx)) status bytes detail

/-- R449. A frame expires. -/
def State.canExpire (s : State) (c : Nat) (f : CanTx) : State :=
  ((s.bump (CAN.CH_COUNTS.EXPIRED c)).post 188 (c + 256 * f.buf)).canFinish c f 0x31

/-- R451. The frame as it goes out: a REFERENCE window replaces data byte 0 by the basic-cycle index. -/
def State.canBody (s : State) (c : Nat) (f : CanTx) : List Nat :=
  let ch := s.canCh c
  let i := s.get (CAN.CH_TT_STATUS.CYCLE c)
  match ch.window, ch.sched with
  | some (w, _), some m =>
    if m.kind i w = 2 ∧ m.buffer i w = f.buf then f.data.set 0 i else f.data
  | _, _ => f.data

/-- An attempt that failed: `detail` 1 lost arbitration, 2 error. -/
def State.canFailed (s : State) (c : Nat) (f : CanTx) (detail : Nat) : State :=
  if f.kill then s.canFinish c f 0x33
  else if (s.canCh c).behind.any (fun g => g.buf == f.buf) then s.canFinish c f 0x32
  else if f.once then s.canFinish c f 0x30 0 detail
  else if s.canLate f then s.canExpire c f
  else s

/-- R448. The attempt in progress ends: 0 success, 1 lost arbitration, 2 error of kind `lec`; `same` where the standard
leaves TEC as it is for this error. -/
def State.canEnd (s : State) (c result lec : Nat) (same : Bool) : State :=
  let ch := s.canCh c
  match ch.inTx.bind fun b => ch.queue.find? fun f => f.buf == b with
  | none => s
  | some f =>
    let s := (s.setCanCh c { ch with inTx := none, busy := result == 1 }).set (CAN.MB_STAT.IN_TX c f.buf) 0
    let tec := s.get (CAN.CH_STATUS.TEC c)
    let rec' := s.get (CAN.CH_STATUS.REC c)
    match result with
    | 0 =>
      let body := s.canBody c f
      let esi := b2n (s.get (CAN.CH_STATUS.STATE c) == 1)
      let s := (s.send (.can c [f.ident, f.dlc, esi] body)).canCount c (tec - 1) rec'
      let ch := s.canCh c
      let win := match ch.window, ch.sched with
        | some (w, _), some m =>
          if m.buffer (s.get (CAN.CH_TT_STATUS.CYCLE c)) w = f.buf then some (w, 2) else ch.window
        | x, _ => x
      let s := s.setCanCh c { ch with window := win }
      (if f.kill then s.canFinish c f 0x33 else s.canFinish c f 0 body.length f.tries).canOffer c
    | 1 => s.canFailed c f 1
    | _ =>
      let s := (s.canError c lec true).canCount c (if same then tec else tec + 8) rec'
      (s.canFailed c f 2).canOffer c

def execCanAttemptEnd (c : Fin 2) (result : Fin 3) (lec : Fin 7) (same : Bool) (s : State) : Answer :=
  (s.canEnd c result lec same).done

/-- R449. A frame that waits behind the attempt of its buffer expires; the attempt goes on. -/
def State.expireBehind (s : State) (c b : Nat) : State :=
  let ch := s.canCh c
  match ch.behind.find? fun f => f.buf == b && s.canLate f with
  | none => s
  | some f => (((s.bump (CAN.CH_COUNTS.EXPIRED c)).post 188 (c + 256 * b)).setCanCh c
      { ch with behind := ch.behind.filter fun g => g.buf != b }).finishAt (some (f.ring, f.idx)) 0x31

/-- R449. The tolerance of the frame in buffer `b` has run out. -/
def State.txExpired (s : State) (c b : Nat) : State :=
  let ch := s.canCh c
  if ch.inTx = some b then s.expireBehind c b
  else match ch.queue.find? fun f => f.buf == b with
    | none => s
    | some f => if !s.canLate f then s else s.canExpire c f

def execTxExpired (c : Fin 2) (b : Fin 64) (s : State) : Answer := (s.txExpired c b).done

/-- R449. The tick counter reaches a target: the frame may start. `free` says whether the bus is free. -/
def execAtTimeTarget (c : Fin 2) (free : Bool) (s : State) : Answer := (s.canBus c free).done

/-! ## Descriptors (R446, R450) -/

/-- The channel of a CAN ring. -/
def State.canOf (s : State) (n : Nat) : Nat := if s.get (RNG.RING_CFG.ENGINE n) = 6 then 1 else 0

/-- R445, R446. The words of a TRANSMIT. -/
def State.txWordsBad (s : State) (c : Nat) (d : Desc) : Bool :=
  let b := bitsOf d.w5 24 6
  let timed := d.eflags.testBit 0
  d.w5 / 2 ^ 30 != 0 || s.get (CAN.MB_CFG.MODE c b) != 3 || d.w1 < 8 || 72 < d.w1
  || (timed && s.bit (CAN.MB_CFG.TT c b)) || (!timed && (d.w4 != 0 || bitsOf d.w5 0 24 != 0))

/-- R445. The frame record. -/
def State.recordBad (s : State) (c : Nat) (d : Desc) (bs : List Nat) : Bool :=
  let w := leAt bs 0 4
  let k := leAt bs 4 4
  (!idIde w && bitsOf w 11 18 != 0) || 16 ≤ k || (idBrs w && !idFdf w) || (idFdf w && !s.bit (CAN.CH_CFG.FD c))
  || d.w1 != 8 + dlcBytes (idFdf w) (k % 16)

/-- R447. A frame loaded into its buffer and queued. -/
def State.canLoad (s : State) (c : Nat) (f : CanTx) : State :=
  let ch := s.canCh c
  if ch.inTx = some f.buf then
    let s := match ch.behind.find? fun g => g.buf == f.buf with
      | some g => s.finishAt (some (g.ring, g.idx)) 0x32
      | none => s
    s.setCanCh c { s.canCh c with behind := ((s.canCh c).behind.filter fun g => g.buf != f.buf) ++ [f] }
  else
    let s := match ch.queue.find? fun g => g.buf == f.buf with
      | some g => s.finishAt (some (g.ring, g.idx)) 0x32
      | none => s
    (s.setCanCh c { s.canCh c with queue := ((s.canCh c).queue.filter fun g => g.buf != f.buf) ++ [f] }).canQueued
      c f.buf true

/-- R446, R447, R456. TRANSMIT. -/
def State.canTransmit (s : State) (d : Started) (free : Bool) : State :=
  let c := s.canOf d.ring
  if s.txWordsBad c d.d then s.finish d 0x10
  else if s.isTrail then s.finish d 0x60 0 1
  else match s.readBuf (s.via 17 d) d.d.primary d.d.w1 with
    | (s, _, some e) => s.finishErr d e
    | (s, bs, none) =>
      if s.recordBad c d.d bs then s.finish d 0x10
      else
        let due := if d.d.eflags.testBit 0 then some (d.d.w4, bitsOf d.d.w5 0 24) else none
        let f : CanTx := ⟨d.ring, d.idx, bitsOf d.d.w5 24 6, leAt bs 0 4, leAt bs 4 4, bs.drop 8, due,
          d.d.eflags.testBit 1, d.d.eflags.testBit 2, 0, false⟩
        let s := (s.accept d).canLoad c f
        if (s.canCh c).inTx.isSome then s else s.canBus c free

def execCanTransmit (n : Fin 64) (free : Bool) (s : State) : Answer :=
  (s.onOffer n [5, 6] 1 fun s d => s.canTransmit d free).done

/-- R446. RECEIVE. -/
def State.canReceive (s : State) (d : Started) : State :=
  let c := s.canOf d.ring
  if d.d.w1 != 80 || 64 ≤ d.d.w4 || d.d.w5 != 0 || d.d.eflags != 0 || s.get (CAN.MB_CFG.MODE c d.d.w4) != 2
  then s.finish d 0x10
  else s.accept d

def execCanReceive (n : Fin 64) (s : State) : Answer := (s.onOffer n [5, 6] 2 State.canReceive).done

/-- R450. A matrix from its bytes, or the DETAIL of the first failing check. -/
def State.canMatrix (s : State) (c : Nat) (bs : List Nat) : Except Nat CanSched :=
  let n := bs.getD 0 0
  let w := bs.getD 1 0
  let wins := (List.range w).map fun k => (leAt bs (16 + 8 * k) 4, leAt bs (20 + 8 * k) 4)
  let ents := (List.range (n * w)).map fun k => leAt bs (16 + 8 * w + 2 * k) 2
  let ends (p : Nat × Nat) : Bool := p.2 != 0 && decide (p.1 + p.2 ≤ s.basicCycle c)
  let apart (p : (Nat × Nat) × (Nat × Nat)) : Bool := decide (p.1.1 + p.1.2 ≤ p.2.1)
  if n = 0 ∨ 64 < n ∨ w = 0 ∨ 32 < w ∨ leAt bs 2 2 ≠ 0 ∨ leAt bs 8 8 ≠ 0 ∨ bs.length ≠ 16 + 8 * w + 2 * n * w
     ∨ ents.any (fun e => bitsOf e 2 6 != 0 || bitsOf e 14 2 != 0) then .error 1
  else if crc32c (bs.drop 8) ≠ leAt bs 4 4 then .error 2
  else if !wins.all ends || !(wins.zip (wins.drop 1)).all apart then .error 3
  else if ents.any (fun e => e % 4 == 3) then .error 4
  else if ents.any (fun e => e % 4 != 0 && (s.get (CAN.MB_CFG.MODE c (bitsOf e 8 6)) != 3
      || !s.bit (CAN.MB_CFG.TT c (bitsOf e 8 6)))) then .error 5
  else .ok ⟨n, wins, ents⟩

/-- R446, R450. SCHEDULE_LOAD: a matrix that passes waits for its basic cycle. -/
def State.scheduleLoad (s : State) (d : Started) : State :=
  let c := s.canOf d.ring
  let a := d.d.primary
  if d.d.w4 != 0 || d.d.w5 != 0 || d.d.eflags != 0 || d.d.w1 < 16 || a % 4 != 0 || !inSramDram a d.d.w1
  then s.finish d 0x10
  else match s.readBuf (s.via 17 d) a d.d.w1 with
    | (s, _, some e) => s.finishErr d e
    | (s, bs, none) => match s.canMatrix c bs with
      | .error k => s.finish d 0x10 0 k
      | .ok m =>
        let ch := s.canCh c
        let s := match ch.next with
          | some (r, i, _) => s.finishAt (some (r, i)) 0x32
          | none => s
        (s.setCanCh c { s.canCh c with next := some (d.ring, d.idx, m) }).accept d

def execScheduleLoad (n : Fin 64) (s : State) : Answer := (s.onOffer n [5, 6] 3 State.scheduleLoad).done

/-! ## Reception (R442, R443, R446) -/

/-- R442. The buffer that accepts a frame. -/
def State.canAccepts (s : State) (c ident : Nat) : Option Nat :=
  (List.range 64).find? fun b =>
    let m := s.get (CAN.MB_CFG.MODE c b)
    (m == 1 || m == 2) && s.bit (CAN.MB_CFG.IDE c b) == idIde ident
    && Nat.land (Nat.xor (bitsOf ident 0 29) (s.get (CAN.MB_FILTER.ID c b))) (s.get (CAN.MB_MASK.MASK c b)) == 0

/-- R443. A frame stored in buffer `b` as one update. Data bytes past the frame's are free values. -/
def State.canStore (s : State) (c b ident dlc : Nat) (esi : Bool) (data : List Nat) : State :=
  let n := dlcBytes (idFdf ident) dlc
  let (v, s) := s.fresh
  let bytes := (List.range n).map (fun i => data.getD i 0 % 256) ++ leBytes (64 - n) v
  let s := (s.set (CAN.MB_ID.ID c b) ident).set (CAN.MB_CTRL.CTRL c b) (dlc + 16 * b2n esi + 256 * n)
  let s := s.set2 (CAN.MB_TICK_LO.TICK c b) (CAN.MB_TICK_HI.TICK c b) s.now
  let s := (List.range 16).foldl (fun s j => s.set (CAN.MB_DATA.DATA c b j) (leAt bytes (4 * j) 4)) s
  let over' := s.bit (CAN.MB_STAT.NEW c b)
  let s := (s.wrap (CAN.MB_STAT.SEQ c b)).set (CAN.MB_STAT.NEW c b) 1
  let s := if over' then (s.set (CAN.MB_STAT.OVERWRITTEN c b) 1).canTell c 186 (c + 256 * b) else s
  if s.bit (CAN.MB_CFG.NOTIFY c b) then s.post 192 (c + 256 * b) else s

/-- R446. The 80 bytes of a receive record. -/
def State.canRecord (s : State) (ident dlc : Nat) (esi : Bool) (data : List Nat) : List Nat :=
  let n := dlcBytes (idFdf ident) dlc
  leBytes 8 s.now ++ leBytes 4 ident ++ leBytes 4 (dlc + 16 * b2n esi + 256 * n)
    ++ (List.range 64).map fun i => if i < n then data.getD i 0 % 256 else 0

/-- R446. A frame for the RX_RING buffer `b` fills the next RECEIVE that names it. -/
def State.canFill (s : State) (c b ident dlc : Nat) (esi : Bool) (data : List Nat) : State :=
  let mine (d : Started) : Bool := d.accepted && s.get (RNG.RING_CFG.ENGINE d.ring) == 5 + c && d.d.opcode == 2
    && d.d.w4 == b
  match s.rng.started.find? mine with
  | none => (s.bump (CAN.CH_RX_DROP.NO_RECEIVE c)).canTell c 187 c
  | some d => match s.writeBuf (s.via 17 d) d.d.primary (s.canRecord ident dlc esi data) with
    | (s, m, some e) => (s.bump (CAN.CH_RX_DROP.NO_RECEIVE c)).finishErr d e m
    | (s, m, none) => s.finish d 0 m

/-- A successful reception lowers REC by 1; above 127 it goes to a value of 119 to 127 (a free value). -/
def State.canReceived (s : State) (c : Nat) : State :=
  let r := s.get (CAN.CH_STATUS.REC c)
  if 127 < r then
    let (v, s) := s.fresh
    s.canCount c (s.get (CAN.CH_STATUS.TEC c)) (119 + v % 9)
  else s.canCount c (s.get (CAN.CH_STATUS.TEC c)) (r - 1)

/-- R440, R442. A frame received. One in the FD format on a channel without FD is an error, not a frame. -/
def State.canFrame (s : State) (c ident dlc : Nat) (esi remote : Bool) (data : List Nat) : State :=
  if !s.canOn c || s.get (CAN.CH_STATUS.STATE c) == 2 || (idFdf ident && !s.bit (CAN.CH_CFG.FD c)) then s
  else
    let s := s.canReceived c
    let s := match (if remote then none else s.canAccepts c ident) with
      | none => s.bump (CAN.CH_RX_DROP.UNMATCHED c)
      | some b => if s.get (CAN.MB_CFG.MODE c b) = 1 then s.canStore c b ident dlc esi data
        else s.canFill c b ident dlc esi data
    s.canBus c true

def execCanFrameReceived (c : Fin 2) (ident : Nat) (dlc : Fin 16) (esi remote : Bool) (data : List Nat) (s : State) :
    Answer := (s.canFrame c (ident % 2 ^ 32) dlc esi remote data).done

/-! ## Windows and basic cycles (R450 to R452) -/

/-- R451. An EXCLUSIVE or REFERENCE window starts. -/
def State.windowOpen (s : State) (c w : Nat) (free : Bool) : State :=
  let ch := s.canCh c
  match ch.sched with
  | none => s
  | some m =>
    let x := m.windows.getD w (0, 0)
    let i := s.get (CAN.CH_TT_STATUS.CYCLE c)
    if !s.canOn c || !s.schedOn c || m.windows.length ≤ w || m.kind i w == 0
       || !decide (ch.start + x.1 ≤ s.now ∧ s.now < ch.start + x.1 + x.2) then s
    else
      let s := s.setCanCh c { ch with window := some (w, 0) }
      if ch.inTx.isSome then s else s.canBus c free

def execTtWindowStart (c : Fin 2) (w : Fin 32) (free : Bool) (s : State) : Answer := (s.windowOpen c w free).done

/-- R452. The open window ends; it is missed where its buffer holds a frame that no attempt in it has sent. -/
def State.windowEnd (s : State) (c w : Nat) : State :=
  let ch := s.canCh c
  match ch.window, ch.sched with
  | some (v, st), some m =>
    if v ≠ w then s
    else
      let i := s.get (CAN.CH_TT_STATUS.CYCLE c)
      let s := s.setCanCh c { ch with window := none }
      if st = 2 || !ch.queue.any (fun f => f.buf == m.buffer i w) then s.canOffer c
      else
        let cause := if s.bit (CAN.CH_STATUS.LISTEN_ONLY c) then 3 else if s.get (CAN.CH_STATUS.STATE c) = 2 then 0
          else if st = 0 then 1 else 2
        ((s.bump (CAN.CH_TT_STATUS.MISSED c)).post 190 (c + 256 * i + 65536 * w + 2 ^ 24 * cause)).canOffer c
  | _, _ => s

/-- R451, R452. A window ends at its end tick, not before. -/
def State.windowClose (s : State) (c w : Nat) : State :=
  let ch := s.canCh c
  let x := ((ch.sched.map CanSched.windows).getD []).getD w (0, 0)
  if s.now < ch.start + x.1 + x.2 then s else s.windowEnd c w

def execTtWindowMissed (c : Fin 2) (w : Fin 32) (s : State) : Answer := (s.windowClose c w).done

/-- R450 to R452. A boundary at which a basic cycle starts; a window that reaches up to it ends first. -/
def State.canBasic (s : State) (c : Nat) : State :=
  let e := 2 ^ s.get (CAN.CH_TT_CFG.SCHED_EXP c)
  if s.cycle % e ≠ 0 then s
  else
    let s := match (s.canCh c).window with
      | some (w, _) => s.windowEnd c w
      | none => s
    let ch := s.canCh c
    let s := s.setCanCh c { ch with start := s.now, window := none }
    let s := match ch.next with
      | some (r, i, m) =>
        if s.cycle / e % m.cycles ≠ 0 then s
        else (((s.setCanCh c { s.canCh c with sched := some m, next := none }).set (CAN.CH_TT_STATUS.LOADED c) 1).post
          191 c).finishAt (some (r, i)) 0
      | none => s
    match (s.canCh c).sched with
    | some m => s.set (CAN.CH_TT_STATUS.CYCLE c) (s.cycle / e % m.cycles)
    | none => s

def State.canBoundary (s : State) : State :=
  if !s.domOn 5 then s else (List.range 2).foldl (fun s c => (s.canBasic c).canOffer c) s

/-! ## Enable, abort, power (R441, R456, R457) -/

/-- R441. ENABLE set. -/
def State.canEnable (s : State) (c : Nat) : State :=
  if s.bit (CAN.CH_CFG.ENABLE c) || s.targetFailed [13, 23] then s
  else
    let ok := decide (1 ≤ s.get (CAN.CH_NBT.NTSEG1 c) ∧ 1 ≤ s.get (CAN.CH_NBT.NTSEG2 c)
      ∧ s.get (CAN.CH_NBT.NSJW c) ≤ s.get (CAN.CH_NBT.NTSEG2 c)
      ∧ s.get (CAN.CH_DBT.DSJW c) ≤ s.get (CAN.CH_DBT.DTSEG2 c))
    ((s.setB (CAN.CH_CFG.ENABLE c) ok).setB (CAN.CH_STATUS.CFG_ERR c) !ok)

def execCanChannelEnable (c : Fin 2) (s : State) : Answer := (s.canEnable c).done

/-- R457. A started descriptor of a CAN ring is aborted: a frame in transmission ends its attempt first. -/
def State.canAbort (s : State) (d : Started) (status detail : Nat) : State :=
  let c := s.canOf d.ring
  let ch := s.canCh c
  let mine (f : CanTx) : Bool := f.ring == d.ring && f.idx == d.idx
  match ch.queue.find? mine with
  | some f =>
    if ch.inTx = some f.buf ∧ status = 0x33 then
      s.setCanCh c { ch with queue := ch.queue.map fun g => if mine g then { g with kill := true } else g }
    else s.canFinish c f status 0 detail
  | none =>
    let s := s.setCanCh c { ch with
      behind := ch.behind.filter fun f => !mine f
      next := ch.next.filter fun p => !(p.1 == d.ring && p.2.1 == d.idx) }
    s.finish d status 0 detail

/-- R456. A unit becomes lead: TRANSMITs that asked for it are not sent a second time. -/
def State.canTakeover (s : State) : State :=
  (s.rng.started.filter fun d => s.get (RNG.RING_CFG.OWNER d.ring) == 0 && !d.accepted
    && [5, 6].contains (s.get (RNG.RING_CFG.ENGINE d.ring)) && d.d.opcode == 1 && d.d.eflags.testBit 2).foldl
    (fun s d => s.finish d 0x33 0 2) s

/-- R457. D5 starts: buffers, queues and the schedule are lost. -/
def State.canStart (s : State) : State := { s with can := [] }

end Sys2Proof.Machine
end

