-- ==== Sys2Proof/Machine/Float.lean ====
section
/-! DEFINITION. IEEE 754 binary32 and binary64 as the engines compute with them: exact dyadic values, one rounding
to nearest even per operation (spec/08 R255, spec/09 R284, spec/10 R315, spec/05 R162).

Marks (notes/assumptions): DEDUCED 103. -/

namespace Sys2Proof.Machine

/-- A value: not a number, an infinity, or (-1)^neg * m * 2^e. -/
inductive FV where
  | nan
  | inf (neg : Bool)
  | fin (neg : Bool) (m : Nat) (e : Int)
  deriving DecidableEq, Repr

/-- A format: fraction bits, exponent bits. -/
structure FFmt where
  frac : Nat
  expo : Nat
  deriving DecidableEq, Repr

def f32 : FFmt := ⟨23, 8⟩
def f64 : FFmt := ⟨52, 11⟩

/-- Exponent of the last place of the smallest numbers. -/
def FFmt.emin (f : FFmt) : Int := 2 - (2 ^ (f.expo - 1) : Nat) - f.frac

/-- The pattern of plus infinity, the sign bit, and the quiet NaN. -/
def FFmt.infBits (f : FFmt) : Nat := (2 ^ f.expo - 1) * 2 ^ f.frac
def FFmt.signBit (f : FFmt) : Nat := 2 ^ (f.frac + f.expo)
def FFmt.nanBits (f : FFmt) : Nat := f.infBits + 2 ^ (f.frac - 1)

/-- The value of a pattern. -/
def FFmt.value (f : FFmt) (b : Nat) : FV :=
  let neg := b.testBit (f.frac + f.expo)
  let ex := bitsOf b f.frac f.expo
  let fr := bitsOf b 0 f.frac
  if ex = 2 ^ f.expo - 1 then (if fr = 0 then .inf neg else .nan)
  else if ex = 0 then .fin neg fr f.emin
  else .fin neg (fr + 2 ^ f.frac) (f.emin + (ex - 1 : Nat))

/-- `m * 2^-k` rounded to nearest even. -/
def shiftRne (m k : Nat) : Nat :=
  let q := m / 2 ^ k
  let r := m % 2 ^ k
  let half := 2 ^ k / 2
  if k = 0 then q
  else if half < r ∨ (r = half ∧ q % 2 = 1) then q + 1 else q

/-- A value rounded to a pattern. -/
def FFmt.round (f : FFmt) (v : FV) : Nat :=
  match v with
  | .nan => f.nanBits
  | .inf neg => f.infBits + f.signBit * b2n neg
  | .fin neg m e =>
    if m = 0 then f.signBit * b2n neg
    else
      let q := max (e + Nat.log2 m - f.frac) f.emin
      let mant := if q ≤ e then m * 2 ^ (e - q).toNat else shiftRne m (q - e).toNat
      let b := (q - f.emin).toNat * 2 ^ f.frac + mant
      (if f.infBits ≤ b then f.infBits else b) + f.signBit * b2n neg

/-- The value as an integer multiple of 2^e, where it is one. -/
def scaledTo (e : Int) (neg : Bool) (m : Nat) (e' : Int) : Int :=
  let k : Int := (m * 2 ^ (e' - e).toNat : Nat)
  if neg then -k else k

def FV.neg : FV → FV
  | .nan => .nan
  | .inf n => .inf (!n)
  | .fin n m e => .fin (!n) m e

/-- The exact sum. -/
def FV.add : FV → FV → FV
  | .nan, _ => .nan
  | _, .nan => .nan
  | .inf a, .inf b => if a = b then .inf a else .nan
  | .inf a, _ => .inf a
  | _, .inf b => .inf b
  | .fin n1 m1 e1, .fin n2 m2 e2 =>
    let e := min e1 e2
    let k := scaledTo e n1 m1 e1 + scaledTo e n2 m2 e2
    if k = 0 then .fin (n1 && n2) 0 e else .fin (decide (k < 0)) k.natAbs e

/-- The exact product. -/
def FV.mul : FV → FV → FV
  | .nan, _ => .nan
  | _, .nan => .nan
  | .inf a, .inf b => .inf (a != b)
  | .inf a, .fin n m _ => if m = 0 then .nan else .inf (a != n)
  | .fin n m _, .inf b => if m = 0 then .nan else .inf (n != b)
  | .fin n1 m1 e1, .fin n2 m2 e2 => .fin (n1 != n2) (m1 * m2) (e1 + e2)

/-- The order of two numbers; none where one is not a number. -/
def FV.lt : FV → FV → Option Bool
  | .nan, _ => none
  | _, .nan => none
  | .inf a, .inf b => some (a && !b)
  | .inf a, _ => some a
  | _, .inf b => some (!b)
  | .fin n1 m1 e1, .fin n2 m2 e2 =>
    let e := min e1 e2
    some (decide (scaledTo e n1 m1 e1 < scaledTo e n2 m2 e2))

def FV.ltB (a b : FV) : Bool := (a.lt b).getD false

def FV.finite : FV → Bool
  | .fin _ _ _ => true
  | _ => false

def FV.isZero : FV → Bool
  | .fin _ m _ => m == 0
  | _ => false

/-- An integer as a value. -/
def FV.ofInt (i : Int) (e : Int := 0) : FV := .fin (decide (i < 0)) i.natAbs e

/-- One operation of a format, and conversions. -/
def FFmt.add (f : FFmt) (a b : Nat) : Nat := f.round ((f.value a).add (f.value b))
def FFmt.sub (f : FFmt) (a b : Nat) : Nat := f.round ((f.value a).add (f.value b).neg)
def FFmt.mul (f : FFmt) (a b : Nat) : Nat := f.round ((f.value a).mul (f.value b))
def FFmt.lt (f : FFmt) (a b : Nat) : Bool := (f.value a).ltB (f.value b)
def FFmt.isNan (f : FFmt) (a : Nat) : Bool := f.value a == .nan
def FFmt.finite (f : FFmt) (a : Nat) : Bool := (f.value a).finite

/-- The quotient n / d of two integers (d positive), times 2^e, rounded once. -/
def FFmt.ratio (f : FFmt) (n : Int) (d : Nat) (e : Int := 0) : Nat :=
  let k := 2 * f.frac + Nat.log2 d + 4
  let q := n.natAbs * 2 ^ k / d
  let r := n.natAbs * 2 ^ k % d
  f.round (.fin (decide (n < 0)) (2 * q + (if r = 0 then 0 else 1)) (e - k - 1))

/-- The quotient, rounded once. -/
def FFmt.div (f : FFmt) (a b : Nat) : Nat :=
  match f.value a, f.value b with
  | .nan, _ => f.nanBits
  | _, .nan => f.nanBits
  | .inf _, .inf _ => f.nanBits
  | .inf n, .fin m _ _ => f.round (.inf (n != m))
  | .fin n _ _, .inf m => f.round (.fin (n != m) 0 0)
  | .fin n1 m1 e1, .fin n2 m2 e2 =>
    if m2 = 0 then (if m1 = 0 then f.nanBits else f.round (.inf (n1 != n2)))
    else if m1 = 0 then f.round (.fin (n1 != n2) 0 0)
    else f.ratio (if n1 != n2 then -(m1 : Int) else m1) m2 (e1 - e2)

/-- Integer square root, by its binary digits; `fuel` bounds their number. -/
def isqrt : Nat → Nat → Nat
  | 0, _ => 0
  | fuel + 1, n =>
    if n = 0 then 0
    else
      let r := 2 * isqrt fuel (n / 4)
      if (r + 1) * (r + 1) ≤ n then r + 1 else r

/-- The square root, rounded once; of a negative number, not a number. -/
def FFmt.sqrt (f : FFmt) (a : Nat) : Nat :=
  match f.value a with
  | .nan => f.nanBits
  | .inf n => if n then f.nanBits else a
  | .fin n m e =>
    if m = 0 then a
    else if n then f.nanBits
    else
      let (m, e) := if e % 2 = 0 then (m, e) else (2 * m, e - 1)
      let k := f.frac + 4
      let v := m * 4 ^ k
      let r := isqrt (v.log2 + 1) v
      f.round (.fin false (2 * r + (if r * r = v then 0 else 1)) (e / 2 - k - 1))

/-- A pattern of one format in another. -/
def convert (f g : FFmt) (a : Nat) : Nat := g.round (f.value a)

def widen (a : Nat) : Nat := convert f32 f64 a
def narrow (a : Nat) : Nat := convert f64 f32 a

/-- An integer in a format. -/
def FFmt.ofInt (f : FFmt) (i : Int) : Nat := f.round (.ofInt i)

/-- R286. A value rounded to nearest even as an integer. -/
def roundInt (v : FV) : Int :=
  match v with
  | .fin n m e =>
    let k : Int := if 0 ≤ e then (m * 2 ^ e.toNat : Nat) else (shiftRne m (-e).toNat : Nat)
    if n then -k else k
  | _ => 0

/-- R162. A value rounded toward zero. -/
def truncInt (v : FV) : Int :=
  match v with
  | .fin n m e =>
    let k : Int := if 0 ≤ e then (m * 2 ^ e.toNat : Nat) else (m / 2 ^ (-e).toNat : Nat)
    if n then -k else k
  | _ => 0

/-- Saturated to signed 32 bits. -/
def sat32 (i : Int) : Int := max (-2147483648) (min 2147483647 i)

/-- A number clamped between two others, of one format. -/
def FFmt.clamp (f : FFmt) (lo hi a : Nat) : Nat := if f.lt a lo then lo else if f.lt hi a then hi else a

/-- The nearest integer to n / d (d positive), ties away from zero (R255). -/
def roundAway (n : Int) (d : Nat) : Int :=
  let q : Int := ((2 * n.natAbs + d) / (2 * d) : Nat)
  if n < 0 then -q else q

end Sys2Proof.Machine
end

