-- ==== Sys2Proof/Machine/Image.lean ====
section
/-! DEFINITION. The process image as every engine sees it: station table entries, output owners, class cycles and
snapshots (spec/05 R138, R139, R143; spec/06 R201, R205, R211, R212). -/

namespace Sys2Proof.Machine

/-! ## Station table entries (R201) -/

def Station.present (e : Station) : Bool := (e.entry.getD 0 0).testBit 0
def Station.witness (e : Station) : Bool := (e.entry.getD 0 0).testBit 1
def Station.cls (e : Station) : Nat := e.entry.getD 1 0 % 8
def Station.mask (e : Station) : Nat := e.entry.getD 2 0
def Station.missLimit (e : Station) : Nat := if e.entry.getD 3 0 % 16 = 0 then 2 else e.entry.getD 3 0 % 16
def Station.inBase (e : Station) : Nat := leAt e.entry 4 2
def Station.inPlain (e : Station) : Nat := e.entry.getD 6 0
def Station.inPair (e : Station) : Nat := e.entry.getD 7 0
def Station.outBase (e : Station) : Nat := leAt e.entry 8 2
def Station.outPlain (e : Station) : Nat := e.entry.getD 0xA 0
def Station.outPair (e : Station) : Nat := e.entry.getD 0xB 0
def Station.downOffset (e : Station) : Nat := leAt e.entry 0xC 2
def Station.crc (e : Station) : Nat := leAt e.entry 0x10 4
def Station.device (e : Station) : Nat := leAt e.entry 0x14 4

/-- Pair-words of the input and of the output area. -/
def Station.inWords (e : Station) : Nat := e.inPlain + e.inPair
def Station.outWords (e : Station) : Nat := e.outPlain + e.outPair

/-- Bytes of the station's block in a DOWN frame (R189). -/
def Station.blockBytes (e : Station) : Nat := 4 + 4 * e.outPlain + 8 * e.outPair

/-- Bytes of an UP body (R194). -/
def Station.upBytes (e : Station) : Nat := 16 + 4 * e.inPlain + 8 * e.inPair

def State.station (s : State) (node : Nat) : Option Station := Sparse.find s.crs.stations node

def State.setStation (s : State) (node : Nat) (e : Station) : State :=
  { s with crs := { s.crs with stations := Sparse.insert s.crs.stations node e } }

/-- Whether crossing `c` runs. -/
def State.crossOn (s : State) (c : Nat) : Bool := s.bit (FLD.CROSS_CFG.ENABLE c) && s.domOn 4

/-- Nodes of the stations of crossing `c`. -/
def State.nodesOf (s : State) (c : Nat) : List Nat := (s.crs.stations.map (·.1)).filter fun n => n / 512 == c

/-- The station in whose input area pair-word `i` lies. -/
def State.stationAt (s : State) (i : Nat) : Option (Nat × Station) :=
  s.crs.stations.find? fun p => decide (p.2.inBase ≤ i ∧ i < p.2.inBase + p.2.inWords)

/-! ## Station-valid bits (R203, R211, R219) -/

/-- The landed station-valid bit of a node set or cleared. -/
def State.setLanded (s : State) (node : Nat) (b : Bool) : State :=
  let v := s.get (PIM.VALID.VALID (node / 32))
  let v := if b then setBit v (node % 32) else clearBit v (node % 32)
  (s.set (PIM.VALID.VALID (node / 32)) v).putPair 10 (inAddr (64 + node / 32)) v

/-! ## Classes -/

def State.cls (s : State) (k : Nat) : ClassRt := Sparse.get {} s.cyc.classes k

def State.setCls (s : State) (k : Nat) (c : ClassRt) : State :=
  { s with cyc := { s.cyc with classes := Sparse.put {} s.cyc.classes k c } }

def State.phase (s : State) (k : Nat) : Nat := s.get (CYC.CLASS_STATUS.PHASE k)

/-- R135. Ticks of a period of class `k`. -/
def State.period (s : State) (k : Nat) : Nat :=
  let n := s.get CYC.BASE.N
  (if n = 0 then 1 else min n 128) * 6250 * 2 ^ s.get (CYC.CLASS_CFG.EXP k)

/-- R143. Owner of the output block in which pair-word `i` lies; 8 to 14 act as 15. -/
def State.owner (s : State) (i : Nat) : Nat :=
  let b := i / 64
  let o := s.get (CYC.OUT_OWNER.OWNER (b / 8) (b % 8))
  if 8 ≤ o then 15 else o

/-- Whether the class cycle (class, cycle number) has been released again since, or has ended. -/
def State.cycleOver (s : State) (c : Nat × Nat) : Bool :=
  (s.cls c.1).cycle != c.2 || !(s.phase c.1 == 2 || s.phase c.1 == 3)

/-- R202. The station in whose input area pair-word `i` lies, or lay while its crossing was enabled. -/
def State.areaAt (s : State) (i : Nat) : Option (Nat × Station) :=
  (s.crs.stations ++ s.crs.kept).find? fun p => decide (p.2.inBase ≤ i ∧ i < p.2.inBase + p.2.inWords)

/-- R350. A station of the table or of a disabled crossing. -/
def State.holder (s : State) (node : Nat) : Option Station := Sparse.find (s.crs.stations ++ s.crs.kept) node

/-- R139, R212. The value of input pair-word `i` in the snapshot of class `k`; none outside its read set. -/
def State.inSnap (s : State) (k i : Nat) : Option Nat :=
  match s.areaAt i with
  | some (_, e) => if e.mask.testBit k then some (Sparse.get 0 (s.cls k).snap i) else none
  | none => some (Sparse.get 0 (s.cls k).snap i)

/-- The station-valid bit of a node in the snapshot of class `k`. -/
def State.validIn (s : State) (k node : Nat) : Bool :=
  (Sparse.get 0 (s.cls k).snap (64 + node / 32)).testBit (node % 32)

end Sys2Proof.Machine
end

