-- ==== Sys2Proof/Machine/Stage.lean ====
section
/-! DEFINITION. The output stages of the current-loop channels: the commanded current, what decides it, and its
supervision (spec/10 R315 to R320, R334). Currents are binary32 patterns in mA.

Marks (notes/assumptions): DEDUCED 106. -/

namespace Sys2Proof.Machine

def State.clch (s : State) (n : Nat) : ClCh := Sparse.get {} s.clp.chans n
def State.setClch (s : State) (n : Nat) (c : ClCh) : State :=
  { s with clp := { s.clp with chans := Sparse.put {} s.clp.chans n c } }

/-- R318. 0.0 to 24.0 mA. -/
def clampMa (v : Nat) : Nat := if f32.isNan v then v else f32.clamp 0 0x41C00000 v

/-- R317. An alarm level in mA. -/
def State.alarmOut (s : State) (n : Nat) (high : Bool) : Nat :=
  f32.ratio (s.get (if high then CLP.CH_ALARM_OUT.HIGH n else CLP.CH_ALARM_OUT.LOW n)) 1000

/-- R319, order 4. -/
def State.stopMa (s : State) (n : Nat) : Nat :=
  match s.get (CLP.CH_CFG.STOP_VALUE n) with
  | 0 => s.alarmOut n false
  | 1 => s.alarmOut n true
  | 2 => ((s.clch n).held).getD (s.alarmOut n false)
  | _ => s.get (CLP.CH_SUBST.MA n)

/-- R319. Whether order 4 decides. -/
def State.clStopped (s : State) (n : Nat) : Bool :=
  !s.inRun || (!s.bit (CLP.CH_CFG.OUT_SOURCE n) && !(s.clch n).committed)

/-- R319, orders 3 to 6: the current that the unit commands, whether or not the stage is open. -/
def State.clCommand (s : State) (n : Nat) : Nat :=
  match s.forced 2 n with
  | some v => v
  | none =>
    if s.clStopped n then s.stopMa n
    else if s.bit (CLP.CH_CFG.OUT_SOURCE n) then (s.clch n).loop
    else if (s.clch n).progNan then s.alarmOut n false
    else (s.clch n).prog

/-- R319. The current at the terminal; none while the stage is open. -/
def State.clCurrent (s : State) (n : Nat) : Option Nat :=
  if s.get (CLP.CH_CFG.MODE n) ≠ 2 || !s.bit SYS.CARRIER_STATUS.DRIVERS_ENABLED || s.bit (CLP.CH_STATUS.FAILED n)
     || !s.domOn 6 then none
  else some (s.clCommand n)

/-- R336. The current that a stage is set to, in mA (binary64): the inverse of the field trim of the commanded one. -/
def State.stageSet (s : State) (n : Nat) : Option Nat :=
  let g := toSigned 16 (s.get (CLP.CH_TRIM.GAIN n))
  let o := toSigned 16 (s.get (CLP.CH_TRIM.OFFSET n))
  (s.clCurrent n).map fun i =>
    f64.div (f64.sub (widen i) (f64.div (f64.ofInt o) (f64.ofInt 10000))) (f64.div (f64.ofInt (1000000 + g)) (f64.ofInt 1000000))

/-- R338. VALUE of an output shows its commanded current. -/
def State.clRefresh (s : State) : State :=
  (List.range 8).foldl (fun s n =>
    if s.get (CLP.CH_CFG.MODE n) = 2 ∧ s.bit CLP.CTRL.ENABLE then s.set (CLP.CH_VALUE.VALUE n) (s.clCommand n) else s) s

/-- R315. Linear interpolation between the points of a table, given as (argument, value) binary32 patterns, in
binary64: y0 + (x - x0) / (x1 - x0) * (y1 - y0). -/
def interpolate (x : Nat) : List (Nat × Nat) → Nat
  | [] => 0
  | [p] => widen p.2
  | p :: q :: r =>
    if f64.lt x (widen p.1) then widen p.2
    else if f64.lt x (widen q.1) then
      let t := f64.div (f64.sub x (widen p.1)) (f64.sub (widen q.1) (widen p.1))
      f64.add (widen p.2) (f64.mul t (f64.sub (widen q.2) (widen p.2)))
    else interpolate x (q :: r)

/-- R318. The current that an engineering value commands: the inverse of LINEAR or TABLE, clamped to 3.8 mA to
20.5 mA. -/
def State.clInverse (s : State) (n v : Nat) : Nat :=
  let x := widen v
  let lo := widen (s.get (CLP.CH_RANGE_LO.LO n))
  let hi := widen (s.get (CLP.CH_RANGE_HI.HI n))
  let four := f64.ofInt 4
  let i := if s.get (CLP.CH_CFG.CHAR n) = 2 then interpolate x ((s.clch n).table.map fun p => (p.2, p.1))
    else f64.add four (f64.mul (f64.ofInt 16) (f64.div (f64.sub x lo) (f64.sub hi lo)))
  narrow (f64.clamp (f64.ratio 38 10) (f64.ratio 205 10) i)

/-- R318, R319, R322. The pair-word of a PROGRAM output, after a commit of its owner class. -/
def State.clProgram (s : State) (n : Nat) : State :=
  let i := s.get CLP.IMAGE.OUT_BASE + n
  let c := { s.clch n with committed := true }
  if s.get (CLP.CH_CFG.MODE n) ≠ 2 ∨ s.bit (CLP.CH_CFG.OUT_SOURCE n) then s.setClch n c
  else
    let (ok, v) := s.pairAt (outAddr i)
    -- R319, order 5: the current commanded before, which is the stop value ahead of the first commit
    if !ok then
      (s.setClch n (if (s.clch n).committed then c else { c with progNan := false, prog := s.stopMa n })).outputFault i
    else if f32.isNan v then s.setClch n { c with progNan := true }
    else s.setClch n { c with progNan := false, prog := s.clInverse n v }

/-- R322. The local output block applied after a commit of its owner class. -/
def State.clpApply (s : State) : State :=
  if !s.bit CLP.CTRL.ENABLE || !s.domOn 6 then s
  else ((List.range 8).foldl State.clProgram s).clRefresh

/-- R319. Entry to STOP: the currents are held. -/
def State.clpStop (s : State) : State :=
  ((List.range 8).foldl (fun s n => s.setClch n { s.clch n with held := some (s.clCommand n) }) s)

/-- R319. Entry to RUN: a LOOP output keeps its current until the loop engine writes. -/
def State.clpRun (s : State) : State :=
  ((List.range 8).foldl (fun s n => s.setClch n { s.clch n with committed := false, loop := s.stopMa n }) s)

/-- A flag of the channel's status set or cleared, with its source. -/
def State.clFlag (s : State) (f : Fld) (src n : Nat) (b : Bool) : State :=
  if s.bit f = b then s else (s.setB f b).post src (n + 256 * b2n b)

/-- R320. The alarm level that is commanded, if any: low or high. -/
def State.alarmCommanded (s : State) (n : Nat) : Option Bool :=
  let level (v : Nat) : Option Bool :=
    if !f64.lt (f64.ratio 36 10) (widen v) then some false
    else if !f64.lt (widen v) (f64.ofInt 21) then some true else none
  match s.forced 2 n with
  | some v => level v
  | none =>
    if s.clStopped n then
      match s.get (CLP.CH_CFG.STOP_VALUE n) with
      | 0 => some false
      | 1 => some true
      | _ => none
    else if s.bit (CLP.CH_CFG.OUT_SOURCE n) then level (s.clch n).loop
    else if (s.clch n).progNan then some false else none

/-- R320. The stage measures its current (nA) and its headroom (mV). Diagnoses run only on the token holder. -/
def State.stageMeasure (s : State) (n na mv : Nat) : State :=
  let shut := s.setClch n { s.clch n with goodFrom := none, badFrom := none }
  if !s.domOn 6 || !s.bit CLP.CTRL.ENABLE || s.get (CLP.CH_CFG.MODE n) != 2 then shut
  else if !s.bit SYS.CARRIER_STATUS.DRIVERS_ENABLED || s.bit (CLP.CH_STATUS.FAILED n) then shut.set (CLP.CH_CURRENT.MA n) 0
  else
    let s := (s.set (CLP.CH_CURRENT.MA n) (f32.ratio na 1000000)).set (CLP.CH_HEADROOM.MV n) mv
    let c := s.clch n
    let good := if 1200 < mv then some (c.goodFrom.getD s.now) else none
    let missed := match s.alarmCommanded n with
      | some false => decide (3600000 < na)
      | some true => decide (na < 21000000)
      | none => false
    let bad := if missed then some (c.badFrom.getD s.now) else none
    let s := s.setClch n { c with goodFrom := good, badFrom := bad }
    let s := if mv < 1000 then s.clFlag (CLP.CH_STATUS.COMPLIANCE n) 145 n true
      else match good with
        | some t => if t + ticksPerMs ≤ s.now then s.clFlag (CLP.CH_STATUS.COMPLIANCE n) 145 n false else s
        | none => s
    match bad with
    | some t => if t + 10 * ticksPerMs ≤ s.now then s.clFlag (CLP.CH_STATUS.ALARM_NOT_SIGNALLED n) 146 n true else s
    | none => s.clFlag (CLP.CH_STATUS.ALARM_NOT_SIGNALLED n) 146 n false

def execOutputStageMeasure (n : Fin 8) (na : Nat) (mv : Fin 65536) (s : State) : Answer := (s.stageMeasure n na mv).done

end Sys2Proof.Machine
end

