-- ==== Sys2Proof/Machine/Lop.lean ====
section
/-! DEFINITION. The loop engine (spec/09_loops.md).

Marks (notes/assumptions): DEDUCED 103, 104; DESIGN CHOICE 138. -/

namespace Sys2Proof.Machine

/-! ## Instances and their entries (R303) -/

def Loop.present (l : Loop) : Bool := (l.entry.getD 0 0).testBit 0
def Loop.invert (l : Loop) : Bool := (l.entry.getD 0 0).testBit 1
def Loop.antiwindup (l : Loop) : Nat := bitsOf (l.entry.getD 0 0) 2 2
def Loop.srcInt (l : Loop) : Bool := (l.entry.getD 0 0).testBit 4
def Loop.dstInt (l : Loop) : Bool := (l.entry.getD 0 0).testBit 5
def Loop.srcKind (l : Loop) : Nat := l.entry.getD 1 0
def Loop.srcIndex (l : Loop) : Nat := leAt l.entry 2 2
def Loop.dstKind (l : Loop) : Nat := l.entry.getD 4 0
def Loop.satAction (l : Loop) : Nat := l.entry.getD 5 0
def Loop.dstIndex (l : Loop) : Nat := leAt l.entry 6 2
def Loop.spIndex (l : Loop) : Nat := leAt l.entry 8 2
def Loop.manIndex (l : Loop) : Nat := leAt l.entry 0xA 2

/-- The coefficients in table order, B0 to B3 then A1 to A3, and the other binary32 fields. -/
def Loop.coef (l : Loop) (k : Nat) : Nat := leAt l.entry (0x10 + 4 * k) 4
def Loop.pvScale (l : Loop) : Nat := leAt l.entry 0x2C 4
def Loop.outMin (l : Loop) : Nat := leAt l.entry 0x30 4
def Loop.outMax (l : Loop) : Nat := leAt l.entry 0x34 4
def Loop.deltaMax (l : Loop) : Nat := leAt l.entry 0x38 4
def Loop.satTime (l : Loop) : Nat := leAt l.entry 0x3C 4
def Loop.safeValue (l : Loop) : Nat := leAt l.entry 0x40 4
def Loop.delayLimit (l : Loop) : Nat := leAt l.entry 0x44 4

def State.loop (s : State) (i : Nat) : Loop := Sparse.get {} s.lop.insts i

def State.setLoop (s : State) (i : Nat) (l : Loop) : State :=
  { s with lop := { s.lop with insts := Sparse.put {} s.lop.insts i l } }

/-- R298, R309. ACTIVE and BOUND follow the modes. -/
def State.loopCounts (s : State) : State :=
  let p := (s.lop.insts.filter fun e => e.2.mode == 1 || e.2.mode == 2).length
  let a := (s.lop.insts.filter fun e => e.2.mode == 2).length
  ((s.set LOP.ACTIVE.P p).set LOP.ACTIVE.AUTO a).set LOP.BOUND.TICKS (90 + 24 * (p - 1))

def State.setLoopQueue (s : State) (q : List LoopSample) : State :=
  let s := ({ s with lop := { s.lop with queue := q } }).set LOP.QUEUE.DEPTH q.length
  if s.get LOP.QUEUE.PEAK < q.length then s.set LOP.QUEUE.PEAK q.length else s

/-- R292, R310. Instance `i` changes mode; one that leaves AUTO and MANUAL leaves the queue. -/
def State.loopMode (s : State) (i mode : Nat) : State :=
  let l := s.loop i
  if l.mode = mode then s
  else
    let l' := { l with mode := mode, transfer := if mode = 2 then true else l.transfer
                       reason := if mode = 3 then l.reason else 0 }
    let s := ((s.setLoop i l').loopCounts).post 133 (i + 4096 * mode + 16384 * l.mode)
    if mode = 1 ∨ mode = 2 then s else s.setLoopQueue (s.lop.queue.filter (·.inst != i))

/-- R309. A bit of FAULT_w or SAT_w. -/
def State.loopBit (s : State) (f : Nat → Fld) (i : Nat) (b : Bool) : State :=
  let v := s.get (f (i / 32))
  s.set (f (i / 32)) (if b then setBit v (i % 32) else clearBit v (i % 32))

/-- R309. FAULT_w and SAT_w as the instances have them. -/
def State.loopMasks (s : State) : State :=
  let bits (w : Nat) (p : Loop → Bool) : Nat := packBits 32 fun b => p (s.loop (32 * w + b))
  (List.range 16).foldl (fun t w => (t.set (LOP.FAULT.INSTANCE w) (bits w (·.fault != 0))).set (LOP.SAT.INSTANCE w)
    (bits w (·.sat.isSome))) s

/-- R288, R291, R295. Instance `i` enters OFF with a fault cause: 1 SAT_TIMEOUT, 2 NUMERIC, 3 TARGET. -/
def State.loopFault (s : State) (i cause : Nat) : State :=
  let s := s.loopMode i 0
  let s := s.setLoop i { s.loop i with fault := cause }
  (s.loopBit LOP.FAULT.INSTANCE i true).post 128 (i + 4096 * cause)

/-! ## Samples (R289, R296, R297) -/

/-- R297. A sample of instance `i` joins the queue, or replaces the one that waits. -/
def State.loopQueue (s : State) (i word : Nat) : State :=
  let m := (s.loop i).mode
  if m ≠ 1 ∧ m ≠ 2 then s
  else if s.lop.queue.any (·.inst == i) then
    let q := s.lop.queue.map fun (e : LoopSample) => if e.inst = i then { e with tick := s.now, word := word } else e
    let l := s.loop i
    let s := ((s.setLoopQueue q).setLoop i { l with replaced := satAdd l.replaced 1 0xFFFFFFFF }).bump LOP.REPLACED.COUNT
    let quiet := match s.lop.told with
      | some t => decide (s.now < t + ticksPerMs)
      | none => false
    if quiet then s
    else ({ s with lop := { s.lop with told := some s.now } }).post 134 i
  else
    let (le, gt) := s.lop.queue.span fun e => decide (e.place < s.now ∨ (e.place = s.now ∧ e.inst < i))
    s.setLoopQueue (le ++ [⟨s.now, i, word, s.now⟩] ++ gt)

/-- R296, R297, R305. A sample becomes present. A trail evaluates only the lead's samples (R307). -/
def State.loopPresent (s : State) (i word : Nat) : State :=
  let l := s.loop i
  if !s.domOn 5 || !s.inRun || s.isTrail || !s.bit LOP.CTRL.ENABLE then s
  else if l.mode = 3 ∧ l.reason = 2 then
    let s := (s.loopMode i l.kept).post 131 i
    s.loopQueue i word
  else s.loopQueue i word

/-- The instances whose source is (kind, index), in ascending order. -/
def State.loopsOf (s : State) (kind index : Nat) : List Nat :=
  (s.lop.insts.filter fun e => e.2.present && e.2.srcKind == kind && e.2.srcIndex == index).map (·.1)

/-- R289. A landing in the input area [base, base + n). -/
def State.loopLanding (s : State) (base n : Nat) : State :=
  (s.lop.insts.filter fun e => e.2.present && e.2.srcKind == 0
    && decide (base ≤ e.2.srcIndex ∧ e.2.srcIndex < base + n)).foldl
    (fun s e => s.loopPresent e.1 (s.word (inAddr e.2.srcIndex))) s

/-- R296. The sample of instance `i` is lost. -/
def State.loopLost (s : State) (i : Nat) : State :=
  let l := s.loop i
  if l.mode ≠ 1 ∧ l.mode ≠ 2 then s
  else
    let s := s.setLoop i { l with kept := l.mode, reason := 2 }
    (s.loopMode i 3).post 131 (i + 4096)

/-- Whether an instance is in AUTO or MANUAL. -/
def Loop.runs (l : Loop) : Bool := l.mode == 1 || l.mode == 2

/-- R296. Cascade instances whose source has left AUTO and MANUAL since the state `before`, in ascending order. -/
def State.loopCascadeLost (s before : State) : State :=
  (s.lop.insts.map (·.1)).foldl (fun s j =>
    let l := s.loop j
    if l.present && l.srcKind == 2 && (before.loop l.srcIndex).runs && !(s.loop l.srcIndex).runs
    then s.loopLost j else s) s

/-- R296. The samples of the instances `is` are lost. -/
def State.loopsLost (s : State) (is : List Nat) : State := (is.foldl State.loopLost s).loopCascadeLost s

/-- R296. A station's samples are lost: it becomes STALE, or on a trail the lead's cut says so. -/
def State.loopStale (s : State) (base n : Nat) : State :=
  s.loopsLost ((s.lop.insts.filter fun e => e.2.present && e.2.srcKind == 0
    && decide (base ≤ e.2.srcIndex ∧ e.2.srcIndex < base + n)).map (·.1))

/-! ## Outputs (R286, R290, R291) -/

/-- R286, R290. The word written for an output of binary64 `y`, and the output itself as binary64. A current is written as
binary32 in mA, also of an integer. -/
def Loop.writeWord (l : Loop) (y : Nat) : Nat × Nat :=
  if l.dstInt then
    let k := sat32 (roundInt (f64.value y))
    if l.dstKind = 2 then (f32.ofInt k, widen (f32.ofInt k)) else (ofSigned 32 k, f64.ofInt k)
  else (narrow y, widen (narrow y))

/-- R11, R285. The value of the committed output pair-word `i` as the loops order the commits: a trail's commit ahead of the
lead's COMMIT is not seen yet (R307). Of an invalid pair-word no value is used. -/
def State.loopWord (s : State) (i : Nat) : Nat :=
  match s.par.follow.ahead.findSome? fun (c : Nat × Nat × List (Nat × Nat)) => Sparse.find c.2.2 i with
  | some v => v
  | none =>
    let (ok, v) := s.pairAt (outAddr i)
    if ok then v else Config.loopWord i v % 2 ^ 32

/-- R290, R291. The target of instance `i` written; answers whether it took the write. -/
def State.loopWrite (s : State) (i word : Nat) : State × Bool :=
  let l := s.loop i
  match l.dstKind with
  | 1 =>
    if s.owner l.dstIndex ≠ 15 then (s, false)
    else match s.write { init := 12 } (outAddr l.dstIndex) (pairBytes word) with
      | (s, .ok _) => (s, true)
      | (s, .error _) => (s, false)
  | 2 => ((s.setClch l.dstIndex { s.clch l.dstIndex with loop := clampMa word }).clRefresh, true)
  | _ => (s, true)

/-- R287, R295, R323. Whether a current-loop target reports COMPLIANCE or ALARM_NOT_SIGNALLED, and its current. -/
def State.channelReport (s : State) (n : Nat) : Bool × Nat :=
  if s.isTrail then
    match s.par.follow.channels.find? (·.1 == n) with
    | some (_, f, ma) => (f % 4 != 0, ma)
    | none => (false, 0)
  else (s.bit (CLP.CH_STATUS.COMPLIANCE n) || s.bit (CLP.CH_STATUS.ALARM_NOT_SIGNALLED n), s.get (CLP.CH_CURRENT.MA n))

/-! ## The evaluation (R284 to R288, R293) -/

/-- What one evaluation computes: the unlimited output, the limited one, the states, whether either limit changed y,
whether the clamp did. -/
structure LoopStep where
  y  : Nat
  yl : Nat
  s1 : Nat
  s2 : Nat
  s3 : Nat
  limited : Bool
  clamped : Bool
  deriving DecidableEq, Repr

/-- R284. The states updated from x and ys. -/
def Loop.update (l : Loop) (x ys s2 s3 : Nat) : Nat × Nat × Nat :=
  let c (k : Nat) : Nat := widen (l.coef k)
  let line (b a : Nat) : Nat := f64.sub (f64.mul (c b) x) (f64.mul (c a) ys)
  (f64.add (line 1 4) s2, f64.add (line 2 5) s3, line 3 6)

/-- R286. The limits; y_prev is the previous written output. Answers the limited output, whether a step changed y, and whether
the clamp did. -/
def Loop.limit (l : Loop) (y : Nat) : Nat × Bool × Bool :=
  let d := widen l.deltaMax
  let y1 := if f64.value d |>.isZero then y else
    match l.out with
    | none => y
    | some p => f64.clamp (f64.sub p d) (f64.add p d) y
  let y2 := f64.clamp (widen l.outMin) (widen l.outMax) y1
  (y2, y1 != y || y2 != y1, y2 != y1)

/-- R284 to R287, R293. One AUTO evaluation for the input x; `u` is what a bumpless transfer starts from, `report` what
the current-loop target reports (R287). -/
def Loop.auto (l : Loop) (x u : Nat) (report : Option Nat) : LoopStep :=
  let c (k : Nat) : Nat := widen (l.coef k)
  if l.transfer then
    let s3 := f64.sub (f64.mul (c 3) x) (f64.mul (c 6) u)
    let s2 := f64.add (f64.sub (f64.mul (c 2) x) (f64.mul (c 5) u)) s3
    let (a, b, d) := l.update x u s2 s3
    ⟨u, u, a, b, d, false, false⟩
  else
    let y := f64.add (f64.mul (c 0) x) l.s1
    let (yl, lim, cl) := l.limit y
    let ys := if l.antiwindup = 0 then y else match report with
      | some ma => if l.antiwindup = 2 then ma else yl
      | none => yl
    let (a, b, d) := l.update x ys l.s2 l.s3
    ⟨y, yl, a, b, d, lim, cl⟩

/-- R285, R289. PV: the sample times PV_SCALE, in binary64; SRC_INT is of an input pair-word. -/
def Loop.process (l : Loop) (word : Nat) : Nat :=
  f64.mul (if l.srcInt && l.srcKind == 0 then f64.ofInt (toSigned 32 word) else widen word) (widen l.pvScale)

/-- R285. x: SP - PV, or PV - SP with INVERT. -/
def State.loopInput (s : State) (l : Loop) (word : Nat) : Nat :=
  let sp := widen (s.loopWord l.spIndex)
  if l.invert then f64.sub (l.process word) sp else f64.sub sp (l.process word)

/-- R293. What a bumpless transfer starts from. -/
def State.loopLast (s : State) (l : Loop) : Nat := match l.out with
  | some o => o
  | none => if l.manIndex = 0 then 0 else widen (s.loopWord l.manIndex)

/-- R295. Saturation after an evaluation: start and end, SAT_TIME and SAT_ACTION. -/
def State.loopSaturation (s : State) (i tick : Nat) (isSat : Bool) : State :=
  let l := s.loop i
  match l.sat, isSat with
  | none, false => s
  | some _, false =>
    ((s.setLoop i { l with sat := none, satTold := false, satSpan := 0 }).loopBit LOP.SAT.INSTANCE i false).post 129 i
  | none, true =>
    ((s.setLoop i { l with sat := some tick }).loopBit LOP.SAT.INSTANCE i true).post 129 (i + 4096)
  | some t, true =>
    let us := (tick - t) / ticksPerUs
    let s := s.setLoop i { l with satSpan := us }
    if l.satTime = 0 || us < l.satTime || l.satTold then s
    else
      let s := (s.setLoop i { s.loop i with satTold := true }).post 130 (i + 4096 * l.satAction)
      match l.satAction with
      | 1 => (s.setLoop i { s.loop i with kept := l.mode, reason := 1 }).loopMode i 3
      | 2 =>
        let (w, o) := l.writeWord (widen l.safeValue)
        let (s, ok) := s.loopWrite i w
        if ok then (s.setLoop i { s.loop i with out := some o }).loopFault i 1 else s.loopFault i 3
      | _ => s

/-- R307. The 16 bytes of a loop record. -/
def Loop.record (l : Loop) (i word out tick : Nat) : List Nat :=
  leBytes 2 i ++ [l.mode + 4 * l.kept, b2n l.sat.isSome + 2 * b2n l.limited + 4 * b2n l.transfer]
    ++ leBytes 4 word ++ leBytes 4 out ++ leBytes 4 tick

/-- R298. The delay of an evaluation recorded. -/
def State.loopDelay (s : State) (i tick : Nat) : State :=
  let d := s.now - tick
  let c := min d 0xFFFF
  let s := s.set (LOP.INST_DELAY.LAST i) c
  let s := if s.get (LOP.INST_DELAY.MAX i) < c then s.set (LOP.INST_DELAY.MAX i) c else s
  let s := if s.get LOP.WORST.TICKS < c then (s.set LOP.WORST.TICKS c).set LOP.WORST.INSTANCE i else s
  let lim := (s.loop i).delayLimit
  if lim ≠ 0 ∧ lim < d then s.post 132 (i + 65536 * c) else s

/-- R289. The instance has written: its cascade instances see the output as binary32. -/
def State.loopWrote (s : State) (i out : Nat) : State :=
  (s.loopsOf 2 i).foldl (fun s j => s.loopPresent j (narrow out)) s

/-- One evaluation of instance `i` for a sample; answers the word written. -/
def State.loopEvaluate (s : State) (i tick word : Nat) : State × Nat :=
  let l := s.loop i
  let (bad, ma) := if l.dstKind = 2 then s.channelReport l.dstIndex else (false, 0)
  let step : LoopStep :=
    if l.mode = 2 then l.auto (s.loopInput l word) (s.loopLast l) (if bad then some (widen ma) else none)
    else
      let y := widen (s.loopWord l.manIndex)
      let y' := f64.clamp (widen l.outMin) (widen l.outMax) y
      ⟨y, y', l.s1, l.s2, l.s3, y' != y, y' != y⟩
  let l := { l with pv := narrow (l.process word), evals := satAdd l.evals 1 0xFFFFFFFF, limited := step.limited }
  if [step.yl, step.s1, step.s2, step.s3].any (fun v => !f64.finite v) || (l.mode = 2 && !f64.finite step.y)
  then
    let (w, o) := l.writeWord (widen l.safeValue)
    let (s, ok) := (s.setLoop i { l with s1 := 0, s2 := 0, s3 := 0, transfer := false }).loopWrite i w
    if ok then ((s.setLoop i { s.loop i with out := some o }).loopFault i 2, w) else (s.loopFault i 3, w)
  else
    let (w, o) := l.writeWord step.yl
    let s := s.setLoop i { l with s1 := step.s1, s2 := step.s2, s3 := step.s3
                                  transfer := if l.mode = 2 then false else l.transfer }
    let (s, ok) := s.loopWrite i w
    if !ok then (s.loopFault i 3, w)
    else
      let s := s.setLoop i { s.loop i with out := some o }
      (s.loopSaturation i tick (step.clamped || bad), w)

/-- R297. The queue head evaluated. -/
def State.loopHead (s : State) : State :=
  match s.lop.queue with
  | [] => s
  | e :: q =>
    if !s.domOn 5 || !s.inRun || s.isTrail then s
    else
      let start := s
      let before := s.loop e.inst
      let (s, w) := (s.setLoopQueue q).loopEvaluate e.inst e.tick e.word
      let s := s.loopDelay e.inst e.tick
      -- R323, R307: what the trail needs goes ahead of the record
      let s := if s.streams && before.dstKind == 2 then
          let n := before.dstIndex
          s.ransel 0x17 ([n, s.get (CLP.CH_STATUS.COMPLIANCE n) + 2 * s.get (CLP.CH_STATUS.ALARM_NOT_SIGNALLED n), 0, 0]
            ++ leBytes 4 (s.get (CLP.CH_CURRENT.MA n)))
        else s
      let s := if s.streams then s.ransel 0x16 (before.record e.inst e.word w (s.inPair e.tick)) else s
      (s.loopWrote e.inst ((s.loop e.inst).out.getD 0)).loopCascadeLost start

def execLoopEvaluation (s : State) : Answer := s.loopHead.done

/-! ## Commands (R299 to R302, R306) -/

/-- Word 1: instance and count. -/
def Desc.loopInst (d : Desc) : Nat := bitsOf d.w1 0 9
def Desc.loopCount (d : Desc) : Nat := bitsOf d.w1 16 10

/-- R290, R303, R304. Whether binary32 fields and indices of an entry are in rule. -/
def Loop.fieldsOk (l : Loop) : Bool :=
  let fl := l.entry.getD 0 0
  let fins := (List.range 7).map l.coef ++ [l.pvScale, l.outMin, l.outMax, l.deltaMax]
  decide (fl < 64) && l.antiwindup != 3 && decide (l.srcKind ≤ 2) && decide (l.dstKind ≤ 2) && decide (l.satAction ≤ 2)
  && leAt l.entry 0xC 4 == 0 && leAt l.entry 0x48 8 == 0
  && fins.all f32.finite && !(f32.value l.pvScale).isZero && f32.lt l.outMin l.outMax
  && !f32.lt l.deltaMax 0 && f32.finite l.safeValue && !f32.lt l.safeValue l.outMin && !f32.lt l.outMax l.safeValue

/-- R289, R290, R304. Cause 3 of an entry alone: its indices, and the owner of its target's block. -/
def State.loopIndexOk (s : State) (l : Loop) : Bool :=
  (match l.srcKind with
    | 0 => decide (128 ≤ l.srcIndex) && (s.stationAt l.srcIndex).isSome
    | 1 => decide (l.srcIndex < 8)
    | _ => decide (l.srcIndex < 512))
  && (match l.dstKind with
    | 1 => s.owner l.dstIndex == 15
    | 2 => decide (l.dstIndex < 8)
    | _ => true)

/-- R304. Cause 5 of an entry: its current-loop channels are configured for the direction used. -/
def State.loopChannelOk (s : State) (l : Loop) : Bool :=
  (l.srcKind != 1 || s.get (CLP.CH_CFG.MODE l.srcIndex) == 1)
  && (l.dstKind != 2 || (s.get (CLP.CH_CFG.MODE l.dstIndex) == 2 && s.bit (CLP.CH_CFG.OUT_SOURCE l.dstIndex)))

/-- R290, R304. Targets that two present instances share. -/
def loopsShare (ls : List (Nat × Loop)) : Bool :=
  let ts := (ls.filter fun e => e.2.present && e.2.dstKind != 0).map fun e => (e.2.dstKind, e.2.dstIndex)
  decide ¬ ts.Nodup

/-- R289. Whether the cascade sources are lower than the instances. -/
def loopsLower (ls : List (Nat × Loop)) : Bool :=
  ls.all fun e => !e.2.present || e.2.srcKind != 2 || decide (e.2.srcIndex < e.1)

/-- R304. Cause 4: a cascade source that is not lower, or not PRESENT. -/
def loopsCascadeOk (ls : List (Nat × Loop)) : Bool :=
  loopsLower ls && ls.all fun e => !e.2.present || e.2.srcKind != 2 || (Sparse.get {} ls e.2.srcIndex).present

/-- The table's address, and the address of entry `i`. -/
def State.loopTable (s : State) : Nat := s.get LOP.TABLE_LO.ADDR * 64 + s.get LOP.TABLE_HI.ADDR * 2 ^ 32

/-- R299. What is wrong with a command before it takes effect: BAD_DESCRIPTOR. -/
def Desc.loopBad (d : Desc) : Bool :=
  let op := d.opcode
  let counted := op == 1 || op == 4 || op == 5
  bitsOf d.w1 9 7 != 0 || bitsOf d.w1 26 6 != 0 || (!counted && d.loopCount != 0)
  || (if op = 1 then decide (2 ≤ d.eflags) else d.eflags != 0)
  || (op != 4 && (d.w2 != 0 || bitsOf d.w3 0 8 != 0)) || d.w5 != 0
  || (op == 2 && decide (3 ≤ d.w4)) || (op != 2 && d.w4 != 0)

/-- R299, R301. Whether instance and count of a counted command are out of range. -/
def Desc.loopRange (d : Desc) : Bool :=
  [1, 4, 5].contains d.opcode && (d.loopCount == 0 || decide (512 < d.loopInst + d.loopCount))

/-- R301. DETAIL 1 of a command of the kind Commit, and DETAIL 2 of one that acts at once: what is judged as the command is
taken up. -/
def State.loopRefusal (s : State) (d : Started) : Nat :=
  if d.d.opcode ≤ 3 then (if s.get (RNG.RING_CFG.OWNER d.ring) != 0 || d.cls.isNone then 1 else 0)
  else if d.d.loopRange then 2
  else 0

/-- The entries of LOOP_LOAD read from the table. -/
def State.loopRead (s : State) (v : Via) : Nat → Nat → State × Except Err (List (Nat × Loop))
  | _, 0 => (s, .ok [])
  | i, k + 1 =>
    match s.readBuf v (s.loopTable + 80 * i) 80 with
    | (s, _, some e) => (s, .error e)
    | (s, bs, none) => match s.loopRead v (i + 1) k with
      | (s, .ok r) => (s, .ok ((i, { entry := bs }) :: r))
      | (s, .error e) => (s, .error e)

/-- R300. The entry that an instance which is not OFF takes over: it keeps SRC_INT. -/
def keepSrcInt (old new : List Nat) : List Nat := match new with
  | b :: r => (if (old.getD 0 0).testBit 4 then setBit b 4 else clearBit b 4) :: r
  | [] => []

/-- R300. One entry applied. -/
def State.loopApply (s : State) (preset : Bool) (p : Nat × Loop) : State :=
  let l := s.loop p.1
  if !p.2.present then
    let s := (s.loopMode p.1 0)
    s.setLoop p.1 { s.loop p.1 with entry := p.2.entry }
  else s.setLoop p.1 { l with entry := if l.mode = 0 then p.2.entry else keepSrcInt l.entry p.2.entry, transfer := if preset && l.mode != 0 then true else l.transfer }

/-- R300, R301. LOOP_LOAD at its commit. -/
def State.loopLoad (s : State) (d : Started) : State :=
  match s.loopRead (s.via 12 d) d.d.loopInst d.d.loopCount with
  | (s, .error e) => s.finishErr d e
  | (s, .ok es) =>
    let all := es.foldl (fun l e => Sparse.insert l e.1 e.2) s.lop.insts
    let ok := es.all (fun e => !e.2.present || (e.2.fieldsOk && s.loopIndexOk e.2 && s.loopChannelOk e.2))
      && !loopsShare all && loopsLower es
    let moved := es.any fun e =>
      let o := s.loop e.1
      o.mode != 0 && e.2.present && (o.srcKind != e.2.srcKind || o.srcIndex != e.2.srcIndex
        || o.dstKind != e.2.dstKind || o.dstIndex != e.2.dstIndex)
    if !ok then s.finish d 0x60 0 4
    else if moved then s.finish d 0x60 0 5
    else
      let preset := d.d.eflags.testBit 0
      ((es.foldl (fun s e => s.loopApply preset e) s).loopCascadeLost s).finish d 0

/-- R292, R296, R301. SET_MODE at its commit. -/
def State.loopSetMode (s : State) (d : Started) : State :=
  let i := d.d.loopInst
  let l := s.loop i
  let m := d.d.w4
  if !l.present then s.finish d 0x60 0 2
  else if m = 1 ∧ l.manIndex = 0 then s.finish d 0x60 0 3
  else if l.mode = 3 ∧ l.reason = 2 then (s.setLoop i { l with kept := m }).finish d 0
  else ((s.loopMode i m).loopCascadeLost s).finish d 0

/-- R301. RESET_FAULT at its commit. -/
def State.loopReset (s : State) (d : Started) : State :=
  let i := d.d.loopInst
  let l := s.loop i
  if !l.present then s.finish d 0x60 0 2
  else if l.fault = 0 then s.finish d 0x60 0 3
  else ((s.setLoop i { l with fault := 0 }).loopBit LOP.FAULT.INSTANCE i false).finish d 0

/-- A command of the kind Commit takes effect. -/
def State.loopEffect (s : State) (d : Started) : State :=
  if d.d.loopRange then s.finish d 0x60 0 2
  else match d.d.opcode with
  | 1 => s.loopLoad d
  | 2 => s.loopSetMode d
  | _ => s.loopReset d

/-- R299, R307. Whether the commit of a class cycle has completed for the loop engine, which on a trail waits for the lead's
COMMIT. -/
def State.loopsCommitted (s : State) (c : Nat × Nat) : Bool :=
  s.cycleOver c && !s.par.follow.ahead.any fun a => a.1 == c.1 && a.2.1 == c.2

/-- R299. A command of the kind Commit taken up: refused, applied where its commit has completed, or left to wait. -/
def State.loopCommand (s : State) (d : Started) : State :=
  if d.d.loopBad then s.finish d 0x10
  else
    let r := s.loopRefusal d
    if r ≠ 0 then s.finish d 0x60 0 r
    else if (d.cls.map s.loopsCommitted).getD true then s.loopEffect d
    else
      let s := s.accept d
      { s with lop := { s.lop with waits := s.lop.waits ++ [(d.ring, d.idx)] } }

def execLoopLoad (n : Fin 64) (s : State) : Answer := (s.onOffer n [3] 1 State.loopCommand).done
def execSetMode (n : Fin 64) (s : State) : Answer := (s.onOffer n [3] 2 State.loopCommand).done
def execLoopResetFault (n : Fin 64) (s : State) : Answer := (s.onOffer n [3] 3 State.loopCommand).done

/-- The waiting commands of class `k` in ring order. -/
def State.loopWaiting (s : State) (k : Nat) : List Started :=
  (List.range 64).flatMap fun r => s.lop.waits.filterMap fun w =>
    if w.1 ≠ r then none else (s.startedAt w.1 w.2).bind fun d => if d.cls.map (·.1) = some k then some d else none

def State.loopUnwait (s : State) (d : Started) : State :=
  { s with lop := { s.lop with waits := s.lop.waits.filter fun w => !(w.1 == d.ring && w.2 == d.idx) } }

/-- R299. The commit of cycle `c` of class `k` completes. -/
def State.loopCommit (s : State) (k c : Nat) : State :=
  ((s.loopWaiting k).filter fun d => d.cls == some (k, c)).foldl (fun s d => (s.loopUnwait d).loopEffect d) s

/-- R307. The lead's COMMIT of a cycle that the trail has committed ahead of it: the commit takes its place in the stream for
the loop engine. -/
def State.loopAhead (s : State) (k c : Nat) : State :=
  let a := s.par.follow.ahead
  if a.any fun x => x.1 == k && x.2.1 == c then
    ({ s with par := { s.par with follow := { s.par.follow with
      ahead := a.filter fun x => !(x.1 == k && x.2.1 == c) } } }).loopCommit k c
  else s

/-- Every such commit, where no stream goes on. -/
def State.loopCatchUp (s : State) : State := s.par.follow.ahead.foldl (fun s a => s.loopAhead a.1 a.2.1) s

/-- An abandoned cycle has no commit: its commands end ABORTED. -/
def State.loopAbandon (s : State) (k : Nat) : State :=
  (s.loopWaiting k).foldl (fun s d => (s.loopUnwait d).finish d 0x33) s

/-- R302. A STATUS record. -/
def State.loopRecord (s : State) (i : Nat) : List Nat :=
  let l := s.loop i
  leBytes 2 i ++ [l.mode + 4 * (if l.mode = 3 then l.kept else 0) + 16 * (if l.mode = 3 then l.reason else 0),
    b2n l.sat.isSome + 2 * b2n l.limited + 4 * b2n l.transfer + 8 * b2n (l.mode == 3 && l.reason == 2), l.fault, 0, 0, 0]
  ++ leBytes 4 (narrow (l.out.getD 0)) ++ leBytes 4 l.pv ++ leBytes 2 (s.get (LOP.INST_DELAY.LAST i))
  ++ leBytes 2 (s.get (LOP.INST_DELAY.MAX i)) ++ leBytes 4 l.evals ++ leBytes 4 l.replaced
  ++ leBytes 4 (min l.satSpan 0xFFFFFFFF)

/-- R306. One record written whole or not at all: of a record that crosses a 4 KiB line the second part is tried before the first
is written. -/
def State.putWhole (s : State) (v : Via) (a : Nat) (r : List Nat) : State × Option Err :=
  let k := 4096 - a % 4096
  let (t, _, e) := s.writeBuf v (a + k) (r.drop k)
  match decide (k < r.length), e with
  | true, some e => match s.writeBuf v a (r.take k) with
    | (u, _, some e') => (u, some e')
    | _ => (t, some e)
  | _, _ =>
    let (u, _, e) := s.writeBuf v a r
    (u, e)

/-- Records written whole, one after another; answers how many and the error that stopped them (R90). -/
def State.putRecords (s : State) (v : Via) : Nat → List (List Nat) → State × Nat × Option Err
  | _, [] => (s, 0, none)
  | a, r :: rs => match s.putWhole v a r with
    | (s, some e) => (s, 0, some e)
    | (s, none) =>
      let (s, m, e) := s.putRecords v (a + r.length) rs
      (s, m + 1, e)

/-- R302, R306. STATUS. -/
def State.loopStatus (s : State) (d : Started) : State :=
  if d.d.loopBad then s.finish d 0x10
  else if s.loopRefusal d ≠ 0 then s.finish d 0x60 0 (s.loopRefusal d)
  else
    let rs := (List.range d.d.loopCount).map fun j => s.loopRecord (d.d.loopInst + j)
    match s.putRecords (s.via 12 d) d.d.primary rs with
    | (s, m, some e) => s.finishErr d e (32 * m)
    | (s, m, none) => s.finish d 0 (32 * m)

def execLoopStatus (n : Fin 64) (s : State) : Answer := (s.onOffer n [3] 4 State.loopStatus).done

/-- R299. CLEAR_STATS. -/
def State.clearStats (s : State) (d : Started) : State :=
  if d.d.loopBad then s.finish d 0x10
  else if s.loopRefusal d ≠ 0 then s.finish d 0x60 0 (s.loopRefusal d)
  else
    let s := (List.range d.d.loopCount).foldl (fun s j =>
      let i := d.d.loopInst + j
      ((s.setLoop i { s.loop i with evals := 0, replaced := 0 }).set (LOP.INST_DELAY.LAST i) 0).set
        (LOP.INST_DELAY.MAX i) 0) s
    s.finish d 0

def execClearStats (n : Fin 64) (s : State) : Answer := (s.onOffer n [3] 5 State.clearStats).done

/-! ## Enable, run state and domain (R294, R304 to R306, R308) -/

/-- R304. The first failing cause, or 0, of the entries read. -/
def State.loopCause (s : State) (ls : List (Nat × Loop)) : Nat :=
  let ps := ls.filter (·.2.present)
  if ps.any (fun e => !e.2.fieldsOk) then 2
  else if ps.any (fun e => !s.loopIndexOk e.2) || loopsShare ps then 3
  else if !loopsCascadeOk ps then 4
  else if ps.any (fun e => !s.loopChannelOk e.2) then 5
  else 0

def State.loopEnableEnd (s : State) (cause : Nat) : State :=
  ((s.setB LOP.CTRL.ENABLE (cause == 0)).setB LOP.CTRL.CFG_ERR (cause != 0)).set LOP.CTRL.CFG_CAUSE cause

/-- R304. ENABLE set: every entry is read and checked; every PRESENT instance starts in OFF. -/
def State.lopEnable (s : State) : State :=
  if s.bit LOP.CTRL.ENABLE || s.targetFailed [11, 23] then s
  else if !inSramDram s.loopTable (512 * 80) then s.loopEnableEnd 1
  else match s.loopRead { init := 12 } 0 512 with
    | (s, .error _) => s.loopEnableEnd 1
    | (s, .ok es) =>
      let ls := es.filter (·.2.present)
      let c := s.loopCause es
      if c ≠ 0 then s.loopEnableEnd c
      else
        let s := ({ s with lop := { s.lop with insts := ls } }).setLoopQueue []
        ((s.loopEnableEnd 0).loopCounts).loopMasks

def execLopEnable (s : State) : Answer := s.lopEnable.done

def execLopQueueClear (s : State) : Answer := (s.set LOP.QUEUE.PEAK (s.get LOP.QUEUE.DEPTH)).done
def execLopWorstClear (s : State) : Answer := (s.set LOP.WORST.TICKS 0).done

/-- R294, R308. TRANSFER_PENDING set on every AUTO instance. -/
def State.loopTransfer (s : State) : State :=
  { s with lop := { s.lop with insts := s.lop.insts.map fun (e : Nat × Loop) =>
      if e.2.mode = 2 then (e.1, { e.2 with transfer := true }) else e } }

/-- R305. Entry to STOP: samples no longer wait. -/
def State.loopStop (s : State) : State := s.setLoopQueue []

/-- R306. D5 leaves ON: the queue is emptied. At its next start every instance is OFF. -/
def State.loopStart (s : State) : State :=
  ((s.setLoopQueue []).lop.insts.map (·.1)).foldl (fun s i =>
    s.setLoop i { entry := (s.loop i).entry, out := (s.loop i).out }) (s.setLoopQueue []) |>.loopCounts |>.loopMasks

/-- R307. A LOOP record of the lead: the trail evaluates its sample in the lead's mode and compares the output; answers whether
it differs. `tick` is the presence tick's low half. -/
def State.loopFollow (s : State) (r : LoopRec) (tick : Nat) : State × Bool :=
  let i := r.inst
  let l := s.loop i
  if l.mode = 0 then (s, true)
  else
    let start := s
    let s := if l.mode = 3 then (s.loopMode i (r.mode % 4)).post 131 i else s
    let s := s.setLoop i { s.loop i with transfer := r.flags.testBit 2 }
    let t := s.now - (s.now + 2 ^ 32 - tick % 2 ^ 32) % 2 ^ 32
    let (s, w) := s.loopEvaluate i t r.word
    (s.loopCascadeLost start, w != r.out)

end Sys2Proof.Machine
end

