-- ==== Sys2Proof/Machine/Clp.lean ====
section
/-! DEFINITION. Current-loop inputs, the enable of the block, and HART (spec/10_current_loops.md).

Marks (notes/assumptions): DEDUCED 103, 106; PRESUMED 105. -/

namespace Sys2Proof.Machine

/-! ## Conversion and classification (R314 to R316, R336) -/

/-- R336. The trimmed current in units of 10^-6 nA. -/
def State.trimmed (s : State) (n na : Nat) : Int :=
  let g := toSigned 16 (s.get (CLP.CH_TRIM.GAIN n))
  let o := toSigned 16 (s.get (CLP.CH_TRIM.OFFSET n))
  (na : Int) * (1000000 + g) + o * 100 * 1000000

/-- R316. What a current means by itself: 0 NORMAL, 1 below or 2 above the normal band inside the alarm levels, 3 low
alarm, 4 high alarm. -/
def classify (i : Int) : Nat :=
  let ua (k : Int) : Int := k * 1000 * 1000000
  if i ≤ ua 3600 then 3 else if ua 21000 ≤ i then 4 else if i < ua 3800 then 1 else if ua 20500 < i then 2 else 0

/-- R316. The state that results of a class enter. -/
def enters (cls : Nat) : Nat :=
  match cls with
  | 3 => 2
  | 4 => 3
  | 0 => 0
  | _ => 1

/-- R316. Whether a result of a class is one with which an alarm state is left. -/
def leaves (state cls : Nat) : Bool :=
  if state = 2 then cls ∈ [0, 2, 4] else if state = 3 then cls ∈ [0, 1, 3] else false

/-- R316. The state after a result, with ALARM_TIME results in a row to enter or to leave one. An alarm state that has been
left goes to the state that the last result is in by itself, but not to an alarm that is not confirmed. -/
def ClCh.next (c : ClCh) (time : Nat) : Nat :=
  if c.state ≤ 1 then (if time ≤ c.run then c.cand else c.state)
  else if time ≤ c.away then (if 2 ≤ c.cand ∧ c.run < time then 0 else c.cand)
  else c.state

/-- R314. The conversion period in ticks. -/
def clPeriod (rate : Nat) : Nat :=
  match rate with
  | 1 => 50000
  | 2 => 4000000
  | 3 => 3333400
  | _ => 200000

/-- R315. The scaled value of an input, binary32, from its current. -/
def State.clValue (s : State) (n : Nat) (i : Int) : Nat :=
  let ma := f64.ratio i 1000000000000
  let lo := widen (s.get (CLP.CH_RANGE_LO.LO n))
  let hi := widen (s.get (CLP.CH_RANGE_HI.HI n))
  let f := f64.div (f64.sub ma (f64.ofInt 4)) (f64.ofInt 16)
  match s.get (CLP.CH_CFG.CHAR n) with
  | 1 =>
    if f64.lt f (widen (s.get (CLP.CH_CUTOFF.CUTOFF n))) then narrow lo
    else narrow (f64.add lo (f64.mul (f64.sqrt f) (f64.sub hi lo)))
  | 2 => narrow (interpolate ma (s.clch n).table)
  | _ => narrow (f64.add lo (f64.mul f (f64.sub hi lo)))

/-- R316, R339. The state of an input changes: its flags and sources, and a lost sample (R296) where the measurement is the
program's, not a trail's own (R311). -/
def State.clState (s : State) (n new : Nat) (isOpen : Bool) : State :=
  let old := (s.clch n).state
  let s := s.setClch n { s.clch n with state := new, run := 0, away := 0 }
  if new = old then s
  else
    let alarm (s : State) (st : Nat) (on : Bool) : State :=
      s.post 144 (n + 16 * b2n (st == 3) + 32 * b2n (isOpen && st == 2) + 256 * b2n on)
    let s := if old = 1 then s.post 152 n else if 2 ≤ old then alarm s old false else s
    let s := if new = 1 then s.post 152 (n + 256) else if 2 ≤ new then alarm s new true else s
    let s := ((s.setB (CLP.CH_STATUS.ALARM_LOW n) (new == 2)).setB (CLP.CH_STATUS.ALARM_HIGH n) (new == 3)).setB
      (CLP.CH_STATUS.RANGE n) (new == 1)
    if 2 ≤ new && !s.isTrail then s.loopsLost (s.loopsOf 1 n) else s

/-- R314. The end of the conversion period whose result may be ready now: at most 400 ticks ago, and not reported yet. -/
def State.periodEnd (s : State) (n : Nat) : Option Nat :=
  let p := clPeriod (s.get (CLP.CH_CFG.RATE n))
  let e := s.now / p * p
  if e = 0 ∨ e = (s.clch n).taken ∨ e + 400 < s.now then none else some e

/-- R314 to R316. A result of input channel `n`: its mean current in nA, over the range of 25 mA. -/
def State.conversion (s : State) (n na : Nat) : State :=
  match s.periodEnd n with
  | none => s
  | some e =>
  if !s.domOn 6 || !s.bit CLP.CTRL.ENABLE || s.get (CLP.CH_CFG.MODE n) != 1 || !s.car.clReady
     || s.bit (CLP.CH_STATUS.FAILED n) || (s.clch n).front != 0 then s
  else
    let s := s.setClch n { s.clch n with taken := e }
    let i := s.trimmed n (min na 25000000)
    let s := s.set (CLP.CH_CURRENT.MA n) (f32.ratio i 1000000000000)
    let isOpen := decide (i < 500 * 1000 * 1000000)
    if s.get (CLP.CH_CFG.HART_MODE n) = 2 then
      (s.setB (CLP.CH_STATUS.OPEN n) isOpen).set (CLP.CH_STATUS.VALID n) 0
    else
      let c := s.clch n
      let cl := classify i
      let p := enters cl
      let c := { c with cand := p, run := if p = c.cand then c.run + 1 else 1,
                        away := if leaves c.state cl then c.away + 1 else 0 }
      let new := c.next (s.get (CLP.CH_CFG.ALARM_TIME n))
      let s := s.setClch n c
      let s := if new ≠ c.state then s.clState n new isOpen else s
      let st := (s.clch n).state
      let s := (s.setB (CLP.CH_STATUS.OPEN n) (st == 2 && isOpen)).setB (CLP.CH_STATUS.VALID n) (decide (st ≤ 1))
      if st ≤ 1 ∧ cl ≤ 2 then
        let v := s.clValue n i
        (s.loopsOf 1 n).foldl (fun s j => s.loopPresent j v) (s.set (CLP.CH_VALUE.VALUE n) v)
      else s

def execConversionResult (n : Fin 8) (na : Nat) (s : State) : Answer := (s.conversion n na).done

/-- R313. The loop supply has been at its limit for 10 ms, or no longer is. -/
def State.loopShort (s : State) (n : Nat) (short : Bool) : State :=
  if !s.domOn 6 || !s.bit CLP.CTRL.ENABLE || s.get (CLP.CH_CFG.MODE n) != 1 || !s.bit (CLP.CH_CFG.LOOP_POWER n) then s
  else s.clFlag (CLP.CH_STATUS.LOOP_SHORT n) 147 n short

def execClLoopShort (n : Fin 8) (short : Bool) (s : State) : Answer := (s.loopShort n short).done

/-- R24, R333. 50 ms after the presence net reads seated. -/
def State.clSettled (s : State) : State :=
  match s.car.seatedAt with
  | some t => if s.bit SYS.CARRIER_STATUS.SEATED && decide (t + 50 * ticksPerMs ≤ s.now)
    then { s with car := { s.car with clReady := true } } else s
  | none => s

def execClInputSettled (s : State) : Answer := s.clSettled.done

/-! ## The process image (R321) -/

/-- R338. The word of CLP.CH_n_STATUS. -/
def State.clStatusWord (s : State) (n : Nat) : Nat :=
  [CLP.CH_STATUS.VALID n, CLP.CH_STATUS.ALARM_LOW n, CLP.CH_STATUS.ALARM_HIGH n, CLP.CH_STATUS.RANGE n,
   CLP.CH_STATUS.OPEN n, CLP.CH_STATUS.LOOP_SHORT n, CLP.CH_STATUS.COMPLIANCE n, CLP.CH_STATUS.ALARM_NOT_SIGNALLED n,
   CLP.CH_STATUS.FAILED n, CLP.CH_STATUS.HART_BUSY n].foldl (fun a f => a + s.get f * 2 ^ f.lo) 0

/-- R321. The value words of the local input block. A force of kind 2 replaces an input's value in snapshots. -/
def State.clpBlock (s : State) (force : Bool) : List Nat :=
  let value (n : Nat) : Nat :=
    match (if force && s.get (CLP.CH_CFG.MODE n) == 1 then s.forced 2 n else none) with
    | some v => v
    | none => if s.get (CLP.CH_CFG.MODE n) = 2 then s.clCommand n else s.get (CLP.CH_VALUE.VALUE n)
  (List.range 8).map value ++ (List.range 8).map s.clStatusWord
    ++ (List.range 8).map (fun n => s.get (CLP.CH_CURRENT.MA n)) ++ List.replicate 8 0

/-! ## The enable (R311, R315, R324, R337, R483) -/

/-- R315. A table's 32 points. -/
def tablePoints (bs : List Nat) : List (Nat × Nat) := (List.range 32).map fun k => (leAt bs (8 * k) 4, leAt bs (8 * k + 4) 4)

/-- Patterns that increase strictly. -/
def increasing : List Nat → Bool
  | [] => true
  | [a] => f32.finite a
  | a :: b :: r => f32.finite a && f32.lt a b && increasing (b :: r)

def State.clTable (s : State) (n : Nat) : Nat := s.get CLP.TABLE_LO.ADDR * 8 + s.get CLP.TABLE_HI.ADDR * 2 ^ 32 + 256 * n

/-- R324. Cause 6 of channel `n`. -/
def State.tableOk (s : State) (n : Nat) : Bool :=
  s.get (CLP.CH_CFG.CHAR n) != 2 ||
    (let ps := tablePoints (s.bytes (s.clTable n) 256)
     inSramDram (s.clTable n) 256 && increasing (ps.map (·.1))
       && (s.get (CLP.CH_CFG.MODE n) != 2 || increasing (ps.map (·.2))))

/-- Whether input pair-words [base, base + n) touch the input area of a PRESENT station of an enabled crossing. -/
def State.touchesStation (s : State) (base n : Nat) : Bool :=
  s.crs.stations.any fun p => overlaps base n p.2.inBase p.2.inWords

/-- R324. The first failing cause, or 0. -/
def State.clpCause (s : State) : Nat :=
  let base := s.get CLP.IMAGE.IN_BASE
  let chans := List.range 8
  let cfg4 (n : Nat) : Bool :=
    let out := s.get (CLP.CH_CFG.MODE n) == 2
    s.get (CLP.CH_CFG.MODE n) == 3 || s.get (CLP.CH_CFG.CHAR n) == 3 || s.get (CLP.CH_CFG.HART_MODE n) == 3
    || (out && (s.get (CLP.CH_CFG.CHAR n) == 1 || s.bit (CLP.CH_CFG.LOOP_POWER n) || s.get (CLP.CH_CFG.HART_MODE n) == 2))
    || !f32.lt (s.get (CLP.CH_RANGE_LO.LO n)) (s.get (CLP.CH_RANGE_HI.HI n))
  if base < 128 ∨ 65504 < base then 1
  else if s.get CLP.IMAGE.OUT_BASE % 16 ≠ 0 then 2
  else if (s.bit FIO.CTRL.ENABLE && overlaps base 32 (s.get FIO.IMAGE.IN_BASE) 64) || s.touchesStation base 32 then 3
  else if chans.any cfg4 then 4
  else if chans.any (fun n => s.get (CLP.CH_CFG.MODE n) == 1 && !s.car.bypass.testBit n) then 5
  else if chans.any (fun n => !s.tableOk n) then 6
  else if chans.any (fun n => s.get (CLP.CH_CFG.HART_MODE n) != 0 && s.get (CLP.CH_CFG.RATE n) == 1) then 7
  else 0

/-- R483. The front end of an unused channel, switched off, is powered up as the enable puts the channel in use. -/
def State.frontUp (s : State) (n : Nat) : State :=
  let off := s.get PWR.D6_CHANNELS_OFF.CHANNELS
  let used := s.get (CLP.CH_CFG.MODE n) != 0 || s.bit (CLP.CH_CFG.LOOP_POWER n)
  if !used || !off.testBit n then s
  else (s.set PWR.D6_CHANNELS_OFF.CHANNELS (clearBit off n)).setClch n { s.clch n with front := 2 }

/-- R324. ENABLE set. -/
def State.clpEnable (s : State) : State :=
  if s.bit CLP.CTRL.ENABLE || s.targetFailed [14] then s
  else
    let c := s.clpCause
    if c ≠ 0 then ((s.set CLP.CTRL.ENABLE 0).set CLP.CTRL.CFG_ERR 1).set CLP.CTRL.CFG_CAUSE c
    else
      let s := ((s.set CLP.CTRL.ENABLE 1).set CLP.CTRL.CFG_ERR 0).set CLP.CTRL.CFG_CAUSE 0
      let s := (List.range 8).foldl (fun s n =>
        let t := if s.get (CLP.CH_CFG.CHAR n) = 2 then tablePoints (s.bytes (s.clTable n) 256) else []
        let s := [CLP.CH_STATUS.VALID n, CLP.CH_STATUS.ALARM_LOW n, CLP.CH_STATUS.ALARM_HIGH n, CLP.CH_STATUS.RANGE n,
          CLP.CH_STATUS.OPEN n].foldl (fun s f => s.set f 0) s
        (s.setClch n { front := (s.clch n).front, table := t }).frontUp n) s
      s.clRefresh

def execClpEnable (s : State) : Answer := s.clpEnable.done

/-- R337. The reference check of channel `n`. -/
def State.reference (s : State) (n : Nat) (ok : Bool) : State :=
  if ok then s.set (CLP.CH_STATUS.FAILED n) 0
  else ((s.set (CLP.CH_STATUS.FAILED n) 1).set (CLP.CH_STATUS.VALID n) 0).post 148 n

/-- R483. The front end of channel `n` is ready, and the channel checks its reference. -/
def State.frontReady (s : State) (n : Nat) (ok : Bool) : State :=
  if !s.domOn 6 || (s.clch n).front != 2 then s
  else (s.setClch n { s.clch n with front := 0 }).reference n ok

def execFrontEndReady (n : Fin 8) (ok : Bool) (s : State) : Answer := (s.frontReady n ok).done

/-- R337. A start of D6: every channel of an enabled block converts its reference; bit n of `bad` says that channel n
fails. -/
def State.clpStart (s : State) (bad : Nat) : State :=
  if !s.bit CLP.CTRL.ENABLE then s
  else (List.range 8).foldl (fun s n => if s.get (CLP.CH_CFG.MODE n) = 0 then s else s.reference n (!bad.testBit n)) s

/-- R335. D6 leaves ON: inputs stop converting; values hold, with VALID 0. -/
def State.clpDown (s : State) : State :=
  (List.range 8).foldl (fun s n => (s.set (CLP.CH_STATUS.VALID n) 0).set (CLP.CH_STATUS.HART_BUSY n) 0)
    { s with clp := { s.clp with jobs := [] } }

/-! ## HART (R325 to R332) -/

/-- A frame of the primary master: preambles, delimiter, address, command, byte count, data, check byte
(notes/assumptions: the layout is that of the HART data link, which the manual names). -/
def hartFrame (bs : List Nat) : List Nat :=
  let long := (bs.getD 0 0).testBit 0
  let k := bs.getD 3 0
  let pre := if bs.getD 4 0 = 0 then 5 else bs.getD 4 0
  let addr := if long then (bs.getD 8 0 % 64 + 128) :: (bs.drop 9).take 4 else [128 + bs.getD 1 0]
  let body := [if long then 0x82 else 0x02] ++ addr ++ [bs.getD 2 0, k] ++ (bs.drop 16).take k
  List.replicate pre 0xFF ++ body ++ [body.foldl Nat.xor 0]

/-- R329, R331. BAD_DESCRIPTOR by the request block. -/
def hartBad (bs : List Nat) : Bool :=
  let long := (bs.getD 0 0).testBit 0
  decide (2 ≤ bs.getD 0 0) || (long && bs.getD 1 0 != 0) || decide (250 < bs.getD 3 0)
  || (bs.getD 4 0 != 0 && (decide (bs.getD 4 0 < 5) || decide (20 < bs.getD 4 0))) || decide (3 < bs.getD 5 0)
  || leAt bs 6 2 != 0 || (!long && leAt bs 8 5 != 0) || leAt bs 0xD 3 != 0 || bs.length != 16 + bs.getD 3 0

/-- R327. Whether the ring's owner may drive the channel: whether the protection table lets it write the channel's
registers. -/
def State.mayDrive (s : State) (owner ch : Nat) : Bool :=
  (s.check { init := owner } .write (0x10110100 + 0x40 * ch) 4).isNone

def State.hartJob (s : State) (ch : Nat) : Option HartJob := Sparse.find s.clp.jobs ch

def State.setHart (s : State) (ch : Nat) (j : Option HartJob) : State :=
  (match j with
    | some j => { s with clp := { s.clp with jobs := Sparse.insert s.clp.jobs ch j } }
    | none => { s with clp := { s.clp with jobs := Sparse.erase s.clp.jobs ch } }).setB
      (CLP.CH_STATUS.HART_BUSY ch) j.isSome

/-- R331. REFUSED with DETAIL 1. -/
def State.hartBarred (s : State) (d : Started) : Bool :=
  !s.isDriving || !s.mayDrive (s.get (RNG.RING_CFG.OWNER d.ring)) d.d.eflags

/-- R328, R331. HART_REQUEST, where its channel is free. -/
def State.hartRequest (s : State) (d : Started) : State :=
  let ch := d.d.eflags
  if (s.hartJob ch).isSome then s
  else if d.d.w1 < 16 || decide (266 < d.d.w1) || bitsOf d.d.w5 8 24 != 0 then s.finish d 0x10
  else match s.readBuf (s.via 8 d) d.d.primary d.d.w1 with
    | (s, _, some e) => s.finish d e.status
    | (s, bs, none) =>
      let mode := s.get (CLP.CH_CFG.HART_MODE ch)
      let poll := bs.getD 1 0
      let long := (bs.getD 0 0).testBit 0
      if hartBad bs then s.finish d 0x10
      else if s.hartBarred d then s.finish d 0x60 0 1
      else if mode = 0 || (!long && mode = 1 && poll != 0) || (!long && mode = 2 && (poll = 0 || 15 < poll))
          || (s.get (CLP.CH_CFG.MODE ch) = 2 && !s.bit SYS.CARRIER_STATUS.DRIVERS_ENABLED) then s.finish d 0x60 0 2
      else
        let f := hartFrame bs
        let j : HartJob := { ring := d.ring, idx := d.idx, listen := false, frame := f, sent := 1,
                             allow := bs.getD 5 0 + 1, error := 1 }
        ((s.accept d).setHart ch (some j)).send (.hart ch f)

def execHartRequest (n : Fin 64) (s : State) : Answer := (s.onOffer n [4] 1 State.hartRequest).done

/-- R328, R331. HART_LISTEN. -/
def State.hartListen (s : State) (d : Started) : State :=
  let ch := d.d.eflags
  if (s.hartJob ch).isSome then s
  else if d.d.w1 = 0 || decide (60000 < d.d.w1) || d.d.primary != 0 || bitsOf d.d.w5 8 24 != 0 then s.finish d 0x10
  else if s.hartBarred d then s.finish d 0x60 0 1
  else if s.get (CLP.CH_CFG.HART_MODE ch) = 0 then s.finish d 0x60 0 2
  else
    let j : HartJob := { ring := d.ring, idx := d.idx, listen := true, error := 1, due := s.now + d.d.w1 * ticksPerMs }
    (s.accept d).setHart ch (some j)

def execHartListen (n : Fin 64) (s : State) : Answer := (s.onOffer n [4] 2 State.hartListen).done

/-- R330. The response record of a frame: COMMAND, BYTE_COUNT, status bytes and data. -/
def hartRecord (body : List Nat) (attempts kind tick : Nat) : List Nat :=
  body.take 4 ++ [attempts, kind, 0, 0] ++ leBytes 8 tick ++ (body.drop 4).take (body.getD 1 0 - 2)

/-- R331. A valid frame ends the job of its channel. -/
def State.hartDone (s : State) (ch : Nat) (j : HartJob) (body : List Nat) : State :=
  match s.startedAt j.ring j.idx with
  | none => s.setHart ch none
  | some d =>
    let r := hartRecord body j.sent (b2n j.listen) s.now
    match (s.setHart ch none).writeBuf (s.via 8 d) d.d.secondary r with
    | (s, m, some e) => s.finish d e.status m
    | (s, m, none) => s.finish d 0 m

/-- R327, R331. The DETAIL with which a descriptor may not transmit on its channel, or 0. -/
def State.hartShut (s : State) (d : Started) : Nat :=
  if s.hartBarred d then 1
  else if s.get (CLP.CH_CFG.MODE d.d.eflags) = 2 && !s.bit SYS.CARRIER_STATUS.DRIVERS_ENABLED then 2 else 0

/-- R327. The frame of a request sent once more, where the unit may still transmit. -/
def State.hartAgain (s : State) (ch : Nat) (j : HartJob) : State :=
  match s.startedAt j.ring j.idx with
  | none => s.setHart ch none
  | some d =>
    if s.hartShut d ≠ 0 then (s.setHart ch none).finish d 0x60 0 (s.hartShut d)
    else (s.setHart ch (some { j with sent := j.sent + 1, error := 1 })).send (.hart ch j.frame)

/-- R331. A frame received on channel `ch`: `err` its errors with the codes of DETAIL, `body` COMMAND, BYTE_COUNT, the
two status bytes and the data. -/
def State.hartFrameIn (s : State) (ch err : Nat) (burst : Bool) (body : List Nat) : State :=
  if !s.domOn 6 || s.get (CLP.CH_CFG.HART_MODE ch) == 0 then s
  else if err ≠ 0 then
    let s := s.bump (CLP.CH_HART_STATS.FRAMES_BAD ch)
    match s.hartJob ch with
    | none => s
    | some j =>
      if j.listen || burst then s.setHart ch (some { j with error := err })
      else if j.sent < j.allow then s.hartAgain ch j
      else s.setHart ch (some { j with error := err })
  else
    let s := s.bump (CLP.CH_HART_STATS.FRAMES_OK ch)
    match s.hartJob ch with
    | some j => if j.listen == burst then s.hartDone ch j body else if burst then s.post 150 ch else s
    | none => if burst then s.post 150 ch else s

def execHartFrameReceived (ch : Fin 8) (err : Fin 16) (burst : Bool) (body : List Nat) (s : State) : Answer :=
  (s.hartFrameIn ch err burst body).done

/-- R331. The time for a reply, or of a HART_LISTEN, has run out: another attempt, or TIMEOUT and source 151. -/
def State.hartTimeout (s : State) (ch : Nat) : State :=
  match s.hartJob ch with
  | none => s
  | some j =>
    if j.listen && decide (s.now < j.due) then s
    else if !j.listen && decide (j.sent < j.allow) then s.hartAgain ch j
    else ((s.setHart ch none).finishAt (some (j.ring, j.idx)) 0x30 0 j.error).post 151 (ch + 256 * j.error)

def execHartTimeout (ch : Fin 8) (s : State) : Answer := (s.hartTimeout ch).done

end Sys2Proof.Machine
end

