-- ==== Sys2Proof/Machine/Profile.lean ====
section
/-! DEFINITION. The profile generator of the motion engine (spec/08_motion.md R269, R270, R272, R273): the time-optimal
seven-segment jerk-limited profile from any velocity and acceleration to a velocity or to rest at a position, in exact
rational arithmetic.

Marks (notes/assumptions): DEDUCED 100. -/

namespace Sys2Proof.Machine

/-- R269. A segment of constant jerk: increments per second cubed, seconds. -/
structure Segment where
  jerk : Rat
  time : Rat

/-- Position (relative to where a profile begins), velocity and acceleration. -/
structure Motion where
  x : Rat
  v : Rat
  a : Rat

/-- R269. The limits that a profile keeps. -/
structure Limits where
  vmax : Rat
  amax : Rat
  jmax : Rat

def ratAbs (q : Rat) : Rat := if q < 0 then -q else q

/-- The value of a finite binary64 pattern. -/
def rat64 (p : Nat) : Rat := match f64.value p with
  | .fin n m e => (if n then -1 else 1) * m * (if 0 ≤ e then ((2 ^ e.toNat : Nat) : Rat) else mkRat 1 (2 ^ (-e).toNat))
  | _ => 0

/-- A rational number rounded to binary64. -/
def round64 (q : Rat) : Nat := f64.ratio q.num q.den

/-- A square root, rounded down to 64 digits or more. -/
def sqrtDown (q : Rat) : Rat :=
  let n := q.num.toNat
  let k := 65 + (q.den.log2 + 1 - n.log2) / 2
  let r := n * 4 ^ k / q.den
  mkRat (isqrt (r.log2 + 1) r) (2 ^ k)

/-- Constant jerk `j` for the time `t`. -/
def Motion.after (m : Motion) (j t : Rat) : Motion :=
  ⟨m.x + m.v * t + m.a * t * t / 2 + j * t * t * t / 6, m.v + m.a * t + j * t * t / 2, m.a + j * t⟩

/-- The end of a list of segments. -/
def Motion.run (m : Motion) (l : List Segment) : Motion := l.foldl (fun m g => m.after g.jerk g.time) m

/-- The motion at a time; what the last segment leaves goes on. -/
def Motion.at (m : Motion) : List Segment → Rat → Motion
  | [], t => m.after 0 t
  | g :: r, t => if t ≤ g.time then m.after g.jerk t else (m.after g.jerk g.time).at r (t - g.time)

def duration (l : List Segment) : Rat := l.foldl (fun t g => t + g.time) 0

/-- R269, R270. Segments that bring an acceleration above AMAX within it, at JMAX. -/
def Motion.within (m : Motion) (l : Limits) : List Segment :=
  if ratAbs m.a ≤ l.amax then []
  else [⟨if m.a < 0 then l.jmax else -l.jmax, (ratAbs m.a - l.amax) / l.jmax⟩]

/-- R269. Segments to the velocity `vt` at acceleration 0: within AMAX first, then jerk towards a peak acceleration,
constant acceleration, and the mirror of the jerk. -/
def Motion.toVel (m : Motion) (l : Limits) (vt : Rat) : List Segment :=
  let pre := m.within l
  let m := m.run pre
  let dir : Rat := if vt < m.v + m.a * ratAbs m.a / (2 * l.jmax) then -1 else 1
  let a := dir * m.a
  let dv := dir * (vt - m.v)
  let sq := l.jmax * dv + a * a / 2
  let low := if a < 0 then 0 else a
  let root := sqrtDown sq
  let peak := if l.amax * l.amax ≤ sq then l.amax else if root < low then low else root
  let flat := if peak = 0 then 0 else (dv - (2 * peak * peak - a * a) / (2 * l.jmax)) / peak
  pre ++ [⟨dir * l.jmax, (peak - a) / l.jmax⟩, ⟨0, flat⟩, ⟨-(dir * l.jmax), peak / l.jmax⟩]

/-- Segments to the cruise velocity `vc` and from it to rest. -/
def Motion.via (m : Motion) (l : Limits) (vc : Rat) : List Segment × List Segment :=
  let p := m.toVel l vc
  (p, (m.run p).toVel l 0)

/-- Where they end. -/
def Motion.reach (m : Motion) (l : Limits) (vc : Rat) : Rat :=
  let p := m.via l vc
  ((m.run p.1).run p.2).x

/-- The same with a constant-velocity segment that covers what is left of the distance `d`. -/
def Motion.cruise (m : Motion) (l : Limits) (d vc : Rat) : List Segment :=
  let p := m.via l vc
  p.1 ++ [⟨0, (d - m.reach l vc) / vc⟩] ++ p.2

/-- Cruise velocity number `g` of the grid on which one is sought. -/
def Limits.grid (l : Limits) (g : Int) : Rat := l.vmax * mkRat g (2 ^ 60)

/-- The greatest `g` from `lo` on and below `hi` that does not pass the distance `d`. -/
def Motion.seek (m : Motion) (l : Limits) (d : Rat) : Nat → Int → Int → Int
  | 0, lo, _ => lo
  | n + 1, lo, hi =>
    if hi ≤ lo + 1 then lo
    else
      let g := (lo + hi) / 2
      if m.reach l (l.grid g) ≤ d then m.seek l d n g hi else m.seek l d n lo g

/-- R269. Segments to rest at the distance `d`. Where it is too near, the cruise velocity found has the other sign: the
index brakes, reverses and comes from the other side. -/
def Motion.toRest (m : Motion) (l : Limits) (d : Rat) : List Segment :=
  if m.reach l l.vmax ≤ d then m.cruise l d l.vmax
  else if d ≤ m.reach l (-l.vmax) then m.cruise l d (-l.vmax)
  else
    let g := m.seek l d 62 (-(2 ^ 60)) (2 ^ 60)
    if 0 < g then m.cruise l d (l.grid g)
    else if g + 1 < 0 then m.cruise l d (l.grid (g + 1))
    else (m.via l 0).1 ++ (m.via l 0).2

/-- R269. Whether rest at the distance `d` needs a reversal: the present speed carries the index past it. -/
def Motion.overshoots (m : Motion) (l : Limits) (d : Rat) : Bool :=
  let x := (m.run (m.toVel l 0)).x
  (decide (0 ≤ d) && decide (d < x)) || (decide (x < d) && decide (d ≤ 0))

/-- Increments as a rational number, from units of 2^-32. -/
def increments (p : Int) : Rat := mkRat p (2 ^ 32)

/-- Where a plan began. -/
def Start.motion (b : Start) : Motion := ⟨0, rat64 b.vel, rat64 b.acc⟩

/-- R269. The segments of a plan from its start. -/
def Start.segments (b : Start) (p : Plan) (l : Limits) : List Segment :=
  match p with
  | .rest => []
  | .goal t => b.motion.toRest l (increments (t - b.pos))
  | .speed v => b.motion.toVel l (rat64 v)
  | .stop => b.motion.toVel l 0

/-- R255. A number that the engine's own binary64 arithmetic leaves open in its last place: the magnitude of a pattern
moved by -1, 0 or 1, and not past `cap`. -/
def lastPlace (k : Int) (cap x : Nat) : Nat :=
  let m : Nat := x % 2 ^ 63
  if m = 0 then x
  else
    let n : Nat := ((m : Int) + (k % 3 - 1)).toNat
    (if max m cap < n then m else n) + (x - m)

/-- R269. The plan sampled at its present time: position, velocity, acceleration, and whether it has ended. -/
def Start.sample (b : Start) (p : Plan) (l : Limits) : Int × Nat × Nat × Bool :=
  let t := mkRat b.ticks 200000000
  let g := b.segments p l
  let m := b.motion.at g t
  let pos := b.pos + roundAway (m.x.num * 2 ^ 32) m.x.den
  let ended := decide (duration g ≤ t)
  match p, ended with
  | .goal target, true => (target, 0, 0, true)
  | _, true => (pos, round64 m.v, 0, true)
  | _, false =>
    let dev (k : Int) : Int := Config.profileDev [k, b.pos, b.vel, b.acc, b.ticks, pos]
    (pos + (dev 0 % 3 - 1), lastPlace (dev 1) (round64 l.vmax) (round64 m.v),
      lastPlace (dev 2) (round64 l.amax) (round64 m.a), false)

end Sys2Proof.Machine
end

