-- ==== Sys2Proof/Machine/Mot.lean ====
section
/-! DEFINITION. The motion engine: axes, line shafts, gears and cams (spec/08_motion.md). Positions are integers in
units of 2^-32 increment; velocities, accelerations and jerks binary64 patterns (R255).

Marks (notes/assumptions): DEDUCED 101, 102. -/

namespace Sys2Proof.Machine

/-! ## Entries (R263) -/

def Axis.present (a : Axis) : Bool := (a.entry.getD 0 0).testBit 0
def Axis.rotary (a : Axis) : Bool := (a.entry.getD 0 0).testBit 1
def Axis.loss (a : Axis) : Nat := a.entry.getD 1 0
def Axis.node (a : Axis) : Nat := leAt a.entry 2 2
def Axis.spIndex (a : Axis) : Nat := leAt a.entry 4 2
def Axis.actIndex (a : Axis) : Nat := leAt a.entry 6 2

/-- The binary32 field at `off`, and as binary64. -/
def Axis.f (a : Axis) (off : Nat) : Nat := leAt a.entry off 4
def Axis.wide (a : Axis) (off : Nat) : Nat := widen (a.f off)

def Axis.posMin (a : Axis) : Int := toSigned 64 (leAt a.entry 0x20 8)
def Axis.posMax (a : Axis) : Int := toSigned 64 (leAt a.entry 0x28 8)

/-- R256. The position as it is reported: modulo MODULO on a rotary index. -/
def Axis.report (a : Axis) : Int := if a.rotary && decide (0 < a.posMax) then a.pos % a.posMax else a.pos

/-- R273. The velocity and the acceleration with a running shift's. -/
def Axis.velNow (a : Axis) : Nat := match a.shift with
  | some h => f64.add a.vel h.vel
  | none => a.vel
def Axis.accNow (a : Axis) : Nat := match a.shift with
  | some h => f64.add a.acc h.acc
  | none => a.acc

/-- R269. The limits of profiles, and of stops. -/
def Axis.limits (a : Axis) (stop : Bool) : Limits :=
  ⟨rat64 (a.wide 8), rat64 (a.wide (if stop then 0x14 else 0xC)), rat64 (a.wide (if stop then 0x18 else 0x10))⟩

/-- R268, R269. A plan that starts from the present position, velocity and acceleration; what the index followed is
dropped, and a shift with it. -/
def Axis.begin (a : Axis) (p : Plan) : Axis :=
  { a with plan := p, start := ⟨a.pos, a.velNow, a.accNow, 0⟩, vel := a.velNow, acc := a.accNow,
           couple := none, shift := none, switch := none }

/-- R273. What is left of a shift, planned again from its present velocity and acceleration. -/
def Shift.replan (h : Shift) : Shift := { h with left := h.left - h.done, done := 0, start := ⟨0, h.vel, h.acc, 0⟩ }

/-- R270. The profile and the shift planned again from the present state. -/
def Axis.replan (a : Axis) : Axis :=
  { a with start := ⟨a.pos, a.vel, a.acc, 0⟩, shift := a.shift.map Shift.replan }

def State.axis (s : State) (i : Nat) : Axis := Sparse.get {} s.mot.axes i
def State.setAxis (s : State) (i : Nat) (a : Axis) : State :=
  { s with mot := { s.mot with axes := Sparse.put {} s.mot.axes i a } }

/-- R281. AXES, FAULT_w and the shafts' registers follow the indices. -/
def State.motRegs (s : State) : State :=
  let axes := s.mot.axes.filter fun e => decide (e.1 < 512)
  let bad := (axes.filter fun e => e.2.failing || e.2.st == 6).map (·.1)
  let s := (s.set MOT.AXES.PRESENT (axes.filter (·.2.present)).length).set MOT.AXES.FAULTED bad.length
  let s := (List.range 16).foldl (fun s w =>
    s.set (MOT.FAULT.AXIS w) (packBits 32 fun b => bad.contains (32 * w + b))) s
  (List.range 8).foldl (fun s j =>
    let a := s.axis (512 + j)
    ((s.set2 (MOT.SHAFT_POS_LO.POS j) (MOT.SHAFT_POS_HI.POS j) (ofSigned 64 a.report)).set
      (MOT.SHAFT_VEL.VEL j) (narrow a.velNow)).set (MOT.SHAFT_STATE.STATE j) a.st) s

/-! ## Inputs of a pass (R258, R274) -/

/-- A 32.32 position in the class-0 snapshot: none where its station has no class-0 version or is not valid, or where a
pair-word of it was invalid. -/
def State.snapPos (s : State) (i : Nat) : Option Int :=
  let c := s.cls 0
  match s.stationAt i with
  | some (node, e) =>
    if e.mask.testBit 0 && s.validIn 0 node && !c.bad.contains i && !c.bad.contains (i + 1) then
      some (toSigned 64 (Sparse.get 0 c.snap i + Sparse.get 0 c.snap (i + 1) * 2 ^ 32))
    else none
  | none => none

/-- The same position in a snapshot before. -/
def oldPos (snap : List (Nat × Nat)) (i : Nat) : Int :=
  toSigned 64 (Sparse.get 0 snap i + Sparse.get 0 snap (i + 1) * 2 ^ 32)

/-- R274. The word of FIO counter `c` in the snapshot. -/
def counterIn (s : State) (snap : List (Nat × Nat)) (c : Nat) : Nat := Sparse.get 0 snap (s.get FIO.IMAGE.IN_BASE + 6 + c)

/-- Velocity of a change of position over `n` base cycles, in increments per second. -/
def State.rate (s : State) (d : Int) (n : Nat) : Nat := f64.ratio (d * 200000000) (s.p0 * max n 1) (-32)

/-- Base cycles since the last pass. -/
def State.passGap (s : State) : Nat := match s.mot.last with
  | some c => (s.cls 0).cycle - c
  | none => 1

/-- R274. The master position for cycle k+2, and the master's velocity; none is MASTER_LOST. -/
def State.masterAt (s : State) (kind m : Nat) : Option (Int × Nat) :=
  let lead := s.get MOT.EXTERNAL_LEAD.CYCLES
  match kind with
  | 0 => some ((s.axis (512 + m)).pos, (s.axis (512 + m)).velNow)
  | 1 => some ((s.axis m).pos, (s.axis m).velNow)
  | 2 => (s.snapPos m).map fun v =>
    let d := v - oldPos s.mot.prev m
    (v + lead * d, s.rate d s.passGap)
  | _ =>
    let d := diff32 (counterIn s (s.cls 0).snap m) (counterIn s s.mot.prev m) * 2 ^ 32
    some (Sparse.get 0 s.mot.counts m * 2 ^ 32 + lead * d, s.rate d s.passGap)

/-- R271, R278. The master position of the previous pass, before this pass has advanced the shafts and axes. -/
def State.masterBefore (s : State) (kind m : Nat) : Int :=
  let lead := s.get MOT.EXTERNAL_LEAD.CYCLES
  match kind with
  | 0 => (s.axis (512 + m)).pos
  | 1 => (s.axis m).pos
  | 2 => oldPos s.mot.prev m + lead * (oldPos s.mot.prev m - oldPos s.mot.prev2 m)
  | _ =>
    let d := diff32 (counterIn s (s.cls 0).snap m) (counterIn s s.mot.prev m)
    let d2 := diff32 (counterIn s s.mot.prev m) (counterIn s s.mot.prev2 m)
    (Sparse.get 0 s.mot.counts m - d + lead * d2) * 2 ^ 32

/-- AMAX times P_0, P_0 in seconds. -/
def State.velStep (s : State) (a : Axis) : Nat := f64.mul (a.wide 0xC) (f64.ratio s.p0 200000000)

/-- Whether two velocities differ by no more than AMAX times P_0. -/
def State.velNear (s : State) (a : Axis) (v w : Nat) : Bool :=
  !(FV.ltB (f64.value (s.velStep a)) (match f64.value (f64.sub v w) with
    | .fin _ m e => .fin false m e
    | x => x))

/-- NUM / DEN times a velocity. -/
def gearVel (c : Couple) (v : Nat) : Nat := f64.div (f64.mul (f64.ofInt c.num) v) (f64.ofInt c.den)

/-! ## Profiles (R269, R270, R273) -/

/-- R269. The plan of an index `ticks` further on, and whether it has ended. -/
def Axis.step (a : Axis) (ticks : Nat) : Axis × Bool :=
  let b := { a.start with ticks := a.start.ticks + ticks }
  let (p, v, c, ended) := b.sample a.plan (a.limits (a.plan == .stop))
  ({ a with pos := p, vel := v, acc := c, start := b }, ended)

/-- R269. Whether the plan of an index overshoots its target. -/
def Axis.overshoots (a : Axis) : Bool :=
  match a.plan with
  | .goal t => a.start.motion.overshoots (a.limits false) (increments (t - a.start.pos))
  | _ => false

/-- R273. The step of a phase shift, what remains of it, and whether it has ended. -/
def Axis.shiftStep (a : Axis) (ticks : Nat) : Int × Option Shift × Bool :=
  match a.shift with
  | none => (0, none, false)
  | some h =>
    let b := { h.start with ticks := h.start.ticks + ticks }
    let (p, v, c, ended) := b.sample (.goal h.left) (a.limits false)
    (p - h.done, if ended then none else some { h with start := b, done := p, vel := v, acc := c }, ended)

/-- R272. A velocity profile towards `v`, planned at this pass, `ticks` further on. -/
def Axis.approach (a : Axis) (v ticks : Nat) : Axis :=
  let cap := a.wide 8
  let plan := Plan.speed (f64.clamp (cap + 2 ^ 63) cap v)
  ({ a with plan := plan, start := ⟨a.pos, a.vel, a.acc, 0⟩ }.step ticks).1

/-! ## Cam tables (R275 to R277) -/

def State.camDir (s : State) (t : Nat) : Nat :=
  s.get MOT.CAM_DIR_LO.ADDR * 16 + s.get MOT.CAM_DIR_HI.ADDR * 2 ^ 32 + 16 * t

/-- A cam point: MASTER, SLAVE and SLOPE. -/
structure CamPoint where
  x : Int
  y : Int
  m : Nat
  deriving DecidableEq, Repr

def camPoints (bs : List Nat) : Nat → List CamPoint
  | 0 => []
  | k + 1 => ⟨toSigned 64 (leAt bs 0 8), toSigned 64 (leAt bs 8 8), leAt bs 16 8⟩ :: camPoints (bs.drop 24) k

/-- The points of a table as memory holds them, and whether it is periodic; none where its directory entry is
uncorrectable. -/
def State.cam (s : State) (t : Nat) : Option (Bool × List CamPoint) :=
  let d := s.bytes (s.camDir t) 16
  let n := leAt d 8 2
  if (unitsOf (s.camDir t) 16).any s.unitBad then none
  else some ((d.getD 0xA 0).testBit 0, camPoints (s.bytes (leAt d 0 5) (24 * n)) n)

/-- R279. Whether point `i` of a table can be read. -/
def State.camGood (s : State) (t i : Nat) : Bool :=
  !(unitsOf (leAt (s.bytes (s.camDir t) 16) 0 5 + 24 * i) 24).any s.unitBad

/-- An exact binary64 value as a numerator over 2^1074. -/
def slopeNum (m : Nat) : Option Int := match f64.value m with
  | .fin n k e => some (scaledTo (-1074) n k e)
  | _ => none

/-- R277. One segment at `a` past its start: y - y_i in units of 2^-32 increment, and dy. -/
def camSegment (p q : CamPoint) (a : Int) : Option (Int × Nat) :=
  match slopeNum p.m, slopeNum q.m with
  | some m0, some m1 =>
    let h := q.x - p.x
    let d := q.y - p.y
    let one : Int := 2 ^ 1074
    let num := (3 * a ^ 2 * h - 2 * a ^ 3) * d * one + (a ^ 3 - 2 * a ^ 2 * h + a * h ^ 2) * h * m0
      + (a ^ 3 - a ^ 2 * h) * h * m1
    let dy := (6 * a * h - 6 * a ^ 2) * d * one + (3 * a ^ 2 - 4 * a * h + h ^ 2) * h * m0
      + (3 * a ^ 2 - 2 * a * h) * h * m1
    let h3 := (h ^ 3).toNat
    if h3 = 0 then none else some (roundAway num (h3 * 2 ^ 1074), f64.ratio dy h3 (-1074))
  | _, _ => none

/-- The segment in which `u` lies (0 <= u <= L): its number and its points. -/
def camFind (u : Int) : Nat → List CamPoint → Option (Nat × CamPoint × CamPoint)
  | i, p :: q :: r => if u < q.x || r = [] then some (i, p, q) else camFind u (i + 1) (q :: r)
  | _, _ => none

/-- What a cam gives at a master coordinate: the slave position, dy, the running number of the segment, whether the end
of the table has been passed, and the points met. -/
structure CamOut where
  y    : Int
  dy   : Nat
  seg  : Int
  past : Bool
  met  : List Nat
  deriving DecidableEq, Repr

/-- R277. The cam evaluated at u. -/
def camAt (periodic : Bool) (ps : List CamPoint) (u : Int) : Option CamOut :=
  match ps.head?, ps.getLast? with
  | some p0, some pn =>
    let l := pn.x
    let w : Int := if periodic && decide (0 < l) then u / l else 0
    let v := u - w * l
    let base := w * (pn.y - p0.y)
    let segs : Int := ps.length - 1
    if !periodic && decide (v < 0) then some ⟨p0.y, 0, -1, false, [0]⟩
    else if !periodic && decide (l < v) then some ⟨pn.y, 0, segs, true, [ps.length - 1]⟩
    else match camFind v 0 ps with
      | none => none
      | some (i, p, q) => (camSegment p q (v - p.x)).map fun (dy, sl) =>
        ⟨base + p.y + dy, sl, w * segs + i, false, [i, i + 1]⟩
  | _, _ => none

/-- R277, R279. Table `t` evaluated at u; none where a point that it meets is invalid or uncorrectable. -/
def State.camEval (s : State) (t : Nat) (u : Int) : Option CamOut := match s.cam t with
  | none => none
  | some (per, ps) => (camAt per ps u).bind fun o => if o.met.all (s.camGood t) then some o else none

/-- The first slave position of a table. -/
def State.camFirst (s : State) (t : Nat) : Int := match s.cam t with
  | some (_, ps) => (ps.head?.map (·.y)).getD 0
  | none => 0

/-! ## Set-point records (R261) -/

/-- A value put into the pending set. -/
def State.motPut (s : State) (i v : Nat) : State :=
  { s with mot := { s.mot with pend := Sparse.insert s.mot.pend i (v % 2 ^ 32) } }

/-- R261. The record of axis `i` for cycle `k2`; VALID stands in FAULT too (R268). -/
def State.motRecord (s : State) (i k2 : Nat) : State :=
  let a := s.axis i
  if a.node = 0xFFFF ∨ 512 ≤ i then s
  else
    let p := ofSigned 64 a.report
    let t := if (f32.value (a.f 0x1C)).isZero then 0 else narrow (f64.mul (a.wide 0x1C) a.accNow)
    let time := ((s.bptAt k2 / 2 ^ 32 : Nat) : Int) + toSigned 32 (s.get MOT.APPLY_OFFSET.NS)
    let flags := 1 + 2 * b2n (a.st == 5) + 4 * b2n (a.failing || a.st == 6) + 8 * b2n (a.st == 4)
      + 256 * (k2 % 256)
    [p % 2 ^ 32, p / 2 ^ 32, narrow a.velNow, t, ofSigned 32 time, flags].zipIdx.foldl
      (fun s (v, j) => s.motPut (a.spIndex + j) v) s

/-- R261. The record of an axis that becomes DISABLED: every word 0, once. -/
def State.motZero (s : State) (a : Axis) : State :=
  if a.node = 0xFFFF then s else (List.range 6).foldl (fun s j => s.motPut (a.spIndex + j) 0) s

/-! ## Faults (R279) -/

/-- R279. The index at the root of the master chain, where it is a shaft. -/
def State.rootShaft (s : State) : Nat → Nat → Option Nat
  | 0, _ => none
  | fuel + 1, i =>
    match (s.axis i).couple with
    | none => none
    | some c => if c.kind = 0 then some (512 + c.master) else if c.kind = 1 then s.rootShaft fuel c.master else none

/-- R279. STOP_AXIS: the axis decouples and stops; a shaft stops without FAULT at its end (R268). -/
def Axis.stopping (a : Axis) (cause : Nat) (shaft : Bool) : Axis :=
  { a.begin .stop with st := 5, fault := cause, failing := !shaft }

/-- R279. A fault of axis `i`. -/
def State.motFault (s : State) (i cause : Nat) : State :=
  let a := s.axis i
  if a.st = 0 ∨ a.st = 6 ∨ a.failing then s
  else
    let loss := if cause = 1 then a.loss % 4 else 1
    if loss = 2 then
      if a.fault = 1 then s else (s.setAxis i { a with fault := 1 }).post 112 (i + 4096)
    else
      let root := if loss = 0 then s.rootShaft 512 i else none
      let s := match root with
        | some j =>
          let sh := s.axis j
          (s.setAxis i { a with fault := cause, failing := true }).setAxis j
            (if sh.st = 2 then { sh.begin .stop with st := 5 } else sh)
        | none => s.setAxis i (a.stopping cause (decide (512 ≤ i)))
      s.post 112 (i + 4096 * cause)

/-! ## One index in one pass (R268 to R279) -/

/-- R256. A rotary position past 2^30 increments is reduced, and what follows the index with it. -/
def State.motReduce (s : State) (i : Nat) : State :=
  let a := s.axis i
  if !a.rotary || decide (a.posMax ≤ 0) || decide (a.pos.natAbs ≤ 2 ^ 62) then s
  else
    let d := a.pos - a.pos % a.posMax
    let plan := match a.plan with
      | .goal t => .goal (t - d)
      | p => p
    let s := s.setAxis i { a with pos := a.pos - d, plan := plan, start := { a.start with pos := a.start.pos - d },
                                  couple := a.couple.map fun c => { c with sOff := c.sOff - d } }
    { s with mot := { s.mot with axes := s.mot.axes.map fun (e : Nat × Axis) =>
        match e.2.couple with
        | some c => if (c.kind = 0 ∧ 512 + c.master = i) ∨ (c.kind = 1 ∧ c.master = i)
          then (e.1, { e.2 with couple := some { c with mOff := c.mOff - d, last := c.last - d } }) else e
        | none => e } }

/-- R256. Whether a linear index at `p` would leave the 32.32 range. -/
def Axis.outRange (a : Axis) (p : Int) : Bool := !a.rotary && (decide (p < -(2 ^ 63)) || decide ((2 : Int) ^ 63 ≤ p))

/-- R279. Whether a set-point of axis `i` at `p` would leave its software limits. -/
def Axis.outLimits (a : Axis) (i : Nat) (p : Int) : Bool :=
  !a.rotary && decide (i < 512) && decide (a.posMin < a.posMax) && (decide (p < a.posMin) || decide (a.posMax < p))

/-- R268, R279. One pass of a stop that a fault has started: at rest a shaft goes to STANDSTILL, an axis to FAULT. A
linear position stays at the bound of its range. -/
def State.motBrake (s : State) (i ticks : Nat) : State :=
  let (a, ended) := (s.axis i).step ticks
  let a := if a.outRange a.pos then { a with pos := max (-(2 ^ 63)) (min (2 ^ 63 - 1) a.pos) } else a
  if ended then ((s.setAxis i { a with st := if a.failing then 6 else 1, plan := .rest }).motReduce i).post 113 i
  else (s.setAxis i a).motReduce i

/-- R279. A fault met while the set-point is computed: the stop starts from the last good position, at this pass. -/
def State.motFail (s : State) (i cause ticks : Nat) : State :=
  let s := s.motFault i cause
  if (s.axis i).st = 5 then s.motBrake i ticks else s

/-- R256, R268, R279. A set-point taken, unless it breaks the 32.32 range or a software limit; `told` asserts 113. -/
def State.motMove (s : State) (i : Nat) (a : Axis) (ticks : Nat) (told : Bool := false) : State :=
  if a.outRange a.pos then s.motFail i 6 ticks
  else if !a.failing && a.outLimits i a.pos then s.motFail i 3 ticks
  else
    let s := (s.setAxis i a).motReduce i
    if told then s.post 113 i else s

/-- R269. A profile step of a position or velocity move, or of a stop. -/
def State.motProfile (s : State) (i ticks : Nat) : State :=
  let a := s.axis i
  let past := decide (a.start.ticks = 0) && !a.passed && a.overshoots
  let s := if past then s.post 117 i else s
  let (b, ended) := { a with passed := a.passed || past }.step ticks
  match a.plan with
  | .rest => s
  | .goal _ => s.motMove i (if ended then { b with st := 1, plan := .rest } else b) ticks ended
  | .speed _ => s.motMove i b ticks
  | .stop =>
    if a.failing || (decide (512 ≤ i) && a.fault != 0) then s.motBrake i ticks
    else s.motMove i (if ended then { b with st := 1, plan := .rest } else b) ticks ended

/-- R278. The switch of a cammed axis, where the master reaches or passes SWITCH_AT; none where the old table cannot be
evaluated there. -/
def State.camSwitch (s : State) (i : Nat) (a : Axis) (c : Couple) (m : Int) : Option (State × Axis × Couple) :=
  match a.switch with
  | none => some (s, a, c)
  | some (t, w) =>
    let edge := w * 2 ^ 32
    let met := if c.last ≤ m then decide (c.last ≤ edge) && decide (edge ≤ m) else decide (m ≤ edge) && decide (edge ≤ c.last)
    if !met then some (s, a, c)
    else (s.camEval c.table (edge - c.mOff)).map fun o =>
      (s.post 114 (i + 65536 * t), { a with switch := none },
       { c with table := t, mOff := edge, sOff := c.sOff + o.y - s.camFirst t, seg := 0, ended := false })

/-- R261. The acceleration of an axis that a coupling moves from `old` to the velocity `v`: finite, else free. -/
def coupledAcc (old : Axis) (v ticks : Nat) : Nat :=
  let c := Config.coupledAcc [old.vel, v, old.acc, ticks] % 2 ^ 64
  if f64.finite c then c else 0

/-- R271, R273, R277. A coupled axis follows its master. -/
def State.motFollow (s : State) (i ticks : Nat) (a : Axis) (c : Couple) (m : Int) (mv : Nat) : State :=
  let (step, shift, ended) := a.shiftStep ticks
  let s := if ended then s.post 113 (i + 4096) else s
  if c.gear then
    let x := (m - c.last) * c.num + c.rest
    let q := x / (c.den : Int)
    let v := gearVel c mv
    s.motMove i { a with pos := a.pos + q + step, vel := v, acc := coupledAcc a v ticks, shift := shift
                         couple := some { c with rest := x % (c.den : Int), last := m } } ticks
  else match s.camSwitch i a c m with
    | none => s.motFail i 5 ticks
    | some (s, a, c) =>
      let c := { c with sOff := c.sOff + step, last := m }
      match s.camEval c.table (m - c.mOff) with
      | none => s.motFail i 5 ticks
      | some o =>
        if 4 < (o.seg - c.seg).natAbs then s.motFail i 4 ticks
        else
          let s := if o.past && !c.ended then s.post 115 i else s
          let v := f64.mul o.dy mv
          s.motMove i { a with pos := c.sOff + o.y, vel := v, acc := coupledAcc a v ticks, shift := shift
                               couple := some { c with seg := o.seg, ended := o.past } } ticks

/-- R272. A syncing axis: a velocity profile towards the geared velocity, and the coupling where it is met. -/
def State.motSync (s : State) (i ticks : Nat) (a : Axis) (c : Couple) (m : Int) (mv : Nat) : State :=
  let target := gearVel c mv
  let (step, shift, ended) := a.shiftStep ticks
  let s := if ended then s.post 113 (i + 4096) else s
  let b := a.approach target ticks
  let b := { b with pos := b.pos + step, shift := shift, couple := some { c with last := m } }
  if s.velNear b b.vel target && !b.outRange b.pos && !b.outLimits i b.pos then
    (s.motMove i { b with st := 4, plan := .rest, couple := some { c with last := m, rest := 0 } } ticks).post 116 i
  else s.motMove i b ticks

/-- R266, R279. The station of an axis in the snapshot: ADMITTED is remembered, its loss is a fault. -/
def State.motStation (s : State) (i : Nat) : State :=
  let a := s.axis i
  if 512 ≤ i ∨ a.node = 0xFFFF then s
  else if s.validIn 0 a.node then
    s.setAxis i { a with admitted := true, fault := if !a.failing && a.fault == 1 then 0 else a.fault }
  else if a.admitted then s.motFault i 1 else s

/-- R268, R272, R274, R279. Axis or shaft `i` computed in a pass that covers `n` base cycles. -/
def State.motIndex (s : State) (i n : Nat) : State :=
  let ticks := n * s.p0
  let s := s.motStation i
  let a := s.axis i
  match a.st with
  | 2 => s.motProfile i ticks
  | 3 =>
    match a.couple with
    | none => s
    | some c => match s.masterAt c.kind c.master with
      | none => s.motFail i 2 ticks
      | some (m, mv) => s.motSync i ticks a c m mv
  | 4 =>
    match a.couple with
    | none => s
    | some c => match s.masterAt c.kind c.master with
      | none => s.motFail i 2 ticks
      | some (m, mv) =>
        let s := s.motFollow i ticks a c m mv
        let a := s.axis i
        -- R279: an axis that follows a stopping shaft enters FAULT at rest
        match s.rootShaft 512 i with
        | some j => if a.failing && (s.axis j).st == 1 then
            s.setAxis i { a with st := 6, couple := none, shift := none, switch := none, vel := 0, acc := 0 }
          else s
        | none => s
  | 5 => s.motProfile i ticks
  | _ => s

/-! ## Commands (R264 to R267) -/

def Desc.motIndex (d : Desc) : Nat := bitsOf d.w1 0 10
def Desc.motCount (d : Desc) : Nat := bitsOf d.w1 16 10
def Desc.motMaster (d : Desc) : Nat := bitsOf d.w1 16 16
def Desc.motKind (d : Desc) : Nat := d.eflags % 4
def Desc.value64 (d : Desc) : Int := toSigned 64 (d.w4 + d.w5 * 2 ^ 32)

/-- R264. BAD_DESCRIPTOR by the words alone. -/
def Desc.motBad (d : Desc) : Bool :=
  let op := d.opcode
  let word1 := bitsOf d.w1 10 6 != 0 || (match op with
    | 1 => bitsOf d.w1 26 6 != 0
    | 10 => bitsOf d.w1 26 6 != 0
    | 5 => false
    | 6 => false
    | _ => bitsOf d.w1 16 16 != 0)
  let flags := match op with
    | 2 => d.eflags == 3 || decide (4 ≤ d.eflags)
    | 5 => false
    | 6 => false
    | 9 => decide (2 ≤ d.eflags)
    | _ => d.eflags != 0
  let prim := d.w2 != 0 || bitsOf d.w3 0 8 != 0
  let tail := match op with
    | 2 => false
    | 3 => d.w5 != 0 || !f32.finite d.w4
    | 5 => d.w5 == 0
    | 6 => decide (256 ≤ d.w4)
    | 7 => false
    | 9 => decide (256 ≤ d.w4) || d.w5 != 0
    | 10 => decide (256 ≤ d.w5)
    | _ => d.w4 != 0 || d.w5 != 0
  word1 || flags || prim || tail

/-- Opcodes for axes only. -/
def axisOnly (op : Nat) : Bool := op ∈ [5, 6, 7, 8]

/-- R264. Whether a master index is in range for its kind, and lower than the slave. -/
def masterOk (kind m slave : Nat) : Bool :=
  match kind with
  | 0 => decide (m < 8)
  | 1 => decide (m < 512 ∧ m < slave)
  | 2 => decide (128 ≤ m ∧ m ≤ 65534)
  | _ => decide (m < 4)

/-- R266. The rotary target of MOVE_ABS, unwrapped (R264). -/
def Axis.unwrap (a : Axis) (way : Nat) (t : Int) : Int :=
  if !a.rotary || decide (a.posMax ≤ 0) then t
  else
    let d := (t - a.pos) % a.posMax
    match way with
    | 1 => a.pos + d
    | 2 => a.pos + d - (if d = 0 then 0 else a.posMax)
    | _ => if 2 * d ≤ a.posMax then a.pos + d else a.pos + d - a.posMax

/-- R266. The DETAIL with which a command for one index is refused at its effective pass, or 0: the first that holds in
the order of the table. -/
def State.motRefusal (s : State) (d : Started) : Nat :=
  let op := d.d.opcode
  let i := d.d.motIndex
  let a := s.axis i
  let coupled := op = 5 || op = 6
  let m := d.d.motMaster
  let k := d.d.motKind
  let allowed : Bool := match op with
    | 2 => a.st ∈ [1, 2, 3, 4]
    | 3 => a.st ∈ [1, 2, 3, 4]
    | 4 => a.st ∈ [2, 3, 4]
    | 5 => a.st ∈ [1, 2, 3, 4]
    | 6 => a.st ∈ [1, 2, 3, 4] && (!d.d.eflags.testBit 2 || (a.couple.map (!·.gear)).getD false)
    | 7 => a.st ∈ [3, 4]
    | _ => a.st == 6
  let mst := (s.axis m).st
  let masterBad : Bool := coupled && ((k == 2 && (s.snapPos m).isNone) || (k == 1 && (mst == 0 || mst == 6)))
  let target := a.unwrap (d.d.eflags % 4) d.d.value64
  let mv := ((s.masterAt k m).map (·.2)).getD 0
  let step : Bool :=
    if op = 5 && !d.d.eflags.testBit 2 then
      !s.velNear a a.velNow (f64.div (f64.mul (f64.ofInt (toSigned 32 d.d.w4)) mv) (f64.ofInt d.d.w5))
    else if op = 6 && !d.d.eflags.testBit 2 then
      match s.camEval d.d.w4 (s.masterBefore k m % 2 ^ 32) with
      | some o => !s.velNear a a.velNow (f64.mul o.dy mv)
      | none => false
    else false
  if 520 ≤ i || !a.present || (axisOnly op && decide (512 ≤ i)) || (coupled && !masterOk k m i) then 2
  else if !allowed then 3
  else if masterBad then 4
  else if op = 6 && !s.mot.valid.contains d.d.w4 then 5
  else if op = 2 && !a.rotary && decide (a.posMin < a.posMax) && (decide (target < a.posMin) || decide (a.posMax < target))
    then 6
  else if step then 7
  else if !s.inRun && op != 8 then 8
  else if a.node ≠ 0xFFFF && decide (i < 512) && !a.admitted then 9
  else 0

/-- R268, R271, R272, R275, R278. A command takes effect. -/
def State.motEffect (s : State) (d : Started) : State :=
  let i := d.d.motIndex
  let a := s.axis i
  let k := d.d.motKind
  let m := d.d.motMaster
  let mp := s.masterBefore k m
  match d.d.opcode with
  | 2 => s.setAxis i { a.begin (.goal (a.unwrap (d.d.eflags % 4) d.d.value64)) with st := 2, passed := false }
  | 3 =>
    let v := widen d.d.w4
    let cap := a.wide 8
    s.setAxis i { a.begin (.speed (f64.clamp (cap + 2 ^ 63) cap v)) with st := 2, passed := false }
  | 4 => s.setAxis i { a.begin .stop with st := 5 }
  | 5 =>
    let c : Couple := { gear := true, kind := k, master := m, num := toSigned 32 d.d.w4, den := d.d.w5, last := mp }
    s.setAxis i { a with st := if d.d.eflags.testBit 2 then 3 else 4, plan := .rest, couple := some c, switch := none }
  | 6 =>
    if d.d.eflags.testBit 2 then s.setAxis i { a with switch := some (d.d.w4, toSigned 32 d.d.w5) }
    else
      let c : Couple := { gear := false, kind := k, master := m, table := d.d.w4, mOff := mp / 2 ^ 32 * 2 ^ 32,
                          sOff := a.pos - s.camFirst d.d.w4, last := mp }
      s.setAxis i { a with st := 4, plan := .rest, couple := some c, switch := none }
  | 7 =>
    let h := (a.shift.getD {}).replan
    s.setAxis i { a with shift := some { h with left := h.left + d.d.value64 }, switch := none }
  | _ =>
    let p := if a.actIndex = 0 then a.pos else (s.snapPos a.actIndex).getD a.pos
    s.setAxis i { a.begin .rest with st := 1, pos := p, vel := 0, acc := 0, fault := 0, failing := false,
                                     admitted := false }

/-! ### AXIS_LOAD (R263, R266, R270) -/

/-- R263. The rules that an entry keeps whether it is PRESENT or not. -/
def Axis.entryBase (a : Axis) : Bool :=
  decide (a.entry.getD 0 0 < 4) && decide (a.loss < 3) && (a.entry.drop 0x30).all (· == 0)

/-- R263. The rules of a PRESENT entry but for ACT_INDEX. -/
def Axis.entryOk (a : Axis) (i : Nat) : Bool :=
  let pos (off : Nat) : Bool := f32.finite (a.f off) && f32.lt 0 (a.f off)
  let rot := !a.rotary || (decide (a.posMax % 2 ^ 32 = 0) && decide (1 ≤ a.posMax / 2 ^ 32) && decide (a.posMax / 2 ^ 32 ≤ 2 ^ 30))
  (a.node == 0xFFFF || decide (a.node < 2048))
  && [8, 0xC, 0x10, 0x14, 0x18].all pos && !f32.lt (a.f 0xC) (a.f 0x14) && !f32.lt (a.f 0x10) (a.f 0x18)
  && f32.finite (a.f 0x1C) && !f32.lt (a.f 0x1C) 0 && rot
  && (decide (i < 512) || (a.node == 0xFFFF && a.spIndex == 0 && a.actIndex == 0 && a.f 0x1C == 0 && a.loss == 0))

/-- R263. The range of ACT_INDEX. -/
def Axis.actOk (a : Axis) : Bool := a.actIndex == 0 || decide (128 ≤ a.actIndex ∧ a.actIndex ≤ 65534)

def State.motTable (s : State) : Nat := s.get MOT.AXIS_TABLE_LO.ADDR * 64 + s.get MOT.AXIS_TABLE_HI.ADDR * 2 ^ 32

/-- Entries read from the axis table. -/
def State.axesRead (s : State) (v : Via) : Nat → Nat → State × Except Err (List (Nat × Axis))
  | _, 0 => (s, .ok [])
  | i, k + 1 =>
    match s.readBuf v (s.motTable + 64 * i) 64 with
    | (s, _, some e) => (s, .error e)
    | (s, bs, none) => match s.axesRead v (i + 1) k with
      | (s, .ok r) => (s, .ok ((i, { entry := bs }) :: r))
      | (s, .error e) => (s, .error e)

/-- R268. The position that an index starts from. -/
def State.actual (s : State) (a : Axis) : Int := if a.actIndex = 0 then 0 else (s.snapPos a.actIndex).getD 0

/-- R268, R270. One entry applied. -/
def State.axisApply (s : State) (p : Nat × Axis) : State :=
  let old := s.axis p.1
  if !p.2.present then
    if old.st = 0 then s.setAxis p.1 { entry := p.2.entry } else (s.motZero old).setAxis p.1 { entry := p.2.entry }
  else if old.st = 0 then s.setAxis p.1 { entry := p.2.entry, st := 1, pos := s.actual p.2 }
  else
    let a := { old with entry := p.2.entry, admitted := old.admitted && old.node == p.2.node }
    s.setAxis p.1 (if old.entry = p.2.entry then a else a.replan)

/-- R266. DETAIL 14 of an entry of AXIS_LOAD. -/
def State.axisRefused (s : State) (p : Nat × Axis) : Bool :=
  let old := s.axis p.1
  let same := old.entry.take 8 == p.2.entry.take 8 && old.entry.drop 0x20 == p.2.entry.drop 0x20
  !p.2.entryBase || (p.2.present && !(p.2.entryOk p.1 && p.2.actOk)) || (!same && !(old.st ∈ [0, 1, 6]))

/-- A descriptor ends with TIME at the start of its pass (R265). -/
def State.finishAtTick (s : State) (d : Started) (t status : Nat) (detail : Nat := 0) : State :=
  let s := s.finish d status 0 detail
  { s with rng := { s.rng with finished := s.rng.finished.map fun f =>
      if f.st.ring == d.ring && f.st.idx == d.idx then { f with res := { f.res with time := t } } else f } }

/-- R280. AXIS_LOAD at its effective pass. -/
def State.axisLoad (s : State) (t : Nat) (d : Started) : State :=
  match s.axesRead (s.via 11 d) d.d.motIndex d.d.motCount with
  | (s, .error e) => s.finishErr d e
  | (s, .ok es) =>
    if es.any s.axisRefused then s.finishAtTick d t 0x60 14
    else (es.foldl State.axisApply s).finishAtTick d t 0

/-! ### Taking commands up -/

/-- R266. DETAIL 1 and the range of counted opcodes. -/
def State.motEarly (s : State) (d : Started) : Nat :=
  let op := d.d.opcode
  let counted := op = 1 || op = 10
  let timed := op ≤ 8
  let inStop := !s.inRun && (op = 1 || op = 8)
  if timed && (s.get (RNG.RING_CFG.OWNER d.ring) != 0 || (d.cls.isNone && !inStop)) then 1
  else if counted && (d.d.motCount = 0 || decide (520 < d.d.motIndex + d.d.motCount)) then 2
  else 0

def State.motUnwait (s : State) (d : Started) : State :=
  { s with mot := { s.mot with waits := s.mot.waits.filter fun w => !(w.1 == d.ring && w.2 == d.idx) } }

/-- R266. The DETAIL of a timed command, or 0. -/
def State.motDetail (s : State) (d : Started) : Nat :=
  let e := s.motEarly d
  if e ≠ 0 then e else if d.d.opcode = 1 then 0 else s.motRefusal d

/-- One command executed at a pass, or at once in STOP. -/
def State.motNow (s : State) (t : Nat) (d : Started) : State :=
  let r := s.motDetail d
  if r ≠ 0 then s.finishAtTick d t 0x60 r
  else if d.d.opcode = 1 then s.axisLoad t d
  else (s.motEffect d).finishAtTick d t 0

/-- R264. BAD_DESCRIPTOR of a timed command: ENGINE_FLAGS of MOVE_ABS have a meaning on a rotary index only. -/
def State.motMalformed (s : State) (d : Desc) : Bool :=
  let a := s.axis d.motIndex
  d.motBad || (d.opcode == 2 && a.present && !a.rotary && d.eflags != 0)

/-- R260, R265. A command taken up: in RUN it waits for its effective pass, in STOP it acts or is refused at once. -/
def State.motTake (s : State) (d : Started) : State :=
  if s.motMalformed d.d then s.finish d 0x10
  else if !s.inRun then (s.motNow s.now d).motRegs
  else
    let s := s.accept d
    { s with mot := { s.mot with waits := s.mot.waits ++ [(d.ring, d.idx)] } }

/-! ### CAM_CHECK and STATUS (R266, R276) -/

/-- Whether a table is used by a coupling or an armed switch. -/
def State.camUsed (s : State) (t : Nat) : Bool :=
  s.mot.axes.any fun e => (e.2.couple.map fun c => !c.gear && c.table == t).getD false || e.2.switch.map (·.1) == some t

/-- R266. MASTER starts at 0 and increases strictly. -/
def camRising : List CamPoint → Bool
  | [] => true
  | [_] => true
  | p :: q :: r => decide (p.x < q.x) && camRising (q :: r)

/-- R276. CAM_CHECK. -/
def State.camCheck (s : State) (d : Started) : State :=
  let t := d.d.w4
  if d.d.motBad then s.finish d 0x10
  else if d.d.eflags.testBit 0 then
    if s.camUsed t then s.finish d 0x60 0 13
    else ({ s with mot := { s.mot with valid := s.mot.valid.filter (· != t) } }).finish d 0
  else
    let s := { s with mot := { s.mot with valid := s.mot.valid.filter (· != t) } }
    match s.readBuf (s.via 11 d) (s.camDir t) 16 with
    | (s, _, some e) => s.finishErr d e
    | (s, e16, none) =>
      let n := leAt e16 8 2
      let a := leAt e16 0 8
      if n < 2 ∨ 4096 < n then s.finish d 0x60 0 10
      else if 256 * 2 ^ 32 ≤ a || a % 8 != 0 || !within .dram a (24 * n) || 2 ≤ e16.getD 0xA 0 || e16.getD 0xB 0 != 0
        then s.finish d 0x10
      else match s.readBuf (s.via 11 d) a (24 * n) with
        | (s, _, some e) => s.finishErr d e
        | (s, bs, none) =>
          let ps := camPoints bs n
          if crc32c bs ≠ leAt e16 0xC 4 then s.finish d 0x60 0 11
          else if (ps.head?.map (·.x)) ≠ some 0 || !camRising ps then s.finish d 0x60 0 12
          else ({ s with mot := { s.mot with valid := addOnce s.mot.valid t } }).finish d 0

def execCamCheck (n : Fin 64) (s : State) : Answer := (s.onOffer n [2] 9 State.camCheck).done

/-- R264. The STATUS record of index `i`, 32 bytes whose layout the manual does not give: a free value of the index and of
what its status shows, the loss of a station and OVERSHOOT among it. -/
def State.statusRecord (s : State) (i : Nat) : List Nat :=
  let a := s.axis i
  leBytes 32 (Config.motRecord [i, a.st, a.report, a.velNow, a.accNow, a.fault, b2n a.failing, b2n a.passed, b2n a.admitted])

/-- R264, R280. STATUS; words 4 and 5 name the buffer. -/
def State.motStatus (s : State) (d : Started) : State :=
  if d.d.motBad then s.finish d 0x10
  else if s.motEarly d ≠ 0 then s.finish d 0x60 0 (s.motEarly d)
  else
    let rs := (List.range d.d.motCount).map fun j => s.statusRecord (d.d.motIndex + j)
    match s.putRecords (s.via 11 d) d.d.secondary rs with
    | (s, m, some e) => s.finishErr d e (32 * m)
    | (s, m, none) => s.finish d 0 (32 * m)

def execMotStatus (n : Fin 64) (s : State) : Answer := (s.onOffer n [2] 10 State.motStatus).done

/-! ## The pass (R257, R259, R260, R267) -/

/-- The commands that wait and whose class has been released again, in ring order. -/
def State.motDue (s : State) : List Started :=
  (List.range 64).flatMap fun r => s.mot.waits.filterMap fun w =>
    if w.1 ≠ r then none else (s.startedAt w.1 w.2).bind fun d =>
      if (d.cls.map fun c => (s.cls c.1).cycle != c.2).getD true then some d else none

/-- R267. Opcodes of which only the last for an index takes effect. -/
def replaces (op : Nat) : Bool := op ∈ [2, 3, 4, 5, 6, 8]

/-- R267. Whether `d` is the last of the commands for its index that replace one another and would take effect, as they are
judged before any of them does. -/
def State.motLast (s : State) (ds : List Started) (d : Started) : Bool :=
  (ds.filter fun e => replaces e.d.opcode && e.d.motIndex == d.d.motIndex && s.motDetail e == 0).getLast? == some d

/-- R267. One command in ring order. `before` is the state ahead of the commands, in which those that replace one another are
judged; a PHASE_SHIFT is judged where it stands. -/
def State.motOne (before : State) (ds : List Started) (s : State) (d : Started) : State :=
  if !replaces d.d.opcode then s.motNow s.now d
  else
    let r := before.motDetail d
    if r ≠ 0 then s.finishAtTick d s.now 0x60 r
    else if before.motLast ds d then (s.motEffect d).finishAtTick d s.now 0
    else s.finishAtTick d s.now 0x32

/-- R265, R267. The commands of one pass: loads first, then the others in ring order. -/
def State.motCommands (s : State) : State :=
  let ds := s.motDue
  let s := ds.foldl State.motUnwait s
  let s := (ds.filter (·.d.opcode = 1)).foldl (fun s d => s.motNow s.now d) s
  let rest := ds.filter (·.d.opcode ≠ 1)
  rest.foldl (State.motOne s rest) s

/-- R84. Whether ring `n` waits at a FENCE behind a command that waits for its pass. -/
def State.motFenced (s : State) (n : Nat) : Bool := (s.nextDesc n).fence && s.mot.waits.any (·.1 == n)

/-- R260. Whether a motion descriptor published before the boundary has yet to be fetched and checked. One that a FENCE keeps
until a pass has run cannot be. -/
def State.motUnfetched (s : State) (t : Nat) : Bool :=
  (List.range 64).any fun n => s.get (RNG.RING_CFG.ENGINE n) == 2
    && ((s.ringReady n && !s.motFenced n && decide (s.publishTick n (s.get (RNG.RING_INDEX.CONS n)) < t))
        || s.rng.started.any (fun d => d.ring == n && !d.accepted && decide (d.bell < t)))

/-- R257, R268. The pass of the class-0 release at tick `t`. -/
def State.motPass (s : State) (t : Nat) : State :=
  let n := s.passGap
  let k := (s.cls 0).cycle
  let s := { s with mot := { s.mot with counts := (List.range 4).map fun c =>
    (c, Sparse.get 0 s.mot.counts c + diff32 (counterIn s (s.cls 0).snap c) (counterIn s s.mot.prev c)) } }
  let s := if !s.mot.fresh then s else
    { s with mot := { s.mot with fresh := false, axes := s.mot.axes.map fun (e : Nat × Axis) =>
      if e.2.st = 1 ∧ e.2.actIndex ≠ 0 then (e.1, { e.2 with pos := (s.snapPos e.2.actIndex).getD e.2.pos }) else e } }
  let present := (s.mot.axes.filter (·.2.present)).map (·.1)
  let s := present.foldl (fun s i => if s.validIn 0 (s.axis i).node then s.motStation i else s) s
  let s := s.motCommands
  let present := (s.mot.axes.filter (·.2.present)).map (·.1)
  let s := (present.filter (512 ≤ ·)).foldl (fun s i => s.motIndex i n) s
  let axes := present.filter (· < 512)
  let s := axes.foldl (fun s i => s.motIndex i n) s
  let s := axes.foldl (fun s i => s.motRecord i (k + 2)) s
  let s := { s with mot := { s.mot with due := none, running := some t, last := some k } }
  s.motRegs

/-- R257, R260. A release of class 0 in RUN starts its pass, once every descriptor published before it is checked. -/
def State.motTry (s : State) : State :=
  match s.mot.due with
  | none => s
  | some t => if s.motUnfetched t then s else s.motPass t

def State.motRelease (s : State) : State :=
  if !s.bit MOT.CTRL.ENABLE || !s.domOn 5 || !s.inRun then s
  else ({ s with mot := { s.mot with due := some s.now } }).motTry

/-- R265. A timed command taken up; a pass that waited for it may start. -/
def State.motCommand (s : State) (d : Started) : State := (s.motTake d).motTry

def execAxisLoad (n : Fin 64) (s : State) : Answer := (s.onOffer n [2] 1 State.motCommand).done
def execMoveAbs (n : Fin 64) (s : State) : Answer := (s.onOffer n [2] 2 State.motCommand).done
def execMoveVel (n : Fin 64) (s : State) : Answer := (s.onOffer n [2] 3 State.motCommand).done
def execMotStop (n : Fin 64) (s : State) : Answer := (s.onOffer n [2] 4 State.motCommand).done
def execGearIn (n : Fin 64) (s : State) : Answer := (s.onOffer n [2] 5 State.motCommand).done
def execCamIn (n : Fin 64) (s : State) : Answer := (s.onOffer n [2] 6 State.motCommand).done
def execPhaseShift (n : Fin 64) (s : State) : Answer := (s.onOffer n [2] 7 State.motCommand).done
def execMotResetFault (n : Fin 64) (s : State) : Answer := (s.onOffer n [2] 8 State.motCommand).done

/-- R259. The pass ends: PASS_STATUS, and a commit that waited for it may go on. -/
def State.motEnd (s : State) : State :=
  let s := s.motTry
  match s.mot.running with
  | none => s
  | some t =>
    let k := min (s.now - t) 0xFFFF
    let s := ({ s with mot := { s.mot with running := none } }).set MOT.PASS_STATUS.LAST k
    let s := if s.get MOT.PASS_STATUS.MAX < k then s.set MOT.PASS_STATUS.MAX k else s
    match s.mot.held with
    | none => s
    | some h =>
      (({ s with mot := { s.mot with held := none } }).bump MOT.COMMIT_WAITS.COUNT).post 118 (min (s.now - h) 0xFFFF)

def execMotionPassEnd (s : State) : Answer := s.motEnd.done

/-- R259. Whether a pass that the commit of class 0 must wait for has yet to end. -/
def State.motBusy (s : State) : Bool := s.mot.due.isSome || s.mot.running.isSome

/-- R259. The set-points enter the output image with the commit of class 0. -/
def State.motCommit (s : State) : State :=
  let p := s.mot.pend
  p.foldl (fun s e => s.putPair 11 (outAddr e.1) e.2) { s with mot := { s.mot with pend := [] } }

/-! ## STOP, RUN, enable (R268, R282) -/

/-- R268. The STOP boundary: everything but DISABLED and FAULT goes to STANDSTILL, and what waits is refused. -/
def State.motStop (s : State) : State :=
  let ds := (s.mot.waits.filterMap fun w => s.startedAt w.1 w.2)
  let s := { s with mot := { s.mot with
    waits := [], due := none, running := none, held := none, pend := []
    axes := s.mot.axes.map fun (e : Nat × Axis) => if e.2.st = 0 ∨ e.2.st = 6 then e else
      (e.1, { e.2 with st := 1, plan := .rest, couple := none, shift := none, switch := none, vel := 0, acc := 0
                       failing := false, fault := 0 }) } }
  let s := ds.foldl (fun s d => s.motNow s.now d) s
  s.motRegs

/-- R268. Entry to RUN. -/
def State.motRun (s : State) : State := { s with mot := { s.mot with fresh := true, last := none } }

/-- R226, R306-like. D5 leaves ON: no pass runs. -/
def State.motDown (s : State) : State :=
  { s with mot := { s.mot with due := none, running := none, waits := [], pend := [] } }

def State.motEnableEnd (s : State) (cause : Nat) : State :=
  ((s.setB MOT.CTRL.ENABLE (cause == 0)).setB MOT.CTRL.CFG_ERR (cause != 0)).set MOT.CTRL.CFG_CAUSE cause

/-- R282. The first failing cause, or 0, of the entries read. -/
def State.motCause (s : State) (es : List (Nat × Axis)) : Nat :=
  let ps := es.filter (·.2.present)
  let recs := (ps.filter fun e => e.2.node != 0xFFFF).map (·.2.spIndex)
  let clash := recs.zipIdx.any fun (a, i) => recs.zipIdx.any fun (b, j) => i != j && overlaps a 6 b 6
  let out := recs.any fun a => decide (65530 < a) || (List.range 6).any fun j => s.owner (a + j) != 0
  let count := (ps.filter (·.1 < 512)).length
  if es.any (fun e => !e.2.entryBase) || ps.any (fun e => !e.2.entryOk e.1) then 3
  else if clash || out || ps.any (fun e => !e.2.actOk) then 4
  else if 92 * s.p0 < 100 * (16 + 40 * count + 144) then 5
  else 0

/-- R282. ENABLE set. -/
def State.motEnable (s : State) : State :=
  if s.bit MOT.CTRL.ENABLE || s.targetFailed [10, 23] then s
  else if !inSramDram s.motTable (520 * 64) then s.motEnableEnd 1
  else if !within .dram (s.camDir 0) 4096 then s.motEnableEnd 2
  else match s.axesRead { init := 11 } 0 520 with
    | (s, .error _) => s.motEnableEnd 1
    | (s, .ok es) =>
      let c := s.motCause es
      if c ≠ 0 then s.motEnableEnd c
      else
        let ax := (es.filter (·.2.present)).map fun (e : Nat × Axis) => (e.1, { e.2 with st := 1, pos := s.actual e.2 })
        (({ s with mot := { axes := ax, prev := s.mot.prev, prev2 := s.mot.prev2, waits := s.mot.waits } }).motEnableEnd 0).motRegs

def execMotEnable (s : State) : Answer := s.motEnable.done

def execMotClearMax (s : State) : Answer := (s.set MOT.PASS_STATUS.MAX 0).done

end Sys2Proof.Machine
end

