-- ==== Sys2Proof/Machine/Crossing.lean ====
section
/-! DEFINITION. The crossing engine: received frames, stations and their admission, line breaks and relay, DOWN frames,
management, and the enables of the crossings and of FIO (spec/06_crossings.md; spec/07 R241).

Marks (notes/assumptions): DEDUCED 54, 55, 56, 57, 58, 82, 136, 141; DESIGN CHOICE 127. -/

namespace Sys2Proof.Machine

/-! ## Frames (R185 to R187) -/

/-- Where the UCP header and the body of a frame start. -/
def ucpBody (f : List Nat) : List Nat := f.drop 30

def ucpSource (f : List Nat) : Nat := beAt f 22 2
def ucpEpoch (f : List Nat) : Nat := beAt f 18 4
def ucpSeq (f : List Nat) : Nat := beAt f 26 4
def ucpLength (f : List Nat) : Nat := beAt f 24 2
def ucpMac (f : List Nat) : Nat := beAt f 6 6

/-- R185. The group address of a crossing. -/
def groupMac (c : Nat) : Nat := 0x03554C464300 + c

/-- R186, R188, R192, R195, R196, R199. The reserved fields of each kind. -/
def reservedZero (f : List Nat) : Bool :=
  let b := ucpBody f
  match f.getD 15 0 with
  | 1 => beAt f 16 2 < 16 && b.getD 0 0 < 8 && b.getD 1 0 == 0
  | 2 => beAt f 16 2 == 0 && b.getD 0 0 < 4 && b.getD 1 0 < 128 && beAt b 2 2 == 0
  | 3 => beAt f 16 2 == 0 && beAt b 2 2 == 0 && b.getD 1 0 < 2 && decide (1 ≤ b.getD 0 0 ∧ b.getD 0 0 ≤ 5)
  | _ => beAt f 16 2 == 0 && beAt b 14 2 == 0 && decide (1 ≤ b.getD 0 0 ∧ b.getD 0 0 ≤ 5)
    && (b.getD 0 0 != 2 || ((b.drop 43).take 5).all (· == 0))

/-- R187. The header of a UCP frame is in order. -/
def headerOk (f : List Nat) : Bool :=
  f.getD 14 0 == 1 && decide (1 ≤ f.getD 15 0 ∧ f.getD 15 0 ≤ 4)
  && (decide (ucpSource f < 0x800) || ucpSource f ∈ [0xF000, 0xF001, 0xF0FF])
  && decide (30 + ucpLength f ≤ f.length) && reservedZero f

/-- R187, R189. The reserved fields of the station blocks of a DOWN frame, where the unit's table has them. -/
def State.blocksOk (s : State) (c : Nat) (f : List Nat) : Bool :=
  let b := ucpBody f
  f.getD 15 0 != 1 || (s.crs.stations.filter fun p => p.1 / 512 == c && p.2.cls == b.getD 0 0
      && decide (12 + p.2.downOffset ≤ ucpLength f)).all fun p =>
    beAt b (8 + p.2.downOffset) 2 < 0x800 && b.getD (10 + p.2.downOffset) 0 < 2 && b.getD (11 + p.2.downOffset) 0 == 0

/-- R187, R217. A frame discarded: its counter, the station's count, source 55 at most once per ms. -/
def State.frameBad (s : State) (c kind : Nat) (f : Fld) (node : Option Nat) : State :=
  let s := s.bump f
  let s := match node.bind s.station, node with
    | some e, some n => s.setStation n { e with dropped := satAdd e.dropped 1 0xFFFFFFFF }
    | _, _ => s
  let key := c * 4 + kind
  let quiet := match Sparse.find s.crs.errTold key with
    | some t => decide (s.now < t + ticksPerMs)
    | none => false
  if quiet then s
  else ({ s with crs := { s.crs with errTold := Sparse.insert s.crs.errTold key s.now } }).post 55 (c + 4 * kind)

/-! ## Lead evidence and heartbeats (R347, R368) -/

/-- R368. Lead evidence: a trail with a request pending untethers. -/
def State.noteEvidence (s : State) : State :=
  let s := { s with par := { s.par with leadEvidence := true, evidenceTick := s.now } }
  if s.isTrail && s.bit PAR.STATUS.REQUEST_PENDING then s.closeRequest.untether 1 else s

/-- R368. Whether a DOWN SEQUENCE lies beyond what the lead announced for the crossing. -/
def State.beyond (s : State) (c seq : Nat) : Bool :=
  match Sparse.find s.par.announced c with
  | some a => decide (0 < toSigned 32 (seq + 2 ^ 32 - a % 2 ^ 32))
  | none => true

/-- R347, R379. The cycle number of a HEARTBEAT: every class cycle known to the unit up to it has committed
(notes/assumptions/82.md). -/
def State.commitFront (s : State) : Nat :=
  let busy := (List.range 8).filter fun k => s.phase k != 0
  let cuts := s.par.follow.cuts.map fun c => c.header.getD 0 0 + c.header.getD 1 0 * 2 ^ 32
  (busy.map fun k => (s.cls k).cycle) ++ cuts |>.foldl (fun m c => min m (c - 1)) s.cycle

/-- R379. A trail that has taken a HANDOVER confirms it with the first HEARTBEAT that says so early enough. -/
def State.confirms (s : State) : State :=
  match s.par.handIn with
  | some (b, e, false) =>
    if s.commitFront + 1 < b || decide (s.cyc.boundary + s.p0 * (b - s.cycle) < s.now + 300) then s
    else { s with par := { s.par with handIn := some (b, e, true) } }
  | _ => s

/-- R347. HEARTBEAT. -/
def State.heartbeat (s : State) : State :=
  s.confirms.ransel 1 ([s.pairState, b2n (s.bit PAR.STATUS.ELIGIBLE && s.par.latchAt.isNone) + 2 * s.get PAR.STATUS.LEASE_HELD, 0, 0]
    ++ leBytes 4 s.par.ownEpoch ++ leBytes 8 s.commitFront ++ leBytes 8 s.pairTick
    ++ (List.range 4).flatMap fun c => leBytes 4 (s.get (FLD.CROSS_DOWN_SEQ.SEQUENCE c)))

/-! ## Station states (R203, R204) -/

/-- The count of ADMITTED stations. -/
def State.countAdmitted (s : State) (c : Nat) : State :=
  s.set (FLD.CROSS_STATUS.ADMITTED c)
    ((s.crs.stations.filter fun p => p.1 / 512 == c && p.2.st == 2).length)

/-- A station takes a state. In WAITING it forgets its identity (R204). -/
def State.toSt (s : State) (node st : Nat) : State :=
  match s.station node with
  | none => s
  | some e =>
    let e' := if st = 1 then { e with st := 1, mac := none, sure := false, asked := none } else { e with st := st }
    let s := s.setStation node e'
    let s := if (e.st == 2) != (st == 2) then s.setLanded node (st == 2) else s
    s.countAdmitted (node / 512)

def State.mismatch (s : State) (node code : Nat) : State :=
  match s.station node with
  | none => s
  | some e => ((s.setStation node { e with code := code }).toSt node 4).post 50 (node + 65536 * code)

/-! ## Line breaks and relay (R208 to R210) -/

/-- R208. Whether this unit finds segment `g` of crossing `c` down. -/
def State.segDown (s : State) (c g : Nat) : Bool :=
  let n := s.get (FLD.CROSS_CFG.POSITIONS c)
  (!s.bit (FLD.CROSS_STATUS.LINK c) && g == (if s.unit = 0 then 0 else n))
  || s.crs.stations.any fun p => p.1 / 512 == c && (match p.2.flags with
    | some v => (p.1 % 512 == g && !v.testBit 0) || (p.1 % 512 + 1 == g && !v.testBit 1)
    | none => false)

/-- The down segments in ascending order. -/
def State.downSegs (s : State) (c : Nat) : List Nat :=
  (List.range (s.get (FLD.CROSS_CFG.POSITIONS c) + 1)).filter (s.segDown c)

/-- R209. Whether a segment is down between the driving bank and the far bank, other than the far bank's own. -/
def State.needsRelay (s : State) (c : Nat) : Bool :=
  let n := s.get (FLD.CROSS_CFG.POSITIONS c)
  let farA := if s.isDriving then s.unit != 0 else s.unit == 0
  (s.downSegs c).any fun g => g != (if farA then 0 else n)

def State.setRelay (s : State) (c : Nat) (b : Bool) : State :=
  if s.bit (FLD.CROSS_STATUS.RELAY c) = b then s
  else (s.setB (FLD.CROSS_STATUS.RELAY c) b).post 53 (c + 4 * b2n b)

/-- R208, R209. BREAK and BREAK_SEGMENT follow; a lead orders relay. -/
def State.refreshBreak (s : State) (c : Nat) : State :=
  let ds := s.downSegs c
  let brk := !ds.isEmpty
  let seg := if s.unit = 0 then ds.headD 0 else ds.getLastD 0
  let s := if s.bit (FLD.CROSS_STATUS.BREAK c) = brk && s.get (FLD.CROSS_STATUS.BREAK_SEGMENT c) == seg then s
    else ((s.setB (FLD.CROSS_STATUS.BREAK c) brk).set (FLD.CROSS_STATUS.BREAK_SEGMENT c) seg).post 52
      (c + 4 * b2n brk + 16 * seg)
  if s.pairState = 2 && s.crossOn c && s.needsRelay c then s.setRelay c true else s

/-- R208, R209. What a new lead finds of each crossing. -/
def State.refreshBreaks (s : State) : State :=
  (List.range 4).foldl (fun s c => if s.crossOn c then s.refreshBreak c else s) s

/-- R209. Relay ends at the first boundary at which no such segment is found down. -/
def State.relayBoundary (s : State) : State :=
  (List.range 4).foldl (fun s c => if s.needsRelay c then s else s.setRelay c false) s

/-- R210. Whether the other unit's bank cannot reach the station. -/
def State.cutOff (s : State) (node : Nat) : Bool :=
  (s.downSegs (node / 512)).any fun g => if s.unit = 0 then node % 512 < g else g ≤ node % 512

/-! ## UP frames (R192 to R194, R203, R204, R207) -/

/-- R196, R185. A management frame of this unit. -/
def State.sendMgmt (s : State) (c dst : Nat) (body : List Nat) : State :=
  let q := (Sparse.get 0 s.crs.mgmtSeq c + 1) % 2 ^ 32
  ({ s with crs := { s.crs with mgmtSeq := Sparse.insert s.crs.mgmtSeq c q } }).sendUcp c dst 4 0
    s.par.ownEpoch q body

/-- The next REQUEST_ID. -/
def State.nextId (s : State) : Nat × State :=
  let i := (s.crs.nextId + 1) % 2 ^ 32
  (i, { s with crs := { s.crs with nextId := i } })

/-- R196. The body of a DISCOVER. -/
def discoverBody (bank id : Nat) : List Nat := [1, 0, 0, bank] ++ beBytes 4 id ++ beBytes 4 0 ++ [0, 0, 0, 0]

/-- R204. The identity check of a station starts. -/
def State.askIdentity (s : State) (node mac : Nat) (e : Station) : State :=
  let (i, s) := s.nextId
  let s := s.setStation node { e with mac := some mac, asked := some i }
  let s := { s with crs := { s.crs with
    checks := s.crs.checks ++ [(i, node, s.now + s.get FLD.MGMT_TIMEOUT.TICKS)] } }
  s.sendMgmt (node / 512) mac (discoverBody (s.unit % 2) i)

/-- R192. Whether every pair-word of an UP body passes its check, and the values that it carries. -/
def upValues (e : Station) (body : List Nat) : Bool × List Nat :=
  let plain := (List.range e.inPlain).map fun i => beAt body (16 + 4 * i) 4
  let off := 16 + 4 * e.inPlain
  let pairs := (List.range e.inPair).map fun i => (beAt body (off + 8 * i) 4, beAt body (off + 8 * i + 4) 4)
  (pairs.all fun (p : Nat × Nat) => p.2 == compl32 p.1, plain ++ pairs.map fun (p : Nat × Nat) => p.1)

/-- R207. What a landed frame tells of SUBSTITUTE: source 57 once for each entry of an ADMITTED station. -/
def State.substitute (s : State) (node : Nat) (sub : Bool) : State :=
  match s.station node with
  | none => s
  | some e =>
    if sub = e.subst || (sub && e.st != 2) then s
    else
      let s := s.setStation node { e with subst := sub }
      if sub then s.post 57 node else s

/-- R194, R203, R204. A frame that passes lands: values with complements, the newest bodies, and what it sets off. -/
def State.land (s : State) (node : Nat) (f : List Nat) (vals : List Nat) : State :=
  match s.station node with
  | none => s
  | some e =>
    let hist := ((ucpSeq f, (ucpBody f).take (ucpLength f)) :: e.hist.filter fun (h : Nat × List Nat) => h.1 != ucpSeq f).take 4
    let s := (s.setStation node { e with landed := s.now, hist := hist }).putPairs 10 (inAddr e.inBase) vals
    let s := s.epochAbove (ucpEpoch f)
    let s := (s.spurLanding node (if e.inPlain = 0 then 0 else vals.headD 0)).loopLanding e.inBase e.inWords
    match s.station node with
    | none => s
    | some e =>
      let s := if e.st = 2 then s
        else if e.device ≠ 0 ∧ !e.sure then
          if e.asked.isSome then s else s.askIdentity node (e.mac.getD (ucpMac f)) e
        else (s.toSt node 2).post 48 node
      s.substitute node ((ucpBody f).getD 0 0 == 3)

/-- R194, R203. The checks of R194, in their order. -/
def State.checkUp (s : State) (node : Nat) (e : Station) (void : Bool) (f : List Nat) : State :=
  let c := node / 512
  let body := ucpBody f
  let (ok, vals) := upValues e body
  if ucpLength f ≠ e.upBytes then if e.st = 4 then s else s.mismatch node 0
  else if !ok then s.frameBad c 1 (FLD.CROSS_PAIR_ERRORS.COUNT c) (some node)
  else if beAt body 12 4 ≠ e.crc then if e.st = 4 then s else s.mismatch node 1
  else if e.st = 4 then s.toSt node 1
  else if void then (s.bump PIM.VERSION_ECC.COUNT).post 65 node
  else s.land node f vals

/-- R204. A frame from another source address than the recorded one: the station waits, and its identity is checked again. -/
def State.otherMac (s : State) (node : Nat) : State := s.toSt node 1

/-- R208, R368. What an UP frame tells before it lands. -/
def State.heard (s : State) (c node : Nat) (e : Station) (f : List Nat) : State :=
  let body := ucpBody f
  let pf := body.getD 1 0
  let s := s.setStation node { e with flags := some pf, high := ucpEpoch f }
  let s := if s.get (FLD.CROSS_HIGH_EPOCH.EPOCH c) < ucpEpoch f
    then s.set (FLD.CROSS_HIGH_EPOCH.EPOCH c) (ucpEpoch f) else s
  let s := s.refreshBreak c
  if !s.isDriving && pf.testBit 6 && s.beyond c (beAt body 4 4) then s.noteEvidence else s

/-- R184. A station's port that links at 1 Gbit/s. -/
def slowPort (pf : Nat) : Bool := (pf.testBit 0 && !pf.testBit 2) || (pf.testBit 1 && !pf.testBit 3)

/-- R184. The crossing goes to 1 Gbit/s, where its rate is automatic. -/
def State.slowDown (s : State) (c : Nat) : State :=
  if s.get (FLD.CROSS_CFG.RATE_MODE c) ≠ 0 ∨ s.crs.slow.contains c then s
  else (({ s with crs := { s.crs with slow := s.crs.slow ++ [c] } }).set (FLD.CROSS_STATUS.RATE c) 0).post 58 c

/-- An UP frame whose header is in order, received directly or over the Ransel link. -/
def State.upFrame (s : State) (c : Nat) (void : Bool) (f : List Nat) : State :=
  let node := ucpSource f
  match s.station node with
  | none => s.frameBad c 2 (FLD.CROSS_DISCARDS.COUNT c) none
  | some e =>
    if node / 512 ≠ c then s.frameBad c 2 (FLD.CROSS_DISCARDS.COUNT c) none
    else
      let s := s.heard c node e f
      let s := if slowPort ((ucpBody f).getD 1 0) then s.slowDown c else s
      match s.station node with
      | none => s
      | some e =>
        if e.device ≠ 0 ∧ e.mac.isSome ∧ e.mac ≠ some (ucpMac f) ∧ (e.st ≠ 4 ∨ e.code = 2) then s.otherMac node
        else if e.st = 4 ∧ e.code = 2 then s
        else s.checkUp node e void f

/-! ## Management answers (R196, R199, R204, R216) -/

/-- R204. An IDENTIFY that answers an open identity check. -/
def State.identified (s : State) (node : Nat) (e : Station) (f : List Nat) : State :=
  let s := s.setStation node { e with asked := none }
  if beAt (ucpBody f) 16 4 = e.device then
    match s.station node with
    | some e => s.setStation node { e with sure := true }
    | none => s
  else s.mismatch node 2

/-- R216. A 48-byte record of a DISCOVER. -/
def discoverRecord (f : List Nat) (tick : Nat) : List Nat :=
  (f.drop 6).take 6 ++ [0, 0] ++ (List.range 32).map (fun i => (ucpBody f).getD (16 + i) 0) ++ leBytes 4 tick
    ++ [0, 0, 0, 0]

def State.dropWait (s : State) (w : MgmtWait) : State :=
  { s with crs := { s.crs with waits := s.crs.waits.filter fun x => x.id != w.id } }

/-- R216. A record joins the buffer of a DISCOVER that waits. -/
def State.discovered (s : State) (w : MgmtWait) (f : List Nat) : State :=
  match s.startedAt w.ring w.idx with
  | none => s.dropWait w
  | some d =>
    if w.full then s
    else match s.writeBuf (s.via 9 d) (d.d.secondary + 48 * w.recs) (discoverRecord f s.now) with
      | (s, m, some e) => (s.dropWait w).finishErr d e (48 * w.recs + m)
      | (s, _, none) =>
        let w' := { w with recs := w.recs + 1, full := decide (d.d.w1 < 48 * (w.recs + 2)) }
        { s with crs := { s.crs with waits := s.crs.waits.map fun x => if x.id == w.id then w' else x } }

def State.identifyFrame (s : State) (f : List Nat) : State :=
  let id := beAt (ucpBody f) 4 4
  match s.crs.checks.find? (fun k => k.1 == id) with
  | some k =>
    match s.station k.2.1 with
    | some e => if e.asked = some id ∧ e.mac = some (ucpMac f) then
        (({ s with crs := { s.crs with checks := s.crs.checks.filter (fun x => x.1 != id) } })).identified k.2.1 e f
      else s
    | none => s
  | none => match s.crs.waits.find? (fun w => w.id == id) with
    | some w => match s.startedAt w.ring w.idx with
      | some d => if d.d.opcode = 2 then s.discovered w f else s
      | none => s
    | none => s

/-- R196, R216. A RESPONSE: reserved STATUS codes count as 4. -/
def State.responseFrame (s : State) (c : Nat) (f : List Nat) : State :=
  match s.crs.waits.find? (fun w => w.id == beAt (ucpBody f) 4 4 && w.cross == c) with
  | none => s
  | some w => match s.startedAt w.ring w.idx with
    | none => s.dropWait w
    | some d =>
      if d.d.opcode ≠ 1 then s
      else
        let s := s.dropWait w
        let body := (ucpBody f).take (min (ucpLength f) 1040)
        let st := (ucpBody f).getD 1 0
        match s.writeBuf (s.via 9 d) d.d.secondary body with
        | (s, m, some e) => s.finishErr d e m
        | (s, _, none) => s.finish d 0 body.length (if 5 < st then 4 else st)

/-! ## Reception -/

/-- R368, R340. A DOWN frame at the unit's bank. -/
def State.downFrame (s : State) (c : Nat) (f : List Nat) : State :=
  let s := s.seeEpoch (ucpEpoch f)
  if !s.isDriving && ucpSource f == 0xF000 + (1 - s.unit) && ucpEpoch f == s.par.partnerEpoch && s.beyond c (ucpSeq f)
  then s.noteEvidence else s

/-- A frame whose header is in order, by its kind. LEASE frames have rows of their own (R363). -/
def State.ucpFrame (s : State) (c : Nat) (void : Bool) (f : List Nat) : State :=
  match f.getD 15 0 with
  | 1 => s.downFrame c f
  | 2 => s.upFrame c void f
  | 4 => match (ucpBody f).getD 0 0 with
    | 2 => s.identifyFrame f
    | 5 => s.responseFrame c f
    | _ => s
  | _ => s

/-- R183, R187, R428. A frame received on crossing `c`. -/
def State.crossFrame (s : State) (c : Nat) (fcsOk void : Bool) (f : List Nat) : State :=
  if !s.crossOn c || beAt f 12 2 == 0x88F7 then s else
  let node := if ucpSource f < 0x800 then some (ucpSource f) else none
  if !fcsOk then s.frameBad c 0 (FLD.CROSS_FCS_ERRORS.COUNT c) node
  else if beAt f 12 2 != s.get FLD.ETHERTYPE.VALUE || f.length < 60 || decide (9212 < f.length)
  then s.frameBad c 2 (FLD.CROSS_DISCARDS.COUNT c) none
  else if !headerOk f || !s.blocksOk c f then s.frameBad c 0 (FLD.CROSS_DISCARDS.COUNT c) node
  else
    let s := if f.getD 15 0 == 2 && s.bit (FLD.CROSS_STATUS.RELAY c) && s.cutOff (ucpSource f)
      then s.ransel 0x30 ([c, 0, 0, 0] ++ f) else s
    s.ucpFrame c void f

def execUpFrameLanded (c : Fin 4) (fcsOk void : Bool) (frame : List Nat) (s : State) : Answer :=
  (s.crossFrame c fcsOk void frame).done
def execDownFrameReceived (c : Fin 4) (fcsOk : Bool) (frame : List Nat) (s : State) : Answer :=
  (s.crossFrame c fcsOk false frame).done
def execIdentify (c : Fin 4) (fcsOk : Bool) (frame : List Nat) (s : State) : Answer :=
  (s.crossFrame c fcsOk false frame).done
def execResponse (c : Fin 4) (fcsOk : Bool) (frame : List Nat) (s : State) : Answer :=
  (s.crossFrame c fcsOk false frame).done

/-- R204, R216. MGMT_TIMEOUT has passed for REQUEST_ID `id`. -/
def State.mgmtExpiry (s : State) (id : Nat) : State :=
  match s.crs.checks.find? (fun k => k.1 == id) with
  | some k =>
    if s.now < k.2.2 then s
    else
      let s := { s with crs := { s.crs with checks := s.crs.checks.filter (fun x => x.1 != id) } }
      match s.station k.2.1 with
      | some e => if e.asked = some id then s.setStation k.2.1 { e with asked := none } else s
      | none => s
  | none => match s.crs.waits.find? (fun w => w.id == id) with
    | none => s
    | some w =>
      if s.now < w.due then s
      else match s.startedAt w.ring w.idx with
        | none => s.dropWait w
        | some d => if d.d.opcode = 1 then (s.dropWait w).finish d 0x30
          else (s.dropWait w).finish d (b2n w.full) (48 * w.recs)

def execMgmtTimeoutExpiry (id : Nat) (s : State) : Answer := (s.mgmtExpiry id).done

/-- R183, R184, R208. A crossing port's link changes; `fast` says whether the far end offers 2.5 Gbit/s. The port offers only the
rates of RATE_MODE: no link comes up with a far end that has none of them, and the only rate of mode 2 is 1 Gbit/s
(notes/assumptions/136.md). -/
def State.crossLink (s : State) (c : Nat) (up fast : Bool) : State :=
  if !s.domOn 4 then s else
  let mode := s.get (FLD.CROSS_CFG.RATE_MODE c)
  let up := up && (fast || mode != 1)
  let fast := fast && mode != 2
  let rate := up && fast && !s.crs.slow.contains c
  if s.bit (FLD.CROSS_STATUS.LINK c) = up && (!up || s.bit (FLD.CROSS_STATUS.RATE c) = rate) then s
  else
    let s := s.setB (FLD.CROSS_STATUS.LINK c) up
    let s := if up then s.setB (FLD.CROSS_STATUS.RATE c) rate else s
    let s := s.post 51 (c + 4 * b2n up + 8 * s.get (FLD.CROSS_STATUS.RATE c))
    let s := if up && !fast then s.slowDown c else s
    if s.crossOn c then s.refreshBreak c else s

def execCrossingLinkChange (c : Fin 4) (up fast : Bool) (s : State) : Answer := (s.crossLink c up fast).done

/-! ## The station table (R201 to R203) -/

def State.stationTable (s : State) : Nat :=
  s.get FLD.STATION_TABLE_LO.ADDR * 32 + s.get FLD.STATION_TABLE_HI.ADDR * 2 ^ 32

/-- Bits set in a byte. -/
def popByte (v : Nat) : Nat := (List.range 8).foldl (fun a i => a + bitOf v i) 0

/-- The entries of crossing `c` from node index `lo`, `n` of them; none where they cannot be read. -/
def State.entriesRead (s : State) (c lo n : Nat) : State × Option (List Station) :=
  match s.readBuf { init := 9 } (s.stationTable + 32 * (512 * c + lo)) (32 * n) with
  | (s, _, some _) => (s, none)
  | (s, bs, none) => (s, some ((List.range n).map fun i => { entry := (bs.drop (32 * i)).take 32 }))

def Station.cause2 (n i : Nat) (e : Station) : Bool :=
  4 ≤ e.entry.getD 0 0 || 8 ≤ e.entry.getD 1 0 || 16 ≤ e.entry.getD 3 0 || leAt e.entry 0xE 2 != 0
  || leAt e.entry 0x18 8 != 0 || (e.present && n ≤ i)

def Station.cause3 (e : Station) : Bool :=
  let k := popByte e.mask
  e.present && (2 < k || (k == 0 && e.inWords != 0) || e.entry.getD 3 0 % 16 == 1 || e.inBase < 128)

/-- Pairs of a list, each with every later one. -/
def laterPairs {α : Type} : List α → List (α × α)
  | [] => []
  | x :: r => r.map (fun y => (x, y)) ++ laterPairs r

/-- The stations of the crossings other than `c`. -/
def State.others (s : State) (c : Nat) : List Station := (s.crs.stations.filter fun p => p.1 / 512 != c).map (·.2)

/-- Cause 4: input and output areas, beside the stations `os` of the other crossings. -/
def State.cause4 (s : State) (os es : List Station) : Bool :=
  let areas := es.map fun e => (e.inBase, e.inWords)
  let others := os.map fun e => (e.inBase, e.inWords)
  let locals := (if s.bit FIO.CTRL.ENABLE then [(s.get FIO.IMAGE.IN_BASE, 64)] else [])
    ++ (if s.bit CLP.CTRL.ENABLE then [(s.get CLP.IMAGE.IN_BASE, 32)] else [])
  let hit (p q : Nat × Nat) : Bool := overlaps p.1 p.2 q.1 q.2
  (laterPairs areas).any (fun (p : (Nat × Nat) × (Nat × Nat)) => hit p.1 p.2)
  || areas.any (fun p => (others ++ locals).any (hit p) || 65536 < p.1 + p.2)
  || es.any fun e => 65536 < e.outBase + e.outWords

/-- Cause 5: blocks of one class, and the lengths of the frames. -/
def cause5 (es : List Station) : Bool :=
  let ds := es.filter fun e => !e.witness
  ds.any (fun e => e.downOffset % 4 != 0 || 9216 < 14 + 16 + 8 + e.downOffset + e.blockBytes + 4
    || 9216 < 14 + 16 + e.upBytes + 4)
  || (laterPairs ds).any fun (p : Station × Station) => p.1.cls == p.2.cls
    && overlaps p.1.downOffset p.1.blockBytes p.2.downOffset p.2.blockBytes

/-- R202. The first failing cause of the entries read (2, 3, 4, 5) beside the stations `os` of the other crossings, or 0. -/
def State.tableCauseBeside (s : State) (c : Nat) (os es : List Station) : Nat :=
  let n := s.get (FLD.CROSS_CFG.POSITIONS c)
  let live := es.filter Station.present
  if ((List.range es.length).zip es).any (fun (p : Nat × Station) => p.2.cause2 n p.1) then 2
  else if es.any Station.cause3 then 3
  else if s.cause4 os live then 4
  else if cause5 live then 5
  else 0

/-- R202. The first failing cause beside the other crossings as they are. -/
def State.tableCause (s : State) (c : Nat) (es : List Station) : Nat := s.tableCauseBeside c (s.others c) es

/-- R202. Cause 1. -/
def State.cause1 (s : State) (c : Nat) : Bool :=
  let n := s.get (FLD.CROSS_CFG.POSITIONS c)
  s.get (FLD.CROSS_CFG.RATE_MODE c) == 3 || n == 0 || 512 < n || s.get FLD.ETHERTYPE.VALUE < 0x600

/-- R203. The entries from index `lo` put into force: a PRESENT station waits, a witness has no state (R182). -/
def State.install (s : State) (c lo : Nat) (es : List Station) : State :=
  let s := ((List.range es.length).zip es).foldl (fun s (p : Nat × Station) =>
    let node := 512 * c + lo + p.1
    let s := match s.station node with
      | some e => if e.st = 2 then s.setLanded node false else s
      | none => s
    if p.2.present && !p.2.witness then s.setStation node p.2
    else { s with crs := { s.crs with stations := Sparse.erase s.crs.stations node } }) s
  let kept := s.crs.kept.filter fun p => !decide (512 * c + lo ≤ p.1 ∧ p.1 < 512 * c + lo + es.length)
  (({ s with crs := { s.crs with kept := kept } }).countAdmitted c).refreshBreak c

def State.crossRefuse (s : State) (c cause : Nat) : State :=
  (s.set (FLD.CROSS_CFG.ENABLE c) 0).set (FLD.CROSS_CFG.CFG_CAUSE c) cause

/-- R202. The enable of a crossing checked and made. -/
def State.crossCheck (s : State) (c : Nat) : State :=
  if s.cause1 c then s.crossRefuse c 1
  else if !inSramDram s.stationTable 65536 then s.crossRefuse c 6
  else match s.entriesRead c 0 512 with
    | (s, none) => s.crossRefuse c 6
    | (s, some es) =>
      let k := s.tableCause c es
      if k ≠ 0 then s.crossRefuse c k
      else ((s.set (FLD.CROSS_CFG.ENABLE c) 1).set (FLD.CROSS_CFG.CFG_CAUSE c) 0).install c 0 es

/-- R202. ENABLE set. -/
def State.crossEnable (s : State) (c : Nat) : State :=
  if s.bit (FLD.CROSS_CFG.ENABLE c) || s.targetFailed [8, 22] then s else s.crossCheck c

def execCrossingEnable (c : Fin 4) (s : State) : Answer := (s.crossEnable c).done

/-- R202. ENABLE cleared: its stations become unconfigured, and the values of their areas hold. -/
def State.crossDisable (s : State) (c : Nat) : State :=
  if !s.bit (FLD.CROSS_CFG.ENABLE c) then s
  else
    let s := s.set (FLD.CROSS_CFG.ENABLE c) 0
    let kept := (s.crs.stations.filter fun p => p.1 / 512 == c).map fun p => (p.1, { p.2 with st := 0 })
    let s := { s with crs := { s.crs with kept := s.crs.kept ++ kept } }
    let s := (s.nodesOf c).foldl (fun s n =>
      let s := match s.station n with
        | some e => if e.st = 2 then s.setLanded n false else s
        | none => s
      { s with crs := { s.crs with stations := Sparse.erase s.crs.stations n } }) s
    ((s.countAdmitted c).setRelay c false).refreshBreak c

def execCrossingDisable (c : Fin 4) (s : State) : Answer := (s.crossDisable c).done

/-! ## STALE stations (R205) -/

/-- R205. At a cut of class `k` by the unit's own landings: stations whose newest frame is too old become STALE. The loops of a
trail follow the lead's cut instead (R307). -/
def State.staleCut (s : State) (k : Nat) : State :=
  (s.crs.stations.filter fun p => p.2.mask.testBit k && p.2.st == 2
    && decide (p.2.landed + p.2.missLimit * s.period p.2.cls < s.now)).foldl (fun s p =>
      let s := (s.toSt p.1 3).bump (FLD.CROSS_STALE_COUNT.COUNT (p.1 / 512))
      let s := s.post 49 p.1
      if s.isTrail then s else s.loopStale p.2.inBase p.2.inWords) s

/-! ## DOWN frames (R188 to R190, R209, R213) -/

/-- R153. Bits of a value word that a kind 0 force entry at `a` replaces. -/
def State.overlay (s : State) (a v : Nat) : Nat :=
  match s.cyc.forces.find? (fun f => f.kind == 0 && f.target / 8 == a / 8) with
  | some f => (v - Nat.land v f.mask) + Nat.land f.value f.mask
  | none => v

/-- R213. The output words of a station, forced bits included. -/
def State.outWords (s : State) (e : Station) : List Nat :=
  (List.range e.outWords).map fun i => s.overlay (outAddr (e.outBase + i)) (s.word (outAddr (e.outBase + i)))

/-- R213. The output words of a station that fail: cause (1 invalid, 2 ECC) and index. -/
def State.outFails (s : State) (e : Station) : List (Nat × Nat) :=
  (List.range e.outWords).filterMap fun i =>
    let a := outAddr (e.outBase + i)
    if s.unitBad (a / 8) then some (2, e.outBase + i)
    else if !pairOk (s.bytes a 8) then some (1, e.outBase + i) else none

/-- R189. A station block. -/
def stationBlock (node : Nat) (e : Station) (hold : Bool) (vals : List Nat) : List Nat :=
  beBytes 2 node ++ [b2n hold, 0] ++
    (if hold then List.replicate (4 * e.outPlain + 8 * e.outPair) 0
     else (vals.take e.outPlain).flatMap (beBytes 4)
       ++ (vals.drop e.outPlain).flatMap fun v => beBytes 4 v ++ beBytes 4 (compl32 v))

/-- Bytes put at an offset of a block area. -/
def splice (area : List Nat) (off : Nat) (bs : List Nat) : List Nat :=
  area.take off ++ bs ++ area.drop (off + bs.length)

/-- R190, R213, R220. The block of one station: every failing pair-word is counted and told, and each cause of HOLD when it first
comes. -/
def State.buildBlock (s : State) (allHold : Bool) (node : Nat) (e : Station) : State × List Nat :=
  if e.st = 2 ∧ allHold then (s, stationBlock node e true [])
  else
    let fails := if e.st = 2 then s.outFails e else []
    let causes := (if e.st = 2 then [] else [0]) ++ [1, 2].filter fun k => fails.any (·.1 == k)
    let vals := s.outWords e
    let s := fails.foldl (fun s f => s.outputFault f.2) s
    let s := causes.foldl (fun s k => if e.told.contains k then s else s.post 56 (node + 4096 * k)) s
    (s.setStation node { e with told := causes }, stationBlock node e (!causes.isEmpty) vals)

/-- R433. A DOWN frame leaves on crossing `c`. -/
def State.downSent (s : State) (c : Nat) : State := { s with tim := { s.tim with downAt := Sparse.insert s.tim.downAt c s.now } }

/-- The DOWN frame of class `k` on crossing `c`, carrying `cycle`. -/
def State.sendDown (s : State) (c k cycle : Nat) : State :=
  let sts := s.crs.stations.filter fun p => p.1 / 512 == c && p.2.cls == k
  if !s.crossOn c || !s.isDriving || sts.isEmpty then s else
  let stop := !s.inRun
  let debug := s.get VOT.STATUS.MODE == 3
  let len := sts.foldl (fun m p => max m (p.2.downOffset + p.2.blockBytes)) 0
  let (s, area) := sts.foldl (fun (q : State × List Nat) p =>
    let (s, b) := q.1.buildBlock (stop || s.vot.halted) p.1 p.2
    (s, splice q.2 p.2.downOffset b)) (s, List.replicate len 0)
  let seq := (s.get (FLD.CROSS_DOWN_SEQ.SEQUENCE c) + 1) % 2 ^ 32
  let s := s.set (FLD.CROSS_DOWN_SEQ.SEQUENCE c) seq
  let s := s.heartbeat
  let flags := b2n stop + 2 * b2n (s.cyc.forces != []) + 4 * b2n debug
  let f := etherFrame (groupMac c) (portMac c) (s.get FLD.ETHERTYPE.VALUE)
    (ucpHeader 1 flags s.par.ownEpoch s.source (8 + len) seq
      ++ [k, 0] ++ beBytes 2 sts.length ++ beBytes 4 (cycle % 2 ^ 32) ++ area)
  let s := (s.send (.frame c f)).downSent c
  let s := if s.bit (FLD.CROSS_STATUS.RELAY c) then s.ransel 0x30 ([c, 0, 0, 0] ++ f) else s
  s.behindDown c k

/-- The DOWN frames of class `k` on every crossing. -/
def State.launch (s : State) (k cycle : Nat) : State := (List.range 4).foldl (fun s c => s.sendDown c k cycle) s

/-! ## Relay from the partner (R209, R210, R372, R373) -/

/-- R209. The RELAYED flag set in a frame. -/
def markRelayed (f : List Nat) : List Nat :=
  f.set 17 (setBit (f.getD 17 0) 3)

/-- A RELAY message: a DOWN frame leaves by the own bank, an UP frame lands, other frames leave as they are. -/
def State.relayed (s : State) (c : Nat) (f : List Nat) : State :=
  if !s.crossOn c || 4 ≤ c then s
  else if f.getD 15 0 = 1 then
    let floor := if s.pairState = 5 then s.get PAR.EPOCH.EPOCH else s.par.ownEpoch
    if ucpEpoch f < floor then s
    else ((s.seeEpoch (ucpEpoch f)).setRelay c true).send (.frame c (markRelayed f)) |>.downSent c
  else if f.getD 15 0 = 2 then if headerOk f then s.upFrame c false f else s
  else s.send (.frame c f)

/-! ## Management descriptors (R216) -/

def Desc.crossing (d : Desc) : Nat := d.eflags % 4

/-- The rules that hold for every opcode. -/
def crossBad (d : Desc) : Bool := d.eflags.testBit 2 || bitsOf d.w5 8 24 != 0

/-- A descriptor waits for answers to REQUEST_ID `id`. -/
def State.awaitMgmt (s : State) (d : Started) (id : Nat) (full : Bool) : State :=
  let w : MgmtWait := ⟨d.ring, d.idx, id, d.d.crossing, s.now + s.get FLD.MGMT_TIMEOUT.TICKS, 0, full⟩
  ({ s with crs := { s.crs with waits := s.crs.waits ++ [w] } }).accept d

/-- R216. MGMT_REQUEST. The manual does not say which station's address the frame carries: a free value. -/
def State.mgmtRequest (s : State) (d : Started) : State :=
  let n := d.d.w1
  if crossBad d.d || n < 16 || 1040 < n then s.finish d 0x10
  else if s.isTrail then s.finish d 0x60 0 1
  else match s.readBuf (s.via 9 d) d.d.primary n with
    | (s, _, some e) => s.finishErr d e
    | (s, body, none) =>
      if body.getD 0 0 ≠ 3 ∧ body.getD 0 0 ≠ 4 then s.finish d 0x10
      else
        let (id, s) := s.nextId
        let (mac, s) := s.fresh
        let body := body.take 4 ++ beBytes 4 id ++ body.drop 8
        let s := if s.crossOn d.d.crossing then s.sendMgmt d.d.crossing (mac % 2 ^ 48) body else s
        s.awaitMgmt d id false

def execMgmtRequest (n : Fin 64) (s : State) : Answer := (s.onOffer n [1] 1 State.mgmtRequest).done

/-- R216. DISCOVER, from the own bank or through the partner from the other. -/
def State.discover (s : State) (d : Started) : State :=
  let bank := d.d.w2
  let c := d.d.crossing
  if crossBad d.d || 1 < bank || d.d.w3 != 0 then s.finish d 0x10
  else if s.isTrail then s.finish d 0x60 0 1
  else
    let (id, s) := s.nextId
    let body := discoverBody bank id
    let s := if !s.crossOn c then s
      else if bank = s.unit then s.sendMgmt c (groupMac c) body
      else
        let q := (Sparse.get 0 s.crs.mgmtSeq c + 1) % 2 ^ 32
        ({ s with crs := { s.crs with mgmtSeq := Sparse.insert s.crs.mgmtSeq c q } }).ransel 0x30 ([c, 0, 0, 0]
          ++ etherFrame (groupMac c) (portMac c) (s.get FLD.ETHERTYPE.VALUE)
            (ucpHeader 4 0 s.par.ownEpoch s.source 16 q ++ body))
    s.awaitMgmt d id (decide (d.d.w1 < 48))

def execDiscover (n : Fin 64) (s : State) : Answer := (s.onOffer n [1] 2 State.discover).done

/-- R216. A STATION_STATUS record. -/
def State.stationRecord (s : State) (node : Nat) : List Nat :=
  match s.station node with
  | some e => leBytes 2 node ++ [e.st, e.flags.getD 0] ++ leBytes 4 e.high ++ leBytes 4 e.landed ++ leBytes 4 e.dropped
  | none => leBytes 2 node ++ List.replicate 14 0

/-- The rules of a node range. -/
def rangeBad (d : Desc) : Bool :=
  crossBad d || d.w1 == 0 || 2048 < d.w1 || 2048 ≤ d.w2 || d.w3 != 0 || 2048 < d.w2 + d.w1

def State.stationStatus (s : State) (d : Started) : State :=
  if rangeBad d.d then s.finish d 0x10
  else match s.writeBuf (s.via 9 d) d.d.secondary ((List.range d.d.w1).flatMap fun i => s.stationRecord (d.d.w2 + i)) with
    | (s, m, some e) => s.finishErr d e m
    | (s, m, none) => s.finish d 0 m

def execStationStatus (n : Fin 64) (s : State) : Answer := (s.onOffer n [1] 3 State.stationStatus).done

/-- R216. STATION_UPDATE waits for the next boundary. -/
def State.stationUpdate (s : State) (d : Started) : State :=
  if rangeBad d.d || d.d.w4 != 0 || d.d.w5 != 0 then s.finish d 0x10
  else ({ s with crs := { s.crs with updates := s.crs.updates ++ [(d.ring, d.idx)] } }).accept d

def execStationUpdate (n : Fin 64) (s : State) : Answer := (s.onOffer n [1] 4 State.stationUpdate).done

/-- The part of the node range [first, first + n) on each enabled crossing: crossing, first index, count. -/
def State.updateParts (s : State) (first n : Nat) : List (Nat × Nat × Nat) :=
  (List.range 4).filterMap fun c =>
    let lo := max first (512 * c)
    let hi := min (first + n) (512 * c + 512)
    if s.crossOn c && decide (lo < hi) then some (c, lo - 512 * c, hi - lo) else none

/-- The entries of a crossing as they would be with some of them reloaded. -/
def State.merged (s : State) (c lo : Nat) (es : List Station) : List Station :=
  (List.range 512).map fun i =>
    if lo ≤ i ∧ i < lo + es.length then es.getD (i - lo) { entry := [] }
    else (s.station (512 * c + i)).getD { entry := List.replicate 32 0 }

/-- The parts read: none where the table cannot be. -/
def State.readParts (s : State) : List (Nat × Nat × Nat) → State × Option (List (Nat × Nat × List Station))
  | [] => (s, some [])
  | (c, lo, n) :: r =>
    match s.entriesRead c lo n with
    | (s, none) => (s, none)
    | (s, some es) =>
      let (s, l) := s.readParts r
      (s, l.map ((c, lo, es) :: ·))

/-- R202, R216. The first failing cause of the parts, each beside what every other crossing will hold. -/
def State.partsCause (s : State) (l : List (Nat × Nat × List Station)) : Nat :=
  let after (c : Nat) : List Station := match l.find? (·.1 == c) with
    | some p => s.merged c p.2.1 p.2.2
    | none => (s.crs.stations.filter fun p => p.1 / 512 == c).map (·.2)
  let live (c : Nat) : List Station := (after c).filter fun e => e.present && !e.witness
  (l.map fun p => s.tableCauseBeside p.1 (((List.range 4).filter (· != p.1)).flatMap live) (after p.1)).find? (· != 0) |>.getD 0

/-- R216. A STATION_UPDATE at its boundary. -/
def State.updateNow (s : State) (d : Started) : State :=
  let parts := s.updateParts d.d.w2 d.d.w1
  if parts.any (fun p => s.cause1 p.1) then s.finish d 0x10 0 1
  else if parts ≠ [] ∧ !inSramDram s.stationTable 65536 then s.finish d 0x10 0 6
  else match s.readParts parts with
    | (s, none) => s.finish d 0x10 0 6
    | (s, some l) =>
      let k := s.partsCause l
      if k ≠ 0 then s.finish d 0x10 0 k
      else (l.foldl (fun s p => s.install p.1 p.2.1 p.2.2) s).finish d 0

/-- What the crossing engine does at a boundary. -/
def State.crossBoundary (s : State) : State :=
  let ups := s.crs.updates
  let s := { s with crs := { s.crs with updates := [] } }
  (ups.foldl (fun s p => match s.startedAt p.1 p.2 with
    | some d => s.updateNow d
    | none => s) s).relayBoundary

/-! ## The enable of FIO (R241) -/

/-- R241. The first failing cause, or 0. -/
def State.fioCause (s : State) : Nat :=
  let base := s.get FIO.IMAGE.IN_BASE
  let chans (c : Nat) : List Nat := [8 * c, 8 * c + 1] ++ (if s.bit (FIO.CNT_CFG.INDEX_ENABLE c) then [8 * c + 2] else [])
  if base < 128 ∨ 65472 < base then 1
  else if s.get FIO.IMAGE.OUT_BASE % 32 ≠ 0 then 2
  else if s.touchesStation base 64 || (s.bit CLP.CTRL.ENABLE && overlaps base 64 (s.get CLP.IMAGE.IN_BASE) 32) then 3
  else if (List.range 4).any (fun c => s.get (FIO.CNT_CFG.MODE c) != 0
      && (chans c).any fun n => s.get (FIO.CH_CFG.DIR n) != 0) then 4
  else if (List.range 32).any (fun n => s.get (FIO.CH_CFG.DIR n) == 3) then 5
  else 0

/-- R241. ENABLE set. -/
def State.fioEnable (s : State) : State :=
  if s.bit FIO.CTRL.ENABLE || s.targetFailed [12] then s
  else
    let k := s.fioCause
    ((s.setB FIO.CTRL.ENABLE (k == 0)).setB FIO.CTRL.CFG_ERR (k != 0)).set FIO.CTRL.CFG_CAUSE k

def execFioEnable (s : State) : Answer := s.fioEnable.done

end Sys2Proof.Machine
end

