-- ==== Sys2Proof/Machine/Cyc.lean ====
section
/-! DEFINITION. The cycle sequencer: releases, cuts, commits, overrun, run state, HOLD and the force table
(spec/05 R134 to R155).

Marks (notes/assumptions): DEDUCED 41, 42, 104. -/

namespace Sys2Proof.Machine

/-- Whether class `k` is enabled and would be released at boundary `b` (R135). -/
def State.classDue (s : State) (b k : Nat) : Bool :=
  s.bit (CYC.CLASS_CFG.ENABLE k) && b % 2 ^ s.get (CYC.CLASS_CFG.EXP k) == 0

/-- R136. The checks that RUN needs. -/
def State.runChecks (s : State) : Bool :=
  let n := s.get CYC.BASE.N
  let on (k : Nat) : Bool := s.bit (CYC.CLASS_CFG.ENABLE k)
  let exp (k : Nat) : Nat := s.get (CYC.CLASS_CFG.EXP k)
  on 0 && exp 0 == 0 && decide (1 ≤ n) && decide (n ≤ 128) && s.get CYC.PROGRAM_GEN.GEN != 0
  && (List.range 8).all fun k => !on k || (decide (exp k ≤ 11)
    && (List.range k).all fun j => !on j || decide (exp j ≤ exp k))

/-! ## HOLD bits (R149, R151) -/

/-- The HOLD bits of tasks 0 to 63. -/
def State.holds (s : State) : Nat := s.get2 CYC.TASK_HOLD_LO.HOLD CYC.TASK_HOLD_HI.HOLD

/-- The HOLD bits stored, with SYS.STATUS.HELD. -/
def State.putHolds (s : State) (v : Nat) : State :=
  (s.set2 CYC.TASK_HOLD_LO.HOLD CYC.TASK_HOLD_HI.HOLD v).setB SYS.STATUS.HELD (v != 0)

/-- R149. What HOLD, RELEASE and RELEASE_ALL make of the HOLD bits. -/
def holdsAfter (op task v : Nat) : Nat :=
  if op = 3 then setBit v task else if op = 4 then clearBit v task else 0

/-- R149, R179. The HOLD bits change, with source 42. -/
def State.holdChange (s : State) (op task : Nat) : State :=
  let v := holdsAfter op task s.holds
  if v = s.holds then s
  else (s.putHolds v).post 42 (if op = 5 then 63 + 512 else task + 256 * b2n (op == 3))

/-- R150. A trail adopts the lead's HOLD bits. -/
def State.adoptHolds (s : State) (v : Nat) : State :=
  let old := s.holds
  (List.range 64).foldl (fun s t => if old.testBit t = v.testBit t then s
    else s.post 42 (t + 256 * b2n (v.testBit t))) (s.putHolds v)

/-! ## The force table (R153 to R155) -/

/-- A new force table. -/
def State.putForces (s : State) (fs : List Force) : State :=
  let n := s.cyc.forces.length
  let s := (({ s with cyc := { s.cyc with forces := fs } }).set CYC.FORCE_STATUS.ENTRIES fs.length).setB
    SYS.STATUS.FORCED (fs != [])
  let s := if fs.length = n then s else s.post 43 fs.length
  s.clRefresh

def Force.same (f : Force) (kind target : Nat) : Bool := f.kind == kind && f.target == target

/-- R165. FORCE_SET sets or replaces an entry. -/
def State.forceSet (s : State) (f : Force) : State :=
  let fs := s.cyc.forces
  s.putForces (if fs.any (·.same f.kind f.target) then fs.map (fun g => if g.same f.kind f.target then f else g)
    else fs ++ [f])

def State.forceClear (s : State) (kind target : Nat) : State :=
  s.putForces (s.cyc.forces.filter fun g => !g.same kind target)

def State.forceClearAll (s : State) : State := s.putForces []

/-- R528. FORCE, as the change log has it. -/
def State.recordForce (s : State) (op : Nat) (f : Force) (origin priv session : Nat) (copy : Bool := false) : State :=
  s.recordChange 0x8002 origin priv session ([op, f.kind, 0, 0] ++ leBytes 8 f.target ++ leBytes 4 f.mask
    ++ leBytes 4 f.value ++ leBytes 4 0) copy

/-- R348. The argument of FORCE_SET and FORCE_CLEAR. -/
def forceArg (op : Nat) (f : Force) : List Nat :=
  if op = 0x12 then [] else leBytes 5 f.target ++ [f.kind, 0, 0]
    ++ (if op = 0x10 then leBytes 4 f.mask ++ leBytes 4 f.value else [])

/-- R153. Forced bits written into the pair-words of kind 0 entries that satisfy `p`. -/
def State.forceInto (s : State) (p : Nat → Bool) : State :=
  s.cyc.forces.foldl (fun s f => if f.kind = 0 ∧ p f.target then
      s.putPair 10 (f.target / 8 * 8) (s.overlay f.target (s.word (f.target / 8 * 8))) else s) s

/-! ## Cuts (R138 to R142, R211, R212) -/

/-- R135, R141. The value words of the header of class `k` at boundary `b`: the release tick is the boundary's nominal tick. -/
def State.headerWords (s : State) (k b : Nat) : List Nat :=
  let c := s.cls k
  let t := s.inPair s.cyc.boundary
  [b % 2 ^ 32, b / 2 ^ 32, t % 2 ^ 32, t / 2 ^ 32,
   b2n c.firstRun + 2 * b2n c.firstCross + 4 * b2n c.prevOver + 8 * b2n (s.cyc.forces != [])
     + 256 * min c.skipped 255,
   s.get CYC.TASK_HOLD_LO.HOLD, s.get CYC.TASK_HOLD_HI.HOLD, s.get CYC.PROGRAM_GEN.GEN]

/-- The header written to the input image. -/
def State.putHeader (s : State) (k : Nat) (h : List Nat) : State :=
  (s.setCls k { s.cls k with header := h }).putPairs 10 (inAddr (8 * k)) h

/-- R141. A cycle of class `k` at boundary `b` takes its header. In STOP the one-shot flags stay. -/
def State.openHeader (s : State) (k b : Nat) : State :=
  let s := s.putHeader k (s.headerWords k b)
  let c := { s.cls k with cycle := b, release := s.inPair s.cyc.boundary, pend := [] }
  s.setCls k (if s.inRun then { c with firstRun := false, firstCross := false, prevOver := false, skipped := 0
                                       abandoned := false, overran := false } else c)

/-- R238, R321. The local input blocks landed in the input image. -/
def State.landLocal (s : State) : State :=
  let s := if s.bit FIO.CTRL.ENABLE && s.domOn 5 then s.putPairs 10 (inAddr (s.get FIO.IMAGE.IN_BASE)) (s.fioBlock false)
    else s
  if s.bit CLP.CTRL.ENABLE && s.domOn 6 then s.putPairs 10 (inAddr (s.get CLP.IMAGE.IN_BASE)) (s.clpBlock false) else s

/-- The input pair-words from `a` on as they have landed. -/
def State.landedWords (s : State) (a n : Nat) : List (Nat × Nat) :=
  (List.range n).map fun i => (a + i, s.word (inAddr (a + i)))

/-- Values as pair-words from `a` on. -/
def numbered (a : Nat) (vs : List Nat) : List (Nat × Nat) := ((List.range vs.length).map (a + ·)).zip vs

/-- R153. Forced bits replace bits of a snapshot. -/
def State.forceSnap (s : State) (l : List (Nat × Nat)) : List (Nat × Nat) :=
  l.map fun (p : Nat × Nat) => if p.1 < 64 then p else (p.1, s.overlay (inAddr p.1) p.2)

/-- The stations in the read set of class `k`, those of a disabled crossing too: their values hold (R202). -/
def State.readSet (s : State) (k : Nat) : List (Nat × Station) :=
  (s.crs.stations ++ s.crs.kept).filter fun p => p.2.mask.testBit k

/-- R139, R153. The snapshot of class `k` made of headers and station-valid bits, station areas and local blocks. -/
def State.snapOf (s : State) (heads areas locals : List (Nat × Nat)) : List (Nat × Nat) :=
  (s.forceSnap (heads ++ areas ++ locals)).foldl (fun m (p : Nat × Nat) => Sparse.put 0 m p.1 p.2) []

/-- The local blocks as every snapshot of the own terminals has them. -/
def State.localSnap (s : State) : List (Nat × Nat) :=
  (if s.bit FIO.CTRL.ENABLE then numbered (s.get FIO.IMAGE.IN_BASE) (s.fioBlock true) else [])
  ++ (if s.bit CLP.CTRL.ENABLE then numbered (s.get CLP.IMAGE.IN_BASE) (s.clpBlock true) else [])

/-- R350. The version and station-valid bit of each station of the read set. -/
def State.versions (s : State) (k : Nat) : List (Nat × Nat × Bool) :=
  (s.readSet k).map fun p => (p.1, ((p.2.hist.head?).map (·.1)).getD 0, p.2.st == 2)

/-- R274. The snapshot of class 0 becomes the previous one. -/
def State.snapBefore (s : State) (k : Nat) : State :=
  if k = 0 then { s with mot := { s.mot with prev := (s.cls 0).snap, prev2 := s.mot.prev } } else s

/-- R138, R212. The snapshot of class `k` freezes on the own landings. In STOP no cut list is sent, so the next one names what
has changed since the last that was (R350). -/
def State.freeze (s : State) (k : Nat) : State :=
  let s := s.snapBefore k
  let snap := s.snapOf (s.landedWords 0 128)
    ((s.readSet k).flatMap fun p => s.landedWords p.2.inBase p.2.inWords) s.localSnap
  let vs := s.versions k
  let bad := (s.readSet k).flatMap fun p => ((List.range p.2.inWords).map (p.2.inBase + ·)).filter fun i =>
    !(s.pairAt (inAddr i)).1
  let c := { s.cls k with snap := snap, bad := bad }
  s.setCls k <| if !s.inRun then c else { c with
    seqs := vs
    changed := vs.filter fun v => !c.seqs.contains v
    frozen := (s.readSet k).filterMap fun p => (p.2.hist.head?).map fun h => (p.1, h.1, h.2) }

/-- R350. The CUT_LIST of a released class. -/
def State.cutList (s : State) (k : Nat) : State :=
  if !s.streams then s
  else
    let c := s.cls k
    let fio := s.bit FIO.CTRL.ENABLE
    let clp := s.bit CLP.CTRL.ENABLE
    s.ransel 0x10 ([k, b2n fio + 2 * b2n clp] ++ leBytes 2 c.changed.length ++ c.header.flatMap (leBytes 4)
      ++ c.changed.flatMap (fun (v : Nat × Nat × Bool) => leBytes 2 (v.1 + 32768 * b2n v.2.2) ++ [0, 0] ++ leBytes 4 v.2.1)
      ++ (if fio then (s.fioBlock true).flatMap (leBytes 4) else [])
      ++ (if clp then (s.clpBlock true).flatMap (leBytes 4) else []))

/-- R137. CLASS_START. The execute phase begins as it is delivered. -/
def State.startClass (s : State) (k : Nat) : State :=
  ((s.cutList k).set (CYC.CLASS_STATUS.PHASE k) 1).post (32 + k) ((s.cls k).cycle % 2 ^ 32)

/-! ## Overrun (R145, R146) -/

/-- R145, R146. The release of class `k` is skipped; answers whether a STOP follows. -/
def State.overrun (s : State) (k : Nat) : State × Bool :=
  let n := satAdd (s.get (CYC.CLASS_STATUS.CONSEC k)) 1 255
  let s := (s.set (CYC.CLASS_STATUS.CONSEC k) n).bump (CYC.CLASS_OVERRUNS.COUNT k)
  let c := s.cls k
  let s := (s.setCls k { c with overran := true, prevOver := true, skipped := c.skipped + 1 }).post 40 (k + 256 * n)
  let lim := s.get (CYC.CLASS_CFG.OVERRUN_LIMIT k)
  (s, s.bit (CYC.CLASS_CFG.OVERRUN_ACTION k) || (lim != 0 && decide (lim ≤ n)))

/-- R146. The STOP is announced for the next boundary. -/
def State.announceStop (s : State) : State :=
  let b := s.cycle + 1
  ({ s with cyc := { s.cyc with stopDue := some b } }).control b 1 0 7 0 [2 * 16]

/-! ## Run state (R148, R149) -/

/-- R149. The cycles in execute are abandoned. -/
def State.abandonCycles (s : State) : State :=
  (List.range 8).foldl (fun s k =>
    if s.phase k = 0 then s
    else
      let s := (s.setCls k { s.cls k with abandoned := true, pend := [] }).loopAbandon k
      if s.phase k = 4 then s.set (CYC.CLASS_STATUS.PHASE k) 0 else s) s

/-- R148, R149, R179. RUN is entered, or STOP with a cause. -/
def State.setRun (s : State) (run : Bool) (cause : Nat) : State :=
  if s.inRun = run then s
  else if run then
    let s := (((s.set SYS.STATUS.RUN 1).set SYS.STATUS.STOP_CAUSE 0).post 41 1)
    let s := (List.range 8).foldl (fun s k =>
      s.setCls k { s.cls k with firstRun := true, prevOver := false, skipped := 0 }) s
    (((s.fioRun).clpRun).motRun).loopTransfer
  else
    let s := ((s.fioStop).clpStop).abandonCycles
    let s := ((s.set SYS.STATUS.RUN 0).set SYS.STATUS.STOP_CAUSE cause).post 41 (16 * cause)
    (((s.loopStop).motStop).clRefresh)

/-- R146. The STOP that an overrun caused takes effect. -/
def State.overrunStop (s : State) : State :=
  match s.cyc.stopDue with
  | none => s
  | some b => if s.cycle < b then s else ({ s with cyc := { s.cyc with stopDue := none } }).setRun false 2

def execOverrunStop (s : State) : Answer := s.overrunStop.done

/-! ## SYS.CMD (R149, R150) -/

def State.cmdStatus (s : State) (status reason : Nat) (pending : Bool) : State :=
  ((s.set SYS.CMD_STATUS.STATUS status).set SYS.CMD_STATUS.REASON reason).setB SYS.CMD_STATUS.PENDING pending

/-- R149. Why a command is refused, or 0. -/
def State.sysReason (s : State) (op task priv : Nat) : Nat :=
  if 6 ≤ op then 7
  else if s.isTrail then 2
  else if priv ≠ 1 then 1
  else if !s.isDriving then 2
  else if op = 1 then
    if s.inRun then 3 else if !s.runChecks then 4 else if 2 ≤ s.get VOT.STATUS.MODE then 5 else 0
  else if op = 2 then if s.inRun then 0 else 3
  else if op = 3 then
    if (s.get2 CYC.TASK_DEBUG_LO.ENABLE CYC.TASK_DEBUG_HI.ENABLE).testBit task then 0 else 6
  else 0

/-- R149. A write of SYS.CMD. -/
def State.sysCmd (s : State) (init op task priv session : Nat) : State :=
  if op = 0 then s
  else
    let r := s.sysReason op task priv
    if r ≠ 0 then State.recordCommand ({ s with cyc := { s.cyc with cmdLast := false } }.cmdStatus 0x60 r
      (s.bit SYS.CMD_STATUS.PENDING)) 0 op task 0x60 r (originOf init) priv session
    else
      let s := match s.cyc.cmd with
        | some m => s.recordCommand 0 m.op m.task 0x32 0 m.origin m.priv m.session
        | none => s
      let c : SysCmd := ⟨op, task, session, originOf init, priv, none⟩
      ({ s with cyc := { s.cyc with cmd := some c, cmdLast := true } }).cmdStatus 0 0 true

def execRun (init : Fin 22) (priv : Fin 8) (session : Fin 65536) (s : State) : Answer :=
  (s.sysCmd init 1 0 priv session).done
def execStop (init : Fin 22) (priv : Fin 8) (session : Fin 65536) (s : State) : Answer :=
  (s.sysCmd init 2 0 priv session).done
def execHold (init : Fin 22) (priv : Fin 8) (session : Fin 65536) (task : Fin 64) (s : State) : Answer :=
  (s.sysCmd init 3 task priv session).done
def execRelease (init : Fin 22) (priv : Fin 8) (session : Fin 65536) (task : Fin 64) (s : State) : Answer :=
  (s.sysCmd init 4 task priv session).done
def execReleaseAll (init : Fin 22) (priv : Fin 8) (session : Fin 65536) (s : State) : Answer :=
  (s.sysCmd init 5 0 priv session).done
/-- OP 6 to 15. -/
def execSysCmdReserved (init : Fin 22) (priv : Fin 8) (session : Fin 65536) (op : Fin 10) (s : State) : Answer :=
  (s.sysCmd init (6 + op) 0 priv session).done

/-- R149. The last accepted command has ended. CMD_STATUS keeps what it says of a refused write that came after it. -/
def State.cmdEnd (s : State) (status reason : Nat) : State :=
  if s.cyc.cmdLast then s.cmdStatus status reason false else s.set SYS.CMD_STATUS.PENDING 0

/-- R149. A command takes effect at its boundary. -/
def State.cmdEffect (s : State) (m : SysCmd) : State :=
  let s := if m.op = 1 then s.setRun true 0 else if m.op = 2 then s.setRun false 1 else s.holdChange m.op m.task
  let s := s.recordCommand 0 m.op m.task 0 0 m.origin m.priv m.session
  if s.cyc.cmd.isNone && s.cyc.announced.isEmpty then s.cmdEnd 0 0 else s

/-- R348. The CONTROL message that announces a command for boundary `b`. -/
def State.announce (s : State) (b : Nat) (m : SysCmd) : State :=
  if m.op = 1 then s.control b 1 m.origin m.priv m.session [1]
  else if m.op = 2 then s.control b 1 m.origin m.priv m.session [16]
  else s.control b 2 m.origin m.priv m.session (leBytes 8 (holdsAfter m.op m.task s.holds))

/-- R149. Announced commands take effect; the one that waits is announced (LEAD) or takes effect (ALONE; a partner whose tether
is named is told of it). A unit that no longer drives drops it. -/
def State.cmdBoundary (s : State) : State :=
  let due := s.cyc.announced
  let s := { s with cyc := { s.cyc with announced := [] } }
  let s := due.foldl State.cmdEffect s
  match s.cyc.cmd with
  | none => s
  | some m =>
    let s := { s with cyc := { s.cyc with cmd := none } }
    if s.pairState = 0 then (s.announce s.cycle m).cmdEffect m
    else if s.streams then
      ({ s with cyc := { s.cyc with announced := [m] } }).announce (s.cycle + 1) m
    else (s.cmdEnd 0x60 2).recordCommand 0 m.op m.task 0x60 2 m.origin m.priv m.session

/-- R152. AUTOSTART, at the first boundary after a start as LEAD or ALONE. -/
def State.autostart (s : State) : State :=
  if !s.cyc.auto then s
  else if !s.isDriving then (if s.isTrail then { s with cyc := { s.cyc with auto := false } } else s)
  else
    let s := { s with cyc := { s.cyc with auto := false } }
    if !s.bit SYS.RUN_CFG.AUTOSTART then s
    else if s.runChecks then (s.setRun true 0).control s.cycle 1 0 7 0 [1]
    else s.set SYS.STATUS.STOP_CAUSE 3

/-! ## Force descriptors (R154, R165) -/

/-- R154. A force descriptor that waits takes effect. -/
def State.forceEffect (s : State) (w : ForceWait) : State :=
  match s.startedAt w.ring w.idx with
  | none => s
  | some d =>
    let full := w.op == 0x10 && !s.cyc.forces.any (·.same w.f.kind w.f.target) && decide (4096 ≤ s.cyc.forces.length)
    if full then s.finish d 0x60
    else
      let s := if w.op = 0x10 then s.forceSet w.f else if w.op = 0x11 then s.forceClear w.f.kind w.f.target
        else s.forceClearAll
      let s := s.recordForce w.op w.f (originOf (s.get (RNG.RING_CFG.OWNER w.ring))) (bitsOf d.d.w5 16 3)
        (bitsOf d.d.w5 0 16)
      s.finish d 0 0 s.cyc.forces.length

/-- R348. The CONTROL message of a force descriptor for boundary `b`. -/
def State.forceAnnounce (s : State) (b : Nat) (w : ForceWait) : State :=
  let w5 := ((s.startedAt w.ring w.idx).map (·.d.w5)).getD 0
  s.control b w.op (originOf (s.get (RNG.RING_CFG.OWNER w.ring))) (bitsOf w5 16 3) (bitsOf w5 0 16) (forceArg w.op w.f)

/-- R154, R149. The force descriptors at a boundary: as for SYS.CMD. -/
def State.forceBoundary (s : State) : State :=
  let now := s.cyc.waits.filter (·.due.isSome)
  let rest := s.cyc.waits.filter (·.due.isNone)
  let s := { s with cyc := { s.cyc with waits := [] } }
  let s := now.foldl State.forceEffect s
  if s.pairState = 0 then rest.foldl (fun s w => (s.forceAnnounce s.cycle w).forceEffect w) s
  else if s.streams then
    let b := s.cycle + 1
    rest.foldl (fun s w =>
      State.forceAnnounce { s with cyc := { s.cyc with waits := s.cyc.waits ++ [{ w with due := some b }] } } b w) s
  else rest.foldl (fun s w => s.finishAt (some (w.ring, w.idx)) 0x60) s

/-! ## Commit (R144, R153, R190, R353, R357) -/

/-- R357. The output digest: index and value of each pair-word, in ascending order. -/
def outputDigest (ws : List (Nat × Nat)) : Nat :=
  crc32c (ws.flatMap fun (w : Nat × Nat) => leBytes 4 w.1 ++ leBytes 4 w.2)

/-- The pair-words that a commit of class `k` covers. -/
def State.commitWords (s : State) (k : Nat) : List (Nat × Nat) :=
  (if k = 0 then s.mot.pend else []).foldl (fun m (p : Nat × Nat) => Sparse.insert m p.1 p.2)
    ((s.cls k).pend.foldl (fun m (p : Nat × Nat) => Sparse.insert m p.1 p.2) [])

/-- R383. What the trail does with a COMMIT and its own digest of one class cycle. -/
def State.compareDigest (s : State) (k cycle own lead tick : Nat) : State :=
  let lag := (s.pairTick + 2 ^ 32 - tick % 2 ^ 32) % 2 ^ 32 / ticksPerUs
  let s := if k ≠ 0 then s else
    let l := min lag 0xFFFF
    let s := s.set PAR.LAG.LAST l
    if s.get PAR.LAG.MAX < l then s.set PAR.LAG.MAX l else s
  if own = lead then s
  else (s.post 167 (k + 256 * (cycle % 2 ^ 24))).untether 2

/-- R353. A trail's commit: its digest is compared with the lead's COMMIT, or waits for it. -/
def State.trailCommit (s : State) (k cycle digest : Nat) : State :=
  if s.pairState ≠ 3 then s else
  match s.par.follow.commits.find? (fun c => c.1 == k && c.2.1 == cycle) with
  | some c => ({ s with par := { s.par with follow := { s.par.follow with
        commits := s.par.follow.commits.filter fun x => !(x.1 == k && x.2.1 == cycle) } } }).compareDigest
      k cycle digest c.2.2.1 c.2.2.2
  | none => { s with par := { s.par with ownDigests := s.par.ownDigests ++ [(k, cycle, digest)] } }

/-- R299, R307. A commit for the loop engine: at once, or on a tethered trail when the lead's COMMIT has come. -/
def State.loopsAtCommit (s : State) (k cycle : Nat) (before : List (Nat × Nat)) : State :=
  if s.pairState = 3 && !s.par.follow.commits.any (fun c => c.1 == k && c.2.1 == cycle) then
    { s with par := { s.par with follow := { s.par.follow with ahead := s.par.follow.ahead ++ [(k, cycle, before)] } } }
  else s.loopCommit k cycle

/-- R144. The pending set of class `k` enters the output image, forced bits are applied, local blocks are applied and the
DOWN frames of its stations are launched. -/
def State.commit (s : State) (k : Nat) : State :=
  let c := s.cls k
  let dig := outputDigest (s.commitWords k)
  let before := (c.pend ++ if k = 0 then s.mot.pend else []).map fun (p : Nat × Nat) => (p.1, s.word (outAddr p.1))
  let s := c.pend.foldl (fun s (p : Nat × Nat) => s.putPair 10 (outAddr p.1) p.2) s
  let s := if k = 0 then s.motCommit else s
  let s := s.forceInto fun a => outputImage a || critical a
  let s := if s.owner (s.get FIO.IMAGE.OUT_BASE) = k then s.fioApply else s
  let s := if s.owner (s.get CLP.IMAGE.OUT_BASE) = k then s.clpApply else s
  let s := s.loopsAtCommit k c.cycle before
  let s := (s.setCls k { s.cls k with pend := [], lastCommit := some c.cycle }).set (CYC.CLASS_STATUS.PHASE k) 0
  let s := if s.streams then
      s.ransel 0x11 ([k, 0, 0, 0] ++ leBytes 8 c.cycle ++ leBytes 4 dig ++ leBytes 4 s.pairTick)
    else if s.isTrail then s.trailCommit k c.cycle dig else s
  (if s.isDriving && !s.takeoverPending then s.launch k c.cycle else s).handoverSend

/-- R127, R144, R259. OUTPUT_COMMIT: a class whose KEND has retired commits, class 0 once the pass has ended; SPLIT refuses,
and halted cores commit nothing. -/
def State.outputCommit (s : State) (k : Nat) : State :=
  if s.phase k ≠ 3 || s.vot.halted || (k == 0 && s.motBusy) then s
  else if s.get VOT.STATUS.MODE = 2 then
    (s.setCls k { s.cls k with pend := [] }).set (CYC.CLASS_STATUS.PHASE k) 0
  else s.commit k

def execOutputCommit (k : Fin 8) (s : State) : Answer := (s.outputCommit k).done

/-- R145, R149, R177. KEND of class `k` retires: its commit begins; an abandoned cycle ends without. -/
def State.endClass (s : State) (k : Nat) : State :=
  let c := s.cls k
  if c.abandoned then
    (s.setCls k { c with abandoned := false, pend := [] }).set (CYC.CLASS_STATUS.PHASE k) 0
  else
    let t := min (s.pairTick - c.release) (2 ^ 31 - 1)
    let s := s.set (CYC.CLASS_EXEC_LAST.TICKS k) t
    let s := if s.get (CYC.CLASS_EXEC_MAX.TICKS k) < t then s.set (CYC.CLASS_EXEC_MAX.TICKS k) t else s
    let s := if c.overran then s else s.set (CYC.CLASS_STATUS.CONSEC k) 0
    let s := if k = 0 ∧ s.motBusy then { s with mot := { s.mot with held := some s.now } } else s
    s.set (CYC.CLASS_STATUS.PHASE k) 3

/-- R138. Commits in progress finish before the cuts of a boundary. -/
def State.finishCommits (s : State) : State :=
  let s := if s.phase 0 = 3 ∧ s.motBusy then s.motEnd else s
  (List.range 8).foldl (fun s k => s.outputCommit k) s

def execExecMaxClear (k : Fin 8) (s : State) : Answer := (s.set (CYC.CLASS_EXEC_MAX.TICKS k) 0).done

/-! ## Releases at a boundary (R135, R137, R138, R145, R148) -/

/-- R206, R323. The cut of a tethered trail in STOP: a new header. Station-valid bits, stations and local blocks stay as the
lead's last cut list has them. -/
def State.trailStopCut (s : State) (k : Nat) : State :=
  let s := (s.openHeader k s.cycle).snapBefore k
  let c := s.cls k
  let snap := (s.landedWords (8 * k) 8).foldl (fun m (p : Nat × Nat) => Sparse.put 0 m p.1 p.2) c.snap
  s.setCls k { c with snap := snap }

/-- R138. Cuts of the classes `ks` taken together on the own landings. -/
def State.cuts (s : State) (ks : List Nat) : State :=
  let b := s.cycle
  let s := ks.foldl State.staleCut s
  let s := s.landLocal
  let s := ks.foldl (fun s k => s.openHeader k b) s
  let s := s.forceInto critical
  ks.foldl State.freeze s

/-- R135, R145, R146. The due classes: those that overrun are skipped, the others are cut. -/
def State.releases (s : State) : State × List Nat :=
  let due := (List.range 8).filter (s.classDue s.cycle)
  let late := due.filter fun k => s.phase k != 0
  let (s, stop) := late.foldl (fun (p : State × Bool) k =>
    let (s, b) := p.1.overrun k
    (s, p.2 || b)) (s, false)
  let s := if stop && s.cyc.stopDue.isNone then s.announceStop else s
  let ks := due.filter fun k => s.phase k == 0
  (s.cuts ks, ks)

/-- R148, R190. The DOWN frames of the classes due at a boundary, which a driving unit sends in STOP and in a halted DEBUG. -/
def State.launchDue (s : State) : State :=
  if !s.isDriving || s.takeoverPending then s
  else ((List.range 8).filter (s.classDue s.cycle)).foldl (fun s k => s.launch k s.cycle) s

/-- R148. In STOP: cuts go on, and a driving unit sends DOWN frames with STOP at each release. -/
def State.stopCuts (s : State) : State :=
  let ks := ((List.range 8).filter (s.classDue s.cycle)).filter fun k => s.phase k == 0
  (if s.pairState = 3 then ks.foldl State.trailStopCut s else s.cuts ks).launchDue

end Sys2Proof.Machine
end

