-- ==== Sys2Proof/Machine/Ferry.lean ====
section
/-! DEFINITION. The ferry engine: force descriptors, ferry maps, conversions, tracking and the crossing
(spec/05 R153, R154, R159 to R176).

Marks (notes/assumptions): DEDUCED 43, 44, 45, 117. -/

namespace Sys2Proof.Machine

/-! ## Origin and privilege (R165) -/

def Desc.session (d : Desc) : Nat := bitsOf d.w5 0 16
def Desc.priv (d : Desc) : Nat := bitsOf d.w5 16 3

/-! ## Force descriptors -/

/-- R153. The targets that kinds 0 to 2 permit. -/
def forceTarget (kind t : Nat) : Bool :=
  match kind with
  | 0 => t % 8 == 0 && ((inputImage t && decide (0x2000200 ≤ t)) || outputImage t || critical t)
  | 1 => decide (t < 32)
  | 2 => decide (t < 8)
  | _ => false

/-- R165. The value and mask of a FORCE_SET. -/
def forceValue (kind mask value : Nat) : Bool :=
  match kind with
  | 1 => mask == 1 && decide (value ≤ 1)
  | 2 => mask == 0xFFFFFFFF && !f32.isNan value && !f32.lt value 0 && !f32.lt 0x41C00000 value
  | _ => mask != 0

/-- The target address or channel. -/
def Desc.forceAt (d : Desc) : Nat := d.primary

/-- R165. The rules of a force descriptor. -/
def forceBad (d : Desc) : Bool :=
  bitsOf d.w5 19 13 != 0 ||
  (if d.opcode = 0x10 then !forceTarget d.eflags d.forceAt || !forceValue d.eflags d.w4 d.w1
   else if d.opcode = 0x11 then !forceTarget d.eflags d.forceAt || d.w1 != 0 || d.w4 != 0
   else d.eflags != 0 || d.w1 != 0 || d.w2 != 0 || d.w3 != 0 || d.w4 != 0)

/-- R154, R165. A force descriptor waits for its boundary. -/
def State.forceDesc (s : State) (d : Started) : State :=
  if forceBad d.d then s.finish d 0x10
  else if d.d.priv ≠ 1 then s.finish d 0x60 0 12
  else if !s.isDriving then s.finish d 0x60
  else
    let w : ForceWait := ⟨d.ring, d.idx, d.d.opcode, ⟨d.d.eflags, d.d.forceAt, d.d.w4, d.d.w1, d.d.session⟩, none⟩
    ({ s with cyc := { s.cyc with waits := s.cyc.waits ++ [w] } }).accept d

def execForceSet (n : Fin 64) (s : State) : Answer := (s.onOffer n [8] 0x10 State.forceDesc).done
def execForceClear (n : Fin 64) (s : State) : Answer := (s.onOffer n [8] 0x11 State.forceDesc).done
def execForceClearAll (n : Fin 64) (s : State) : Answer := (s.onOffer n [8] 0x12 State.forceDesc).done

/-- R165. A FORCE_READ record. -/
def Force.bytes (f : Force) : List Nat :=
  leBytes 5 f.target ++ [f.kind] ++ leBytes 2 f.session ++ leBytes 4 f.mask ++ leBytes 4 f.value

/-- R165. FORCE_READ. -/
def State.forceRead (s : State) (d : Started) : State :=
  let n := min s.cyc.forces.length (d.d.w1 / 16)
  if bitsOf d.d.w5 19 13 != 0 || d.d.eflags != 0 || d.d.w4 != 0 then s.finish d 0x10
  else if d.d.priv ≠ 1 then s.finish d 0x60 0 12
  else match s.writeBuf (s.via 20 d) d.d.primary ((s.cyc.forces.take n).flatMap Force.bytes) with
    | (s, m, some e) => s.finishErr d e (m / 16 * 16)
    | (s, m, none) => s.finish d (b2n (decide (n < s.cyc.forces.length))) m

def execForceRead (n : Fin 64) (s : State) : Answer := (s.onOffer n [8] 0x13 State.forceRead).done

/-! ## Entries and conversions (R161, R162) -/

/-- R162. Size of a destination element. -/
def convDstSize (c : Nat) : Nat :=
  match c with
  | 1 => 4 | 2 => 8 | 3 => 1 | 4 => 4 | 5 => 4 | 6 => 4 | 7 => 4 | 8 => 8 | 9 => 4 | 10 => 4
  | 11 => 4 | 12 => 8 | 13 => 24 | 14 => 8 | 15 => 8 | 16 => 16 | _ => 0

/-- R161. Alignment of the elements of a size: instances are aligned to 8 bytes. -/
def convAlign (size : Nat) : Nat := if size = 0 then 1 else min size 8

def FerryEntry.dstLen (e : FerryEntry) : Nat := convDstSize e.conv * e.count

/-- R161. An entry from its 32 bytes; addresses keep all 64 bits. -/
def ferryEntry (bs : List Nat) : FerryEntry :=
  ⟨bs.getD 0 0, bs.getD 1 0, leAt bs 2 2, leAt bs 4 4, leAt bs 8 8, leAt bs 0x10 8, leAt bs 0x18 4, leAt bs 0x1C 4⟩

/-- Codes whose entries carry no source. -/
def sourceless (c : Nat) : Bool := c ∈ [11, 12, 15]

/-- R162. A binary64 value rounded to binary32, an overflow saturated; whether it overflowed. -/
def narrowSat (a : Nat) : Nat × Bool :=
  let r := narrow a
  if f64.finite a && r % 2 ^ 31 == 0x7F800000 then (r - 1, true) else (r, false)

/-- The manual does not say which bits a converted NaN has: a NaN with free sign and fraction. -/
def State.freeNan (s : State) (f : FFmt) : Nat × State :=
  let (v, s) := s.fresh
  (f.infBits + 1 + v / 2 % (2 ^ f.frac - 1) + f.signBit * (v % 2), s)

/-- R162. One element converted: the destination bytes and whether the element counts as saturated, a NaN or an
overflow. `old` is what the destination holds. -/
def State.convertOne (s : State) (e : FerryEntry) (src old : List Nat) : State × List Nat × Bool :=
  let v := leNat src
  match e.conv with
  | 4 => (s, leBytes 4 (ofSigned 32 (toSigned 16 v)), false)
  | 5 => (s, leBytes 4 v, false)
  | 6 => (s, leBytes 4 (f32.ofInt (toSigned 32 v)), false)
  | 7 =>
    if f32.isNan v then (s, leBytes 4 0, true)
    else match f32.value v with
      | .inf neg => (s, leBytes 4 (if neg then 2 ^ 31 else 2 ^ 31 - 1), true)
      | x =>
        let i := truncInt x
        (s, leBytes 4 (ofSigned 32 (sat32 i)), sat32 i != i)
  | 8 => if f32.isNan v then let (n, s) := s.freeNan f64; (s, leBytes 8 n, false) else (s, leBytes 8 (widen v), false)
  | 9 =>
    if f64.isNan v then let (n, s) := s.freeNan f32; (s, leBytes 4 n, false)
    else let (r, o) := narrowSat v; (s, leBytes 4 r, o)
  | 10 =>
    let r64 := f64.add (f64.mul (widen v) (widen e.p0)) (widen e.p1)
    if f64.isNan r64 then let (n, s) := s.freeNan f32; (s, leBytes 4 n, false)
    else let (r, o) := narrowSat r64; (s, leBytes 4 r, o)
  | 11 => (s, leBytes 4 e.p0, false)
  | 12 => (s, pairBytes e.p0, false)
  | 13 => (s, src.take 8 ++ (old.drop 8).take 8 ++ (src.drop 16).take 4 ++ old.drop 20, false)
  | 15 => (s, leBytes 4 0 ++ leBytes 4 (if e.flags.testBit 0 then 0 else 1), false)
  | 16 => (s, src.take 8 ++ old.drop 8, false)
  | _ => (s, src, false)

/-- Codes that keep part of the new image's destination. -/
def keepsPart (c : Nat) : Bool := c == 13 || c == 16

/-- R162, R175. Element `j` of an entry is read, converted and written; answers the bytes written. -/
def State.convertElem (s : State) (v : Via) (e : FerryEntry) (j : Nat) : State × Except Err Nat :=
  let ss := convSrcSize e.conv
  let ds := convDstSize e.conv
  let rd (s : State) (a n : Nat) : State × Except Err (List Nat) := if n = 0 then (s, .ok []) else s.read v a n
  match rd s (e.src + ss * j) ss with
  | (s, .error x) => (s, .error x)
  | (s, .ok src) =>
    if e.conv = 2 && !pairOk src then (s, .error .pairBad)
    else match rd s (e.dst + ds * j) (if keepsPart e.conv then ds else 0) with
      | (s, .error x) => (s, .error x)
      | (s, .ok old) =>
        let (s, out, _) := s.convertOne e src old
        match s.write v (e.dst + ds * j) out with
        | (s, .error x) => (s, .error x)
        | (s, .ok _) => (s, .ok ds)

/-- The elements of an entry from `j` on, `n` of them, up to the first fault; the bytes written. -/
def State.convertRun (s : State) (v : Via) (e : FerryEntry) : Nat → Nat → State × Nat × Option Err
  | 0, _ => (s, 0, none)
  | n + 1, j =>
    match s.convertElem v e j with
    | (s, .error x) => (s, 0, some x)
    | (s, .ok k) =>
      let (s, m, r) := s.convertRun v e n (j + 1)
      (s, k + m, r)

/-- Entries in table order, each from its first element on. -/
def State.convertAll (s : State) (v : Via) : List FerryEntry → State × Nat × Option Err
  | [] => (s, 0, none)
  | e :: es =>
    match s.convertRun v e (if e.conv = 0x11 then 0 else e.count) 0 with
    | (s, m, some x) => (s, m, some x)
    | (s, m, none) =>
      let (s, k, r) := s.convertAll v es
      (s, m + k, r)

/-- R169. The elements of an entry that touch granule `g`: the first and their number. -/
def FerryEntry.touching (e : FerryEntry) (g : Nat) : Nat × Nat :=
  let z := convSrcSize e.conv
  if z = 0 || !overlaps e.src e.srcLen (64 * g) 64 then (0, 0)
  else
    let lo := (64 * g - e.src) / z
    let hi := min e.count ((64 * g + 64 - e.src + z - 1) / z)
    (lo, hi - lo)

/-- R169. Every element that touches granule `g` converted again. -/
def State.convertGranule (s : State) (v : Via) (g : Nat) : List FerryEntry → State × Nat × Option Err
  | [] => (s, 0, none)
  | e :: es =>
    let (lo, n) := e.touching g
    match s.convertRun v e n lo with
    | (s, m, some x) => (s, m, some x)
    | (s, m, none) =>
      let (s, k, r) := s.convertGranule v g es
      (s, m + k, r)

/-! ## STAGE (R160, R163, R166, R167) -/

/-- R160. A header's constant and reserved fields. -/
def mapHeaderBad (h : List Nat) : Bool :=
  h.take 4 != [0x55, 0x46, 0x52, 0x59] || h.getD 4 0 != 1 || h.getD 5 0 == 0 || leAt h 6 2 != 0 || leAt h 0x14 4 != 0
  || leAt h 0x24 4 != 0 || leAt h 0x1D 3 != 0 || leAt h 0x20 4 % 4 != 0 || decide (leAt h 0x20 4 < 4)
  || decide (2 ^ 24 < leAt h 0x20 4)

/-- R161, R162. Check 6. -/
def FerryEntry.codeBad (e : FerryEntry) : Bool :=
  e.conv == 0 || decide (0x12 ≤ e.conv) || e.count == 0 || decide (4 ≤ e.flags)
  || (e.flags.testBit 0 && e.conv != 15)
  || (!(e.conv == 10 || e.conv == 11 || e.conv == 12) && e.p0 != 0) || (e.conv != 10 && e.p1 != 0)

/-- R161, R163. Check 7. -/
def FerryEntry.regionBad (e : FerryEntry) : Bool :=
  let sl := if e.conv = 0x11 then e.count else e.srcLen
  let inCrit (a n : Nat) : Bool := critical a && critical (a + n - 1)
  e.src % convAlign (convSrcSize e.conv) != 0 || e.dst % convAlign (convDstSize e.conv) != 0
  || (if sourceless e.conv then e.src != 0
      else if e.conv = 2 then !inCrit e.src sl else !inSramDram e.src sl)
  || (if e.conv = 2 ∨ e.conv = 12 then !inCrit e.dst e.dstLen else !inSramDram e.dst (max 1 e.dstLen))

/-- Whether any two DST ranges overlap. -/
def dstOverlap : List FerryEntry → Bool
  | [] => false
  | e :: es => es.any (fun f => overlaps e.dst e.dstLen f.dst f.dstLen) || dstOverlap es

/-- R163. Check 8. -/
def mapOverlap (es : List FerryEntry) (image len : Nat) : Bool :=
  dstOverlap es || es.any fun e => overlaps e.dst e.dstLen image len || es.any fun f =>
    overlaps e.dst e.dstLen f.src (if f.conv = 0x11 then f.count else f.srcLen)

/-- R538. Whether a range lies in a section of type `t` of a verified entry. -/
def Verified.holds (v : Verified) (t a n : Nat) : Bool :=
  v.sections.any fun (x : Nat × Nat × Nat) => x.1 == t && decide (x.2.1 ≤ a ∧ a + n ≤ x.2.1 + x.2.2)

/-- R166, R538. The entry of kind PROGRAM whose FERRY_MAP section holds the map and whose PROGRAM_IMAGE section holds the
image. -/
def State.mapHolder (s : State) (a n image len : Nat) : Option Nat :=
  (s.upd.entries.find? fun e => e.2.kind == 2 && e.2.holds 0x11 a n && e.2.holds 0x10 image len).map (·.1)

/-- R166. The first failing check of a map whose bytes have been read: DETAIL and status. -/
def State.mapCheck (s : State) (d : Desc) (h body image : List Nat) (es : List FerryEntry) : Option (Nat × Nat) :=
  let addr := leAt h 0x18 5
  let len := leAt h 0x20 4
  if s.get CYC.PROGRAM_GEN.GEN ≠ leAt h 8 4 ∨ leAt h 0xC 4 ≤ leAt h 8 4 then some (4, 0x60)
  else if shake256 image 32 ≠ (h.drop 0x28).take 32 then some (5, 0x61)
  else if es.any FerryEntry.codeBad then some (6, 0x10)
  else if es.any FerryEntry.regionBad then some (7, 0x10)
  else if mapOverlap es addr len then some (8, 0x10)
  else if 2 ^ 23 < ((es.map FerryEntry.srcLen).foldl (· + ·) 0) then some (9, 0x10)
  else if (s.mapHolder d.primary (h.length + body.length) addr len).isNone then some (10, 0x61)
  else if s.fer.map.isSome then some (11, 0x60)
  else if d.priv ≠ 1 then some (12, 0x60)
  else none

/-- R167, R168. An accepted map: tracking is armed, and the first pass converts every entry. -/
def State.stagePass (s : State) (d : Started) (h : List Nat) (es : List FerryEntry) : State :=
  let m : FerryMap := ⟨d.d.primary, d.d.w1, h.getD 5 0, leAt h 8 4, leAt h 0xC 4, leAt h 0x4C 4, leAt h 0x18 5,
    leAt h 0x20 4, es, (s.mapHolder d.d.primary d.d.w1 (leAt h 0x18 5) (leAt h 0x20 4)).getD 0, 0⟩
  let s := ({ s with fer := { s.fer with
    map := some m, ring := d.ring, staging := true, stager := some (d.ring, d.idx), dirty := [], crossBytes := 0 } }).accept d
  let s := ((s.set CYC.FERRY_STATUS.STATE 1).set CYC.FERRY_DIRTY.DIRTY 0).set SYS.STATUS.FERRY_ACTIVE 1
  let (s, n, err) := s.convertAll (s.via 20 d) es
  let s := { s with fer := { s.fer with map := s.fer.map.map fun (m : FerryMap) => { m with bytes := n } } }
  match err with
  | some x => (s.ferryDrop x.status)
  | none => s

/-- R166. STAGE. The map is read, and the image for its digest, as the ferry engine and the ring's owner. -/
def State.stage (s : State) (d : Started) : State :=
  let a := d.d.primary
  if bitsOf d.d.w5 19 13 != 0 || d.d.eflags != 0 || d.d.w4 != 0 then s.finish d 0x10
  else if a % 8 ≠ 0 || !inSramDram a (max 80 d.d.w1) then s.finish d 0x10 0 7
  else match s.readBuf (s.via 20 d) a 80 with
    | (s, _, some e) => s.finishErr d e
    | (s, h, none) =>
      let n := leAt h 0x10 4
      if mapHeaderBad h then s.finish d 0x10 0 1
      else if crc32c (h.take 0x4C) ≠ leAt h 0x4C 4 then s.finish d 0x10 0 2
      else if n = 0 ∨ 65536 < n ∨ d.d.w1 ≠ 80 + 32 * n then s.finish d 0x10 0 3
      else match s.readBuf (s.via 20 d) (a + 80) (32 * n) with
        | (s, _, some e) => s.finishErr d e
        | (s, body, none) =>
          if crc32c body ≠ leAt h 0x48 4 then s.finish d 0x10 0 3
          else match s.readBuf (s.via 20 d) (leAt h 0x18 5) (leAt h 0x20 4) with
            | (s, _, some e) => s.finishErr d e
            | (s, image, none) =>
              let es := (List.range n).map fun i => ferryEntry ((body.drop (32 * i)).take 32)
              match s.mapCheck d.d h body image es with
              | some (k, st) => s.finish d st 0 k
              | none => s.stagePass d h es

def execStage (n : Fin 64) (s : State) : Answer := (s.onOffer n [8] 1 State.stage).done

/-- R167, R170. The first pass has ended: STAGE completes, and a trail tells its lead. -/
def State.ferryStaged (s : State) : State :=
  match s.fer.map with
  | none => s
  | some m =>
    if !s.fer.staging then s
    else
      let p := s.fer.stager
      let s := { s with fer := { s.fer with staging := false, stager := none } }
      let s := ((s.set CYC.FERRY_STATUS.STATE 2).finishAt p 0 m.bytes).post 44 m.newGen
      if s.isTrail then s.ransel 0x40 (leBytes 4 m.newGen ++ leBytes 4 m.crc) else s

def execFerryStaged (s : State) : Answer := s.ferryStaged.done

/-! ## The sweep (R169) -/

/-- The sweep's and the crossing's transactions carry the ferry ring's deadline. -/
def State.ferryVia (s : State) : Via :=
  { init := 20, owner := some (s.get (RNG.RING_CFG.OWNER s.fer.ring))
    due := some (s.now + s.get (RNG.RING_DEADLINE.DEFAULT s.fer.ring)), ring := some s.fer.ring }

/-- A granule's mark is cleared. -/
def State.unmark (s : State) (g : Nat) : State :=
  let d := s.fer.dirty.filter (· != g)
  ({ s with fer := { s.fer with dirty := d } }).set CYC.FERRY_DIRTY.DIRTY d.length

/-- R169. The first dirty granule is cleaned; the bytes written and the fault, if any. -/
def State.cleanOne (s : State) (m : FerryMap) : State × Nat × Option Err :=
  match s.fer.dirty with
  | [] => (s, 0, none)
  | g :: _ => (s.unmark g).convertGranule s.ferryVia g m.entries

/-! ## The held classes (R171) -/

/-- R171. A held class starts under the generation in force; `crossed` completes its header. -/
def State.startHeld (s : State) (crossed : Bool) (k : Nat) : State :=
  if s.phase k ≠ 4 then s
  else if !crossed then s.startClass k
  else
    let c := s.cls k
    let h := (c.header.set 4 (setBit (c.header.getD 4 0) 1)).set 7 (s.get CYC.PROGRAM_GEN.GEN)
    let s := s.putHeader k h
    let c := s.cls k
    let snap := Sparse.put 0 (Sparse.put 0 c.snap (8 * k + 4) (h.getD 4 0)) (8 * k + 7) (h.getD 7 0)
    (s.setCls k { c with snap := snap }).startClass k

/-- The held classes of a crossing start, in ascending order. -/
def State.startAllHeld (s : State) (crossed : Bool) (ks : List Nat) : State :=
  ks.foldl (fun s k => s.startHeld crossed k) s

def State.heldClasses (s : State) : List Nat := (s.fer.crossing.map (·.2)).getD []

/-- R175. The map is dropped; held classes start under the old generation. -/
def State.ferryEnd (s : State) (status : Nat) : State :=
  let ks := s.heldClasses
  let s := s.ferryDrop status
  State.startAllHeld { s with fer := {} } false ks

/-- R175. A fault of the sweep or of the crossing. -/
def State.ferryFault (s : State) (e : Err) : State :=
  let crossing := s.fer.crossing.isSome
  let s := s.ferryEnd e.status
  if crossing then s else s.post 46 e.status

/-! ## Crossing (R170 to R174) -/

/-- R165, R170. CROSS arms the crossing of the staged map. -/
def State.crossArm (s : State) (d : Started) : State :=
  if bitsOf d.d.w5 19 13 != 0 || d.d.eflags != 0 || d.d.w1 != 0 || d.d.w2 != 0 || d.d.w3 != 0 || d.d.w4 != 0
  then s.finish d 0x10
  else if d.d.priv ≠ 1 then s.finish d 0x60 0 12
  else if s.fer.map.isNone || s.fer.staging || s.fer.crosser.isSome then s.finish d 0x60
  else
    let s := { s with fer := { s.fer with crosser := some (d.ring, d.idx), crossBytes := 0 } }
    (((s.set CYC.FERRY_STATUS.STATE 3).set CYC.FERRY_STATUS.LAST_BLOCK 0).set CYC.FERRY_STATUS.DEFERRALS 0).accept d

def execCross (n : Fin 64) (s : State) : Answer := (s.onOffer n [8] 2 State.crossArm).done

/-- R165. ABANDON. -/
def State.ferryAbandon (s : State) (d : Started) : State :=
  if bitsOf d.d.w5 19 13 != 0 || d.d.eflags != 0 || d.d.w1 != 0 || d.d.w2 != 0 || d.d.w3 != 0 || d.d.w4 != 0
  then s.finish d 0x10
  else if d.d.priv ≠ 1 then s.finish d 0x60 0 12
  else (s.ferryEnd 0x33).finish d 0

def execAbandon (n : Fin 64) (s : State) : Answer := (s.onOffer n [8] 3 State.ferryAbandon).done

/-- R170. The first condition that fails, or 0. -/
def State.crossBlock (s : State) (m : FerryMap) : Nat :=
  if s.inRun && (List.range 8).any (fun k => m.classMask.testBit k && s.phase k != 0) then 1
  else if s.bit VOT.STATUS.REJOIN_ACTIVE then 2
  else if s.get CYC.CROSS_BUDGET.TICKS < s.fer.dirty.length * 24 + 200 then 3
  else if s.get PAR.STATUS.PARTNER_STATE = 3 && s.par.trailStaged != some (m.newGen, m.crc) then 4
  else 0

/-- R171. CROSS has been armed for CROSS_MAX_DEFER boundaries. The map stays staged. -/
def State.crossTimeout (s : State) : State :=
  if s.fer.crosser.isNone || s.fer.crossing.isSome
     || s.get CYC.FERRY_STATUS.DEFERRALS < max 1 (s.get CYC.CROSS_MAX_DEFER.CYCLES) then s
  else
    let p := s.fer.crosser
    (({ s with fer := { s.fer with crosser := none } }).set CYC.FERRY_STATUS.STATE 2).finishAt p 0x30 0
      (s.get CYC.FERRY_STATUS.LAST_BLOCK)

def execCrossTimeout (s : State) : Answer := s.crossTimeout.done

/-- R170. A boundary at which the unit does not cross. -/
def State.crossDefer (s : State) (block : Nat) : State :=
  ((s.bump CYC.FERRY_STATUS.DEFERRALS).set CYC.FERRY_STATUS.LAST_BLOCK block).crossTimeout

/-- R170, R171. At a boundary of a driving unit with CROSS armed: the crossing begins, or is put off. -/
def State.crossTry (s : State) : State :=
  match s.fer.map with
  | none => s
  | some m =>
    if s.fer.crosser.isNone || s.fer.crossing.isSome || !s.isDriving then s
    else
      let r := s.crossBlock m
      if r ≠ 0 then s.crossDefer r
      else { s with fer := { s.fer with crossing := some (s.cycle, []), crossBytes := 0 } }

/-- R171. Of the classes just cut, those that the crossing under way holds are held, those of a later boundary too (R174). -/
def State.holdClasses (s : State) (ks : List Nat) : State × List Nat :=
  match s.fer.crossing, s.fer.map with
  | some (b, old), some m =>
    let held := ks.filter fun k => m.classMask.testBit k
    let s := held.foldl (fun s k => s.set (CYC.CLASS_STATUS.PHASE k) 4) s
    ({ s with fer := { s.fer with crossing := some (b, old ++ held) } }, ks.filter fun k => !m.classMask.testBit k)
  | _, _ => (s, ks)

/-- R171. CROSS_BUDGET has passed since the boundary at which the crossing began. -/
def State.crossLate (s : State) : Bool :=
  match s.fer.crossing with
  | some (b, _) => decide (s.cyc.boundary + s.get CYC.CROSS_BUDGET.TICKS ≤ s.now + s.p0 * (s.cycle - b))
  | none => false

/-- R171. CROSS_BUDGET has passed with dirty granules left: the crossing is abandoned, and the held classes start. -/
def State.crossBudget (s : State) : State :=
  match s.fer.crossing with
  | none => s
  | some (_, ks) =>
    if s.fer.map.isSome && (s.fer.dirty.isEmpty || !s.crossLate) then s
    else
      let s := State.startAllHeld { s with fer := { s.fer with crossing := none } } false ks
      if s.fer.map.isSome then s.crossDefer 5 else s

def execCrossBudgetExpiry (s : State) : Answer := s.crossBudget.done

/-- R169, R171. One granule swept; while a crossing runs its bytes count for the crossing. -/
def State.sweep (s : State) : State :=
  match s.fer.map with
  | none => s
  | some m =>
    if s.fer.staging || s.fer.dirty.isEmpty then s
    else if s.crossLate then s.crossBudget
    else
      let (s, n, err) := s.cleanOne m
      match err with
      | some e => s.ferryFault e
      | none => if s.fer.crossing.isSome
          then { s with fer := { s.fer with crossBytes := s.fer.crossBytes + n } } else s

def execFerrySweepGranule (s : State) : Answer := s.sweep.done

/-- R173. Where a force entry goes at the crossing: `none` where it is cleared. -/
def forceMoved (es : List FerryEntry) (f : Force) : Option Force :=
  if f.kind ≠ 0 then some f
  else match es.find? (fun e => overlaps e.src (if e.conv = 0x11 then e.count else e.srcLen) f.target 4) with
    | none => some f
    | some e => if e.conv ∈ [1, 2, 3] then some { f with target := e.dst + (f.target - e.src) } else none

/-- R173. The force entries relocated or cleared, each change logged. -/
def State.moveForces (s : State) (es : List FerryEntry) (origin priv session : Nat) (copy : Bool) : State :=
  let fs := s.cyc.forces
  let s := s.putForces (fs.filterMap (forceMoved es))
  fs.foldl (fun s f => match forceMoved es f with
    | none => s.recordForce 0x21 f origin priv session copy
    | some g => if g = f then s else s.recordForce 0x20 g origin priv session copy) s

/-- R162. Elements of an entry that saturate or are no number, as the source now is. -/
def State.countOf (s : State) (e : FerryEntry) : Nat :=
  let z := convSrcSize e.conv
  ((List.range e.count).filter fun j => (s.convertOne e (s.bytes (e.src + z * j) z) []).2.2).length

/-- R162. Elements of a TIMER entry whose new PRESET differs. -/
def State.presetsChanged (s : State) (e : FerryEntry) : Nat :=
  ((List.range e.count).filter fun j => s.bytes (e.src + 24 * j + 8) 8 != s.bytes (e.dst + 24 * j + 8) 8).length

/-- R162. The FERRY_NOTE records of one entry: kind and count. -/
def State.notes (s : State) (e : FerryEntry) : List (Nat × Nat) :=
  let c := if e.conv ∈ [7, 9, 10] then s.countOf e else 0
  let p := if e.conv = 13 then s.presetsChanged e else 0
  (if p ≠ 0 then [(1, p)] else []) ++ (if e.conv = 0x11 then [(2, e.count)] else [])
  ++ (if c ≠ 0 then [(if e.conv = 7 then 3 else 4, c)] else []) ++ (if e.flags.testBit 1 then [(5, e.count)] else [])

/-- R528. The change log of a crossing. -/
def State.crossLog (s : State) (m : FerryMap) (origin priv session : Nat) (copy : Bool) : State :=
  let s := s.recordChange 0x8004 origin priv session (leBytes 4 m.oldGen ++ leBytes 4 m.newGen) copy
  m.entries.foldl (fun s e => (s.notes e).foldl (fun s (n : Nat × Nat) =>
    s.recordChange 0x8005 origin priv session ([n.1, 0, 0, 0] ++ leBytes 4 e.symbol ++ leBytes 4 n.2 ++ leBytes 4 0)
      copy) s) s

/-- All dirty granules converted again; `fuel` bounds their number. -/
def State.cleanAll (s : State) (m : FerryMap) : Nat → State × Nat × Option Err
  | 0 => (s, 0, none)
  | fuel + 1 =>
    if s.fer.dirty.isEmpty then (s, 0, none)
    else match s.cleanOne m with
      | (s, n, some e) => (s, n, some e)
      | (s, n, none) =>
        let (s, k, r) := s.cleanAll m fuel
        (s, n + k, r)

/-- R544. The rollback counter of a kind (1 to 4) only rises. -/
def State.raiseRollback (s : State) (kind v : Nat) : State :=
  if s.get (UPD.ROLLBACK.COUNTER (kind - 1)) < v then s.set (UPD.ROLLBACK.COUNTER (kind - 1)) v else s

/-- R171, R173, R174. What a crossing changes: the generation, the forces, the first-cycle flags; the map is no longer staged, and
the notice names the boundary at which it began. -/
def State.crossEffect (s : State) (m : FerryMap) (origin priv session : Nat) (copy : Bool) : State :=
  let p := s.fer.crosser
  let ks := s.heldClasses
  let b := (s.fer.crossing.map (·.1)).getD s.cycle
  let n := s.fer.crossBytes
  let s := s.moveForces m.entries origin priv session copy
  let s := ((s.set CYC.PROGRAM_GEN.GEN m.newGen).raiseRollback 2
    ((Sparse.get ⟨0, 0, 0, 0, []⟩ s.upd.entries m.entryId).roll)).crossLog m origin priv session copy
  let s := (List.range 8).foldl (fun s k => if m.classMask.testBit k && !ks.contains k
    then s.setCls k { s.cls k with firstCross := true } else s) s
  let s : State := { s with fer := {} }
  let s := ((s.set CYC.FERRY_STATUS.STATE 0).set CYC.FERRY_DIRTY.DIRTY 0).set SYS.STATUS.FERRY_ACTIVE 0
  let s : State := if s.streams then s.ransel 0x19 (leBytes 8 b ++ leBytes 4 m.newGen) else s
  ((s.startAllHeld true ks).post 45 m.newGen).finishAt p 0 n

/-- R171. The crossing conversion ends, within the budget. -/
def State.crossed (s : State) : State :=
  match s.fer.crossing, s.fer.map with
  | some _, some m =>
    if s.crossLate && !s.fer.dirty.isEmpty then s.crossBudget else
    let (s, n, err) := s.cleanAll m (s.fer.dirty.length + 1)
    let s := { s with fer := { s.fer with crossBytes := s.fer.crossBytes + n } }
    match err with
    | some e => s.ferryFault e
    | none =>
      let d := s.fer.crosser.bind fun p => s.startedAt p.1 p.2
      s.crossEffect m (originOf (s.get (RNG.RING_CFG.OWNER s.fer.ring))) ((d.map (·.d.priv)).getD 0xFF)
        ((d.map (·.d.session)).getD 0) false
  | some (_, ks), none => State.startAllHeld { s with fer := {} } false ks
  | none, _ => s

def execCrossed (s : State) : Answer := s.crossed.done

/-- R174. A trail crosses: its own dirty granules without a budget. A failure untethers it. -/
def State.trailCross (s : State) : State :=
  match s.fer.map with
  | none => s.untether 5
  | some m =>
    let (s, n, err) := s.cleanAll m (s.fer.dirty.length + 1)
    match err with
    | some e => (s.ferryEnd e.status).untether 5
    | none => State.crossEffect { s with fer := { s.fer with crossBytes := n } } m 5 0xFF 0 true

end Sys2Proof.Machine
end

