-- ==== Sys2Proof/Machine/Voter.lean ====
section
/-! DEFINITION. The voted complex: pair-word instructions, minorities, the scrub, rejoin, modes and commands
(spec/04 R101 to R133). The egress of single requests stands in Egress.lean, since it reaches every register.

Marks (notes/assumptions): DEDUCED 22, 31, 32, 33, 35, 135, 142; PRESUMED 30. -/

namespace Sys2Proof.Machine

/-- Whether the complex votes: VOTE3 or VOTE2, not halted, not in FAILSTOP, D1 ON. -/
def State.voting (s : State) : Bool :=
  s.domOn 1 && !s.bit VOT.STATUS.FAILSTOP && !s.vot.halted && decide (s.get VOT.STATUS.MODE ≤ 1)

/-- R131. LAST_EVENT and its time and address. -/
def State.voterEvent (s : State) (c kind addr : Nat) : State :=
  (((s.set VOT.LAST_EVENT.CORE c).set VOT.LAST_EVENT.KIND kind).set VOT.LAST_EVENT_TIME.TICK s.now).set
    VOT.LAST_EVENT_ADDR.ADDR addr

/-- R115. A core is stopped: it presents nothing more, and nothing of it is compared. -/
def State.stopCore (s : State) (c : Nat) : State :=
  let s := s.setCore c { s.core c with running := false }
  { s with vot := { s.vot with
      presented := s.vot.presented.filter (·.core != c)
      released := (s.vot.released.map fun (r : Released) => { r with owed := r.owed.filter (· != c) }).filter
        fun (r : Released) => !r.owed.isEmpty
      passed := s.vot.passed.filter fun t => t != c && t != 20 } }

/-- R116, R118, R123, R128. FAILSTOP: requests are held, the unit goes OUT, a lead with YIELD. -/
def State.failstop (s : State) (kind addr : Nat) : State :=
  if s.bit VOT.STATUS.FAILSTOP then s
  else
    let s := { s with vot := { s.vot with rejoin := none } }
    let s := ((s.set VOT.STATUS.FAILSTOP 1).set VOT.STATUS.REJOIN_ACTIVE 0).voterEvent (s.get VOT.LAST_EVENT.CORE) kind addr
    (s.post 20 kind).goOut 0

/-- R118. Two requests that both cores of VOTE2 have presented, and that differ, have no majority. -/
def State.vote2Held (s : State) : State :=
  match s.vot.presented.find? fun x => s.vot.presented.any fun y => y.idx == x.idx && y.core != x.core && !y.req.same x.req with
  | some x => s.failstop 5 x.req.addr
  | none => s

/-- R127. The complex goes on with two cores. -/
def State.toVote2 (s : State) (c reason : Nat) : State :=
  let s := s.stopCore c
  let s := { s with vot := { s.vot with vote2Since := s.now, marked := if reason = 1 then some c else none } }
  ((((s.set VOT.STATUS.MODE 1).set VOT.STATUS.OUT_CORE c).set VOT.STATUS.VOTE2_REASON reason).vote2Held).refreshPair

/-- R115, R126, R127. An egress minority. During a rejoin two cores are out of step. -/
def State.minority (s : State) (c : Nat) (late : Bool) (addr : Nat) : State :=
  if s.get VOT.STATUS.MODE ≠ 0 || s.vot.rejoin.isSome then s.failstop 4 addr
  else
    let s := (s.bump (VOT.MINORITY.EGRESS c)).voterEvent c (b2n late) addr
    (s.toVote2 c 1).post 16 (c + 4 * b2n late + addr / 256 * 256)

/-! ## Voting on what the cores do together (R113 to R118) -/

/-- The address that a source names for an intent. -/
def Intent.addr : Intent → Nat
  | .trap _ v => v
  | .req r => r.addr

/-- R114 to R116, R118. The running cores' intents compared: the agreed one, the odd core a minority; no majority or a
difference in VOTE2 is FAILSTOP. -/
def State.vote (s : State) (f : Core → Intent) : State × Option Intent :=
  match s.running with
  | [a, b, c] =>
    let x := f (s.core a); let y := f (s.core b); let z := f (s.core c)
    if x = y then (if x = z then s else s.minority c false z.addr, some x)
    else if x = z then (s.minority b false y.addr, some x)
    else if y = z then (s.minority a false x.addr, some y)
    else (s.failstop 4 x.addr, none)
  | [a, b] =>
    let x := f (s.core a); let y := f (s.core b)
    if x = y then (s, some x) else (s.failstop 5 x.addr, none)
  | _ => (s, none)

/-! ## Traps and registers (R111; RISC-V privileged 20211203, notes/assumptions/30.md) -/

def Core.reg (k : Core) (r : Nat) : Nat := if r = 0 then 0 else Sparse.get 0 k.x r
def Core.setReg (k : Core) (r v : Nat) : Core := if r = 0 then k else { k with x := Sparse.put 0 k.x r (v % 2 ^ 32) }

/-- R103. An instruction of `n` bytes retires. -/
def Core.retireBy (k : Core) (n : Nat) : Core :=
  { k with pc := (k.pc + n) % 2 ^ 32, minstret := (k.minstret + 1) % 2 ^ 64 }

/-- R103. An instruction of four bytes retires. -/
def Core.retire (k : Core) : Core := k.retireBy 4

/-- A trap is taken. -/
def Core.trap (k : Core) (cause mtval : Nat) : Core :=
  let mie := bitOf k.mstatus 3
  let ms := k.mstatus - mie * 8 - bitOf k.mstatus 7 * 128 - bitsOf k.mstatus 11 2 * 2048
  let base := k.mtvec / 4 * 4
  { k with
    mepc := k.pc / 2 * 2, mcause := cause, mtval := mtval, mmode := true
    mstatus := ms + mie * 128 + (if k.mmode then 3 * 2048 else 0)
    pc := if k.mtvec % 4 = 1 ∧ 2 ^ 31 ≤ cause then (base + 4 * (cause % 2 ^ 31)) % 2 ^ 32 else base }

/-- Whether a core takes the external interrupt that its mip shows. -/
def Core.takes (k : Core) : Bool := k.mip && k.mie.testBit 11 && (!k.mmode || k.mstatus.testBit 3)

/-- The range of a PMP entry, as (base, length): R102, granularity 8 bytes. R102 names NA4 beside that granularity: an NA4 entry
covers its 4 bytes (notes/assumptions/135.md). -/
def Core.pmpRange (k : Core) (i : Nat) : Nat × Nat :=
  let c := Sparse.get 0 k.pmp i
  let a := Sparse.get 0 k.pmp (16 + i)
  match bitsOf c 3 2 with
  | 1 => let lo := if i = 0 then 0 else Sparse.get 0 k.pmp (15 + i) / 2 * 8; (lo, a / 2 * 8 - lo)
  | 2 => (a * 4, 4)
  | 3 =>
    let ones := ((List.range 33).find? fun j => !a.testBit j).getD 33
    (a / 2 ^ (ones + 1) * 2 ^ (ones + 1) * 4, 2 ^ (ones + 3))
  | _ => (0, 0)

/-- R102. Whether PMP lets an access of kind `k` (0 read, 1 write, 2 execute) by. -/
def Core.pmpOk (k : Core) (a n kind : Nat) : Bool :=
  match (List.range 16).find? (fun i => overlaps (k.pmpRange i).1 (k.pmpRange i).2 a n) with
  | none => k.mmode
  | some i =>
    let r := k.pmpRange i
    let c := Sparse.get 0 k.pmp i
    decide (r.1 ≤ a ∧ a + n ≤ r.1 + r.2) && ((k.mmode && !c.testBit 7) || c.testBit kind)

/-! ## Pair-word loads (R108, R139, R144, R212) -/

/-- What a load from the pair region answers: a cause, or value and complement words. -/
inductive PairRead where
  | fault (cause : Nat)
  | words (v c : Nat)
  deriving DecidableEq, Repr

/-- R139, R144. What the target returns to the voted complex for a pair-word of the images. -/
def State.votedPair (s : State) (a : Nat) : Option PairRead :=
  if inputImage a then
    let i := (a - 0x2000000) / 8
    match s.runClass with
    | none => if (s.areaAt i).isSome then some (.fault 5) else none
    | some k => match s.inSnap k i with
      | some v => some (.words v (compl32 v))
      | none => some (.fault 5)
  else if outputImage a then
    let i := (a - 0x2080000) / 8
    match s.runClass with
    | none => none
    | some k => if s.owner i = k then (Sparse.find (s.cls k).pend i).map fun v => .words v (compl32 v) else none
  else none

/-- R108, R396, R581. A load of `n` bytes of the pair-word at `a`, by initiator `init`. -/
def State.pairLoad (s : State) (init a n : Nat) : State × PairRead :=
  match s.check { init := init } .read a n with
  | some r => (s.noteRefused r .read, .fault 5)
  | none =>
    let s := s.present { init := init } a n false
    match (if init = 0 then s.votedPair (a / 8 * 8) else none) with
    | some r => (s, r)
    | none =>
      if s.unitBad (a / 8) then (s, .fault 5)
      else
        let bs := s.bytes (a / 8 * 8) 8
        (s, .words (leAt bs 0 4) (leAt bs 4 4))

/-- Whether a pair-word read is valid (R11). -/
def pairValid (v c : Nat) : Bool := c == compl32 v

/-! ## The Keafy instructions (R109 to R112) -/

/-- R109, R111. Instruction bits of a Keafy instruction. -/
def keafyBits (f3 op rd rs1 rs2 : Nat) : Nat := op + 128 * rd + 4096 * f3 + 32768 * rs1 + 2 ^ 20 * rs2

/-- R102, R111. A core's checks of a Keafy pair instruction, and its request. Where several causes hold, the first of privilege,
operand, address and PMP is taken (notes/assumptions/135.md). -/
def Core.pairIntent (k : Core) (m rs1 bits : Nat) (rd : Nat) : Intent :=
  let a := k.reg rs1
  if m = 2 && !k.mmode then .trap 27 bits
  else if m = 2 && (rd % 2 == 1 || rd == 0) then .trap 26 bits
  else if a % 8 ≠ 0 || !within .pair a 8 then .trap 25 a
  else if !k.pmpOk a 8 0 then .trap 5 a
  else .req { kind := .load, addr := a, size := 8, be := 0xFF, mmode := k.mmode }

/-- R110. What a core makes of the pair-word: 0 KPLS, 1 KPCHK, 2 KPRAW. The shadow digest folds the value loaded. -/
def Core.pairEnd (k : Core) (m rd rs2 v c : Nat) : Core :=
  let ok := pairValid v c
  let k := { k with shadow := k.shadow ++ [v] }
  let k := match m with
    | 0 => if ok then k.setReg rd v else
        let k := k.setReg rd (k.reg rs2)
        { k with kflags := if k.kflags.testBit 0 then k.kflags else k.kflags + 1 }
    | 1 => if ok then k.setReg rd v else
        let k := k.setReg rd 0
        { k with kflags := if k.kflags.testBit 1 then k.kflags else k.kflags + 2 }
    | _ => (k.setReg rd v).setReg (rd + 1) c
  k.retire

/-- The running cores after something that each does. -/
def State.eachCore (s : State) (f : Core → Core) : State := s.running.foldl (fun s c => s.setCore c (f (s.core c))) s

/-- R105, R119. An instruction of the voted complex, or in SPLIT of each core for itself: the intent, and what a core makes
of the answer to its request. -/
def State.together (s : State) (intent : Core → Intent) (act : State → Nat → Req → State × Except Nat (Core → Core)) :
    State :=
  let finish (s : State) (cs : List Nat) (r : Except Nat (Core → Core)) (a : Nat) : State :=
    cs.foldl (fun s c => s.setCore c (match r with
      | .ok f => f (s.core c)
      | .error cause => (s.core c).trap cause a)) s
  if s.voting then
    match s.vote intent with
    | (s, none) => s
    | (s, some (.trap cause v)) => s.eachCore fun k => k.trap cause v
    | (s, some (.req q)) =>
      let (s, r) := act s 0 q
      finish s s.running r q.addr
  else if s.domOn 1 && s.get VOT.STATUS.MODE == 2 && !s.bit VOT.STATUS.FAILSTOP then
    s.running.foldl (fun s c => match intent (s.core c) with
      | .trap cause v => s.setCore c ((s.core c).trap cause v)
      | .req q =>
        let (s, r) := act s (c + 1) q
        finish s [c] r q.addr) s
  else s

/-- KPLS, KPCHK, KPRAW. -/
def State.pairInstr (s : State) (m rd rs1 rs2 : Nat) : State :=
  s.together (fun k => k.pairIntent m rs1 (keafyBits m 0x0B rd rs1 rs2) rd) fun s init q =>
    match s.pairLoad init q.addr 8 with
    | (s, .fault cause) => (s, .error cause)
    | (s, .words v c) => (s, .ok fun k => k.pairEnd m rd rs2 v c)

def execKpls (rd rs1 rs2 : Fin 32) (s : State) : Answer := (s.pairInstr 0 rd rs1 rs2).done
def execKpchk (rd rs1 : Fin 32) (s : State) : Answer := (s.pairInstr 1 rd rs1 0).done
def execKpraw (rd rs1 : Fin 32) (s : State) : Answer := (s.pairInstr 2 rd rs1 0).done

/-- R352. Whether this unit takes results of sampled reads from its lead, and the result of the next one. -/
def State.nextRead (s : State) : Option Nat := (s.par.follow.reads.find? (fun r => r.1 == s.vot.readIdx)).map (·.2)

/-- R104, R352. The result of a sampled read of initiator `init`: a lead tells its trail; a trail takes the lead's. The next
read index follows. -/
def State.sampled (s : State) (init v : Nat) : State × Nat :=
  if init ≠ 0 then (s, v)
  else
    let i := s.vot.readIdx
    let w := s.nextRead.getD v
    let s := if s.streams then s.ransel 0x12 (leBytes 8 i ++ leBytes 8 w) else s
    ({ s with vot := { s.vot with readIdx := i + 1 }
              par := { s.par with follow := { s.par.follow with
                reads := s.par.follow.reads.filter fun r => decide (i < r.1) } } }, w)

/-- A trail's sampled read waits for the lead's READ message. -/
def State.readWaits (s : State) : Bool := s.isTrail && decide (s.get VOT.STATUS.MODE ≤ 1) && s.nextRead.isNone

/-- R109, R111. KTICK's checks. -/
def Core.tickIntent (k : Core) (uTick : Bool) (rd bits : Nat) : Intent :=
  if !k.mmode && !uTick then .trap 27 bits
  else if rd % 2 == 1 || rd == 0 then .trap 26 bits
  else .req { kind := .sampleTick, mmode := k.mmode }

def State.ktick (s : State) (rd : Nat) : State :=
  if s.readWaits then s
  else s.together (fun k => k.tickIntent (s.bit VOT.KEAFY_CTRL.U_TICK) rd (keafyBits 0 0x2B rd 0 0)) fun s init _ =>
    let (s, t) := s.sampled init s.now
    (s, .ok fun k => ((k.setReg rd t).setReg (rd + 1) (t / 2 ^ 32)).retire)

def execKtick (rd : Fin 32) (s : State) : Answer := (s.ktick rd).done

/-- R105. fence.i: the caches of all three cores are invalidated. -/
def State.fenceI (s : State) : State :=
  if !(s.voting || (s.domOn 1 && s.get VOT.STATUS.MODE == 2 && !s.bit VOT.STATUS.FAILSTOP)) then s
  else State.eachCore { s with vot := { s.vot with icache := [[], [], []] } } Core.retire

def execFenceI (s : State) : Answer := s.fenceI.done

/-! ## Interrupt delivery (R120, R121, R352) -/

/-- R137. Classes whose CLASS_START is delivered enter execute. -/
def State.enterExecute (s : State) : State :=
  (List.range 8).foldl (fun s k => if s.phase k = 1 && (s.get (EVT.PEND.BITS 0 1)).testBit k
    then s.set (CYC.CLASS_STATUS.PHASE k) 2 else s) s

/-- R352. On a trail, the pending words of the lead's DELIVERY. -/
def State.adoptPending (s : State) : State :=
  if !s.isTrail then s
  else match s.par.follow.deliveries with
    | [] => s
    | d :: r =>
      let s := { s with par := { s.par with follow := { s.par.follow with deliveries := r } } }
      (List.range 8).foldl (fun s w => s.set (EVT.PEND.BITS 0 w) (d.2.getD w 0)) s

/-- R350, R351. Whether a cut of the lead still waits for a frame before the trail may go on. -/
def State.cutWaits (s : State) : Bool := s.isTrail && s.par.follow.cuts.any (·.waiting)

/-! ## The voter's clocks (R115, R116, R118) -/

/-- R115. The copy of a released request that core `c` owes has not come within 64 ticks. -/
def State.minorityLate (s : State) (c : Nat) : State :=
  if !s.voting then s
  else match s.vot.released.find? (fun r => r.owed.contains c && decide (r.tick + 64 ≤ s.now)) with
    | some r => if s.get VOT.STATUS.MODE = 0 then s.minority c true r.req.addr else s
    | none => s

def execMinorityLate (c : Fin 3) (s : State) : Answer := (s.minorityLate c).done

/-- R118. In VOTE2 the second presentation of a request is still missing 64 ticks after the first and after the entry into
VOTE2. -/
def State.voteTimeout (s : State) : State :=
  if !s.voting || s.get VOT.STATUS.MODE != 1 then s
  else match s.vot.presented.find? (fun p => decide (max p.tick s.vot.vote2Since + 64 ≤ s.now)
      && !s.vot.presented.any fun y => y.idx == p.idx && y.core != p.core) with
    | some p => s.failstop 5 p.req.addr
    | none => s

def execVote2PresentationTimeout (s : State) : Answer := s.voteTimeout.done

/-- R107. The physical address of a core address, or none where the cores' map has no memory. -/
def State.coreAddr (s : State) (a : Nat) : Option Nat :=
  if a < 0x30000000 then some a
  else if a < 0x80000000 then none
  else some (0x800000000 + s.get VOT.DRAM_WINDOW.BASE * 0x40000000 + (a - 0x80000000))

/-- R488, R492. A request is released but held at its target: DRAM in RETAIN or on its way from or to it, a register block whose
domain quiesces. -/
def State.accessHeld (s : State) (r : Req) : Bool :=
  match r.kind with
  | .fence => false
  | .sampleTick => false
  | .sampleHalf _ => false
  | .sampleKvstat => false
  | _ => match s.coreAddr r.addr with
    | none => false
    | some a =>
      if within .dram a 1 then s.domState 3 == 1 || s.domState 3 == 4 || s.domState 3 == 5
      else rangeOf a == .reg && s.quiesces (blockDomain (bitsOf a 16 8))

/-- R116. A request has not been released within 4,096 ticks; one held at its target is released. -/
def State.progress (s : State) : State :=
  if !s.voting then s
  else match s.vot.presented.find? (fun p => decide (p.tick + 4096 ≤ s.now) && !s.accessHeld p.req) with
    | some p => s.failstop 6 p.req.addr
    | none => s

def execProgressWatchdog (s : State) : Answer := s.progress.done

/-! ## The scrub (R122 to R124) -/

/-- R122. The register image, in its order. -/
def Core.image (k : Core) : List Nat :=
  (List.range 31).flatMap (fun i => leBytes 4 (Sparse.get 0 k.x (i + 1)))
  ++ (List.range 32).flatMap (fun i => leBytes 4 (Sparse.get 0 k.f i))
  ++ leBytes 4 k.fcsr ++ leBytes 4 k.pc ++ leBytes 8 k.minstret
  ++ [k.mstatus, k.mie, k.mtvec, k.mscratch, k.mepc, k.mcause, k.mtval, k.kflags].flatMap (leBytes 4)
  ++ (List.range 16).map (fun i => Sparse.get 0 k.pmp i) ++ (List.range 16).flatMap fun i => leBytes 4 (Sparse.get 0 k.pmp (16 + i))

/-- R122. The two words that a core gives to the scrub. -/
def Core.digests (k : Core) : Nat × Nat := (crc32c k.image, crc32c (k.shadow.flatMap (leBytes 4)))

/-- R124. Latent minorities of core `c` in the last 60 minutes. -/
def State.latentCount (s : State) (c : Nat) : Nat :=
  (s.vot.latent.filter fun l => l.1 == c && decide (s.now < l.2 + 3600 * ticksPerSec)).length

/-- R124. Those older than 60 minutes leave the history. -/
def State.latentHour (s : State) (c : Nat) : State :=
  let s := { s with vot := { s.vot with
    latent := s.vot.latent.filter fun l => l.1 != c || decide (s.now < l.2 + 3600 * ticksPerSec) } }
  s.set (VOT.MINORITY.LATENT_HOUR c) (min 15 (s.latentCount c))

def execLatentHourExpiry (c : Fin 3) (s : State) : Answer := (s.latentHour c).done

/-- R123, R124. A latent minority: kind 0 the register image, 1 the shadow digest. -/
def State.latentMinority (s : State) (c kind : Nat) : State :=
  let s := { s with vot := { s.vot with latent := s.vot.latent ++ [(c, s.now)] } }
  let n := s.latentCount c
  let s := ((s.bump (VOT.MINORITY.LATENT c)).set (VOT.MINORITY.LATENT_HOUR c) (min 15 n)).voterEvent c (2 + kind) 0
  let s := s.post 17 (c + 4 * kind)
  if s.get VOT.LATENT_LIMIT.LIMIT < n then (s.toVote2 c 2).post 19 (c + 16 * 2)
  else s.toVote2 c 1

/-- R122, R123. The scrub at a class-0 KEND; the shadow digests restart. -/
def State.scrub (s : State) : State :=
  let d (c : Nat) : Nat × Nat := (s.core c).digests
  let kind (odd ok : Nat) : Nat := if (d odd).1 = (d ok).1 then 1 else 0
  let s := match s.running with
    | [a, b, c] =>
      if d a = d b then (if d a = d c then s else s.latentMinority c (kind c a))
      else if d a = d c then s.latentMinority b (kind b a)
      else if d b = d c then s.latentMinority a (kind a b)
      else s.failstop 4 0
    | [a, b] => if d a = d b then s else s.failstop 5 0
    | _ => s
  s.eachCore fun k => { k with shadow := [] }

/-! ## Rejoin (R125, R126) -/

/-- R125. A rejoin of `cs` from `src` starts: the caches of the cores rejoined are invalidated. -/
def State.startRejoin (s : State) (cs : List Nat) (src : Nat) (debug : Bool) : State :=
  let ic := cs.foldl (fun (l : List (List (Nat × List Nat))) c => l.set c []) s.vot.icache
  ({ s with vot := { s.vot with
      rejoin := some ⟨cs, src, s.now, false, debug⟩, marked := none, icache := ic } }).set VOT.STATUS.REJOIN_ACTIVE 1

/-- R125. The mirror ends: the cores rejoined have the lines of the source's cache, those filled meanwhile among them. -/
def State.mirrorEnd (s : State) : State :=
  match s.vot.rejoin with
  | none => s
  | some r =>
    let ic := r.cores.foldl (fun (l : List (List (Nat × List Nat))) c => l.set c (l.getD r.src [])) s.vot.icache
    { s with vot := { s.vot with rejoin := some { r with transfer := true }, icache := ic } }

def execRejoinMirrorEnd (s : State) : Answer := s.mirrorEnd.done

/-- R125, R127. The transfer ends: the register image and every other M-mode CSR of the source are in the cores
rejoined, and the vote goes on. -/
def State.rejoinDone (s : State) : State :=
  match s.vot.rejoin with
  | none => s
  | some r =>
    if !r.transfer then s
    else
      let src := s.core r.src
      let s := r.cores.foldl (fun s c => s.setCore c { src with running := true }) s
      let n := s.vot.count.getD r.src 0
      let cnt := r.cores.foldl (fun (l : List Nat) c => l.set c n) s.vot.count
      let s := { s with vot := { s.vot with rejoin := none, count := cnt } }
      let s := s.set VOT.STATUS.REJOIN_ACTIVE 0
      if r.debug then
        -- R126, R409: locks of single cores are broken as DEBUG is left
        let s := State.breakOwners { s with vot := { s.vot with halted := false } } [1, 2, 3]
        ((s.set VOT.STATUS.MODE s.vot.prior).post 21 (s.vot.prior + 4 * 3 + 16 * s.get VOT.STATUS.OUT_CORE)).refreshPair
      else
        let s := ((s.set VOT.STATUS.MODE 0).set VOT.STATUS.OUT_CORE 3).set VOT.STATUS.VOTE2_REASON 0
        (s.post 18 (r.cores.headD 0 + 65536 * ((s.now - r.kendTick) % 65536))).refreshPair

def execRejoinDone (s : State) : Answer := s.rejoinDone.done

/-! ## Commands (R127, R131, R132) -/

def State.votStatus (s : State) (status : Nat) (pending : Bool) : State :=
  (s.set VOT.CMD_STATUS.STATUS status).setB VOT.CMD_STATUS.PENDING pending

/-- R132. The pending command is replaced. -/
def State.votReplace (s : State) : State :=
  match s.vot.cmd with
  | none => s
  | some (op, c, o) => ({ s with vot := { s.vot with cmd := none } }).recordCommand 9 op c 0x32 0 o 0xFF 0

/-- A command that ends at its write. -/
def State.votEnd (s : State) (init op c status : Nat) : State :=
  (s.votStatus status false).recordCommand 9 op c status 0 (originOf init) 0xFF 0

def State.votWait (s : State) (init op c : Nat) : State :=
  ({ s with vot := { s.vot with cmd := some (op, c, originOf init) } }).votStatus 0 true

/-- R127. TAKE_OUT. -/
def State.takeOut (s : State) (init c : Nat) : State :=
  let s := s.votReplace
  if s.get VOT.STATUS.MODE ≠ 0 || c == 3 || s.bit VOT.STATUS.FAILSTOP then s.votEnd init 1 c 0x60 else s.votWait init 1 c

/-- R124, R127, R132. Whether core `c` may return: it has passed logic BIST (target `c`) and memory BIST (target 20) since it was
taken out. -/
def State.mayReturn (s : State) (c : Nat) : Bool :=
  s.get VOT.STATUS.MODE == 1 && c != 3 && s.get VOT.STATUS.OUT_CORE == c
  && (s.get VOT.STATUS.VOTE2_REASON == 2 || s.get VOT.STATUS.VOTE2_REASON == 3)
  && s.vot.passed.contains c && s.vot.passed.contains 20
  && !s.bit VOT.STATUS.FAILSTOP

/-- R127. RETURN. -/
def State.coreReturn (s : State) (init c : Nat) : State :=
  let s := s.votReplace
  if s.mayReturn c then s.votWait init 2 c else s.votEnd init 2 c 0x60

/-- R127. The conditions of ENTER_SPLIT. -/
def State.maySplit (s : State) : Bool :=
  decide (s.get VOT.STATUS.MODE ≤ 1) && !s.inRun && (s.pairState == 0 || s.pairState == 5)
  && s.bit VOT.DEBUG_CTRL.ALLOW && !s.bit VOT.STATUS.FAILSTOP

/-- R127. ENTER_SPLIT: the running cores go on as initiators 1 to 3. -/
def State.enterSplit (s : State) (init : Nat) : State :=
  let s := s.votReplace
  if !s.maySplit then s.votEnd init 3 0 0x60
  else
    let old := s.get VOT.STATUS.MODE
    let s := { s with vot := { s.vot with presented := [], released := [], rejoin := none } }
    let s := (s.set VOT.STATUS.MODE 2).set VOT.STATUS.REJOIN_ACTIVE 0
    ((s.post 21 (2 + 4 * old + 16 * s.get VOT.STATUS.OUT_CORE)).refreshPair).votEnd init 3 0 0

/-- R132. CLEAR_COUNTS. -/
def State.clearCounts (s : State) (init : Nat) : State :=
  let s := s.votReplace
  if s.inRun then s.votEnd init 5 0 0x60
  else
    let s := (List.range 3).foldl (fun s c =>
      ((s.set (VOT.MINORITY.EGRESS c) 0).set (VOT.MINORITY.LATENT c) 0).set (VOT.MINORITY.LATENT_HOUR c) 0) s
    ({ s with vot := { s.vot with latent := [] } }).votEnd init 5 0 0

def execTakeOut (init : Fin 22) (c : Fin 4) (s : State) : Answer := (s.takeOut init c).done
def execVotReturn (init : Fin 22) (c : Fin 4) (s : State) : Answer := (s.coreReturn init c).done
def execEnterSplit (init : Fin 22) (s : State) : Answer := (s.enterSplit init).done
def execClearCounts (init : Fin 22) (s : State) : Answer := (s.clearCounts init).done
/-- OP 6 to 15. -/
def execVotCmdReserved (init : Fin 22) (op : Fin 10) (s : State) : Answer := ((s.votReplace).votEnd init (6 + op) 0 0x60).done

/-- R127. The pending command at a class-0 KEND. -/
def State.votAtKend (s : State) : State :=
  match s.vot.cmd with
  | none => s
  | some (op, c, o) =>
    let s := { s with vot := { s.vot with cmd := none } }
    if op = 1 then
      if s.get VOT.STATUS.MODE ≠ 0 then (s.votStatus 0x60 false).recordCommand 9 1 c 0x60 0 o 0xFF 0
      else ((s.toVote2 c 3).votStatus 0 false).recordCommand 9 1 c 0 0 o 0xFF 0
    else if s.mayReturn c then
      let s := s.set VOT.STATUS.VOTE2_REASON 1
      State.recordCommand (State.votStatus { s with vot := { s.vot with marked := some c } } 0 false) 9 2 c 0 0 o 0xFF 0
    else (s.votStatus 0x60 false).recordCommand 9 2 c 0x60 0 o 0xFF 0

/-- R122 to R127. What the voter does at a class-0 KEND: the scrub, the pending command, the start of a rejoin. -/
def State.voterKend (s : State) : State :=
  if !s.voting then s
  else
    let s := s.scrub
    if s.bit VOT.STATUS.FAILSTOP then s
    else
      let s := s.votAtKend
      match s.vot.marked with
      | some c => if s.vot.rejoin.isSome then s else s.startRejoin [c] (s.running.headD 0) false
      | none => s

/-! ## A start of D1 (R127, R129) -/

/-- R129. The comparator test, with the detections that it saw: a failure bars the unit from LEAD. -/
def State.comparatorTest (s : State) (detected : Nat) : State :=
  let s := (s.set VOT.CMP_TEST.DONE 1).set VOT.CMP_TEST.DETECTED detected
  if detected % 16 = 15 then (s.set VOT.CMP_TEST.FAIL 0).set VOT.STATUS.LEAD_BARRED 0
  else ((s.set VOT.CMP_TEST.FAIL 1).set VOT.STATUS.LEAD_BARRED 1).post 22 (detected % 16)

/-- The voter and the cores at a start of D1: what a reset of D1 leaves is in the registers already. -/
def State.voterStart (s : State) (detected : Nat) : State :=
  let v := s.vot
  let s := { s with vot := { latent := v.latent, readIdx := v.readIdx, lockIdx := v.lockIdx } }
  ((s.set VOT.STATUS.MODE 0).set VOT.STATUS.OUT_CORE 3).comparatorTest detected |>.refreshPair

/-- R127, R514. The BIST of a core that is out: passed, it may return; failed, the core is out for good and the unit is
barred from LEAD. -/
def State.coreTested (s : State) (c : Nat) (ok : Bool) : State :=
  if s.get VOT.STATUS.MODE ≠ 1 || s.get VOT.STATUS.OUT_CORE != c
     || !(s.get VOT.STATUS.VOTE2_REASON == 2 || s.get VOT.STATUS.VOTE2_REASON == 3) then s
  else if ok then s
  else (((s.set VOT.STATUS.VOTE2_REASON 4).set VOT.STATUS.LEAD_BARRED 1).post 19 (c + 16 * 4)).refreshPair

end Sys2Proof.Machine
end

