-- ==== Sys2Proof/Machine/Records.lean ====
section
/-! DEFINITION. The recorder: records written to the two logs, the archive, APPEND and READ (spec/18 R526 to R533,
R549).

Marks (notes/assumptions): DEDUCED 120. -/

namespace Sys2Proof.Machine

/-- R526. Base and size of the event log and of the change log. -/
def logBase (change : Bool) : Nat := if change then 0x22000000 else 0x20000000
def logSize (change : Bool) : Nat := if change then 0x1000000 else 0x2000000

/-- R527. DATA as a record holds it, padded to a multiple of 8. -/
def padData (d : List Nat) : List Nat := d ++ List.replicate ((8 - d.length % 8) % 8) 0

/-- R529, R549. The records of one log, and their places. -/
def State.kept (s : State) (change : Bool) : List Kept := if change then s.log.changes else s.log.events
def State.nextOff (s : State) (change : Bool) : Nat := if change then s.log.chNext else s.log.evNext

/-- R549. The next SEQ of a log. -/
def State.nextSeq (s : State) (change : Bool) : Nat :=
  if change then s.get2 REC.CHANGE_NEXT_LO.SEQ REC.CHANGE_NEXT_HI.SEQ
  else s.get2 REC.EVENT_NEXT_LO.SEQ REC.EVENT_NEXT_HI.SEQ

/-- R549. The registers that show a log's oldest record and its next SEQ. -/
def State.putLog (s : State) (change : Bool) (ks : List Kept) (off next : Nat) : State :=
  let o := (ks.head?.map (·.seq)).getD 0
  let a := (ks.head?.map (·.off)).getD 0
  if change then
    (((({ s with log := { s.log with changes := ks, chNext := off } }).set2 REC.CHANGE_OLDEST_LO.SEQ
      REC.CHANGE_OLDEST_HI.SEQ o).set REC.CHANGE_OLDEST_ADDR.OFFSET a).set2 REC.CHANGE_NEXT_LO.SEQ REC.CHANGE_NEXT_HI.SEQ
      next)
  else
    (((({ s with log := { s.log with events := ks, evNext := off } }).set2 REC.EVENT_OLDEST_LO.SEQ
      REC.EVENT_OLDEST_HI.SEQ o).set REC.EVENT_OLDEST_ADDR.OFFSET a).set2 REC.EVENT_NEXT_LO.SEQ REC.EVENT_NEXT_HI.SEQ
      next)

/-- R527. The bytes of a record of `len` bytes with number `seq`. -/
def State.recordBytes (s : State) (r : Rec) (len seq : Nat) : List Nat :=
  let flags := b2n r.change + 2 * b2n s.car.supplyLow + r.flags
  let chain := if r.change then shake256 s.log.lastChange 8 else List.replicate 8 0
  let d := padData r.data
  let body := leBytes 2 len ++ leBytes 2 r.code ++ [flags, s.unit + 2 * s.pairState, r.origin, r.priv] ++ leBytes 8 seq
    ++ leBytes 8 r.tick ++ leBytes 8 r.plant ++ leBytes 2 r.session ++ [0, 0] ++ chain ++ d
    ++ List.replicate (len - 48 - d.length) 0
  body ++ leBytes 4 (crc32c body)

/-- R529. OLDEST advances past every record that `[off, off + n)` overwrites. -/
def dropOver (off n : Nat) : List Kept → List Kept
  | [] => []
  | k :: ks => if overlaps k.off k.bytes.length off n then dropOver off n ks else k :: ks

/-- R532. Whether writing there would overwrite a change-log record that is not archived, while the archive works. -/
def State.mustWait (s : State) (change : Bool) (off n : Nat) : Bool :=
  change && !s.bit REC.STATUS.ARCHIVE_FAULT && s.log.changes.any fun k => overlaps k.off k.bytes.length off n
    && decide (s.get2 REC.CHANGE_ARCHIVED_LO.SEQ REC.CHANGE_ARCHIVED_HI.SEQ < k.seq)

/-- R529. One record put at the write offset of its log. -/
def State.putRecord (s : State) (change : Bool) (bs : List Nat) : State :=
  let off := s.nextOff change
  let seq := s.nextSeq change
  let ks := dropOver off bs.length (s.kept change) ++ [⟨seq, off, bs⟩]
  let s := s.putLog change ks ((off + bs.length) % logSize change) (seq + 1)
  let s := if change then { s with log := { s.log with lastChange := bs } } else s
  let a := logBase change + off
  (s.store a bs).written 15 a bs

/-- R529. Length of a record. -/
def Rec.len (r : Rec) : Nat := 48 + (padData r.data).length

/-- R529. The record at the head of the queue is written, after a PAD record where it does not fit. A gap shorter than 48
bytes holds the first bytes of a PAD record only. -/
def State.recorderWrite (s : State) : State :=
  match s.log.queue with
  | [] => s
  | r :: q =>
    let off := s.nextOff r.change
    let gap := logSize r.change - off
    let n := if r.len ≤ gap then r.len else gap + r.len
    if s.mustWait r.change off (min n gap) || (decide (gap < r.len) && s.mustWait r.change 0 r.len) then s
    else
      let s := if r.len ≤ gap then s else
        let pad : Rec := { code := 0, change := r.change, tick := r.tick, plant := r.plant }
        s.putRecord r.change ((s.recordBytes pad (max 48 gap) (s.nextSeq r.change)).take gap)
      let s := s.putRecord r.change (s.recordBytes r r.len (s.nextSeq r.change))
      let s := ({ s with log := { s.log with queue := q } }).set REC.STATUS.QUEUE q.length
      s.finishAt r.append 0 r.len

def execRecorderWrite (s : State) : Answer := s.recorderWrite.done

/-- R532. Bytes of the archive; the oldest records leave once it is full. -/
def archiveCut : Nat → List Kept → List Kept
  | 0, ks => ks
  | fuel + 1, ks =>
    if (ks.map (·.bytes.length)).foldl (· + ·) 0 ≤ 2 ^ 33 then ks else archiveCut fuel (ks.drop 1)

/-- R532. The change-log records not yet archived are copied in SEQ order; a failed copy sets ARCHIVE_FAULT. -/
def State.archiveChanges (s : State) (ok : Bool) : State :=
  let done := s.get2 REC.CHANGE_ARCHIVED_LO.SEQ REC.CHANGE_ARCHIVED_HI.SEQ
  let new := s.log.changes.filter fun k => decide (done < k.seq)
  if new.isEmpty then s
  else if !ok then (s.set REC.STATUS.ARCHIVE_FAULT 1).post 225 0
  else
    let ks := s.log.archive ++ new
    ({ s with log := { s.log with archive := archiveCut ks.length ks } }).set2 REC.CHANGE_ARCHIVED_LO.SEQ
      REC.CHANGE_ARCHIVED_HI.SEQ ((new.getLast?.map Kept.seq).getD done)

def execChangeLogArchive (ok : Bool) (s : State) : Answer := (s.archiveChanges ok).done

/-- R549. A read of a _LO SEQ register latches its _HI and, for OLDEST, its ADDR. -/
def State.recLoRead (s : State) (w : Nat) : State :=
  let hi := match w with
    | 0 => s.get REC.EVENT_OLDEST_HI.SEQ
    | 1 => s.get REC.EVENT_NEXT_HI.SEQ
    | 2 => s.get REC.CHANGE_OLDEST_HI.SEQ
    | 3 => s.get REC.CHANGE_NEXT_HI.SEQ
    | _ => s.get REC.CHANGE_ARCHIVED_HI.SEQ
  let ad := if w = 0 then s.get REC.EVENT_OLDEST_ADDR.OFFSET else if w = 2 then s.get REC.CHANGE_OLDEST_ADDR.OFFSET else 0
  { s with log := { s.log with latch := Sparse.insert s.log.latch w (hi, ad) } }

def execRecLoRead (w : Fin 5) (s : State) : Answer := (s.recLoRead w).done

/-! ## The recorder engine (R533) -/

/-- R529, R533. Whether the queue has a place for an appended record. -/
def State.queueRoom (s : State) (change : Bool) : Bool := decide (s.log.queue.length < if change then 128 else 112)

/-- R533. APPEND. Without a place in the queue the descriptor waits. -/
def State.append (s : State) (d : Started) : State :=
  let code := bitsOf d.d.w4 0 16
  let change := d.d.w4.testBit 16
  if 976 < d.d.w1 || d.d.w1 % 8 != 0 || bitsOf d.d.w4 17 15 != 0 || code < 0x4000 || 0x7FFF < code
     || bitsOf d.d.w5 19 13 != 0 || d.d.eflags != 0 then s.finish d 0x10
  else if !s.queueRoom change then s
  else match s.readBuf (s.via 15 d) d.d.primary d.d.w1 with
    | (s, _, some e) => s.finishErr d e
    | (s, bs, none) =>
      let r : Rec :=
        { code := code, change := change, origin := originOf (s.get (RNG.RING_CFG.OWNER d.ring)), priv := d.d.priv
          session := d.d.session, tick := s.now, plant := s.plantNs, data := bs, append := some (d.ring, d.idx) }
      (s.queueRec r).accept d

def execAppend (n : Fin 64) (s : State) : Answer := (s.onOffer n [10] 1 State.append).done

/-- R533. The records from a SEQ on; of the change log also those that only the archive holds. -/
def State.recordsFrom (s : State) (change : Bool) (first : Nat) : List Kept :=
  let ks := s.kept change
  let oldest := (ks.head?.map (·.seq)).getD (2 ^ 64)
  ((if change then s.log.archive.filter (fun k => decide (k.seq < oldest)) else []) ++ ks).filter
    fun k => decide (first ≤ k.seq)

/-- The whole records that fit in `n` bytes. -/
def wholeRecords (n : Nat) : List Kept → List Kept
  | [] => []
  | k :: ks => if k.bytes.length ≤ n then k :: wholeRecords (n - k.bytes.length) ks else []

/-- A record as MRAM holds it now, or as the archive does. -/
def State.keptBytes (s : State) (change : Bool) (k : Kept) : List Nat :=
  if (s.kept change).contains k then s.bytes (logBase change + k.off) k.bytes.length else k.bytes

/-- Records written one after the other; the bytes of those written whole. -/
def State.copyRecords (s : State) (v : Via) (change : Bool) : Nat → List Kept → State × Nat × Option Err
  | _, [] => (s, 0, none)
  | a, k :: ks =>
    match s.writeBuf v a (s.keptBytes change k) with
    | (s, _, some e) => (s, 0, some e)
    | (s, n, none) =>
      let (s, m, e) := s.copyRecords v change (a + n) ks
      (s, n + m, e)

/-- R533. READ. -/
def State.recRead (s : State) (d : Started) : State :=
  let change := d.d.eflags.testBit 0
  if 1 < d.d.eflags then s.finish d 0x10
  else
    let all := s.recordsFrom change (d.d.w4 + d.d.w5 * 2 ^ 32)
    let ks := wholeRecords d.d.w1 all
    match s.copyRecords (s.via 15 d) change d.d.primary ks with
    | (s, n, some e) => s.finishErr d e n
    | (s, n, none) => s.finish d (b2n (decide (ks.length < all.length))) n

def execRecRead (n : Fin 64) (s : State) : Answer := (s.onOffer n [10] 2 State.recRead).done

end Sys2Proof.Machine
end

