-- ==== Sys2Proof/Machine/Update.lean ====
section
/-! DEFINITION. The update and security engine: containers and VERIFY, image slots, installation, attestation, keys
(spec/18 R534 to R551). Restarts stand in Reset.lean.

Marks (notes/assumptions): DEDUCED 115, 121; DESIGN CHOICE 7. -/

namespace Sys2Proof.Machine

/-- The ASCII bytes of a text. -/
def ascii (t : String) : List Nat := t.toList.map Char.toNat

/-! ## Containers (R534, R535, R537) -/

def cKind (h : List Nat) : Nat := h.getD 5 0
def cProto (h : List Nat) : Nat := leAt h 6 2
def cRollback (h : List Nat) : Nat := leAt h 0x14 4
def cVersion (h : List Nat) : Nat := leAt h 0x18 4
def cBodyLen (h : List Nat) : Nat := leAt h 0x1C 4
def cHash (h : List Nat) : List Nat := (h.drop 0x20).take 64
def cSections (h : List Nat) : Nat := leAt h 0x74 4

/-- Whether `n` bytes at `off` are zero. -/
def zeroAt (bs : List Nat) (off n : Nat) : Bool := ((bs.drop off).take n).all (· == 0)

/-- R537. Check 1. -/
def headerBad (h : List Nat) (w1 : Nat) : Bool :=
  h.take 4 != [0x55, 0x49, 0x4D, 0x47] || h.getD 4 0 != 1 || !(decide (1 ≤ cKind h) && decide (cKind h ≤ 4))
  || cSections h == 0 || decide (16 < cSections h) || decide (cBodyLen h < 64) || decide (2 ^ 30 - 8192 < cBodyLen h)
  || w1 != 8192 + cBodyLen h || !zeroAt h 0x80 128 || !zeroAt h 0x1ADA 1318
  || (cKind h != 1 && !(zeroAt h 6 2 && zeroAt h 0x68 8 && zeroAt h 0x70 4 && zeroAt h 0xDED 3309))

/-- R534. The first 8 bytes of SHAKE256 over a public key. -/
def keyId (key : List Nat) : List Nat := shake256 key 8

/-- A section: TYPE, OFFSET, LENGTH. -/
structure Section where
  type : Nat
  off  : Nat
  len  : Nat
  deriving DecidableEq, Repr

/-- R534. The section table of a body. -/
def sectionsOf (body : List Nat) (n : Nat) : List Section :=
  (List.range n).map fun i => ⟨body.getD (32 * i) 0, leAt body (32 * i + 4) 4, leAt body (32 * i + 8) 4⟩

/-- R535. The section types of a kind. -/
def kindTypes (k : Nat) : List Nat :=
  match k with
  | 1 => [1, 2, 3]
  | 2 => [0x10, 0x11, 0x22]
  | 3 => [0x20, 0x21, 0x22]
  | _ => [0x30]

/-- Whether any two sections overlap. -/
def sectionsOverlap : List Section → Bool
  | [] => false
  | x :: xs => xs.any (fun y => overlaps x.off x.len y.off y.len) || sectionsOverlap xs

/-- R534, R535. Check 9. -/
def tableBad (k n : Nat) (body : List Nat) : Bool :=
  let ss := sectionsOf body n
  let count (t : Nat) : Nat := (ss.filter (·.type == t)).length
  decide (body.length < 32 * n)
  || (List.range n).any (fun i => body.getD (32 * i + 1) 0 != 0 || !zeroAt body (32 * i + 2) 2
      || !zeroAt body (32 * i + 12) 4 || !zeroAt body (32 * i + 21) 3 || !zeroAt body (32 * i + 24) 8)
  || ss.any (fun x => !(kindTypes k).contains x.type || x.off % 8 != 0 || decide (x.off < 32 * n)
      || decide (body.length < x.off + x.len))
  || sectionsOverlap ss
  || (k == 1 && count 1 != 1) || (k == 2 && (count 0x10 != 1 || decide (1 < count 0x11)))
  || (k == 3 && (decide (1 < count 0x21) || ss.any fun x => x.type == 0x21
      && (x.len % 8 != 0 || x.len == 0 || decide (64 < x.len))))
  || (k == 4 && (count 0x30 == 0 || decide (4 < count 0x30) || ss.any fun x => x.len != 1952))

/-- R539. The keys in the PLANT_KEY sections of a body. -/
def plantKeysIn (body : List Nat) (n : Nat) : List (List Nat) :=
  ((sectionsOf body n).filter (·.type == 0x30)).map fun x => (body.drop x.off).take x.len

/-- R539. Whether VERIFY may take its signer's key from the container itself. -/
def State.firstTrust (s : State) (h : List Nat) (owner : Nat) : Bool :=
  s.upd.plantKeys.isEmpty && cKind h == 4 && owner == 18

/-- R537. Checks 2 to 7 with the signers' keys: the first failing DETAIL and status. -/
def State.headerCheck (s : State) (h : List Nat) (keys : List (List Nat)) : Option (Nat × Nat) :=
  let signed := h.take 0x100
  let ctx := ascii "UCM40 IMAGE"
  let plant := keys.find? fun k => keyId k == (h.drop 0x60).take 8
  let vendor := [Config.vendorKey 0, Config.vendorKey 1].find? fun k => keyId k == (h.drop 0x68).take 8
  let id := leAt h 0xC 8
  if leAt h 8 2 ≠ 0x40 ∨ Config.hwRev < h.getD 0xA 0 ∨ h.getD 0xB 0 < Config.hwRev then some (2, 0x60)
  else if id ≠ 0 ∧ id ≠ s.car.carrierId then some (3, 0x60)
  else if cRollback h < s.get (UPD.ROLLBACK.COUNTER (cKind h - 1)) then some (4, 0x60)
  else match plant with
    | none => some (5, 0x61)
    | some k =>
      if !Config.mlDsaVerify k ctx signed ((h.drop 0x100).take 3309) then some (6, 0x61)
      else if cKind h ≠ 1 then none
      else match vendor with
        | none => some (7, 0x61)
        | some v => if Config.mlDsaVerify v ctx signed ((h.drop 0xDED).take 3309) then none else some (7, 0x61)

/-- R537. A failing check: an AUTH_FAIL is counted and told. -/
def State.verifyFail (s : State) (d : Started) (h : List Nat) (detail status bytes : Nat) : State :=
  let s := if status = 0x61 then (s.bump SEC.AUTH_FAILS.COUNT).post 231 (detail + 256 * cKind h) else s
  s.finish d status bytes detail

/-- R536. The rules of every opcode: owner 0 is refused with DETAIL 14. -/
def State.updGate (s : State) (d : Started) (bad : Bool) (engineer : Bool) (f : State → State) : State :=
  if s.get (RNG.RING_CFG.OWNER d.ring) = 0 then s.finish d 0x60 0 14
  else if bad then s.finish d 0x10
  else if engineer && d.d.priv != 1 then s.finish d 0x60 0 13
  else f s

/-- R538. The first free verified entry. -/
def State.freeEntry (s : State) : Option Nat := (List.range 8).find? fun v => !s.bit (UPD.VERIFIED.VALID v)

/-- R538. A container enters the table. -/
def State.enterVerified (s : State) (d : Started) (h body : List Nat) (v : Nat) : State :=
  let secs := (sectionsOf body (cSections h)).map fun x => (x.type, d.d.primary + 8192 + x.off, x.len)
  let e : Verified := ⟨d.d.primary, d.d.w1, cKind h, cRollback h, secs⟩
  ((({ s with upd := { s.upd with entries := Sparse.insert s.upd.entries v e } }).set (UPD.VERIFIED.VALID v) 1).set
    (UPD.VERIFIED.KIND v) (cKind h)).finish d 0 (cBodyLen h) v

/-- R537. The checks of a container whose header and body have been read. -/
def State.verifyBody (s : State) (d : Started) (h body : List Nat) : State :=
  if shake256 body 64 ≠ cHash h then s.verifyFail d h 8 0x61 body.length
  else if tableBad (cKind h) (cSections h) body then s.verifyFail d h 9 0x10 body.length
  else match s.freeEntry with
    | none => s.verifyFail d h 10 0x60 body.length
    | some v => s.enterVerified d h body v

/-- R537, R538. VERIFY. -/
def State.verify (s : State) (d : Started) : State :=
  let a := d.d.primary
  s.updGate d (d.d.w4 != 0 || bitsOf d.d.w5 19 13 != 0 || d.d.eflags != 0 || a % 8 != 0) false fun s =>
    if !inSramDram a (max 8192 d.d.w1) then s.finish d 0x10 0 1
    else match s.readBuf (s.via 16 d) a 8192 with
      | (s, _, some e) => s.finishErr d e
      | (s, h, none) =>
        if headerBad h d.d.w1 then s.finish d 0x10 0 1
        else if s.firstTrust h (s.get (RNG.RING_CFG.OWNER d.ring)) then
          match s.readBuf (s.via 16 d) (a + 8192) (cBodyLen h) with
          | (s, got, some e) => s.finishErr d e got.length
          | (s, body, none) => match s.headerCheck h (plantKeysIn body (cSections h)) with
            | some (k, st) => s.verifyFail d h k st 0
            | none => s.verifyBody d h body
        else match s.headerCheck h s.upd.plantKeys with
          | some (k, st) => s.verifyFail d h k st 0
          | none => match s.readBuf (s.via 16 d) (a + 8192) (cBodyLen h) with
            | (s, got, some e) => s.finishErr d e got.length
            | (s, body, none) => s.verifyBody d h body

def execVerify (n : Fin 64) (s : State) : Answer := (s.onOffer n [9] 1 State.verify).done

/-! ## Slots (R543, R545, R546, R548) -/

def State.slot (s : State) (i : Nat) : Slot := s.upd.slots.getD i {}
def State.activeSlot (s : State) : Nat := s.get UPD.ACTIVE.SLOT
def State.slotState (s : State) (i : Nat) : Nat := s.get (UPD.SLOT_STATE.STATE i)

/-- R545, R552. A slot takes a state. -/
def State.setSlotState (s : State) (i st : Nat) : State := (s.set (UPD.SLOT_STATE.STATE i) st).post 227 (i + 2 * st)

/-- R528. UPDATE. -/
def State.recordUpdate (s : State) (action what cause version rollback : Nat) (hash : List Nat)
    (origin priv session : Nat) : State :=
  s.recordChange 0x8008 origin priv session ([action, what, cause, 0] ++ leBytes 4 version ++ leBytes 4 rollback
    ++ leBytes 4 0 ++ hash.take 16)

/-- R528. UPDATE for a slot. -/
def State.recordSlot (s : State) (action i cause origin priv session : Nat) : State :=
  s.recordUpdate action i cause (s.get (UPD.SLOT_VERSION.VERSION i)) (s.slot i).rollback (s.slot i).hash origin priv session

def State.ringOrigin (s : State) (d : Started) : Nat := originOf (s.get (RNG.RING_CFG.OWNER d.ring))

/-- The verified entry that word 4 names. -/
def State.entryOf (s : State) (d : Desc) : Option Verified := Sparse.find s.upd.entries d.w4

/-- R545. STAGE writes a FIRMWARE container to the slot that is not active; `ok` says whether the eMMC took it and its
bytes read back equal. -/
def State.updStage (s : State) (d : Started) (ok : Bool) : State :=
  let kind := (s.entryOf d.d).map (·.kind)
  s.updGate d (d.d.w1 != 0 || d.d.w2 != 0 || d.d.w3 != 0 || d.d.eflags != 0 || bitsOf d.d.w5 19 13 != 0
      || kind != some 1) true fun s =>
    match s.entryOf d.d with
    | none => s.finish d 0x10
    | some e =>
      if s.slotState s.activeSlot = 2 then s.finish d 0x60 0 18
      else
        let i := 1 - s.activeSlot
        match s.readBuf (s.via 16 d) e.addr e.len with
        | (s, _, some x) => (s.setSlotState i 4).finishErr d x
        | (s, bs, none) =>
          if !ok then (s.setSlotState i 4).finish d 0x22
          else
            let sl : Slot := ⟨bs, cProto bs, cRollback bs, cHash bs⟩
            let s := ({ s with upd := { s.upd with slots := s.upd.slots.set i sl } }).set (UPD.SLOT_VERSION.VERSION i)
              (cVersion bs)
            ((s.setSlotState i 1).recordSlot 2 i 0 (s.ringOrigin d) d.d.priv d.d.session).finish d 0 0 i

def execUpdStage (n : Fin 64) (ok : Bool) (s : State) : Answer := (s.onOffer n [9] 2 fun s d => s.updStage d ok).done

/-- R546. The pending ACTIVATE ends. -/
def State.endActivate (s : State) (status detail : Nat) : State :=
  match s.upd.activate with
  | none => s
  | some a => (({ s with upd := { s.upd with activate := none } }).set UPD.ACTIVE.ACTIVATE_PENDING 0).finishAt
      (some (a.ring, a.idx)) status 0 detail

/-- R546. ACTIVATE. -/
def State.activate (s : State) (d : Started) : State :=
  let t := d.d.w1 + d.d.w4 * 2 ^ 32
  let i := 1 - s.activeSlot
  s.updGate d (d.d.w2 != 0 || d.d.w3 != 0 || 1 < d.d.eflags || bitsOf d.d.w5 19 13 != 0) true fun s =>
    if s.slotState i ≠ 1 || (s.bit SYS.CARRIER_STATUS.PARTNER_SEATED
        && (s.slot i).proto != (s.slot s.activeSlot).proto) then s.finish d 0x60 0 16
    else if !s.bit TIM.STATUS.SET then s.finish d 0x60 0 17
    else if t < s.plantNs then s.finish d 0x31
    else
      let s := s.endActivate 0x32 0
      let s := ({ s with upd := { s.upd with activate := some ⟨d.ring, d.idx, t, d.d.eflags.testBit 0, false⟩ } }).set
        UPD.ACTIVE.ACTIVATE_PENDING 1
      (s.recordSlot 3 i 0 (s.ringOrigin d) d.d.priv d.d.session).accept d

def execActivate (n : Fin 64) (s : State) : Answer := (s.onOffer n [9] 3 State.activate).done

/-! ## INSTALL (R539, R541, R544) -/

/-- R528. KEYS. -/
def State.recordKeys (s : State) (action origin priv session : Nat) : State :=
  let d := if action = 3 then leBytes 4 (s.get SEC.LEASE_KCV.KCV) else (shake256 s.upd.plantKeys.flatten 32).take 4
  (s.recordChange 0x8009 origin priv session ([action, s.upd.plantKeys.length, 0, 0] ++ d)).post 230 action

/-- R541. The area of the configuration in force. -/
def configArea : Nat := 0x23400000

/-- R541. A CONFIGURATION container stored; it is in force from the next start. -/
def State.installConfig (s : State) (bs : List Nat) : State :=
  let s := (s.store configArea bs).written 16 configArea bs
  { s with upd := { s.upd with config := bs } }

/-- R539. A KEYS container: its keys replace the whole set. -/
def State.installKeys (s : State) (d : Started) (bs : List Nat) : State :=
  let first := s.upd.plantKeys.isEmpty
  let ks := plantKeysIn (bs.drop 8192) (cSections bs)
  let s := (({ s with upd := { s.upd with plantKeys := ks } }).set SEC.STATUS.PLANT_KEYS ks.length).set
    SEC.STATUS.TRUST_ESTABLISHED 1
  s.recordKeys (if first then 4 else 1) (s.ringOrigin d) d.d.priv d.d.session

/-- INSTALL. -/
def State.installEntry (s : State) (d : Started) : State :=
  let kind := ((s.entryOf d.d).map (·.kind)).getD 0
  s.updGate d (d.d.w1 != 0 || d.d.w2 != 0 || d.d.w3 != 0 || d.d.eflags != 0 || bitsOf d.d.w5 19 13 != 0
      || !(kind == 3 || kind == 4)) true fun s =>
    match s.entryOf d.d with
    | none => s.finish d 0x10
    | some e =>
      if kind = 3 ∧ 0x400000 < e.len then s.finish d 0x60
      else match s.readBuf (s.via 16 d) e.addr e.len with
        | (s, _, some x) => s.finishErr d x
        | (s, bs, none) =>
          let s := if kind = 3 then s.installConfig bs else s.installKeys d bs
          let s := s.raiseRollback kind (cRollback bs)
          (s.recordUpdate 7 kind 0 (cVersion bs) (cRollback bs) (cHash bs) (s.ringOrigin d) d.d.priv d.d.session).finish d 0

def execInstall (n : Fin 64) (s : State) : Answer := (s.onOffer n [9] 4 State.installEntry).done

/-! ## Identity (R542) -/

/-- R542. The report over which the signature goes. -/
def State.attestHead (s : State) (nonce : List Nat) : List Nat :=
  let a := s.activeSlot
  [0x55, 0x41, 0x54, 0x54, 1, s.unit + 2 * s.pairState, 0, 0]
  ++ (List.range 4).flatMap (fun w => leBytes 4 (s.get (SEC.SERIAL.ASCII w)))
  ++ leBytes 4 (s.get SEC.DEVICE_KEY_ID_LO.ID) ++ leBytes 4 (s.get SEC.DEVICE_KEY_ID_HI.ID) ++ nonce
  ++ leBytes 8 s.now ++ leBytes 8 s.plantNs ++ [a, s.slotState a, 0, 0] ++ leBytes 4 (s.get (UPD.SLOT_VERSION.VERSION a))
  ++ ((s.slot a).hash ++ List.replicate (64 - (s.slot a).hash.length) 0)
  ++ leBytes 4 (s.get CYC.PROGRAM_GEN.GEN) ++ leBytes 4 0 ++ s.configDigest.flatMap (leBytes 4)
  ++ shake256 s.upd.plantKeys.flatten 32
  ++ leBytes 4 (if s.upd.leaseKey.isSome then s.get SEC.LEASE_KCV.KCV else 0)
  ++ (List.range 4).flatMap (fun k => leBytes 4 (s.get (UPD.ROLLBACK.COUNTER k))) ++ leBytes 4 s.upd.healthCrc
  ++ leBytes 8 (s.nextSeq true) ++ List.replicate 256 0

/-- ATTEST. -/
def State.attest (s : State) (d : Started) : State :=
  s.updGate d (d.d.w1 != 0 || bitsOf d.d.w5 8 24 != 0 || d.d.eflags != 0) false fun s =>
    match s.readBuf (s.via 16 d) d.d.primary 32 with
    | (s, _, some e) => s.finishErr d e
    | (s, nonce, none) =>
      let h := s.attestHead nonce
      let sig := Config.mlDsaSign (ascii "UCM40 ATTEST") h
      let bs := h ++ (sig.map (· % 256) ++ List.replicate 3309 0).take 3309 ++ [0, 0, 0]
      match s.writeBuf (s.via 16 d) d.d.secondary bs with
      | (s, n, some e) => s.finishErr d e n
      | (s, n, none) => s.finish d 0 n

def execAttest (n : Fin 64) (s : State) : Answer := (s.onOffer n [9] 5 State.attest).done

/-- R542. CERT_READ: whole certificates, the device's first. -/
def State.certRead (s : State) (d : Started) : State :=
  s.updGate d (d.d.w2 != 0 || d.d.w3 != 0 || bitsOf d.d.w5 8 24 != 0 || d.d.eflags != 0) false fun s =>
    let a := (Config.certificate 0).map (· % 256)
    let b := (Config.certificate 1).map (· % 256)
    let bs := if d.d.w1 < a.length then [] else if d.d.w1 < a.length + b.length then a else a ++ b
    match s.writeBuf (s.via 16 d) d.d.secondary bs with
    | (s, n, some e) => s.finishErr d e (if n < a.length then 0 else a.length)
    | (s, n, none) => s.finish d (b2n (decide (d.d.w1 < a.length + b.length))) n

def execCertRead (n : Fin 64) (s : State) : Answer := (s.onOffer n [9] 6 State.certRead).done

/-! ## UPD.CMD (R538, R546, R548, R550) -/

def State.updStatus (s : State) (status reason : Nat) : State :=
  (s.set UPD.CMD_STATUS.STATUS status).set UPD.CMD_STATUS.REASON reason

/-- R548. CONFIRM. -/
def State.confirm (s : State) (init session : Nat) : State :=
  let i := s.activeSlot
  if s.slotState i ≠ 2 then s.updStatus 0x60 1
  else if !s.bit RST.START_STATUS.PASSED then s.updStatus 0x60 2
  else if !(s.isDriving || s.pairState == 3) then s.updStatus 0x60 3
  else
    let s := { s with upd := { s.upd with confirmBy := none, deferred := none, fall := false } }
    let s := ((s.setSlotState i 3).raiseRollback 1 (s.slot i).rollback).set UPD.CONFIRM_REMAINING.SECONDS 0
    (s.recordSlot 5 i 0 (originOf init) 0xFF session).updStatus 0 0

def execConfirm (init : Fin 22) (session : Fin 65536) (s : State) : Answer := (s.confirm init session).done

/-- R538. RELEASE. -/
def State.updRelease (s : State) (v : Nat) : State :=
  if (match s.fer.map with | some m => m.entryId == v | none => false) then s.updStatus 0x60 2
  else if !s.bit (UPD.VERIFIED.VALID v) then s.updStatus 0 0
  else (s.dropVerified v false).updStatus 0 0

def execUpdRelease (entry : Fin 8) (s : State) : Answer := (s.updRelease entry).done

/-- R546. CANCEL_ACTIVATE. -/
def execCancelActivate (s : State) : Answer := ((s.endActivate 0x33 0).updStatus 0 0).done

def execUpdCmdReserved (s : State) : Answer := (s.updStatus 0x60 4).done

/-! ## SEC (R539, R540, R551) -/

/-- R540. A word of the lease key staged by initiator 18. -/
def State.leaseKeyWrite (s : State) (init w value : Nat) : State :=
  if init ≠ 18 then s
  else { s with upd := { s.upd with staged := Sparse.insert s.upd.staged w (value % 2 ^ 32) } }

def execLeaseKeyWrite (init : Fin 22) (w : Fin 8) (value : Nat) (s : State) : Answer := (s.leaseKeyWrite init w value).done

def State.secStatus (s : State) (status reason : Nat) : State :=
  (s.set SEC.CMD_STATUS.STATUS status).set SEC.CMD_STATUS.REASON reason

/-- R540. COMMIT_LEASE_KEY. -/
def State.commitLeaseKey (s : State) (init priv session : Nat) : State :=
  if priv ≠ 1 then s.secStatus 0x60 1
  else
    let key := (List.range 8).flatMap fun w => leBytes 4 (Sparse.get 0 s.upd.staged w)
    let s := { s with upd := { s.upd with leaseKey := some key, staged := [] } }
    let s := (s.set SEC.STATUS.LEASE_KEY 1).set SEC.LEASE_KCV.KCV (leNat (shake256 (ascii "UCP KCV" ++ key) 4))
    (s.recordKeys 3 (originOf init) priv session).secStatus 0 0

def execCommitLeaseKey (init : Fin 22) (priv : Fin 8) (session : Fin 65536) (s : State) : Answer :=
  (s.commitLeaseKey init priv session).done

/-- R539. FACTORY_TRUST. -/
def State.factoryTrust (s : State) (init priv session : Nat) : State :=
  if init ≠ 18 ∨ priv ≠ 1 then s.secStatus 0x60 1
  else if s.pairState ≠ 5 then s.secStatus 0x60 2
  else
    let s := (s.upd.entries.map (·.1)).foldl (fun s v => s.dropVerified v false) s
    let zeros := List.replicate s.upd.config.length 0
    let s := (s.store configArea zeros).written 16 configArea zeros
    let s := { s with upd := { s.upd with plantKeys := [], leaseKey := none, staged := [], config := [] } }
    let s := (List.range 8).foldl (fun s w => s.set (UPD.CONFIG_DIGEST.DIGEST w) 0) s
    let s := (((s.set SEC.STATUS.PLANT_KEYS 0).set SEC.STATUS.LEASE_KEY 0).set SEC.STATUS.TRUST_ESTABLISHED 0).set
      SEC.LEASE_KCV.KCV 0
    (s.recordKeys 2 (originOf init) priv session).secStatus 0 0

def execFactoryTrust (init : Fin 22) (priv : Fin 8) (session : Fin 65536) (s : State) : Answer :=
  (s.factoryTrust init priv session).done

def execSecCmdReserved (s : State) : Answer := (s.secStatus 0x60 3).done

end Sys2Proof.Machine
end

