-- ==== Sys2Proof/Machine/Abort.lean ====
section
/-! DEFINITION. How each engine ends a started descriptor (spec/03 R88, R90 and the fault table of each engine's
chapter): ABORT and ENABLE := 0 on a ring, and a power domain that leaves ON or fails.

Marks (notes/assumptions): DEDUCED 20, 28, 41. -/

namespace Sys2Proof.Machine

/-! ## One descriptor -/

/-- The force descriptors that wait lose this one (R154). -/
def State.forceUnwait (s : State) (d : Started) : State :=
  { s with cyc := { s.cyc with waits := s.cyc.waits.filter fun w => !(w.ring == d.ring && w.idx == d.idx) } }

/-- R175, R165. A descriptor of the ferry engine: the map goes with a STAGE or a CROSS. -/
def State.ferryAbort (s : State) (d : Started) (status : Nat) : State :=
  let p := some (d.ring, d.idx)
  let s := if s.fer.stager = p ∨ s.fer.crosser = p then s.ferryEnd status else s.forceUnwait d
  s.finishAt p status

/-- A management descriptor that waits (R216). -/
def State.crossAbort (s : State) (d : Started) (status : Nat) : State :=
  let c := s.crs
  ({ s with crs := { c with
    waits := c.waits.filter fun w => !(w.ring == d.ring && w.idx == d.idx)
    updates := c.updates.filter fun u => u != (d.ring, d.idx) } }).finish d status

/-- R331. A HART descriptor: the frame being sent has ended, and no other follows. -/
def State.hartAbort (s : State) (d : Started) (status : Nat) : State :=
  let ch := d.d.eflags
  let mine := match s.hartJob ch with
    | some j => j.ring == d.ring && j.idx == d.idx
    | none => false
  (if mine then s.setHart ch none else s).finish d status

/-- R533. An APPEND whose record still waits: the record goes with it. -/
def State.appendAbort (s : State) (d : Started) (status : Nat) : State :=
  let q := s.log.queue.filter fun r => r.append != some (d.ring, d.idx)
  (({ s with log := { s.log with queue := q } }).set REC.STATUS.QUEUE q.length).finish d status

/-- R475. A descriptor of the capture engine. -/
def State.captureAbort (s : State) (d : Started) (status : Nat) : State :=
  match s.acq.job with
  | some j => if j.ring = d.ring ∧ j.idx = d.idx then (if status = 0x33 then s.acqAbort d else s.acqDown status)
    else s.finish d status
  | none => s.finish d status

/-- R88, R90. A started descriptor ended by its engine: status ABORTED, DOMAIN_OFF or DOMAIN_FAILED. A trail's engine has
not taken up what it follows. -/
def State.abortDesc (s : State) (d : Started) (status : Nat) : State :=
  if s.follows d.ring then s.finish d status else
  match s.get (RNG.RING_CFG.ENGINE d.ring) with
  | 1 => s.crossAbort d status
  | 2 => (s.motUnwait d).finish d status
  | 3 => (s.loopUnwait d).finish d status
  | 4 => s.hartAbort d status
  | 5 => s.canAbort d status 0
  | 6 => s.canAbort d status 0
  | 7 => s.captureAbort d status
  | 8 => s.ferryAbort d status
  | 9 => if s.upd.activate.map (fun a => (a.ring, a.idx)) = some (d.ring, d.idx) then s.endActivate status 0
         else s.finish d status
  | 10 => s.appendAbort d status
  | _ => s.finish d status

/-- Every started descriptor of ring `n` ended. -/
def State.abortStarted (s : State) (n status : Nat) : State :=
  (s.rng.started.filter (·.ring == n)).foldl (fun s d =>
    if (s.startedAt d.ring d.idx).isSome then s.abortDesc d status else s) s

/-! ## ABORT and ENABLE := 0 (R88) -/

/-- R88. ABORT acts in RUNNING. The ferry engine also drops its staged map (R165). -/
def State.ringAbort (s : State) (n : Nat) (disable : Bool) : State :=
  if s.get (RNG.RING_STATUS.STATE n) ≠ 1 then s
  else
    let s := (s.set (RNG.RING_STATUS.STATE n) 2).setRing n { s.ring n with toDisabled := disable }
    let s := s.abortStarted n 0x33
    let s := if s.get (RNG.RING_CFG.ENGINE n) = 8 ∧ s.fer.ring = n ∧ s.fer.map.isSome then s.ferryEnd 0x33 else s
    s.ringSettle n

def execRingAbort (n : Fin 64) (s : State) : Answer := (s.ringAbort n false).done

/-- R88. ENABLE cleared. -/
def State.ringDisable (s : State) (n : Nat) : State :=
  let s := s.set (RNG.RING_CTRL.ENABLE n) 0
  match s.get (RNG.RING_STATUS.STATE n) with
  | 1 => s.ringAbort n true
  | 2 => s.setRing n { s.ring n with toDisabled := true }
  | _ => s.set (RNG.RING_STATUS.STATE n) 0

def execRingDisable (n : Fin 64) (s : State) : Answer := (s.ringDisable n).done

/-! ## A domain that leaves ON or fails -/

/-- R88. The rings of the domain's engines: STOPPED, or FAULTED with REASON 5 (`status` DOMAIN_OFF or DOMAIN_FAILED). No
descriptor is at fault, so STATUS and INDEX of the fault are 0. After ENABLE := 0 the ring stays STOPPING until the last
record is written, and is then DISABLED. -/
def State.ringDown (s : State) (n status : Nat) : State :=
  let st := s.get (RNG.RING_STATUS.STATE n)
  if st = 0 then s
  else
    let s := if status = 0x41 then s.ringFault n 5 0 0
      else if st = 2 && (s.ring n).toDisabled then s
      else if st = 2 then (s.set (RNG.RING_STATUS.STATE n) 3).post 233 n
      else s.set (RNG.RING_STATUS.STATE n) 3
    s.abortStarted n status

/-- What else stops in domain `d` (spec/08 to 10, 13 to 15). -/
def State.unitsDown (s : State) (d status : Nat) : State :=
  match d with
  | 5 => s.motDown.loopStop
  | 6 => s.clpDown
  | 7 => s.acqDown status
  | _ => s

/-- A domain has left ON: status DOMAIN_OFF (0x40) or DOMAIN_FAILED (0x41). -/
def State.domDown (s : State) (d status : Nat) : State :=
  let s := (List.range 64).foldl (fun s n =>
    if engineDomain (s.get (RNG.RING_CFG.ENGINE n)) = d then s.ringDown n status else s) s
  s.unitsDown d status

end Sys2Proof.Machine
end

