-- ==== Sys2Proof/Machine/Retain.lean ====
section
/-! DEFINITION. What a reset or a power state leaves in the registers: every field under its own retention class (spec/17
R505, spec/19 R563). -/

namespace Sys2Proof.Machine

/-- The array indices of a register at distance `d` from the first of its array. -/
def splitIndex : List (Nat × Nat) → Nat → Option (List Nat)
  | [], d => if d = 0 then some [] else none
  | (n, stride) :: r, d => if d / stride < n then (splitIndex r (d % stride)).map (d / stride :: ·) else none

/-- The field of a row at an offset of its block. -/
def FieldRow.fieldAt (r : FieldRow) (off : Nat) : Option Fld :=
  if off < r.off then none
  else (splitIndex r.dims (off - r.off)).map fun ix => r.fld (ix.getD 0 0) (ix.getD 1 0) (ix.getD 2 0)

/-- R562. The fields of the register at an offset of block `b`, each with its row. -/
def fieldsAt (b off : Nat) : List (Fld × FieldRow) :=
  (rowsOf b).filterMap fun r => (r.fieldAt off).map fun f => (f, r)

/-- The block of a field, and its retention class. -/
def idBlock (id : Nat) : Nat := id / 32 / 65536

def idClass (id : Nat) : Retention :=
  match (fieldsAt (idBlock id) (id / 32 % 65536)).find? (fun (p : Fld × FieldRow) => p.1.lo == id % 32) with
  | some p => p.2.ret
  | none => .C

/-- R505. The fields that `hit` picks by block and class take their reset values. -/
def State.dropRegs (s : State) (hit : Nat → Retention → Bool) : State :=
  { s with regs := s.regs.filter fun (p : Nat × Nat) => !hit (idBlock p.1) (idClass p.1) }

/-- R481, R505. The blocks of domain `d` lose classes C and, unless they are kept, D. -/
def State.dropDomain (s : State) (d : Nat) (keepD : Bool) : State :=
  s.dropRegs fun b c => blockDomain b == d && (c == .C || (c == .D && !keepD))

end Sys2Proof.Machine
end

