-- ==== Sys2Proof/Machine/Power.lean ====
section
/-! DEFINITION. Power domains, votes, rails and the regulator's bus (spec/16_power.md).

Marks (notes/assumptions): DEDUCED 28, 70, 71, 72, 73; DESIGN CHOICE 1. -/

namespace Sys2Proof.Machine

/-! ## Votes (R486) -/

/-- R486. The votes on a domain, those of the hardware included. -/
def State.votes (s : State) (d : Nat) : Nat :=
  let v := s.get (PWR.D_VOTE.VOTES d)
  if d = 3 then (if s.inRun && !s.bit (PWR.D_CFG.RUN_ENTRY 3) then setBit v 0 else v)
  else if d = 7 then (if s.acq.job.isSome then setBit v 13 else v)
  else v

/-- The voter of lowest number. -/
def firstVoter (v : Nat) : Nat := ((List.range 22).find? v.testBit).getD 0

/-- R486. The votes of initiators `ids` are released. -/
def State.dropVotes (s : State) (ids : List Nat) : State :=
  (List.range 8).foldl (fun s d => s.set (PWR.D_VOTE.VOTES d) (ids.foldl clearBit (s.get (PWR.D_VOTE.VOTES d)))) s

/-! ## Accounts (R487) -/

/-- R487. Where the refuser table counts `id`: its entry, a free one, or the one of lowest count. -/
def State.refuserPlace (s : State) (d id : Nat) : Nat × Bool :=
  let js := List.range 8
  match js.find? fun j => s.bit (PWR.D_REFUSER.VALID d j) && s.get (PWR.D_REFUSER.ID d j) == id with
  | some j => (j, true)
  | none => match js.find? fun j => !s.bit (PWR.D_REFUSER.VALID d j) with
    | some j => (j, false)
    | none => (js.foldl (fun b j =>
        if s.get (PWR.D_REFUSER.COUNT d j) < s.get (PWR.D_REFUSER.COUNT d b) then j else b) 0, false)

/-- R487. A refused (or aborted) entry counted to its refuser; source 11 where `told`. -/
def State.countRefuser (s : State) (d id : Nat) (aborted told : Bool) : State :=
  let s := s.bump (if aborted then PWR.D_COUNTS.ABORTED d else PWR.D_COUNTS.REFUSED d)
  let s := ((s.set (PWR.D_LAST_REFUSER.ID d) id).setB (PWR.D_LAST_REFUSER.ABORT d) aborted).set
    (PWR.D_LAST_REFUSER.VALID d) 1
  let (j, known) := s.refuserPlace d id
  let s := if known then s.bump (PWR.D_REFUSER.COUNT d j)
    else ((s.set (PWR.D_REFUSER.ID d j) id).set (PWR.D_REFUSER.VALID d j) 1).set (PWR.D_REFUSER.COUNT d j) 1
  if told then s.post 11 (d + 256 * id + 65536 * b2n aborted) else s

/-- R487. CLEAR.ACCOUNTS. -/
def State.clearAccounts (s : State) (d : Nat) : State :=
  let s := (s.set (PWR.D_COUNTS.REFUSED d) 0).set (PWR.D_COUNTS.ABORTED d) 0
  let s := ((s.set (PWR.D_LAST_REFUSER.ID d) 0).set (PWR.D_LAST_REFUSER.ABORT d) 0).set (PWR.D_LAST_REFUSER.VALID d) 0
  (List.range 8).foldl (fun s j =>
    ((s.set (PWR.D_REFUSER.ID d j) 0).set (PWR.D_REFUSER.VALID d j) 0).set (PWR.D_REFUSER.COUNT d j) 0) s

def execPwrClearAccounts (d : Fin 8) (s : State) : Answer := (s.clearAccounts d).done

/-! ## Contents lost (R481, R505) -/

/-- R217. D4 no longer works: no frame comes or goes and no management request stays open, but the stations keep their state
until cuts find them STALE (R205). -/
def State.stationsDown (s : State) : State :=
  { s with crs := { stations := s.crs.stations.map fun p => (p.1, { p.2 with asked := none }), kept := s.crs.kept } }

/-- R211, R585. The stations that a reset takes from the crossing engine and the process image. -/
def State.dropStations (s : State) : State :=
  let s := s.crs.stations.foldl (fun s (p : Nat × Station) => if p.2.st = 2 then s.setLanded p.1 false else s) s
  let s : State := { s with crs := {} }
  (List.range 4).foldl (fun s c => (s.countAdmitted c).refreshBreak c) s

/-- R505. What domain `d` loses beside its registers when its contents go: the parts of its units, and DRAM with D3. -/
def State.loseParts (s : State) (d : Nat) : State :=
  match d with
  | 1 => { s with vot := { latent := s.vot.latent, readIdx := s.vot.readIdx, lockIdx := s.vot.lockIdx } }
  | 2 => { s with upd := { s.upd with entries := [], activate := none, staged := [] }
                  bst := { s.bst with svcWfi := [false, false, false, false], svcHeld := [] } }
  | 3 => s.loseDram
  | 4 => s.stationsDown
  | 5 => { s with fio := { start := s.now }, mot := {}, lop := {}, can := [] }
  | 6 => { s with clp := {} }
  | 7 => s.acqStart
  | _ => s

/-- R481, R488. The contents of domain `d` are lost; classes D stay where they were saved. -/
def State.loseDomain (s : State) (d : Nat) (keepD : Bool) : State :=
  let s := (s.loseParts d).dropDomain d keepD
  s.setDom d { s.dom d with cold := true }

/-- R409, R486. The initiators of D1 or D2 are reset: their locks are broken and their votes released. -/
def State.coresDown (s : State) (d : Nat) : State :=
  if d = 1 then ((s.breakOwners [0, 1, 2, 3]).dropVotes [0, 1, 2, 3]).abandonCycles
  else if d = 2 then (s.breakOwners [4, 5, 6, 7]).dropVotes [4, 5, 6, 7]
  else s

/-- R126. A rejoin does not survive D1 leaving ON. -/
def State.rejoinDown (s : State) (d : Nat) : State :=
  if d ≠ 1 then s
  else { s with vot := { s.vot with rejoin := none } } |>.set VOT.STATUS.REJOIN_ACTIVE 0

/-! ## A domain starts (R491, R585) -/

/-- R585. The enables that a domain's blocks keep are checked again, as though they had just been set. -/
def State.recheck (s : State) (d : Nat) : State :=
  match d with
  | 4 => (List.range 4).foldl (fun s c => if s.bit (FLD.CROSS_CFG.ENABLE c) then s.crossCheck c else s) s
  | 5 =>
    let s := if s.bit FIO.CTRL.ENABLE then (s.set FIO.CTRL.ENABLE 0).fioEnable else s
    let s := if s.bit MOT.CTRL.ENABLE then (s.set MOT.CTRL.ENABLE 0).motEnable else s
    let s := if s.bit LOP.CTRL.ENABLE then (s.set LOP.CTRL.ENABLE 0).lopEnable else s
    (List.range 2).foldl (fun s c => if s.bit (CAN.CH_CFG.ENABLE c) then (s.set (CAN.CH_CFG.ENABLE c) 0).canEnable c
      else s) s
  | 6 => if s.bit CLP.CTRL.ENABLE then (s.set CLP.CTRL.ENABLE 0).clpEnable else s
  | _ => s

/-- R491. Domain `d` starts with its contents lost. `seen` is what the start senses: for D1 the detections of the comparator
test (R129), for D6 the channels whose reference fails (R337). -/
def State.domStart (s : State) (d seen : Nat) : State :=
  match d with
  | 1 => s.voterStart seen
  | 5 => s.fioStart.recheck 5
  | 6 => (s.recheck 6).clpStart seen
  | _ => s.recheck d

/-! ## Requests (R484, R485) -/

/-- R53. Whether rail setting `r` is permitted for domain `d` (3 keeps the present one). -/
def railOk (d r : Nat) : Bool :=
  match r with
  | 0 => d == 2 || d == 7
  | 2 => d == 1 || d == 2 || d == 5
  | _ => true

/-- R484. The first reason to refuse a request, or 0. -/
def State.reqReason (s : State) (d : Nat) (r : PwrReq) : Nat :=
  if d = 0 || !railOk d r.rail then 1
  else if (r.state = 1 || r.state = 2) && (d = 1 || d = 4 || d = 5) && s.pairState ≠ 5 then 2
  else if (r.state = 1 || r.state = 2) && s.votes d ≠ 0 then 3
  else if r.state = 3 then 4
  else 0

/-- R484, R498. A firmware request ends. -/
def State.reqEnd (s : State) (d : Nat) (r : PwrReq) (status reason : Nat) : State :=
  if r.auto then s else (s.set (PWR.D_STATUS.LAST_STATUS d) status).set (PWR.D_STATUS.LAST_REASON d) reason

/-- R487. An automatic entry refused by a vote asserts source 11 at most once per IDLE_TIME. -/
def State.autoTold (s : State) (d : Nat) : Bool :=
  match (s.dom d).autoNoted with
  | some t => decide (t + s.get (PWR.D_CFG.IDLE_TIME d) * ticksPerUs ≤ s.now)
  | none => true

/-- R484, R487. A request refused. -/
def State.reqRefuse (s : State) (d : Nat) (r : PwrReq) (reason : Nat) : State :=
  let s := s.reqEnd d r 0x60 reason
  if reason = 2 then s.countRefuser d 30 false true
  else if reason ≠ 3 then s
  else
    let told := !r.auto || s.autoTold d
    let s := s.countRefuser d (firstVoter (s.votes d)) false told
    if r.auto && told then s.setDom d { s.dom d with autoNoted := some s.now } else s

/-- The rail that a request names. -/
def State.reqRail (s : State) (d : Nat) (r : PwrReq) : Nat :=
  if r.rail = 3 then s.get (PWR.D_STATUS.RAIL d) else r.rail

/-- R484, R488, R491, R494. A request that is not refused: done at once, a rail change, an entry, or a wake. A FAILED domain
takes no entry (R492). -/
def State.reqRun (s : State) (d : Nat) (r : PwrReq) : State :=
  let st := s.domState d
  let rail := s.reqRail d r
  if r.state = st ∧ rail = s.get (PWR.D_STATUS.RAIL d) then s.reqEnd d r 0 0
  else if st = 3 ∧ r.state ≠ 0 then s.reqEnd d r 0x41 0
  else if r.state ≠ 0 ∧ r.state = st then (s.set (PWR.D_STATUS.RAIL d) rail).reqEnd d r 0 0
  else
    let s := (s.setDom d { s.dom d with req := some r, since := s.now, retried := false }).set (PWR.D_STATUS.BUSY d) 1
    if r.state = 0 then
      if st = 0 then (s.setDom d { s.dom d with railOnly := true }).railTo d (railMv rail)
      else (s.set (PWR.D_STATUS.RAIL d) rail).startWake d
    else ((s.setDom d { s.dom d with quiesce := true, wakeAfter := false, wakeNoted := false }).set
      (PWR.D_STATUS.STATE d) 4).speedBroken d

/-- R484, R485. A request that starts. -/
def State.reqStart (s : State) (d : Nat) (r : PwrReq) : State :=
  let k := s.reqReason d r
  if k ≠ 0 then s.reqRefuse d r k else s.reqRun d r

/-- Whether a request is in progress, or a wake or an entry of the hardware's own. -/
def State.domBusy (s : State) (d : Nat) : Bool :=
  (s.dom d).req.isSome || s.domState d == 4 || s.domState d == 5

/-- R485. The pending request, if any, starts. -/
def State.reqNext (s : State) (d : Nat) : State :=
  match (s.dom d).pend with
  | none => s
  | some r =>
    if s.domBusy d then s
    else ((s.setDom d { s.dom d with pend := none }).set (PWR.D_STATUS.PENDING d) 0).reqStart d r

/-- R485. The request in progress ends; a pending one starts at once. -/
def State.reqDone (s : State) (d status : Nat) : State :=
  let rt := s.dom d
  let s := (s.setDom d { rt with req := none, railOnly := false, quiesce := false }).set (PWR.D_STATUS.BUSY d) 0
  let s := match rt.req with
    | some r => s.reqEnd d r status 0
    | none => s
  s.reqNext d

/-- R490. A request for ON that arrives during an entry. -/
def State.reqWake (s : State) (d : Nat) (r : PwrReq) : State :=
  if r.state ≠ 0 ∨ s.domState d ≠ 4 then s
  else
    let rt := s.dom d
    let s := (s.setDom d { rt with wakeNoted := true }).bump (PWR.D_ENTRIES.WAKE_IN_ENTRY d)
    if rt.wakeNoted then s else s.post 12 d

/-- R485. A request becomes pending; the one that it replaces is superseded. -/
def State.reqPend (s : State) (d : Nat) (r : PwrReq) : State :=
  let s := match (s.dom d).pend with
    | some q => s.reqEnd d q 0x32 0
    | none => s
  ((s.setDom d { s.dom d with pend := some r }).set (PWR.D_STATUS.PENDING d) 1).reqWake d r

/-- R484, R485. A write of PWR.D_d_REQ. -/
def State.domRequest (s : State) (d : Nat) (r : PwrReq) : State :=
  if s.domBusy d then s.reqPend d r else s.reqStart d r

def execDomainRequest (d : Fin 8) (st rail : Fin 4) (s : State) : Answer := (s.domRequest d ⟨st, rail, false⟩).done

/-! ## Entering low power (R482, R483, R488 to R490) -/

/-- R482, R489. The tick before which a domain has not been idle: its start, an automatic entry that was aborted, for D3 the last
change at the DRAM port, for D2 the last transaction of a service core, for D7 the end of the last CAPTURE. What the service cores execute is not in the state. -/
def State.idleFrom (s : State) (d : Nat) : Nat :=
  max (s.dom d).idleFrom (if d = 3 then s.fab.dramAt else if d = 2 then s.fab.svcAt else if d = 7 then s.acq.endAt else 0)

/-- R482. Whether the idle condition of a domain holds as far as the state shows it. -/
def State.idleNow (s : State) (d : Nat) : Bool :=
  if d = 2 then s.fab.arbs.all fun p => !p.2.ofService
  else if d = 3 then decide (s.arb 9 = {})
  else if d = 7 then s.acq.job.isNone && (List.range 64).all fun n => s.get (RNG.RING_CFG.ENGINE n) != 7
    || s.get (RNG.RING_STATUS.STATE n) == 0 || s.get (RNG.RING_INDEX.CONS n) == s.get (RNG.RING_INDEX.PROD n)
  else true

/-- R482. D2, D3 or D7 has been idle for IDLE_TIME: an automatic entry. -/
def State.idleExpiry (s : State) (d : Nat) : State :=
  if !(d = 2 || d = 3 || d = 7) || !s.bit (PWR.D_CFG.AUTO d) || !s.domOn d || s.domBusy d || (s.dom d).pend.isSome
     || !s.idleNow d || decide (s.now < s.idleFrom d + s.get (PWR.D_CFG.IDLE_TIME d) * ticksPerUs) then s
  else s.reqStart d ⟨if d = 7 && s.bit (PWR.D_CFG.AUTO_OFF 7) then 2 else 1, 3, true⟩

def execIdleTimeExpiry (d : Fin 8) (s : State) : Answer := (s.idleExpiry d).done

/-- R483. The front end of a channel that has been unused for IDLE_TIME is switched off. -/
def State.d6ChannelOff (s : State) (n : Nat) : State :=
  if !s.bit (PWR.D_CFG.AUTO 6) || !s.domOn 6 || s.get (CLP.CH_CFG.MODE n) != 0 || s.bit (CLP.CH_CFG.LOOP_POWER n)
     || decide (s.now < max (s.dom 6).idleFrom (s.clch n).idleFrom + s.get (PWR.D_CFG.IDLE_TIME 6) * ticksPerUs) then s
  else (s.set PWR.D6_CHANNELS_OFF.CHANNELS (setBit (s.get PWR.D6_CHANNELS_OFF.CHANNELS) n)).setClch n
    { s.clch n with front := 1 }

def execD6ChannelOff (n : Fin 8) (s : State) : Answer := (s.d6ChannelOff n).done

/-- R489. The entry is aborted: the domain stays ON. -/
def State.abortEntry (s : State) (d refuser : Nat) : State :=
  let auto := ((s.dom d).req.map (·.auto)).getD false
  let s := (s.set (PWR.D_STATUS.STATE d) 0).countRefuser d refuser true true
  let s := s.setDom d { s.dom d with
    wakeAfter := false, wakeNoted := false, idleFrom := if auto then s.now else (s.dom d).idleFrom }
  if auto then (s.reqDone d 0) else s.reqDone d 0x33

/-- R488. Quiesce has ended: context, retention, rail. A vote held by now aborts the entry (R489). -/
def State.quiesceEnd (s : State) (d : Nat) : State :=
  let rt := s.dom d
  if s.domState d ≠ 4 || !rt.quiesce then s
  else if s.votes d ≠ 0 then s.abortEntry d (firstVoter (s.votes d))
  else
    let off := (rt.req.map (·.state)) == some 2
    let s := s.setDom d { rt with quiesce := false, since := s.now, retried := false }
    let s := if off && s.bit (PWR.D_CFG.CONTEXT_SAVE d) && !rt.cold then s.set (PWR.D_STATUS.SAVED d) 1 else s
    if off then s.railOff d else s.railTo d retainMv

def execQuiesceEnd (d : Fin 8) (s : State) : Answer := (s.quiesceEnd d).done

/-- R489. QUIESCE_TIME has passed; `init` is the initiator of the oldest access still in flight. -/
def State.quiesceTimeout (s : State) (d init : Nat) : State :=
  let rt := s.dom d
  if s.domState d ≠ 4 || !rt.quiesce || decide (s.now < rt.since + s.get PWR.QUIESCE_TIME.US * ticksPerUs) then s
  else s.abortEntry d init

def execQuiesceTimeout (d : Fin 8) (init : Fin 22) (s : State) : Answer := (s.quiesceTimeout d init).done

/-- R486, R489. A vote set; one set during the quiesce of an entry aborts it. -/
def State.voteSet (s : State) (init d : Nat) : State :=
  if 8 ≤ init then s
  else
    let s := s.set (PWR.D_VOTE.VOTES d) (setBit (s.get (PWR.D_VOTE.VOTES d)) init)
    if s.domState d = 4 && (s.dom d).quiesce then s.abortEntry d init else s

def execVoteSet (init : Fin 22) (d : Fin 8) (s : State) : Answer := (s.voteSet init d).done

def State.voteClear (s : State) (init d : Nat) : State :=
  if 8 ≤ init then s else s.set (PWR.D_VOTE.VOTES d) (clearBit (s.get (PWR.D_VOTE.VOTES d)) init)

def execVoteClear (init : Fin 22) (d : Fin 8) (s : State) : Answer := (s.voteClear init d).done

/-- Whether the regulator's bus still has a rail command of a domain. -/
def State.railWaits (s : State) (d : Nat) : Bool := s.pwr.bus.any fun c => c.page == d && !c.read

/-- R488. The state that an entry reaches: contents go with OFF, rings stop, locks and votes of cores are released. -/
def State.enterLow (s : State) (d target : Nat) : State :=
  let s := ((s.set (PWR.D_STATUS.STATE d) target).bump (PWR.D_ENTRIES.ENTRIES d)).post 9
    (domWord d target 4 (s.get (PWR.D_STATUS.RAIL d)))
  let s := (((s.domDown d 0x40).coresDown d).rejoinDown d).speedStop d
  if target = 2 then s.loseDomain d (s.bit (PWR.D_STATUS.SAVED d)) else s

/-- R488, R490. The rail has reached its level: the entry is complete, and a wake that is due starts at once. -/
def State.entryComplete (s : State) (d : Nat) : State :=
  let rt := s.dom d
  match rt.req with
  | none => s
  | some r =>
    if s.domState d ≠ 4 || rt.quiesce || s.railWaits d then s
    else
      let rail := s.reqRail d r
      let s := (s.enterLow d r.state).set (PWR.D_STATUS.RAIL d) rail
      let s := if rt.wakeAfter then s.startWake d else s
      s.reqDone d 0

def execEntryComplete (d : Fin 8) (s : State) : Answer := (s.entryComplete d).done

/-! ## Waking and failing (R491, R492, R494, R495) -/

/-- R491. Logic ready. -/
def State.domUp (s : State) (d seen : Nat) : State :=
  let rt := s.dom d
  let s := ((s.set (PWR.D_STATUS.STATE d) 0).set (PWR.D_STATUS.STAGE d) 0).set (PWR.D_STATUS.SAVED d) 0
  let s := s.setDom d { rt with
    cold := false, retried := false, wakeAfter := false, wakeNoted := false, resetting := false, idleFrom := s.now }
  let s := (s.post 9 (domWord d 0 5 (s.get (PWR.D_STATUS.RAIL d)))).speedStart d
  let s := if rt.cold then s.domStart d seen else s
  (s.reqDone d 0).refreshPair

/-- R491. The ready signal of the wake stage under way. -/
def State.stageEnd (s : State) (d seen : Nat) : State :=
  let st := s.get (PWR.D_STATUS.STAGE d)
  if s.domState d ≠ 5 || (st == 1 && s.railWaits d) then s
  else if st < 4 then (s.set (PWR.D_STATUS.STAGE d) (st + 1)).setDom d { s.dom d with since := s.now, retried := false }
  else (s.set (PWR.D_STATUS.FAILED_STAGE d) 0).domUp d seen

def execDomainWakeStageEnd (d : Fin 8) (seen : Fin 16) (s : State) : Answer := (s.stageEnd d seen).done

/-- R491, R495. A domain FAILED: what it held is lost as with OFF (notes/assumptions/70.md), its rings fault, a request
ends, and the pair takes notice. -/
def State.domFail (s : State) (d stage : Nat) (lost : Bool) : State :=
  let s := ((s.set (PWR.D_STATUS.STATE d) 3).set (PWR.D_STATUS.FAILED_STAGE d) stage).set (PWR.D_STATUS.STAGE d) 0
  let s := s.post 10 (d + 8 * stage + 256 * b2n lost)
  let s := (((s.domDown d 0x41).coresDown d).rejoinDown d).speedStop d
  let s := { s with pwr := { s.pwr with bus := s.pwr.bus.filter fun c => c.page != d || c.read } }.setDom d
    { s.dom d with resetting := false }
  ((s.loseDomain d (s.bit (PWR.D_STATUS.SAVED d))).reqDone d 0x41).domainLost d

/-- R491, R494. A stage or a step has missed its timeout: retried once, then FAILED. -/
def State.missed (s : State) (d : Nat) : State :=
  let rt := s.dom d
  let stage := if s.domState d = 5 then s.get (PWR.D_STATUS.STAGE d) else 1
  if rt.retried then s.domFail d stage false
  else
    let s := s.setDom d { rt with retried := true, since := s.now }
    if stage ≠ 1 || s.railWaits d then s
    else if s.domState d ≠ 4 then s.railTo d (railMv ((rt.req.map (s.reqRail d)).getD (s.get (PWR.D_STATUS.RAIL d))))
    else if (rt.req.map (·.state)) = some 2 then s.railOff d else s.railTo d retainMv

/-- R491. The timeout of a wake stage in ticks. -/
def State.stageLimit (s : State) (d : Nat) : Nat :=
  let retain := (s.dom d).wakeFrom == 1
  ticksPerUs * (match s.get (PWR.D_STATUS.STAGE d) with
    | 1 => if retain then 200 else 500
    | 2 => 50
    | 3 => if d = 3 && !retain then 50000 else 100
    | _ => 20)

def State.stageTimeout (s : State) (d : Nat) : State :=
  if s.domState d ≠ 5 || decide (s.now < (s.dom d).since + s.stageLimit d) then s else s.missed d

def execWakeStageTimeout (d : Fin 8) (s : State) : Answer := (s.stageTimeout d).done

/-- R494. Power-good at the new rail, or its absence for 200 us. -/
def State.railEnd (s : State) (d : Nat) (ok : Bool) : State :=
  let rt := s.dom d
  if !rt.railOnly then s
  else if ok then
    if s.railWaits d then s
    else match rt.req with
      | some r => (s.set (PWR.D_STATUS.RAIL d) (s.reqRail d r)).reqDone d 0
      | none => s
  else if s.now < rt.since + 200 * ticksPerUs then s
  else s.missed d

def execRailChangeComplete (d : Fin 8) (ok : Bool) (s : State) : Answer := (s.railEnd d ok).done

/-- R495. Power-good of an ON domain goes, or STATUS_WORD reports a fault on its page. The loss of D0 is
SUPPLY_FIRST_APPLIED's. -/
def State.powerLost (s : State) (d : Nat) : State := if d = 0 || !s.domOn d then s else s.domFail d 0 true

/-- Domains D1 to D7. -/
def execPowerGoodLost (d : Fin 7) (s : State) : Answer := (s.powerLost (d + 1)).done

/-! ## The regulator (R493) -/

/-- R493. The command at the head of the bus ends: 0 acknowledged, 1 not acknowledged, 2 PEC failure. A read returns
STATUS_WORD, which may report a fault. -/
def State.busEnd (s : State) (result word : Nat) (fault : Bool) : State :=
  if s.pwr.retryAt.isSome then s else
  match s.pwr.bus with
  | [] => s
  | c :: rest =>
    if result = 0 then
      let s := if c.cmd = 0x20 then { s with pwr := { s.pwr with voutMode := word % 256 } } else s
      let s := State.busSend { s with pwr := { s.pwr with bus := rest } }
      if c.cmd = 0x20 then s
      else if c.read && fault then (s.post 13 (c.page + 65536 * word)).powerLost c.page else s
    else
      let s := s.bump (if result = 1 then PWR.PMBUS_ERRORS.NACK else PWR.PMBUS_ERRORS.PEC)
      if c.tries < 2 then
        { s with pwr := { s.pwr with bus := { c with tries := c.tries + 1 } :: rest, retryAt := some (s.now + 10 * ticksPerUs) } }
      else
        let s := (State.busSend { s with pwr := { s.pwr with bus := rest } }).post 13 c.page
        if c.read then s else s.missed c.page

def execPmbusCommandEnd (result : Fin 3) (word : Fin 65536) (fault : Bool) (s : State) : Answer :=
  (s.busEnd result word fault).done

/-- R493. A command that failed is sent again 10 us later. -/
def State.busRetry (s : State) : State :=
  match s.pwr.retryAt with
  | none => s
  | some t => if s.now < t then s else State.busSend { s with pwr := { s.pwr with retryAt := none } }

/-- R493. SMBALERT#: STATUS_WORD of every page is read. -/
def execSmbalert (s : State) : Answer := ((List.range 8).foldl (fun s d => s.busRead d 0x79) s).done

end Sys2Proof.Machine
end

