-- ==== Sys2Proof/Machine/SelfTest.lean ====
section
/-! DEFINITION. The targets of self-test: what each covers, the condition under which BST.CMD runs it, what it leaves, and the
rotation (spec/17 R510 to R513, R516 to R520).

Marks (notes/assumptions): DEDUCED 114. -/

namespace Sys2Proof.Machine

/-- R511, R512. A target is a memory. -/
def isMbist (t : Nat) : Bool := decide (17 ≤ t)

/-- R510. The domain of a target. -/
def targetDomain (t : Nat) : Nat :=
  if t ≤ 2 ∨ t = 20 then 1
  else if t ≤ 6 ∨ t = 21 then 2
  else if t = 8 ∨ t = 9 ∨ t = 22 then 4
  else if (10 ≤ t ∧ t ≤ 13) ∨ t = 23 then 5
  else if t = 14 then 6
  else if t = 15 ∨ t = 24 then 7
  else if t = 16 ∨ t = 19 then 3
  else 0

/-- R510. The voted cores that target 20 goes with: those out for a test. -/
def State.coreOut (s : State) (c : Nat) : Bool :=
  s.get VOT.STATUS.MODE == 1 && s.get VOT.STATUS.OUT_CORE == c
  && (s.get VOT.STATUS.VOTE2_REASON == 2 || s.get VOT.STATUS.VOTE2_REASON == 3)

/-- R510, R519. Service core `k` may be tested. -/
def State.svcReady (s : State) (k : Nat) : Bool :=
  Nat.testBit (s.get BST.SVC_RELEASE.CORES) k && s.bst.svcWfi.getD k false

/-- The stage of a start in progress, 0 where none runs. -/
def State.stageNow (s : State) : Nat := if s.rst.starting then s.get RST.START_STATUS.STAGE else 0

/-- R510. Whether the condition of target `t` holds; `step` for a rotation step. -/
def State.bistMay (s : State) (t : Nat) (step : Bool) : Bool :=
  match t with
  | 0 => s.coreOut 0 || s.stageNow == 6
  | 1 => s.coreOut 1 || s.stageNow == 6
  | 2 => s.coreOut 2 || s.stageNow == 6
  | 3 => s.svcReady 0
  | 4 => s.svcReady 1
  | 5 => s.svcReady 2
  | 6 => s.svcReady 3
  | 7 => false
  | 9 => (List.range 2).all fun p => !s.bit (PLN.PORT_CFG.ENABLE p)
  | 10 => !s.bit MOT.CTRL.ENABLE
  | 11 => !s.bit LOP.CTRL.ENABLE
  | 12 => !s.bit FIO.CTRL.ENABLE
  | 13 => (step && s.isTrail) || (List.range 2).all fun c => !s.bit (CAN.CH_CFG.ENABLE c)
  | 14 => !s.bit CLP.CTRL.ENABLE
  | 16 => s.stageNow == 3
  | 17 => true
  | 18 => true
  | 19 => true
  | 20 => (List.range 3).any s.coreOut || s.stageNow == 6
  | 21 => (List.range 4).any s.svcReady
  | 23 => !s.bit MOT.CTRL.ENABLE && !s.bit LOP.CTRL.ENABLE && (List.range 2).all fun c => !s.bit (CAN.CH_CFG.ENABLE c)
  | _ =>
    if t = 8 ∨ t = 22 then (List.range 4).all (fun c => !s.bit (FLD.CROSS_CFG.ENABLE c)) && (s.pairState == 5 || s.pairState == 0)
    else s.acq.job.isNone && !s.rng.started.any fun d => s.get (RNG.RING_CFG.ENGINE d.ring) == 7

/-- R505, R512. Destructive MBIST zeroes a memory, errors of stored contents with it. -/
def State.zeroed (s : State) (r : Range) : State :=
  { s with
    mem := s.mem.filter fun c => !within r c.1 1
    poison := s.poison.filter fun u => !within r (u * 8) 1
    dramLost := if r = .dram then false else s.dramLost
    dramWritten := if r = .dram then [] else s.dramWritten }

/-- R505, R510, R512. What the destructive MBIST of target `t` zeroes. -/
def State.marched (s : State) (t : Nat) : State :=
  match t with
  | 17 => s.zeroed .sram
  | 18 => s.zeroed .pair
  | 19 => s.zeroed .dram
  | _ => s

/-- R511, R520. After its test a target restarts as after a reset of class C; target 13 leaves the message buffers (target
23) alone. -/
def State.targetReset (s : State) (t : Nat) : State :=
  let drop (s : State) (b : Nat) : State := s.dropRegs fun x c => x == b && c == .C
  match t with
  | 8 => drop s 11
  | 9 => drop s 25
  | 10 => (drop s 15).motDown
  | 11 => (drop s 16).loopStop
  | 12 => drop (drop s 13) 14
  | 13 =>
    let keep := (List.range 2).flatMap fun c => (List.range 64).flatMap fun b =>
      [CAN.MB_STAT.NEW c b, CAN.MB_STAT.UPDATING c b, CAN.MB_STAT.OVERWRITTEN c b, CAN.MB_STAT.QUEUED c b,
       CAN.MB_STAT.SEQ c b, CAN.MB_ID.ID c b, CAN.MB_CTRL.CTRL c b, CAN.MB_TICK_LO.TICK c b, CAN.MB_TICK_HI.TICK c b]
      ++ (List.range 16).map fun j => CAN.MB_DATA.DATA c b j
    let kept := keep.map fun f => (f, s.get f)
    let s := kept.foldl (fun s (p : Fld × Nat) => s.set p.1 p.2) (drop s 20)
    { s with can := s.can.map fun (p : Nat × CanCh) => (p.1, { p.2 with inTx := none, busy := false, window := none }) }
  | 14 => drop s 17
  | 15 => drop s 21
  | _ => s

/-- R516. A rotation step skipped, with its cause. -/
def State.rotationSkip (s : State) (t cause : Nat) : State :=
  ((s.bump BST.ROT_SKIPS.COUNT).set BST.ROT_SKIPS.LAST_CAUSE cause).post 250 (t + 256 * cause)

/-- R520. A unit that becomes the driving unit abandons a step for target 13 or 15 and a transparent step. -/
def State.rotationAbandon (s : State) : State :=
  match s.bst.rotation with
  | none => s
  | some t =>
    if !(t == 13 || t == 15 || (17 ≤ t && t ≤ 19)) then s
    else
      let s := { s with bst := { s.bst with rotation := none, running := none } }
      let s := (s.set BST.ROT_STATUS.ACTIVE 0).set BST.CMD_STATUS.BUSY 0
      (if t ≤ 15 then s.targetReset t else s).rotationSkip t 4

end Sys2Proof.Machine
end

