-- ==== Sys2Proof/Machine/Pair.lean ====
section
/-! DEFINITION. Take-over, planned hand-over, take-back and the roles of the pair state machine (spec/11 R340, R352, R371 to
R382).

Marks (notes/assumptions): DEDUCED 83, 87, 88. -/

namespace Sys2Proof.Machine

/-- R340. A new epoch: greater than every epoch that the unit knows. -/
def State.nextEpoch (s : State) : Nat := max s.par.ownEpoch (s.get PAR.EPOCH.EPOCH) + 1

def State.partnerSeated (s : State) : Bool := s.bit SYS.CARRIER_STATUS.PARTNER_SEATED

/-- R346. Both Ransel links are down. -/
def State.linksDown (s : State) : Bool := !s.par.linkA.up && !s.par.linkB.up

/-- R38, R39. A latch request is refused: ROLE flashes red for 5 s. -/
def State.latchRefused (s : State) : State :=
  { s with car := { s.car with refusedUntil := s.now + 5 * ticksPerSec } }

/-- R38. A hand-over that sends the old lead OUT. -/
def Handover.leaves (h : Handover) : Bool := h.cause == 1 || h.latch

/-- R129, R381. ALONE and LEAD follow the partner's seat and state; a unit with LEAD_BARRED never enters LEAD. A hand-over that
the latch started is refused with it (R39). -/
def State.roleWithPartner (s : State) : State :=
  if s.pairState = 2 ∧ (!s.partnerSeated || s.get PAR.STATUS.PARTNER_STATE == 5) then
    let s := if (s.par.handover.map Handover.leaves) = some true then s.latchRefused else s
    ({ s with par := { s.par with handover := none, tetherSent := none, tethering := false } }).setPairState 0
  else if s.pairState = 0 ∧ s.partnerSeated ∧ s.get PAR.STATUS.PARTNER_STATE = 3 ∧ ¬ s.bit VOT.STATUS.LEAD_BARRED then
    (({ s with par := { s.par with tetherSent := none } }).setPairState 2).refreshBreaks
  else s

/-! ## What a new lead finds (R308, R352, R376, R456, R520) -/

/-- R352, R332. Descriptors of owner-0 rings that the trail holds without the lead's COMPLETION. -/
def State.dropFollowed (s : State) : State :=
  (s.rng.started.filter fun d => s.get (RNG.RING_CFG.OWNER d.ring) == 0 && !d.accepted
    && [1, 4, 7, 9, 10, 11].contains (s.get (RNG.RING_CFG.ENGINE d.ring))).foldl (fun s d => s.finish d 0x33 0 2) s

/-- R352. Lock requests of initiator 0 whose outcome the old lead did not send: the unit decides them itself. -/
def State.ownLocks (s : State) : State :=
  let rs := s.par.follow.lockReqs
  let s := { s with par := { s.par with follow := { s.par.follow with lockReqs := [] } }
                    vot := { s.vot with lockIdx := s.vot.lockIdx - rs.length } }
  let s := if rs.any fun r => r.2.2 == 1 then s.unwait 0 else s
  rs.foldl (fun s r => s.lockRequest 0 r.2.1 r.2.2) s

/-- R120, R352. Pending words of target 0 that no DELIVERY covers are the new lead's own to deliver. -/
def State.ownDelivery (s : State) : State := if s.irq0 then s.setDelivery else s

/-- R382. SWITCHES and LAST_SWITCH. -/
def State.countSwitch (s : State) (kind : Nat) : State :=
  (((s.bump PAR.SWITCHES.COUNT).set PAR.SWITCHES.LAST_KIND kind).set PAR.LAST_SWITCH.TICK s.pairTick).post 165 kind

/-- What every unit that becomes the driving unit does, however it comes to it: kind as SWITCHES.LAST_KIND. -/
def State.becomeLead (s : State) (kind epoch : Nat) : State :=
  let s := { s with par := { s.par with handIn := none, takebackAsked := none, leadEvidence := false } }
  let s := (s.takeEpoch epoch).setPairState (if s.partnerSeated then 2 else 0)
  ((((((s.dropFollowed).canTakeover).loopCatchUp.loopTransfer).ownLocks).ownDelivery).rotationAbandon.countSwitch kind).refreshBreaks

/-- R376. The take-over DOWN: one frame for each class with stations, carrying the class's last commit. -/
def State.takeoverDown (s : State) : State :=
  let s := { s with par := { s.par with takeoverDue := false } }
  (List.range 8).foldl (fun s k => match (s.cls k).lastCommit with
    | some c => s.launch k c
    | none => s) s

/-- R376. An eligible trail takes over: on YIELD (1), a dead token (2) or a grant (3). -/
def State.takeover (s : State) (kind epoch : Nat) : State :=
  if !s.isTrail || s.ineligible != 0 then s
  else
    -- R372: of a YIELD and a grant both pending the first to arrive is acted on, and the other may still tell a higher epoch
    let s := (if kind = 1 then s else s.closeRequest).becomeLead kind epoch
    let s := { s with par := { s.par with takeoverDue := true, skipsDue := true } }
    match kind with
    | 1 => (s.tokenRaise).renew s.leaseTicks
    | 2 => State.requestEpoch { s with par := { s.par with awaitGrant := true } }
    | _ => s.tokenRaise.takeoverDown

/-- R376. Releases between the last cut list and the boundary now counted are skipped. -/
def State.takeoverSkips (s : State) : State :=
  let due := s.par.skipsDue
  let s : State := { s with par := { s.par with skipsDue := false } }
  if !s.inRun || !due then s
  else (List.range 8).foldl (fun s k =>
    let c := s.cls k
    let m := 2 ^ s.get (CYC.CLASS_CFG.EXP k)
    let n := (s.cycle - 1) / m - c.cycle / m
    if !s.bit (CYC.CLASS_CFG.ENABLE k) || n == 0 then s
    else s.setCls k { c with skipped := c.skipped + n, prevOver := true }) s

/-! ## Start as ALONE (R340, R371, R377, R381) -/

/-- R381. The unit drives alone with epoch `e`. -/
def State.driveAlone (s : State) (e : Nat) : State :=
  if s.bit SYS.CARRIER_STATUS.SLOT_FAULT then s.noAlone else ((s.noAlone.takeEpoch e).setPairState 0).tokenRaise

/-- R381. ALONE at once, or with a witness once it grants. -/
def State.goAlone (s : State) : State :=
  if s.hasWitness then State.requestEpoch { s with par := { s.par with aloneAsked := true } }
  else s.driveAlone s.nextEpoch

/-- R349, R362, R381. Start-up complete: JOINING beside a partner, otherwise ALONE. -/
def State.joinPair (s : State) : State :=
  if s.bit SYS.CARRIER_STATUS.SLOT_FAULT then s.setPairState 5
  else
    let s := if s.hasWitness then s else s.post 172 0
    let s := { s with par := { s.par with startDone := true, aloneAsked := false } }
    if s.partnerSeated then s.setPairState 1 else s.goAlone

/-! ## Planned hand-over (R379) -/

/-- R379. Why a planned hand-over is refused (PAR.CMD_STATUS.REASON), or 0. -/
def State.handoverReason (s : State) : Nat :=
  let front := s.par.partnerCycle
  let lags := decide (front + 2 < s.cycle) || (decide (front + 1 < s.cycle) && decide (s.cyc.boundary + s.p0 / 2 < s.now))
  if s.pairState ≠ 2 || s.par.handover.isSome then 2
  else if s.get VOT.STATUS.MODE == 3 || s.fer.crosser.isSome || s.bit VOT.STATUS.REJOIN_ACTIVE then 4
  else if s.get PAR.STATUS.PARTNER_STATE != 3 || !s.par.partnerEligible || lags then 3
  else 0

/-- R379. A planned hand-over begins for the next boundary; answers the reason of a refusal, or 0. -/
def State.startHandover (s : State) (cause : Nat) : State × Nat :=
  let r := s.handoverReason
  if r ≠ 0 then (s, r)
  else
    let h : Handover := { due := s.cycle + 1, epoch := s.par.ownEpoch + 1, cause := cause }
    (State.handoverSend { s with par := { s.par with handover := some h } }, 0)

def State.parStatus (s : State) (status reason : Nat) (pending : Bool) : State :=
  ((s.set PAR.CMD_STATUS.STATUS status).set PAR.CMD_STATUS.REASON reason).setB PAR.CMD_STATUS.PENDING pending

/-- R382, R528. A PAR.CMD ends. -/
def State.parEnd (s : State) (op status reason origin priv session : Nat) : State :=
  (s.parStatus status reason false).recordCommand 0x12 op 0 status reason origin priv session

/-- The PAR.CMD HANDOVER that waits ends. -/
def State.handoverCmd (s : State) (status reason : Nat) : State :=
  match s.par.cmd with
  | none => s
  | some (o, p, x) => ({ s with par := { s.par with cmd := none } }).parEnd 1 status reason o p x

/-- R379. A hand-over has failed, after 16 boundaries or because the partner no longer takes it. -/
def State.handoverFail (s : State) (h : Handover) : State :=
  let s := { s with par := { s.par with handover := none } }
  let s := if h.latch then s.latchRefused else s
  match h.cause with
  | 0 => s.handoverCmd 0x60 3
  | 1 => s.latchRefused
  | 2 => s.post 171 3
  | 4 => s.endActivate 0x60 15
  | _ => s

/-- R379. At boundary B the old lead stops its token, releases its lease and becomes a trail, or goes OUT. -/
def State.handOff (s : State) (h : Handover) : State :=
  let s := ((s.tokenStop).releaseLease).closeRequest
  let s := { s with par := { s.par with
    handover := none, tethering := false, tetherSent := none, tetherFrom := some h.due, follow := {}, ownDigests := [] } }
  let s := s.setPairState (if h.leaves then 5 else 3)
  if h.cause = 0 then s.handoverCmd 0 0 else s

/-- R379. A hand-over of the lead at the boundary now counted: carried out, or put off to the next. -/
def State.handoverBoundary (s : State) : State :=
  match s.par.handover with
  | none => s
  | some h =>
    if s.cycle < h.due || s.pairState != 2 then s
    else if h.sent.isSome && h.sure then s.handOff h
    else if 15 ≤ h.tries then s.handoverFail h
    else
      let h' := { h with due := s.cycle + 1, tries := h.tries + 1, sent := none, sure := false }
      { s with par := { s.par with handover := some h' } }

/-- R379. A trail that has confirmed becomes LEAD at B: a take-back is done. One whose own latch has asked does not (R39). -/
def State.handInBoundary (s : State) : State :=
  match s.par.handIn with
  | none => s
  | some (b, e, sure) =>
    if s.cycle < b then s
    else if !sure || s.pairState != 3 || s.ineligible != 0 || s.par.latchAt.isSome then { s with par := { s.par with handIn := none } }
    else
      let back := s.par.takebackAsked.isSome
      let s := (s.becomeLead (if back then 5 else 4) e).tokenRaise
      let s := s.renew s.leaseTicks
      if back then s.post 171 2 else s

/-! ## PAR.CMD (R382) -/

/-- R382. A PAR.CMD is refused, or handed to `f`. -/
def State.parCmd (s : State) (init op priv session : Nat) (f : State → State × Nat) : State :=
  let o := originOf init
  if 5 ≤ op then s.parEnd op 0x60 5 o priv session
  else if priv ≠ 1 then s.parEnd op 0x60 1 o priv session
  else
    let (s, r) := f s
    s.parEnd op (if r = 0 then 0 else 0x60) r o priv session

/-- R379. HANDOVER stays pending until its boundary. -/
def State.parHandover (s : State) (init priv session : Nat) : State :=
  if priv ≠ 1 then s.parEnd 1 0x60 1 (originOf init) priv session
  else match s.startHandover 0 with
    | (s, 0) => State.parStatus { s with par := { s.par with cmd := some (originOf init, priv, session) } } 0 0 true
    | (s, r) => s.parEnd 1 0x60 r (originOf init) priv session

/-- R382. A write of PAR.CMD: GO_OUT (R375, R381), REJOIN (R362), CLEAR_DIVERGENCE, or a reserved OP. -/
def State.parWrite (s : State) (init op priv session : Nat) : State :=
  match op with
  | 0 => s
  | 1 => s.parHandover init priv session
  | 2 => s.parCmd init 2 priv session fun s => if s.pairState = 5 then (s, 2) else (s.goOut 5, 0)
  | 3 => s.parCmd init 3 priv session fun s => if s.pairState = 5 then (s.joinPair, 0) else (s, 2)
  | 4 => s.parCmd init 4 priv session fun s => (s.set PAR.DIVERGENCE.COUNT 0, 0)
  | _ => s.parCmd init op priv session fun s => (s, 0)

def execParHandover (init : Fin 22) (priv : Fin 8) (session : Fin 65536) (s : State) : Answer :=
  (s.parWrite init 1 priv session).done

def execGoOut (init : Fin 22) (priv : Fin 8) (session : Fin 65536) (s : State) : Answer :=
  (s.parWrite init 2 priv session).done
def execRejoin (init : Fin 22) (priv : Fin 8) (session : Fin 65536) (s : State) : Answer :=
  (s.parWrite init 3 priv session).done
def execClearDivergence (init : Fin 22) (priv : Fin 8) (session : Fin 65536) (s : State) : Answer :=
  (s.parWrite init 4 priv session).done
/-- OP 5 to 15. -/
def execParCmdReserved (init : Fin 22) (priv : Fin 8) (session : Fin 65536) (op : Fin 11) (s : State) : Answer :=
  (s.parWrite init (5 + op) priv session).done

def execStreamMaxClear (s : State) : Answer := (s.set PAR.STREAM_MAX.BYTES 0).done

/-! ## Clocks of the roles (R370, R371, R375, R380, R381) -/

/-- R370. A driving unit that knows a higher epoch, or whose token logic sees a live partner token after the claim window. -/
def execDemoted (token : Bool) (s : State) : Answer :=
  (if token then (if s.bit SYS.CARRIER_STATUS.TOKEN_PARTNER_LIVE && s.par.claimUntil.isNone then s.demote 1 else s)
    else if s.par.ownEpoch < s.get PAR.EPOCH.EPOCH then s.demote 0 else s).done

/-- R371. The claim window ends. -/
def State.claimEnd (s : State) : State :=
  match s.par.claimUntil with
  | none => s
  | some t =>
    if s.now < t then s
    else
      let s := { s with par := { s.par with claimUntil := none } }
      if s.bit SYS.CARRIER_STATUS.TOKEN_PARTNER_LIVE then s.demote 1 else s

def execClaimWindowEnd (s : State) : Answer := s.claimEnd.done

/-- R375. The own token has read back dead for 2 us. -/
def State.ownTokenDead (s : State) : State :=
  match s.par.selfDeadAt with
  | none => s
  | some t => if s.isDriving && s.bit PAR.STATUS.TOKEN_RAISED && decide (t + 2 * ticksPerUs ≤ s.now) then s.goOut 2 else s

def execOwnTokenDead (s : State) : Answer := s.ownTokenDead.done

/-- R375. The 24 V supply has been below 18 V for 100 us: the hold-up store carries the unit. -/
def State.supplyIsLow (s : State) : State :=
  let s := { s with car := { s.car with supplyLow := true } }
  if s.isDriving then s.goOut 4 else s

def execSupplyLow (s : State) : Answer := s.supplyIsLow.done

/-- R380. The hold-off has passed: HANDOVER_REQUEST. A request that no hand-over has followed within 18 base cycles counts as
refused, and the hold-off restarts (notes/assumptions/83.md). -/
def State.takeback (s : State) : State :=
  match s.par.takebackAsked, s.par.eligibleSince with
  | some t, _ =>
    if s.now < t + 18 * s.p0 then s
    else (({ s with par := { s.par with takebackAsked := none, eligibleSince := some s.now } }).post 171 3).post 171 0
  | none, some t =>
    if s.now < t + max 1 (s.get PAR.TAKEBACK_HOLDOFF.SECONDS) * ticksPerSec then s
    else (({ s with par := { s.par with takebackAsked := some s.now } }).ransel 0x41 [1, 0, 0, 0]).post 171 1
  | none, none => s

def execTakebackHoldoffExpiry (s : State) : Answer := s.takeback.done

/-- R381. A JOINING unit whose links have been down for 5 s beside a dead partner token. -/
def State.joinTimeout (s : State) : State :=
  match s.par.linkLostAt with
  | none => s
  | some t =>
    if s.pairState ≠ 1 || s.bit SYS.CARRIER_STATUS.TOKEN_PARTNER_LIVE || decide (s.now < t + 5 * ticksPerSec)
       || !(s.isHome || s.hasWitness) then s
    else s.goAlone

def execJoiningLinkTimeout (s : State) : Answer := s.joinTimeout.done

end Sys2Proof.Machine
end

