-- ==== Sys2Proof/Machine/Track.lean ====
section
/-! DEFINITION. The trail's tracking: cut lists, commits, digests, tethering, and what the trail takes from the lead in
place of its own results (spec/11 R350 to R361, R583; spec/05 R147, R150, R174; spec/07 R250; spec/09 R307).

Marks (notes/assumptions): DEDUCED 84, 85, 86, 94, 96, 116; DESIGN CHOICE 80. -/

namespace Sys2Proof.Machine

def State.putFollow (s : State) (f : Follow) : State := { s with par := { s.par with follow := f } }

/-! ## Cut lists (R350, R351, R174) -/

/-- The cycle number of a cut list. -/
def CutWait.cycle (c : CutWait) : Nat := c.header.getD 0 0 + c.header.getD 1 0 * 2 ^ 32

/-- The body of a station's frame with this SEQUENCE, where it has landed. -/
def State.bodyOf (s : State) (node seq : Nat) : Option (List Nat) :=
  match s.holder node with
  | some e => (e.hist.find? fun (h : Nat × List Nat) => h.1 == seq).map (·.2)
  | none => none

/-- R351. The frames that a cut list names and the trail has not landed. A station without a station-valid bit holds the values of
the SEQUENCE named, which the cut before may have frozen; 0 where nothing has landed. -/
def State.missing (s : State) (c : CutWait) : List (Nat × Nat) :=
  let kept (n q : Nat) : Bool := (s.cls c.cls).frozen.any fun (f : Nat × Nat × List Nat) => f.1 == n && f.2.1 == q
  c.entries.filterMap fun (e : Nat × Nat × Bool) =>
    if (s.station e.1).isSome && (s.bodyOf e.1 e.2.1).isNone && (e.2.2 || (e.2.1 != 0 && !kept e.1 e.2.1)) then some (e.1, e.2.1)
    else none

/-- R174. The lead's crossing before the first cycle of CLASS_MASK from its boundary. -/
def State.crossBefore (s : State) (k cycle : Nat) : State :=
  match s.par.follow.crossed with
  | none => s
  | some (b, gen) =>
    match s.fer.map with
    | none => (s.putFollow { s.par.follow with crossed := none }).untether 5
    | some m =>
      if cycle < b || !m.classMask.testBit k then s
      else
        let s := s.putFollow { s.par.follow with crossed := none }
        if m.newGen ≠ gen || s.fer.staging then s.untether 5 else s.trailCross

/-- R350. The frozen bodies of the read set: those that the cut names, else those of the cut before. -/
def State.cutFrozen (s : State) (c : CutWait) : List (Nat × Nat × List Nat) :=
  (s.readSet c.cls).filterMap fun p =>
    let old := (s.cls c.cls).frozen.find? fun (f : Nat × Nat × List Nat) => f.1 == p.1
    match c.entries.find? fun (e : Nat × Nat × Bool) => e.1 == p.1 with
    | some e => match s.bodyOf p.1 e.2.1 with
      | some b => some (p.1, e.2.1, b)
      | none => old
    | none => old

/-- R350. The station-valid words of a snapshot, with the bits that the cut names. -/
def State.cutValid (s : State) (c : CutWait) : List (Nat × Nat) :=
  let base := (List.range 64).map fun i => (64 + i, Sparse.get 0 (s.cls c.cls).snap (64 + i))
  base.map fun (p : Nat × Nat) => (p.1, c.entries.foldl (fun v (e : Nat × Nat × Bool) =>
    if 64 + e.1 / 32 ≠ p.1 then v else if e.2.2 then setBit v (e.1 % 32) else clearBit v (e.1 % 32)) p.2)

/-- R134, R142. The boundary of the cycle now counted, where a header of the lead's gives its release tick. -/
def State.alignBoundary (s : State) (c : CutWait) : State :=
  if c.cycle ≠ s.cycle then s
  else { s with cyc := { s.cyc with boundary := s.fromPair (c.header.getD 2 0 + c.header.getD 3 0 * 2 ^ 32) } }

/-- R350, R240, R323. The snapshot of a cut list of the lead, and the class cycle begins. -/
def State.followCut (s : State) (c : CutWait) : State :=
  let k := c.cls
  let s := s.alignBoundary c
  let s := s.staleCut k
  let s := c.entries.foldl (fun s (e : Nat × Nat × Bool) => match s.holder e.1, e.2.2 with
    | some st, false => s.loopStale st.inBase st.inWords
    | _, _ => s) s
  let s := s.putHeader k c.header
  let s := if c.fio = [] then s else s.putPairs 10 (inAddr (s.get FIO.IMAGE.IN_BASE)) c.fio
  let s := if c.clp = [] then s else s.putPairs 10 (inAddr (s.get CLP.IMAGE.IN_BASE)) c.clp
  let s := s.forceInto critical
  let frozen := s.cutFrozen c
  let areas := frozen.flatMap fun (f : Nat × Nat × List Nat) => match s.holder f.1 with
    | some e => numbered e.inBase (upValues e f.2.2).2
    | none => []
  let locals := (if c.fio = [] then [] else numbered (s.get FIO.IMAGE.IN_BASE) c.fio)
    ++ (if c.clp = [] then [] else numbered (s.get CLP.IMAGE.IN_BASE) c.clp)
  let snap := s.snapOf (s.landedWords 0 64 ++ s.cutValid c) areas locals
  let s := s.snapBefore k
  let old := s.cls k
  let seqs := (old.seqs.filter fun (v : Nat × Nat × Bool) => !c.entries.any (·.1 == v.1)) ++ c.entries
  let s := s.setCls k { old with
    cycle := c.cycle, release := c.header.getD 2 0 + c.header.getD 3 0 * 2 ^ 32, header := c.header, pend := []
    snap := snap, frozen := frozen, bad := [], seqs := seqs, abandoned := false, overran := false
    firstRun := false, firstCross := false, prevOver := false, skipped := 0 }
  let s := s.startClass k
  if k = 0 then s.motRelease else s

/-- R350 to R352. The head of the trail's cut lists: it waits for its boundary, for the end of the class's cycle before, and
for frames that it names, which FRAME_REQUEST asks for. -/
def State.nextCut (s : State) : State × Bool :=
  match s.par.follow.cuts with
  | [] => (s, false)
  | c :: r =>
    if s.cycle < c.cycle || s.phase c.cls != 0 then (s, false)
    else
      let ms := if s.isTrail then s.missing c else []
      if ms ≠ [] then
        if c.waiting then (s, false)
        else
          let s := s.putFollow { s.par.follow with cuts := { c with waiting := true } :: r }
          (ms.foldl (fun s (m : Nat × Nat) => s.ransel 0x23 (leBytes 2 m.1 ++ [0, 0] ++ leBytes 4 m.2)) s, false)
      else
        let s := s.crossBefore c.cls c.cycle
        if s.isTrail && s.pairState != 3 then (s, false)
        else ((s.putFollow { s.par.follow with cuts := r }).followCut c, true)

/-- The cut lists that may start; `fuel` bounds their number. -/
def State.nextCuts : Nat → State → State
  | 0, s => s
  | fuel + 1, s =>
    let (t, more) := s.nextCut
    if more then State.nextCuts fuel t else t

/-- The trail, and a new lead with cut lists of the old one, start what they may. -/
def State.followCuts (s : State) : State :=
  if s.pairState = 3 || s.isDriving then s.nextCuts (s.par.follow.cuts.length + 1) else s

/-- A CUT_LIST arrives. -/
def State.cutIn (s : State) (c : CutWait) : State :=
  let before := match s.par.tetherFrom with
    | some b => decide (c.cycle < b)
    | none => false
  if before || s.isDriving then s else s.putFollow { s.par.follow with cuts := s.par.follow.cuts ++ [c] }

/-- R351. FRAME_REQUEST at the lead: the frozen version. -/
def State.frameRequest (s : State) (node seq : Nat) : State :=
  let frozen := (List.range 8).findSome? fun k =>
    ((s.cls k).frozen.find? fun (f : Nat × Nat × List Nat) => f.1 == node && f.2.1 == seq).map (·.2.2)
  match (match frozen with | some b => some b | none => s.bodyOf node seq) with
  | some b => s.ransel 0x24 (leBytes 2 node ++ [0, 0] ++ leBytes 4 seq ++ b)
  | none => s

/-- R351. FRAME_DATA: a body that passes R194 serves the cut; the landed view stays. -/
def State.frameData (s : State) (node seq : Nat) (body : List Nat) : State :=
  match s.station node with
  | none => s
  | some e =>
    if body.length ≠ e.upBytes || !(upValues e body).1 || beAt body 12 4 ≠ e.crc then s
    else
      let hist := (e.hist.filter fun (h : Nat × List Nat) => h.1 != seq) ++ [(seq, body)]
      let s := s.setStation node { e with hist := hist }
      s.putFollow { s.par.follow with cuts := s.par.follow.cuts.map fun c => { c with waiting := false } }

/-! ## COMMIT, LAG, LOOP (R307, R353, R354, R358) -/

/-- R307. A LOOP record evaluated: a difference counts as an output mismatch, whose class and cycle the manual does not
give. -/
def State.loopNow (s : State) (r : LoopRec) : State :=
  let (s, bad) := s.loopFollow r (s.fromPair r.tick)
  if !bad || s.pairState != 3 then s
  else
    let (v, s) := s.fresh
    (s.post 167 v).untether 2

/-- R307. LOOP records whose commits have all been made are evaluated, in stream order. -/
def State.runLoops (s : State) : Nat → State
  | 0 => s
  | fuel + 1 =>
    match s.par.follow.loops with
    | [] => s
    | (after, r) :: rest =>
      if after.any fun (a : Nat × Nat) => s.par.follow.commits.any fun c => c.1 == a.1 && c.2.1 == a.2 then s
      else ((s.putFollow { s.par.follow with loops := rest }).loopNow r).runLoops fuel

def State.followLoops (s : State) : State := s.runLoops s.par.follow.loops.length

/-- A LOOP message. -/
def State.loopIn (s : State) (r : LoopRec) : State :=
  if s.pairState ≠ 3 then s
  else
    let after := s.par.follow.commits.map fun c => (c.1, c.2.1)
    (s.putFollow { s.par.follow with loops := s.par.follow.loops ++ [(after, r)] }).followLoops

/-- R353. COMMIT: compared with the trail's own digest, or kept for it. -/
def State.commitIn (s : State) (k cycle digest tick : Nat) : State :=
  match s.par.ownDigests.find? (fun d => d.1 == k && d.2.1 == cycle) with
  | some d =>
    let s := { s with par := { s.par with ownDigests := s.par.ownDigests.filter fun x => !(x.1 == k && x.2.1 == cycle) } }
    let s := s.loopAhead k cycle
    if s.pairState = 3 then s.compareDigest k cycle d.2.2 digest tick else s
  | none =>
    if s.isDriving then s
    else s.putFollow { s.par.follow with commits := s.par.follow.commits ++ [(k, cycle, digest, tick)] }

/-- R354. At the boundary now counted: the trail has yet to commit class 0 of a cycle two boundaries back. -/
def State.lagBoundary (s : State) : State :=
  let late := (s.phase 0 != 0 && decide ((s.cls 0).cycle + 2 ≤ s.cycle))
    || s.par.follow.cuts.any fun c => c.cls == 0 && decide (c.cycle + 2 ≤ s.cycle)
  if s.pairState = 3 && late then (s.post 174 (s.get PAR.LAG.LAST)).untether 4 else s

/-- R356. The tracked bytes of the base cycle that has ended. -/
def State.budgetBoundary (s : State) : State :=
  let n := s.par.cycleBytes
  let s := ({ s with par := { s.par with cycleBytes := 0 } }).set PAR.STREAM_LAST.BYTES (min n 0xFFFFFFFF)
  let s := if s.get PAR.STREAM_MAX.BYTES < n then s.set PAR.STREAM_MAX.BYTES (min n 0x7FFFFFFF) else s
  if s.p0 * 45 / 4 < n then (s.bump PAR.BUDGET_OVER.COUNT).post 169 (min n 0xFFFFFFFF) else s

/-! ## Events and results of the lead (R352, R583) -/

/-- R352. READ. -/
def State.readIn (s : State) (i v : Nat) : State :=
  if s.isDriving || decide (i < s.vot.readIdx) then s
  else s.putFollow { s.par.follow with reads := s.par.follow.reads ++ [(i, v)] }

/-- R352. DELIVERY. -/
def State.deliveryIn (s : State) (point : Nat) (words : List Nat) : State :=
  if s.isDriving then s
  else
    let s := s.putFollow { s.par.follow with deliveries := s.par.follow.deliveries ++ [(point, words)] }
    if s.vot.delivery.isSome then s else { s with vot := { s.vot with delivery := some point } }

/-- R352, R411. LOCK. -/
def State.lockIn (s : State) (i lock status : Nat) : State :=
  if s.isDriving then s
  else match s.par.follow.lockReqs.find? (fun r => r.1 == i) with
    | some r => (s.putFollow { s.par.follow with lockReqs := s.par.follow.lockReqs.filter fun x => x.1 != i }).lockFollow
        r.2.2 lock status
    | none =>
      if i < s.vot.lockIdx then s
      else s.putFollow { s.par.follow with locks := s.par.follow.locks ++ [(i, lock, status)] }

/-- R583. A COMPLETION for the oldest descriptor of its ring that the trail has started. -/
def State.completionNow (s : State) (d : Started) (record data : List Nat) : State :=
  let finishLead (s : State) (st : Nat) : State :=
    let s := s.finish d st (leAt record 4 4) (leAt record 14 2)
    { s with rng := { s.rng with finished := s.rng.finished.map fun f =>
        if f.st.ring == d.ring && f.st.idx == d.idx then { f with res := { f.res with time := leAt record 8 4 } } else f } }
  match outBuffer (s.get (RNG.RING_CFG.ENGINE d.ring)) d.d with
  | some a =>
    match s.writeBuf { init := 14, owner := some (s.get (RNG.RING_CFG.OWNER d.ring)), due := some d.deadline, ring := some d.ring } a data with
    | (s, m, some e) => s.finishErr d e m
    | (s, _, none) => finishLead s (record.getD 2 0)
  | none => finishLead s (record.getD 2 0)

/-- R352, R583. The COMPLETIONs whose descriptors the trail has started. -/
def State.followComps (s : State) : State :=
  s.par.follow.comps.foldl (fun s c =>
    match s.rng.started.find? fun d => d.ring == c.1 && !d.accepted && d.idx % s.ringSize c.1 == leAt c.2.1 12 2 with
    | some d => (s.putFollow { s.par.follow with comps := s.par.follow.comps.erase c }).completionNow d c.2.1 c.2.2
    | none => s) s

/-- A COMPLETION message. -/
def State.completionIn (s : State) (ring : Nat) (record data : List Nat) : State :=
  if s.isDriving then s
  else (s.putFollow { s.par.follow with comps := s.par.follow.comps ++ [(ring, record, data)] }).followComps

/-- R323. CHANNEL_STATUS. -/
def State.channelIn (s : State) (n flags ma : Nat) : State :=
  s.putFollow { s.par.follow with channels := (s.par.follow.channels.filter fun c => c.1 != n) ++ [(n, flags, ma)] }

/-- R250. MIRROR: the trail shows the lead's latched channels, with their latch ticks, and AWAIT_ACK. -/
def State.mirrorIn (s : State) (chans : List (Nat × Nat × Nat × Nat)) (await : Nat) : State :=
  if s.isDriving then s
  else
    let s := (List.range 32).foldl (fun s n => match chans.find? fun c => c.1 == n with
      | some c =>
        let s := ((s.set (FIO.CH_STATUS.LATCHED_OFF n) 1).set (FIO.CH_STATUS.DIAG n) c.2.1).set (FIO.CH_STATUS.PARTNER n) c.2.2.1
        { s with fio := { s.fio with latched := Sparse.insert s.fio.latched n (s.fromPair c.2.2.2) } }
      | none =>
        let s := ((s.set (FIO.CH_STATUS.LATCHED_OFF n) 0).set (FIO.CH_STATUS.DIAG n) 0).set (FIO.CH_STATUS.PARTNER n) 0
        { s with fio := { s.fio with latched := Sparse.erase s.fio.latched n } }) s
    (List.range 4).foldl (fun s g => s.setB (FIO.GROUP_STATUS.AWAIT_ACK g) (await.testBit g)) s

/-! ## CONTROL (R150, R348, R531) -/

/-- R348. A CONTROL message; a reserved operation is discarded, counted, and untethers the trail. -/
def State.controlIn (s : State) (link : Nat) (c : Control) : State :=
  if !(c.op ∈ [1, 2, 0x10, 0x11, 0x12, 0x20]) then (s.bump (PAR.LINK_ERRORS.CRC link)).untether 3
  else if s.isDriving then s
  else if c.op = 0x20 then
    s.timeFollow ⟨c.due, leAt c.arg 0 8 * 2 ^ 32 + leAt c.arg 8 4, (0x500000000 + toSigned 32 (leAt c.arg 12 4)).toNat, c.origin,
      c.priv, c.session⟩
  else s.putFollow { s.par.follow with controls := s.par.follow.controls ++ [c] }

/-- R531. The PAIR_COPY record of a command that the trail has applied. -/
def State.copyCommand (s : State) (c : Control) (op arg : Nat) : State :=
  s.recordChange 0x8001 c.origin c.priv c.session (leBytes 1 0 ++ leBytes 1 op ++ leBytes 2 arg ++ [0, 0, 0, 0]) true

/-- R348. A CONTROL applied at its boundary. -/
def State.controlNow (s : State) (c : Control) : State :=
  let f : Force := ⟨c.arg.getD 5 0, leAt c.arg 0 5, leAt c.arg 8 4, leAt c.arg 12 4, c.session⟩
  match c.op with
  | 1 =>
    let b := c.arg.getD 0 0
    let s := s.setRun (b.testBit 0) (b / 16)
    if c.origin = 0 then s else s.copyCommand c (if b.testBit 0 then 1 else 2) 0
  | 2 => (s.adoptHolds (leAt c.arg 0 8)).copyCommand c 3 0
  | 0x10 => (s.forceSet f).recordForce 0x10 f c.origin c.priv c.session true
  | 0x11 => (s.forceClear f.kind f.target).recordForce 0x11 f c.origin c.priv c.session true
  | _ => s.forceClearAll.recordForce 0x12 f c.origin c.priv c.session true

/-- R348. The CONTROLs due at the boundary now counted. -/
def State.controlBoundary (s : State) : State :=
  let cs := s.par.follow.controls
  let s := s.putFollow { s.par.follow with controls := cs.filter fun c => decide (s.cycle < c.due) }
  (cs.filter fun c => decide (c.due ≤ s.cycle)).foldl State.controlNow s

/-- R174. CROSSED: a trail without the staged map untethers. -/
def State.crossedIn (s : State) (b gen : Nat) : State :=
  if s.pairState ≠ 3 then s
  else match s.fer.map with
    | some m => if m.newGen = gen ∧ !s.fer.staging then s.putFollow { s.par.follow with crossed := some (b, gen) }
      else s.untether 5
    | none => s.untether 5

/-! ## TRACK regions and digests (R355, R359, R360) -/

/-- R382. Blocks of the TRACK regions, counted across them. -/
def State.trackCount (s : State) : Nat := (List.range 8).foldl (fun n r => n + s.get (PAR.TRACK_SIZE.BLOCKS r)) 0

/-- The address of tracked block `i`. -/
def State.trackFind (s : State) (i : Nat) : List Nat → Option Nat
  | [] => none
  | r :: rs =>
    let n := s.get (PAR.TRACK_SIZE.BLOCKS r)
    if i < n then some ((s.get (PAR.TRACK_BASE.ADDR r) + i) * 4096) else s.trackFind (i - n) rs

def State.trackAddr (s : State) (i : Nat) : Option Nat := s.trackFind i (List.range 8)

/-- The bytes of tracked block `i`. -/
def State.trackBytes (s : State) (i : Nat) : List Nat := ((s.trackAddr i).map fun a => s.bytes a 4096).getD []

/-- R360. Latent divergences of block `b` in the last 60 minutes. -/
def State.divCount (s : State) (b : Nat) : Nat :=
  (s.par.divs.filter fun d => d.1 == b && decide (s.now < d.2 + 3600 * ticksPerSec)).length

/-- R360, R382. BLOCK_HOUR: the highest count of one block in the last 60 minutes. -/
def State.divHour (s : State) : State :=
  let s := { s with par := { s.par with divs := s.par.divs.filter fun d => decide (s.now < d.2 + 3600 * ticksPerSec) } }
  s.set PAR.DIVERGENCE.BLOCK_HOUR (min 15 (s.par.divs.foldl (fun m d => max m (s.divCount d.1)) 0))

def execDivergenceHourExpiry (s : State) : Answer := s.divHour.done

/-- R360. A latent divergence of block `b`. -/
def State.latentDivergence (s : State) (b : Nat) : State :=
  let s := { s with par := { s.par with divs := s.par.divs ++ [(b, s.now)] } }
  let s := ((s.divHour.bump PAR.DIVERGENCE.COUNT).set PAR.DIVERGENCE_BLOCK.INDEX b).post 168 b
  let s := s.ransel 0x22 (leBytes 4 b)
  if max 1 (s.get PAR.CFG.DIVERGENCE_LIMIT) < s.divCount b
  then State.refreshPair { s with par := { s.par with diverged := true } } else s

/-- R359. The blocks of the rotation at class-0 cycle `c`. -/
def State.digestBlocks (s : State) (c : Nat) : List Nat :=
  let t := s.trackCount
  let n := s.get PAR.DIGEST.BLOCKS
  if t = 0 then [] else (List.range (min n t)).map fun i => (c * n + i) % t

/-- R360. STATE_DIGESTs whose cycles the trail has captured are compared. -/
def State.digestCompare (s : State) (c : Nat) : State :=
  let (now, later) := s.par.follow.digests.partition fun d => decide (d.1 ≤ c)
  let s := s.putFollow { s.par.follow with digests := later }
  if s.pairState ≠ 3 then s
  else now.foldl (fun s d =>
    let own := (s.par.history.filter fun h => decide (d.1 < h.1 + 64 ∧ h.1 ≤ d.1)).map (·.2)
    (d.2.zip own).foldl (fun s (p : (Nat × Nat) × (Nat × Nat)) =>
      if p.1.1 = p.2.1 ∧ p.1.2 ≠ p.2.2 then s.latentDivergence p.1.1 else s) s) s

/-- R359. STATE_DIGEST of the lead, every 64 base cycles. -/
def State.sendDigests (s : State) (c : Nat) : State :=
  if !s.streams || c % 64 != 63 then s
  else
    let hs := s.par.history.filter fun h => decide (c < h.1 + 64)
    s.ransel 0x20 (leBytes 8 c ++ hs.flatMap fun h => leBytes 4 h.2.1 ++ leBytes 4 h.2.2)

/-- R359, R360. Digests, requested blocks and installs at a class-0 KEND. -/
def State.digestKend (s : State) : State :=
  let c := (s.cls 0).cycle
  let new := (s.digestBlocks c).map fun b => (c, b, crc32c (s.trackBytes b))
  let s : State := { s with par := { s.par with
    history := (s.par.history.filter fun (h : Nat × Nat × Nat) => decide (c < h.1 + 128)) ++ new } }
  let want := s.par.wantBlocks
  let s : State := { s with par := { s.par with wantBlocks := [] } }
  let s : State := if s.streams then want.foldl (fun s b => s.ransel 0x21 (leBytes 4 b ++ leBytes 8 c ++ s.trackBytes b)) s else s
  let s := s.sendDigests c
  let (now, later) := s.par.installs.partition fun (i : Nat × Nat × List Nat) => decide (i.2.1 ≤ c)
  let s : State := { s with par := { s.par with installs := later } }
  let s := now.foldl (fun (s : State) i => match s.trackAddr i.1 with
    | some a => if s.pairState = 3 then (s.store a i.2.2).written 14 a i.2.2 else s
    | none => s) s
  s.digestCompare c

/-! ## Tethering (R355, R361) -/

/-- R355, R361. Where the image's blocks lie: the TRACK regions, then the output image and the critical variables. -/
def State.tetherAddr (s : State) (off : Nat) : Option Nat :=
  let n := s.trackCount * 4096
  if off < n then (s.trackAddr (off / 4096)).map (· + off % 4096)
  else if off - n < 0x380000 then some (0x2080000 + (off - n)) else none

/-- A block of the image sent. -/
def State.sendTether (s : State) (off : Nat) : State :=
  match s.tetherAddr off with
  | some a => s.ransel 0x50 (leBytes 8 off ++ s.bytes a 4096)
  | none => s

/-- R361. A tether starts: every TRACK region is sent, and writes to it are marked from now on. -/
def State.startTether (s : State) : State :=
  let s := { s with par := { s.par with tethering := true, tetherDirty := [], tetherSent := none } }
  (List.range s.trackCount).foldl (fun s i => s.sendTether (4096 * i)) s

/-- The tracked block that holds the 4 KiB block at `b` x 4096. -/
def State.trackOf (s : State) (b : Nat) : List Nat :=
  (List.range s.trackCount).filter fun i => s.trackAddr i == some (b * 4096)

/-- R355. The register fields of the tracked state. -/
def tetherFields : List Fld :=
  [SYS.STATUS.RUN, SYS.STATUS.HELD, SYS.STATUS.FORCED, SYS.STATUS.STOP_CAUSE, CYC.TASK_HOLD_LO.HOLD, CYC.TASK_HOLD_HI.HOLD,
   CYC.PROGRAM_GEN.GEN, CYC.FORCE_STATUS.ENTRIES, TIM.STATUS.SET]
  ++ (List.range 8).flatMap (fun k => [CYC.CLASS_STATUS.PHASE k, CYC.CLASS_STATUS.CONSEC k, EVT.PEND.BITS 0 k])
  ++ (List.range 32).flatMap (fun n => [FIO.CH_STATUS.LATCHED_OFF n, FIO.CH_STATUS.DIAG n, FIO.CH_STATUS.PARTNER n])
  ++ (List.range 4).map fun g => FIO.GROUP_STATUS.AWAIT_ACK g

/-- R361. The parts of the image beyond memory. -/
def State.tetherImage (s : State) : TetherImage where
  core := s.core (s.running.headD 0)
  readIdx := s.vot.readIdx
  lockIdx := s.vot.lockIdx
  lockWait := s.vot.lockWait
  classes := s.cyc.classes
  forces := s.cyc.forces
  loops := s.lop.insts.map fun (e : Nat × Loop) => (e.1, { e.2 with sat := e.2.sat.map s.inPair })
  mot := s.mot
  locks := (List.range 64).filter fun l => s.lockOwner l == some 0
  waits := s.waitsFor 0
  latched := s.fio.latched.map fun (p : Nat × Nat) => (p.1, s.inPair p.2)
  witness := s.par.witnessFor
  regs := tetherFields.map fun f => (f.id, s.get f)

/-- R361. The memory of the image as the lead holds it: block offset and bytes. -/
def State.tetherBlocks (s : State) : List (Nat × List Nat) :=
  (List.range (s.trackCount + 0x380)).filterMap fun i =>
    (s.tetherAddr (4096 * i)).map fun a => (4096 * i, s.bytes a 4096)

/-- R361. The lead's tether at a class-0 KEND: dirty blocks are sent again, or the image is captured. -/
def State.tetherKend (s : State) : State :=
  if !s.par.tethering || !s.isDriving then s
  else if 64 < s.par.tetherDirty.length || s.bit VOT.STATUS.REJOIN_ACTIVE || s.fer.crosser.isSome then
    let ds := s.par.tetherDirty
    let s := { s with par := { s.par with tetherDirty := [] } }
    (ds.flatMap s.trackOf).foldl (fun s i => s.sendTether (4096 * i)) s
  else
    let b := s.cycle + 1
    let s := (s.par.tetherDirty.flatMap s.trackOf).foldl (fun s i => s.sendTether (4096 * i)) s
    let s := (List.range 0x380).foldl (fun s i => s.sendTether (4096 * (s.trackCount + i))) s
    let dig := Config.tetherDigest s.tetherImage s.tetherBlocks % 2 ^ 32
    let s := { s with par := { s.par with tethering := false, tetherDirty := [], tetherSent := some b } }
    let s := s.ransel 0x51 (leBytes 8 b ++ leBytes 4 dig)
    s.tellTime b

/-- TETHER_DATA at the trail. -/
def State.tetherDataIn (s : State) (off : Nat) (data : List Nat) : State :=
  if s.isDriving then s
  else { s with par := { s.par with tetherData := Sparse.insert s.par.tetherData off data } }

/-- R361. The parts of the image installed at the trail, which executes from cycle `b` on: its boundary before is the lead's (R134),
and the image holds what CONTROLs for earlier boundaries did. -/
def State.installImage (s : State) (b : Nat) (img : TetherImage) : State :=
  let s := s.par.tetherData.foldl (fun s (p : Nat × List Nat) => match s.tetherAddr p.1 with
    | some a => (s.store a p.2).written 14 a p.2
    | none => s) s
  let s := s.running.foldl (fun s c => s.setCore c { img.core with running := true }) s
  let s := (List.range 64).foldl (fun s l => if s.lockOwner l == some 0 then s.passLock l false else s) s
  let s := State.unwait { s with fab := { s.fab with held0 := img.locks } } 0
  let s := match img.waits with
    | some l => s.joinLock 0 l
    | none => s
  let f := s.par.follow
  let lead0 := Sparse.get {} img.classes 0
  { s with
    regs := img.regs.foldl (fun m (p : Nat × Nat) =>
      match tetherFields.find? fun f => f.id == p.1 with
      | some f => Sparse.put f.rst m f.id (p.2 % 2 ^ f.w)
      | none => m) s.regs
    vot := { s.vot with readIdx := img.readIdx, lockIdx := img.lockIdx, delivery := none, presented := [], released := []
                        count := [0, 0, 0], reserve := none }
    cyc := { s.cyc with
      classes := img.classes, forces := img.forces
      boundary := s.fromPair (lead0.release + s.p0 * (b - 1 - lead0.cycle)) }
    lop := { s.lop with
      insts := img.loops.map fun (e : Nat × Loop) => (e.1, { e.2 with sat := e.2.sat.map s.fromPair }) }
    mot := { img.mot with due := none, running := none, waits := [], held := none }
    fio := { s.fio with latched := img.latched.map fun (p : Nat × Nat) => (p.1, s.fromPair p.2) }
    par := { s.par with
      tetherData := [], tetherFrom := some b, ownDigests := [], diverged := false, witnessFor := img.witness
      follow := { f with
        cuts := f.cuts.filter fun c => decide (b ≤ c.cycle)
        controls := f.controls.filter fun c => decide (b ≤ c.due)
        commits := f.commits.filter fun c => decide (b ≤ c.2.1)
        reads := f.reads.filter fun r => decide (img.readIdx ≤ r.1)
        locks := f.locks.filter fun r => decide (img.lockIdx ≤ r.1)
        lockReqs := (match img.waits, img.lockWait with | some l, some k => [(k, l, 1)] | _, _ => []), deliveries := [], loops := [], ahead := [], crossed := none } } }

/-- R361. TETHER: the image is verified and installed, with the cycle number before the one it names (notes/assumptions/84.md);
a digest that fails restarts the tether. -/
def State.tetherIn (s : State) (b digest : Nat) (img : TetherImage) : State :=
  if s.isDriving || s.pairState == 5 then s
  else if Config.tetherDigest img s.par.tetherData % 2 ^ 32 ≠ digest then
    { s with par := { s.par with tetherData := [] } }
  else (((((((s.loopCatchUp.installImage b img).setLoopQueue []).loopCounts).loopMasks).motRegs).set2 CYC.CYCLE_LO.NUMBER CYC.CYCLE_HI.NUMBER (b - 1)).setPairState 3).refreshPair

end Sys2Proof.Machine
end

