-- ==== Sys2Proof/Machine/Lease.lean ====
section
/-! DEFINITION. The lease: answers of the witness, renewals and probes, and this unit as witness of other pairs (spec/11 R363
to R369, R376).

Marks (notes/assumptions): DEDUCED 89, 90, 91; DESIGN CHOICE 127. -/

namespace Sys2Proof.Machine

/-! ## LEASE frames as they arrive (R195, R364) -/

def leaseOp (f : List Nat) : Nat := (ucpBody f).getD 0 0
def leaseUnit (f : List Nat) : Nat := (ucpBody f).getD 1 0
def leaseCarrier (f : List Nat) : Nat := beAt (ucpBody f) 4 8
def leaseEpoch (f : List Nat) : Nat := beAt (ucpBody f) 12 4
def leaseTicksOf (f : List Nat) : Nat := beAt (ucpBody f) 16 4
def leaseNonce (f : List Nat) : Nat := beAt (ucpBody f) 20 4

/-- R364. AUTH under the committed lease key. -/
def State.leaseAuthOk (s : State) (f : List Nat) : Bool :=
  match s.upd.leaseKey with
  | none => false
  | some k => ((ucpBody f).drop 24).take 16 == leaseAuth k ((f.drop 14).take 16) ((ucpBody f).take 24)

/-- R364. A discard counted: no register holds the count. -/
def State.leaseDiscard (s : State) : State := { s with par := { s.par with leaseDiscards := s.par.leaseDiscards + 1 } }

/-! ## Answers of the witness (R365 to R368, R376) -/

/-- R366, R367. The interval of renewals, or of probes. -/
def State.leaseInterval (s : State) : Nat := if s.isDriving then s.get PAR.LEASE.TICKS / 4 else ticksPerMs

/-- R367. The witness is reachable. -/
def State.witnessHeard (s : State) : State :=
  let s := { s with par := { s.par with answers := some s.now } }
  if s.bit PAR.STATUS.WITNESS_REACHABLE then s else (s.set PAR.STATUS.WITNESS_REACHABLE 1).post 162 1

/-- R372, R376, R381. A grant: a start as ALONE, a new lead whose token waits for it, one that a YIELD has made and that takes the
higher epoch, or a take-over. -/
def State.granted (s : State) (e : Nat) : State :=
  let s := s.closeRequest
  if s.par.aloneAsked && !s.isDriving then s.driveAlone e
  else if s.par.awaitGrant && s.isDriving then
    let s := { s with par := { s.par with awaitGrant := false } }
    (if s.par.ownEpoch < e then s.takeEpoch e else s).tokenRaise
  else if s.isDriving then (if s.par.ownEpoch < e then s.takeEpoch e else s)
  else (if s.isTrail then s.takeover 3 e else s).seeEpoch e

/-- R368. REFUSE to an EPOCH_REQUEST. -/
def State.refused (s : State) : State :=
  State.untether ({ s with par := { s.par with refusedAt := s.now } }).closeRequest 1

/-- R366. RENEW_ACK: the lease is held until the send tick of the RENEW plus its LEASE_TICKS. -/
def State.renewAcked (s : State) (sent ticks : Nat) : State :=
  if ticks = 0 || !s.isDriving then s
  else
    let t := max s.par.leaseEnd (sent + ticks)
    ({ s with par := { s.par with leaseEnd := t } }).setB PAR.STATUS.LEASE_HELD (decide (s.now < t))

/-- An authenticated answer to an open request. -/
def State.leaseAnswer (s : State) (f : List Nat) (request : Bool) (renewal : Option (Nat × Nat)) : State :=
  let e := leaseEpoch f
  match leaseOp f, request, renewal with
  | 2, true, _ => s.granted e
  | 4, true, _ => s.granted e
  | 5, true, _ => s.refused.epochAbove e
  | 2, false, some (t, n) => (s.renewAcked t n).epochAbove e
  | _, _, _ => s.epochAbove e

/-- R364. An answer is checked: AUTH, CARRIER_ID, SEQUENCE, NONCE. -/
def State.answerIn (s : State) (port : Nat) (f : List Nat) : State :=
  let n := leaseNonce f
  let request := s.par.openRequest == some n
  let renewal := (s.par.openRenews.find? fun r => r.1 == n).map (·.2)
  let old := match s.par.witnessSeq with
    | some q => decide (ucpSeq f ≤ q)
    | none => false
  if !s.hasWitness || port ≠ s.witnessPort || ucpSource f ≠ 0xF0FF || !s.leaseAuthOk f || leaseCarrier f ≠ s.car.carrierId
     || old || !(request || renewal.isSome) then s.leaseDiscard
  else
    let s := { s with par := { s.par with
      witnessSeq := some (ucpSeq f), openRenews := s.par.openRenews.filter fun r => r.1 != n } }
    (s.witnessHeard).leaseAnswer f request renewal

/-! ## This unit as witness (R365, R369) -/

/-- An answer of the witness. -/
def State.witnessSend (s : State) (w : WitnessEntry) (port mac unit op ticks nonce : Nat) : State :=
  s.sendLease port mac 0xF0FF s.par.ownEpoch op unit w.carrier w.epoch ticks nonce

def State.putWitness (s : State) (w : WitnessEntry) : State :=
  { s with par := { s.par with witnessFor := s.par.witnessFor.map fun x => if x.carrier == w.carrier then w else x } }

/-- R365. A grant to unit `u`. -/
def State.witnessGrant (s : State) (w : WitnessEntry) (r : WitnessReq) : State :=
  let w := { w with epoch := max w.epoch r.epoch + 1, holder := some r.unit, expiry := s.now + r.ticks
                    pend := w.pend.filter fun p => p.unit != r.unit }
  (s.putWitness w).witnessSend w r.port r.mac r.unit 4 r.ticks r.nonce

/-- R365. RENEW. -/
def State.witnessRenew (s : State) (w : WitnessEntry) (r : WitnessReq) : State :=
  let mine := w.holder == some r.unit
  if 0 < r.ticks ∧ r.epoch = w.epoch ∧ mine then
    let others := w.pend.filter fun p => p.unit != r.unit
    let w := { w with expiry := s.now + r.ticks, pend := w.pend.filter fun p => p.unit == r.unit }
    let s := (s.putWitness w).witnessSend w r.port r.mac r.unit 2 r.ticks r.nonce
    others.foldl (fun s p => s.witnessSend w p.port p.mac p.unit 5 (w.expiry - s.now) p.nonce) s
  else if 0 < r.ticks ∧ w.epoch < r.epoch ∧ w.expiry ≤ s.now then
    let w := { w with epoch := r.epoch, holder := some r.unit, expiry := s.now + r.ticks }
    (s.putWitness w).witnessSend w r.port r.mac r.unit 2 r.ticks r.nonce
  else if r.ticks = 0 ∧ mine then
    let w := { w with expiry := s.now }
    (s.putWitness w).witnessSend w r.port r.mac r.unit 2 0 r.nonce
  else s.witnessSend w r.port r.mac r.unit 5 (w.expiry - s.now) r.nonce

/-- R365. EPOCH_REQUEST. -/
def State.witnessRequest (s : State) (w : WitnessEntry) (r : WitnessReq) : State :=
  if w.expiry ≤ s.now then s.witnessGrant w r
  else if w.holder = some r.unit then s.witnessSend w r.port r.mac r.unit 2 (w.expiry - s.now) r.nonce
  else s.putWitness { w with pend := (w.pend.filter fun p => p.unit != r.unit) ++ [r] }

/-- R364, R369. A request to this unit as witness: its driving unit answers. -/
def State.requestIn (s : State) (port : Nat) (f : List Nat) : State :=
  match s.par.witnessFor.find? fun w => w.carrier == leaseCarrier f with
  | none => s
  | some w =>
    let u := leaseUnit f
    if !s.isDriving then s
    else if !s.leaseAuthOk f || ucpSource f ≠ 0xF000 + u || decide (ucpSeq f ≤ Sparse.get 0 w.lastSeq u) then s.leaseDiscard
    else
      let w := { w with lastSeq := Sparse.insert w.lastSeq u (ucpSeq f) }
      let s := s.putWitness w
      let r : WitnessReq := ⟨u, leaseEpoch f, leaseTicksOf f, leaseNonce f, port, ucpMac f⟩
      if leaseOp f = 1 then s.witnessRenew w r else s.witnessRequest w r

/-- R187, R217, R364. A LEASE frame whose header or length is at fault: on a crossing it is one of its discards too. -/
def State.leaseBad (s : State) (port : Nat) : State :=
  let s := s.leaseDiscard
  if port < 4 && s.crossOn port then s.frameBad port 0 (FLD.CROSS_DISCARDS.COUNT port) none else s

/-- A LEASE frame received on crossing port 0 to 3 or plant port 4 or 5. -/
def State.leaseFrame (s : State) (port : Nat) (f : List Nat) : State :=
  if !s.domOn 4 then s
  else if beAt f 12 2 != s.get FLD.ETHERTYPE.VALUE || f.getD 15 0 != 3 || !headerOk f || ucpLength f != 40 then s.leaseBad port
  else if leaseOp f = 1 ∨ leaseOp f = 3 then s.requestIn port f
  else s.answerIn port f

def execRenewAck (port : Fin 6) (frame : List Nat) (s : State) : Answer := (s.leaseFrame port frame).done
def execRefuse (port : Fin 6) (frame : List Nat) (s : State) : Answer := (s.leaseFrame port frame).done
def execEpochGrant (port : Fin 6) (frame : List Nat) (s : State) : Answer := (s.leaseFrame port frame).done
def execRenew (port : Fin 6) (frame : List Nat) (s : State) : Answer := (s.leaseFrame port frame).done
def execEpochRequest (port : Fin 6) (frame : List Nat) (s : State) : Answer := (s.leaseFrame port frame).done

/-- R365. A lease reaches EXPIRY: the first pending request is granted. -/
def State.witnessExpiry (s : State) (i : Nat) : State :=
  match s.par.witnessFor[i]? with
  | none => s
  | some w => match w.pend with
    | r :: _ => if s.isDriving && decide (w.expiry ≤ s.now) then s.witnessGrant w r else s
    | [] => s

def execWitnessLeaseExpiry (i : Fin 8) (s : State) : Answer := (s.witnessExpiry i).done

/-! ## The lease's clocks (R366 to R368) -/

/-- R366. A renewal: every LEASE / 4 while driving. -/
def State.renewalDue (s : State) : State :=
  let early := match s.par.renewAt with
    | some t => decide (s.now < t + s.get PAR.LEASE.TICKS / 4)
    | none => false
  if !s.isDriving || !s.hasWitness || early then s
  else
    let s := s.renew s.leaseTicks
    { s with par := { s.par with renewAt := some s.now, openRenews := s.par.openRenews.drop (s.par.openRenews.length - 16) } }

def execLeaseRenewalDue (s : State) : Answer := s.renewalDue.done

/-- R367. A probe: every 1 ms while not driving; a start as ALONE that no grant has answered asks again. -/
def State.probe (s : State) : State :=
  let early := match s.par.probeAt with
    | some t => decide (s.now < t + ticksPerMs)
    | none => false
  if s.isDriving || !s.hasWitness || early then s
  else
    let s := s.toWitness 1 (s.get PAR.EPOCH.EPOCH) 0
    let s := { s with par := { s.par with probeAt := some s.now, openRenews := s.par.openRenews.drop (s.par.openRenews.length - 16) } }
    if s.par.aloneAsked && s.par.openRequest.isNone then s.requestEpoch else s

def execWitnessProbe (s : State) : Answer := s.probe.done

/-- R366. The lease lapses: a driving unit stays the driving unit. -/
def State.leaseLapsed (s : State) : State :=
  if !s.bit PAR.STATUS.LEASE_HELD || decide (s.now < s.par.leaseEnd) then s
  else
    let s := s.set PAR.STATUS.LEASE_HELD 0
    if s.isDriving then s.post 163 s.par.ownEpoch else s

def execLeaseLapsed (s : State) : Answer := s.leaseLapsed.done

/-- R367. Reachability follows the answers. -/
def State.witnessChange (s : State) : State :=
  let silent := match s.par.answers with
    | some t => decide (t + 4 * s.leaseInterval ≤ s.now)
    | none => true
  if s.bit PAR.STATUS.WITNESS_REACHABLE && silent then (s.set PAR.STATUS.WITNESS_REACHABLE 0).post 162 0 else s

def execWitnessChange (s : State) : Answer := s.witnessChange.done

/-- R368. Whether a trail may send EPOCH_REQUEST. -/
def State.mayRequest (s : State) : Bool :=
  s.linksDown && s.hasWitness && s.bit PAR.STATUS.WITNESS_REACHABLE && s.ineligible == 0 && s.par.openRequest.isNone

/-- R368. The Ransel heartbeat is lost: a tethered trail asks for an epoch, or untethers. -/
def State.heartbeatLost (s : State) : State :=
  if s.pairState ≠ 3 then s
  else if s.mayRequest && !s.par.leadEvidence then s.requestEpoch
  else s.untether 1

/-- R368. UNTETHERED_SILENCE without lead evidence: an untethered trail may ask again. -/
def State.silence (s : State) : State :=
  let since := max (max s.par.evidenceTick s.par.lastMsg) s.par.refusedAt
  if s.pairState ≠ 4 || !s.bit PAR.CFG.UNTETHERED_TAKEOVER || !s.mayRequest
     || decide (s.now < since + max 100 (s.get PAR.UNTETHERED_SILENCE.US) * ticksPerUs) then s
  else s.requestEpoch

def execUntetheredSilenceExpiry (s : State) : Answer := s.silence.done

end Sys2Proof.Machine
end

