-- ==== Sys2Proof/Machine/Stream.lean ====
section
/-! DEFINITION. The Ransel links: the stream of messages, their order, loss and resending, heartbeats, HELLO, and what each
message does (spec/11 R343 to R349, R360, R361, R368, R375, R379 to R381; spec/01 R27).

Marks (notes/assumptions): DEDUCED 82, 89, 92, 93, 130, 143; DESIGN CHOICE 95. -/

namespace Sys2Proof.Machine

/-! ## Links (R343, R346) -/

def State.link (s : State) (l : Nat) : Link := if l = 0 then s.par.linkA else s.par.linkB

def State.setLink (s : State) (l : Nat) (k : Link) : State :=
  if l = 0 then { s with par := { s.par with linkA := k } } else { s with par := { s.par with linkB := k } }

/-- R349. HELLO. -/
def State.sendHello (s : State) : State :=
  s.ransel 2 ([s.unit, s.get SYS.CARRIER_STATUS.SLOT] ++ leBytes 2 (s.slot s.activeSlot).proto
    ++ leBytes 8 s.car.carrierId ++ (List.range 4).flatMap (fun w => leBytes 4 (Config.serial w))
    ++ leBytes 4 (s.get CYC.PROGRAM_GEN.GEN) ++ s.configDigest.flatMap (leBytes 4))

/-- R343. A link has trained, with its latency; HELLO goes out. It trains after a reset release or a loss, with both units seated. -/
def State.linkTrained (s : State) (l latency : Nat) : State :=
  if (s.link l).trained || !s.bit SYS.CARRIER_STATUS.SEATED || !s.partnerSeated then s
  else (s.setLink l { s.link l with trained := true, latency := latency, last := s.now, beatFrom := none }).sendHello

def execLinkTrainingEnd (l : Fin 2) (latency : Fin 512) (s : State) : Answer := (s.linkTrained l latency).done

/-- R346. Ticks without a valid message after which a link is down. -/
def State.linkLoss (s : State) : Nat := s.get PAR.TIMING.LINK_LOSS * ticksPerUs

/-- R346. A valid message has come on a link. -/
def State.linkHeard (s : State) (l : Nat) : State :=
  let k := s.link l
  s.setLink l { k with last := s.now
                       beatFrom := if k.beatFrom.isSome && decide (s.now < k.last + s.linkLoss) then k.beatFrom else some s.now }

/-- R346. Whether a link has delivered 1 ms of valid heartbeats. -/
def State.linkSteady (s : State) (l : Nat) : Bool :=
  decide (s.now < (s.link l).last + s.linkLoss) && ((s.link l).beatFrom.map fun t => decide (t + ticksPerMs ≤ s.now)).getD false

/-- R346. A trained link that has delivered 1 ms of valid heartbeats goes up. -/
def State.linkUp (s : State) (l : Nat) : State :=
  if !(s.link l).trained || (s.link l).up || !s.linkSteady l then s
  else
    let s := s.setLink l { s.link l with up := true }
    let s := (s.set (if l = 0 then PAR.STATUS.LINK0_UP else PAR.STATUS.LINK1_UP) 1).post 161 (l + 2)
    { s with par := { s.par with linkLostAt := none } }

def execRanselLinkUp (l : Fin 2) (s : State) : Answer := (s.linkUp l).done

/-- R346, R368. A link goes down: at once where a lane loses block lock, else after LINK_LOSS. With both down the Ransel
heartbeat is lost. -/
def State.linkDown (s : State) (l : Nat) (blockLock : Bool) : State :=
  if !(blockLock || decide ((s.link l).last + s.linkLoss ≤ s.now)) then s
  else if !(s.link l).up then
    if blockLock && (s.link l).trained then s.setLink l { s.link l with trained := false, beatFrom := none } else s
  else
    let s := s.setLink l { s.link l with up := false, trained := false, beatFrom := none }
    let s := (s.set (if l = 0 then PAR.STATUS.LINK0_UP else PAR.STATUS.LINK1_UP) 0).post 161 l
    if !s.linksDown then s
    else
      let s := { s with par := { s.par with linkLostAt := some s.now, helloOk := false } }
      s.heartbeatLost

def execRanselLinkDown (l : Fin 2) (blockLock : Bool) (s : State) : Answer := (s.linkDown l blockLock).done

/-- R346. HEARTBEAT where nothing has been sent for 1 us. -/
def State.heartbeatDue (s : State) : State := if s.now < s.par.lastSent + ticksPerUs then s else s.heartbeat

def execHeartbeatSend (s : State) : Answer := s.heartbeatDue.done

/-! ## NAK (R345) -/

/-- The messages of the stream in the order first sent, those sent again left out. -/
def firstSent : Nat → List Sent → List Sent
  | _, [] => []
  | n, m :: r => match m with
    | .ransel _ q _ => if q = n % 2 ^ 32 then m :: firstSent (n + 1) r else firstSent n r
    | _ => firstSent n r

def Sent.size : Sent → Nat
  | .ransel _ _ p => 12 + p.length
  | _ => 0

/-- The message with SEQ `q` among the newest ones that make up `room` bytes. -/
def keptMessage (q : Nat) : Nat → List Sent → Option Sent
  | _, [] => none
  | room, m :: r =>
    if room < m.size then none
    else match m with
      | .ransel _ q' _ => if q' = q then some m else keptMessage q (room - m.size) r
      | _ => keptMessage q room r

/-- R345. NAK: the missing message is sent again while it is among the last 1 MiB; otherwise a trail untethers. -/
def State.nakIn (s : State) (q : Nat) : State :=
  match keptMessage q (2 ^ 20) (firstSent 0 (s.sent.drop s.par.keepFrom)).reverse with
  | some m => s.send m
  | none => s.untether 3

/-! ## HELLO (R27, R349) -/

/-- R349. A unit whose partner fails HELLO stays in JOINING, or goes OUT if it was joining a driving partner. -/
def State.helloFailed (s : State) : State :=
  let s := { s with par := { s.par with helloOk := false, helloBad := true } }
  let s := s.post 170 15
  let p := s.get PAR.STATUS.PARTNER_STATE
  if s.pairState = 1 ∧ (p = 0 ∨ p = 2) then s.goOut 5 else s

/-- R381. Two units that join: the home unit starts alone, the other stays. -/
def State.joinStep (s : State) : State :=
  if s.pairState = 1 ∧ s.get PAR.STATUS.PARTNER_STATE = 1 ∧ s.par.helloOk ∧ s.isHome ∧ ¬ s.par.aloneAsked then s.goAlone
  else s

/-- R27, R349. HELLO of the partner is checked: slots, pair protocol, CARRIER_ID. Equal slots are a SLOT_FAULT but for a unit
in LEAD. -/
def State.helloIn (s : State) (h : Hello) : State :=
  let s := { s with par := { s.par with hello := some h } }
  if h.slot = s.get SYS.CARRIER_STATUS.SLOT then
    let s := s.helloFailed
    if s.pairState = 2 then s else ((s.set SYS.CARRIER_STATUS.SLOT_FAULT 1).goOut 5).gate
  else if h.proto ≠ (s.slot s.activeSlot).proto ∨ h.carrier ≠ s.car.carrierId then s.helloFailed
  else (State.refreshPair { s with par := { s.par with helloOk := true, helloBad := false } }).joinStep

/-! ## HEARTBEAT (R341, R347, R361, R368, R379) -/

/-- R39, R379. The trail has confirmed the HANDOVER: a HEARTBEAT that left after HANDOVER reached it says that every class cycle
released before B has committed. One that is no longer eligible, as a trail whose own latch has asked tells
(notes/assumptions/130.md), takes its confirmation back, and a hand-over that the latch started is refused. -/
def State.confirmed (s : State) (st cycle tick : Nat) : State :=
  match s.par.handover with
  | none => s
  | some h => match h.sent with
    | none => s
    | some t =>
      let l := min s.par.linkA.latency s.par.linkB.latency
      if st = 3 ∧ ¬ s.par.partnerEligible then
        if h.cause = 1 then s.handoverFail h else { s with par := { s.par with handover := some { h with sure := false } } }
      else if st = 3 ∧ h.due ≤ cycle + 1 ∧ t + l ≤ tick then
        { s with par := { s.par with handover := some { h with sure := true } } }
      else s

/-- R358, R361. A driving unit tethers a partner that joins or has untethered; one that a named tether cycle has not made
tethered is tethered again. -/
def State.tetherDue (s : State) : State :=
  let p := s.get PAR.STATUS.PARTNER_STATE
  let again := match s.par.tetherSent with
    | some b => decide (b + 2 ≤ s.cycle)
    | none => true
  if s.isDriving && (p == 1 || p == 4) && s.par.helloOk && !s.par.tethering && again && !s.linksDown then s.startTether else s

/-- A HEARTBEAT of the partner. -/
def State.heartbeatIn (s : State) (l st : Nat) (eligible lease : Bool) (epoch cycle tick : Nat) (down : List Nat) : State :=
  let lead := st = 0 ∨ st = 2
  let s := s.set PAR.STATUS.PARTNER_STATE st
  let s := State.seeEpoch { s with par := { s.par with
    partnerEligible := eligible, partnerLease := lease, partnerEpoch := epoch, partnerCycle := cycle
    heartbeatAt := some s.now
    announced := if lead then ((List.range 4).zip down) else s.par.announced } } epoch
  let s := if lead ∧ ¬ s.isDriving then
      s.set2 PAR.TICK_OFFSET_LO.OFFSET PAR.TICK_OFFSET_HI.OFFSET ((tick + (s.link l).latency + 2 ^ 64 - s.now) % 2 ^ 64)
    else s
  let s := ((s.confirmed st cycle tick).roleWithPartner).tetherDue
  if s.pairState = 1 ∧ lead ∧ s.par.helloBad then s.goOut 5 else s.joinStep

/-! ## Hand-over and YIELD (R376, R379, R380) -/

/-- R379. HANDOVER: an eligible tethered trail is to become LEAD at B. -/
def State.handoverIn (s : State) (b epoch : Nat) : State :=
  let s := s.seeEpoch epoch
  if s.pairState = 3 ∧ s.ineligible = 0 then { s with par := { s.par with handIn := some (b, epoch, false) } } else s

/-- R380. HANDOVER_REQUEST: a planned hand-over, or a refusal. -/
def State.handoverRequestIn (s : State) : State :=
  match s.startHandover 2 with
  | (s, 0) => s
  | (s, _) => s.post 171 3

/-- R371, R375, R376. YIELD of the old lead: an eligible trail takes over; a lead whose token waits for a grant raises it. -/
def State.yieldIn (s : State) (epoch cause : Nat) : State :=
  let s := (s.post 166 (256 * cause)).seeEpoch epoch
  if s.isDriving then
    if !s.par.awaitGrant then s
    else
      let s := { s with par := { s.par with awaitGrant := false } }
      (if s.par.ownEpoch < epoch then s.takeEpoch s.nextEpoch else s).tokenRaise
  else s.takeover 1 s.nextEpoch

/-! ## BLOCK_DATA (R360) -/

/-- R360. A block captured by the lead, installed at the own KEND of the capture cycle, or now where that has retired. -/
def State.blockIn (s : State) (i cycle : Nat) (data : List Nat) : State :=
  if s.pairState ≠ 3 then s
  else
    let c := s.cls 0
    let passed := decide (cycle < c.cycle) || (c.cycle == cycle && 3 ≤ s.phase 0) || (c.cycle == cycle && s.phase 0 == 0)
    if passed then match s.trackAddr i with
      | some a => (s.store a data).written 14 a data
      | none => s
    else { s with par := { s.par with installs := s.par.installs ++ [(i, cycle, data)] } }

/-! ## Acting in SEQ order (R345, R347) -/

/-- What a message does. -/
def State.act1 (s : State) (l : Nat) : RMsg → State
  | .heartbeat st el le ep cy ti dn => s.heartbeatIn l st el le ep cy ti dn
  | .hello u sl pr ca ge dg => s.helloIn ⟨u, sl, pr, ca, ge, dg⟩
  | .nak q => s.nakIn q
  | .cutList c => s.cutIn c
  | .commit k c d t => s.commitIn k c d t
  | .read i v => s.readIn i v
  | .delivery p ws => s.deliveryIn p ws
  | .lock i k st => s.lockIn i k st
  | .completion r rec data => s.completionIn r rec data
  | .loop r => s.loopIn r
  | .channelStatus n f m => s.channelIn n f m
  | .control k c => s.controlIn k c
  | .crossed b g => s.crossedIn b g
  | .mirror cs a => s.mirrorIn cs a
  | .stateDigest c bs => s.putFollow { s.par.follow with digests := s.par.follow.digests ++ [(c, bs)] }
  | .blockData i c d => s.blockIn i c d
  | .blockRequest i => { s with par := { s.par with wantBlocks := addOnce s.par.wantBlocks i } }
  | .frameRequest n q => s.frameRequest n q
  | .frameData n q b => s.frameData n q b
  | .relay c f => s.relayed c f
  | .staged g c => { s with par := { s.par with trailStaged := some (g, c) } }
  | .handoverRequest _ => s.handoverRequestIn
  | .handover b e => s.handoverIn b e
  | .yield e c => s.yieldIn e c
  | .tetherData o d => s.tetherDataIn o d
  | .tether b d img => s.tetherIn b d img

/-- R368. A message of the lead ends the lead evidence seen before it. -/
def State.fromLead (s : State) : State :=
  let p := s.get PAR.STATUS.PARTNER_STATE
  if p = 0 ∨ p = 2 then { s with par := { s.par with leadEvidence := false, lastMsg := s.now } } else s

/-- The next message in order. -/
def State.actNext (s : State) (l : Nat) (m : RMsg) : State :=
  let s := { s with par := { s.par with recvSeq := (s.par.recvSeq + 1) % 2 ^ 32, gapAt := none, nakAt := none } }
  (s.act1 l m).fromLead

/-- Messages kept ahead of the stream that are now next; `fuel` bounds their number. -/
def State.drainAhead (l : Nat) : Nat → State → State
  | 0, s => s
  | fuel + 1, s => match s.par.ahead.find? fun a => a.1 == s.par.recvSeq with
    | some a =>
      let s := { s with par := { s.par with ahead := s.par.ahead.filter fun b => b.1 != a.1 } }
      State.drainAhead l fuel (s.actNext l a.2)
    | none => s

/-- After the stream has moved on: a gap that remains is timed, and what waited for messages goes on. -/
def State.afterAct (s : State) : State :=
  let s := match s.par.ahead, s.par.gapAt with
    | _ :: _, none => { s with par := { s.par with gapAt := some s.now } }
    | _, _ => s
  ((s.followCuts).followComps).followLoops

/-- R345. One copy of a message: the first valid copy of each SEQ is accepted, and acted on in order. -/
def State.ranselIn (s : State) (h : RanselHead) (m : RMsg) : State :=
  let l := h.link.val
  if !h.good then s.bump (PAR.LINK_ERRORS.CRC l)
  else
    let q := h.seq % 2 ^ 32
    let s := s.linkHeard l
    let again := match m with
      | .hello .. => s.linksDown && decide (toSigned 32 ((q + 2 ^ 32 - s.par.recvSeq) % 2 ^ 32) < 0)
      | _ => false
    let s := if s.par.synced && !again then s
      else { s with par := { s.par with synced := true, recvSeq := q, ahead := [], gapAt := none, nakAt := none } }
    let ahead := toSigned 32 ((q + 2 ^ 32 - s.par.recvSeq) % 2 ^ 32)
    if ahead < 0 || s.par.ahead.any (fun a => a.1 == q) then s
    else if 0 < ahead then
      State.afterAct { s with par := { s.par with ahead := s.par.ahead ++ [(q, m)] } }
    else
      let s := s.actNext l m
      (State.drainAhead l s.par.ahead.length s).afterAct

/-- R345. A SEQ has been missing for 2 us: NAK. One that no answer has filled within 5 us is given up: a trail untethers,
and the stream goes on with the first message held. -/
def State.seqMissing (s : State) : State :=
  match s.par.gapAt, s.par.ahead with
  | some t, a :: _ =>
    if s.now < t + 2 * ticksPerUs then s
    else match s.par.nakAt with
      | none =>
        let q := s.par.recvSeq
        let s := State.ransel { s with par := { s.par with nakAt := some (q, s.now) } } 3 (leBytes 4 q)
        (List.range 2).foldl (fun s l => if (s.link l).up then s.bump (PAR.LINK_ERRORS.NAK l) else s) s
      | some (_, n) =>
        if s.now < n + 5 * ticksPerUs then s
        else
          let s := { s with par := { s.par with recvSeq := a.1, gapAt := none, nakAt := none } }
          let s := s.untether 3
          (State.drainAhead 0 s.par.ahead.length s).afterAct
  | _, _ => s

end Sys2Proof.Machine
end

