-- ==== Sys2Proof/Machine/Bist.lean ====
section
/-! DEFINITION. Built-in self-test in service: BST.CMD, the end of a test, its failure, the rotation and the health report
(spec/17 R510 to R522).

Marks (notes/assumptions): DEDUCED 113, 114, 117. -/

namespace Sys2Proof.Machine

/-! ## The health report (R521, R522) -/

/-- The targets of a mask. -/
def targetsOf (m : Nat) : List Nat := (List.range 25).filter m.testBit

/-- R521. The report but for its CRC. -/
def State.healthBody (s : State) : List Nat :=
  let passed := s.get BST.PASSED.TARGETS
  let b (f : Fld) (i : Nat) : Nat := b2n (s.bit f) * 2 ^ i
  [0x55, 0x48, 0x4C, 0x54, 1, s.unit + b SYS.CARRIER_STATUS.SLOT_FAULT 1, s.get RST.CAUSE.KIND, s.get RST.CAUSE.SOURCE]
  ++ leBytes 8 s.rst.startTick ++ leBytes 8 s.now ++ [s.get UPD.ACTIVE.SLOT, 0, 0, 0]
  ++ [s.get VOT.CMP_TEST.DETECTED + b VOT.CMP_TEST.DONE 4 + b VOT.CMP_TEST.FAIL 5,
      b RST.START_STATUS.PASSED 0 + b VOT.STATUS.LEAD_BARRED 1 + 4 * b2n s.car.fallback
        + b SYS.CARRIER_STATUS.EEPROM_VALID 3 + 16 * b2n (s.bst.carried != []), 0, 0]
  ++ leBytes 4 passed ++ leBytes 4 (s.get BST.FAILED.TARGETS) ++ leBytes 2 (s.get BST.REPAIRS.ROWS)
  ++ [s.bst.firstFail.getD 0xFF, 0] ++ leBytes 4 ((s.rst.doneAt.getD s.now - s.rst.startTick) / ticksPerMs)
  ++ (List.range 8).flatMap (fun d => leBytes 4 (Sparse.get 0 s.bst.speeds d))
  ++ leBytes 4 (s.get BST.ROT_COUNTS.PASSES) ++ leBytes 4 (s.get BST.ROT_COUNTS.FAILS)
  ++ leBytes 4 (s.get BST.ROT_SKIPS.COUNT) ++ leBytes 8 s.bst.lastFail
  ++ [(List.range 8).foldl (fun m d => m + b2n (s.domFailed d) * 2 ^ d) 0, 0, 0, 0]
  ++ leBytes 2 (s.get RST.COUNTS_A.POR) ++ leBytes 2 (s.get RST.COUNTS_A.MODULE)
  ++ leBytes 2 (s.get RST.COUNTS_B.WARM) ++ leBytes 2 (s.get RST.COUNTS_B.WDT) ++ List.replicate 12 0

/-- R522. The report written. -/
def State.healthReport (s : State) : State :=
  let body := s.healthBody
  let crc := crc32c body
  let bs := body ++ leBytes 4 crc
  let s := (List.range 32).foldl (fun s w => s.set (BST.REPORT.DATA w) (leAt bs (4 * w) 4)) s
  ({ s with upd := { s.upd with healthCrc := crc } }.recordEvent 4 bs).post 252 0

/-! ## Results (R512, R514, R515, R518, R519) -/

/-- R515. A failed core of the voted complex: out for a test, or, in stage 6, in the complex as it starts. -/
def State.coreFailed (s : State) (c : Nat) : State :=
  if s.stageNow = 6 ∧ s.get VOT.STATUS.MODE = 0 then
    (((s.toVote2 c 4).set VOT.STATUS.LEAD_BARRED 1).post 19 (c + 16 * 4)).refreshPair
  else s.coreTested c false

/-- R515. A target fails; target 20 with the core that is out (R127). -/
def State.bistFailed (s : State) (t : Nat) : State :=
  let s := ((s.set BST.FAILED.TARGETS (setBit (s.get BST.FAILED.TARGETS) t)).set RST.START_STATUS.PASSED 0).post 249 t
  let s := { s with bst := { s.bst with lastFail := s.now, firstFail := some (s.bst.firstFail.getD t) } }
  let s := if t ≤ 2 then s.coreFailed t
    else if t = 20 then s.coreTested (s.get VOT.STATUS.OUT_CORE) false
    else if 3 ≤ t ∧ t ≤ 6 then { s with bst := { s.bst with svcHeld := addOnce s.bst.svcHeld (t - 3) } } else s
  (s.refreshPair.startHandover 5).1.healthReport

/-- R519. After its test a service core starts again from its reset vector: its locks are broken, its votes released. -/
def State.svcRestart (s : State) (k : Nat) : State :=
  let s := (s.breakOwners [4 + k]).dropVotes [4 + k]
  ({ s with bst := { s.bst with svcWfi := s.bst.svcWfi.set k false } }).set BST.SVC_RELEASE.CORES
    (clearBit (s.get BST.SVC_RELEASE.CORES) k)

/-- R514. The result of one test; `exp` the expected or predicted signature, `rows` the rows repaired, `addr` the first
failing place. -/
def State.bistResult (s : State) (t : Nat) (pass : Bool) (sig exp rows addr : Nat) : State :=
  let s := ((s.set BST.RESULT.TARGET t).setB BST.RESULT.PASS pass).setB BST.RESULT.REPAIRED (rows != 0)
  let s := ((s.set2 BST.SIG_LO.SIG BST.SIG_HI.SIG sig).set2 BST.EXP_LO.EXP BST.EXP_HI.EXP exp).set2
    BST.FAIL_ADDR_LO.ADDR BST.FAIL_ADDR_HI.ADDR addr
  let s := if rows = 0 then s else
    let s := s.bump BST.REPAIRS.ROWS rows
    s.post 251 (t + 65536 * s.get BST.REPAIRS.ROWS)
  let s := if 3 ≤ t ∧ t ≤ 6 then s.svcRestart (t - 3) else s
  if pass then
    let s := s.set BST.PASSED.TARGETS (setBit (s.get BST.PASSED.TARGETS) t)
    if t ≤ 2 ∨ t = 20 then { s with vot := { s.vot with passed := addOnce s.vot.passed t } } else s
  else s.bistFailed t

/-! ## The rotation (R516 to R520) -/

/-- R516. A rotation step ends. -/
def State.rotationEnd (s : State) (pass : Bool) : State :=
  let s := { s with bst := { s.bst with rotation := none, running := none } }
  (s.set BST.ROT_STATUS.ACTIVE 0).bump (if pass then BST.ROT_COUNTS.PASSES else BST.ROT_COUNTS.FAILS)

/-- R518. After a core has passed its step: target 20, then RETURN. -/
def State.rotationNext (s : State) (t : Nat) (pass : Bool) : State :=
  match s.bst.rotation with
  | none => s
  | some r =>
    if !pass then s.rotationEnd false
    else if r ≤ 2 ∧ t = r then
      ({ s with bst := { s.bst with running := some ⟨20, false, true⟩ } }).set BST.CMD_STATUS.BUSY 1
    else if r ≤ 2 then (s.rotationEnd true).coreReturn 19 r
    else s.rotationEnd true

/-- R516. Elements of a memory. -/
def elementsOf (t : Nat) : Nat := if t = 17 then 98304 else if t = 18 then 16384 else 33554432

/-- R513. Transparent MBIST moves on in its memory. -/
def State.moveOn (s : State) (t : Nat) : State :=
  let p := (Sparse.get 0 s.bst.position t + s.get BST.ROT_ELEMENTS.COUNT) % elementsOf t
  { s with bst := { s.bst with position := Sparse.put 0 s.bst.position t p } }

/-- R511 to R515. The running test ends: LBIST and destructive MBIST by the factory signature, a repaired memory passes unless
`bad` says that some row is not repaired; transparent MBIST by its two signatures. -/
def State.bistDone (s : State) (sig exp rows addr : Nat) (bad : Bool) : State :=
  match s.bst.running with
  | none => s
  | some r =>
    let t := r.target
    let exp := if r.through then exp else Config.bistExpected t
    let rows := if isMbist t && !r.through then rows else 0
    let pass := sig % 2 ^ 64 == exp % 2 ^ 64 || (rows != 0 && !bad)
    let s := ({ s with bst := { s.bst with running := none } }).set BST.CMD_STATUS.BUSY 0
    let s := if r.through then s.moveOn t else (s.marched t).targetReset t
    let s := (s.bistResult t pass sig exp rows addr).post 248 (t + 256 * b2n pass + 512 * b2n r.step)
    if r.step then s.rotationNext t pass else s

def execBistDone (sig expected rows addr : Nat) (bad : Bool) (s : State) : Answer :=
  (s.bistDone sig expected rows addr bad).done

/-- R516, R518, R519. Why the next step is skipped: 1 condition, 2 partner not eligible, 3 release missing, or 0. -/
def State.stepCause (s : State) (t : Nat) : Nat :=
  if t ≤ 2 then
    if s.get VOT.STATUS.MODE != 0 || s.bit VOT.STATUS.REJOIN_ACTIVE || s.fer.crosser.isSome || !s.voting then 1
    else if s.pairState = 0 then 2
    else if s.pairState = 2 ∧ ¬ (s.get PAR.STATUS.PARTNER_STATE = 3 ∧ s.par.partnerEligible) then 2
    else 0
  else if !s.domOn (targetDomain t) then 1
  else if (3 ≤ t ∧ t ≤ 6) ∨ t = 21 then if s.bistMay t true then 0 else 3
  else if s.bistMay t true then 0 else 1

/-- R516. The next target of the mask from `n` on, with wrap. -/
def nextTarget (m n : Nat) : Option Nat :=
  let ts := targetsOf m
  match ts.find? fun t => decide (n ≤ t) with
  | some t => some t
  | none => ts.head?

/-- R516. One rotation step every INTERVAL seconds, at a class-0 KEND. -/
def State.rotationStep (s : State) : State :=
  let due := decide (s.bst.stepAt + max 1 (s.get BST.ROT_CFG.INTERVAL) * ticksPerSec ≤ s.now)
  if !s.bit BST.ROT_CFG.ENABLE || !s.bit RST.START_STATUS.DONE || !due || s.cyc.kendAt != some s.now || s.bst.running.isSome || s.bst.rotation.isSome then s
  else match nextTarget (s.get (if s.isDriving then BST.ROT_LEAD.MASK else BST.ROT_TRAIL.MASK)) s.bst.nextItem with
    | none => s
    | some t =>
      let s := { s with bst := { s.bst with stepAt := s.now, nextItem := t + 1 } }
      let c := s.stepCause t
      if c ≠ 0 then s.rotationSkip t c
      else
        let s := ({ s with bst := { s.bst with rotation := some t } }).set BST.ROT_STATUS.ITEM t |>.set BST.ROT_STATUS.ACTIVE 1
        if t ≤ 2 then s.takeOut 19 t
        else ({ s with bst := { s.bst with running := some ⟨t, decide (17 ≤ t ∧ t ≤ 19), true⟩ } }).set BST.CMD_STATUS.BUSY 1

def execRotationStep (s : State) : Answer := s.rotationStep.done

/-- R518. At a class-0 KEND the core of a step is out, and its test starts; a TAKE_OUT refused at its KEND skips the step. -/
def State.rotationKend (s : State) : State :=
  match s.bst.rotation with
  | none => s
  | some t =>
    if 2 < t || s.bst.running.isSome || s.vot.cmd.isSome then s
    else if s.coreOut t then
      ({ s with bst := { s.bst with running := some ⟨t, false, true⟩ } }).set BST.CMD_STATUS.BUSY 1
    else
      let s := { s with bst := { s.bst with rotation := none } }
      (s.set BST.ROT_STATUS.ACTIVE 0).rotationSkip t 1

/-! ## BST.CMD (R514) -/

/-- R528. A BST.CMD ends. -/
def State.bstEnd (s : State) (init op t status reason : Nat) : State :=
  ((s.set BST.CMD_STATUS.STATUS status).set BST.CMD_STATUS.REASON reason).recordCommand 3 op t status reason
    (originOf init) 0xFF 0

/-- R514. A test starts, unless it is refused. -/
def State.bstStart (s : State) (init op t : Nat) : State :=
  let through := op == 2
  let reason :=
    if 25 ≤ t then 1
    else if through && !(17 ≤ t && t ≤ 19) then 4
    else if t = 7 || (!through && (((t == 17 || t == 18) && s.stageNow != 1) || (t == 19 && s.stageNow != 3))) || !s.domOn (targetDomain t)
         || !s.bistMay t false then 2
    else if s.bst.running.isSome || s.bst.rotation.isSome then 3 else 0
  if reason ≠ 0 then s.bstEnd init op t 0x60 reason
  else (({ s with bst := { s.bst with running := some ⟨t, through, false⟩ } }).set BST.CMD_STATUS.BUSY 1).bstEnd init op t 0 0

def execBstRun (init : Fin 22) (t : Fin 32) (s : State) : Answer := (s.bstStart init 1 t).done
def execRunTransparent (init : Fin 22) (t : Fin 32) (s : State) : Answer := (s.bstStart init 2 t).done

/-- R519. A service core sets its own SVC_RELEASE bit; `wfi` says whether it then waits for an interrupt. -/
def State.svcRelease (s : State) (init : Nat) (wfi : Bool) : State :=
  if init < 4 ∨ 8 ≤ init ∨ s.bst.svcHeld.contains (init - 4) then s
  else
    let s := s.set BST.SVC_RELEASE.CORES (setBit (s.get BST.SVC_RELEASE.CORES) (init - 4))
    { s with bst := { s.bst with svcWfi := s.bst.svcWfi.set (init - 4) wfi } }

def execSvcRelease (init : Fin 22) (wfi : Bool) (s : State) : Answer := (s.svcRelease init wfi).done

/-- R507, R509. REPORT in stage 8: start-up is complete. -/
def State.startComplete (s : State) : State :=
  let ok := s.get BST.PASSED.TARGETS == 2 ^ 25 - 1 && !s.bit VOT.CMP_TEST.FAIL
  let s : State := { s with rst := { s.rst with doneAt := some s.now } }
  let s := (s.setB RST.START_STATUS.PASSED ok).healthReport
  let s := (s.set RST.START_STATUS.DONE 1).post 0 (b2n ok + 256 * s.bst.firstFail.getD 31)
  let s : State := { s with rst := { s.rst with starting := false }, bst := { s.bst with stepAt := s.now } }
  let s : State := if s.slotState s.activeSlot = 2 then
      { s with upd := { s.upd with confirmBy := some (s.now + max 1 (s.get UPD.CONFIRM_TIME.SECONDS) * ticksPerSec) } } else s
  s.refreshPair.joinPair

/-- R522. REPORT. -/
def State.report (s : State) (init : Nat) : State :=
  let s := if s.stageNow = 8 then s.startComplete else if s.bit RST.START_STATUS.DONE then s.healthReport else s
  s.bstEnd init 3 0 0 0

def execReport (init : Fin 22) (s : State) : Answer := (s.report init).done

end Sys2Proof.Machine
end

