-- ==== Sys2Proof/Machine/Reset.lean ====
section
/-! DEFINITION. Resets, the watchdog, start-up and boot (spec/17 R500 to R509, R523 to R525, R585; spec/01 R19, R25, R28 to
R31, R37; spec/04 R128; spec/18 R541, R547, R548).

Marks (notes/assumptions): DEDUCED 110, 111, 112, 115, 116, 117, 122, 130, 132, 133; DESIGN CHOICE 1, 123. -/

namespace Sys2Proof.Machine

/-! ## What a reset leaves (R505, R506) -/

/-- R500, R505, R506. RST.CAUSE.KIND codes: 0 POR, 1 MODULE, 2 WARM, 3 WDT as WARM, 4 WDT as MODULE. Their widths: 2 POR, 1
MODULE, 0 WARM. -/
def resetWidth (kind : Nat) : Nat := if kind = 0 then 2 else if kind = 1 ∨ kind = 4 then 1 else 0

/-- R69, R88. A WARM reset: ABORT for every started descriptor; enabled rings are STOPPED. -/
def State.ringsWarm (s : State) : State :=
  (List.range 64).foldl (fun s n =>
    if s.get (RNG.RING_STATUS.STATE n) = 0 then s
    else (s.abortStarted n 0x33).set (RNG.RING_STATUS.STATE n) (if s.bit (RNG.RING_CTRL.ENABLE n) then 3 else 0)) s

/-- R409. A WARM reset breaks every lock that is held: `ls` (lock, owner) held before it. -/
def State.breakAll (s : State) (ls : List (Nat × Nat)) : State :=
  ls.foldl (fun s (p : Nat × Nat) =>
    ((s.set (LCK.LOCK_STATUS.BROKEN p.1) 1).bump LCK.COUNTS.BROKEN).post 218 (p.1 + 256 * p.2)) s

/-- Pair supervision after a reset: the stream starts again; epochs, the SEQUENCE base and the witness's epochs are kept. -/
def State.parReset (s : State) (keepDivs : Bool) : Par :=
  let p := s.par
  { seqBase := p.seqBase, leaseStart := p.leaseStart, leaseSeq := p.leaseSeq, nonce := p.nonce, ownEpoch := p.ownEpoch, witnessFor := p.witnessFor
    keepFrom := s.sent.length, linkLostAt := some s.now, divs := if keepDivs then p.divs else [] }

/-- The carrier's parts that a reset leaves: the EEPROM is read anew, and the 50 ms of R24 count from the seat again. -/
def Car.reset (c : Car) : Car :=
  { c with attempts := 0, retryAt := 0, clReady := false, carrierId := 0, bypass := 0xFF, refusedUntil := 0 }

/-- R505, R506. The parts beyond registers that every reset clears: the engines of every domain, the sequencer with its forces,
the ferry, the recorder's latches, the pair. What MRAM and the carrier's lines hold stays. -/
def State.clearParts (s : State) (warm : Bool) : State :=
  let lost := s.rst.lostForces + s.cyc.forces.length
  let s := [1, 2, 4, 5, 6, 7].foldl State.loseParts s
  let s := s.dropStations
  { s with
    fab := {}, fer := {}, cyc := { boundary := s.now }
    log := { s.log with latch := [] }
    tim := if warm then { inc := s.tim.inc, bpt := s.tim.bpt, lastCommit := s.tim.lastCommit } else {}
    upd := { s.upd with entries := [], activate := none, staged := [], confirmBy := none, deferred := none }
    par := s.parReset warm
    rst := { lostForces := lost, due := s.rst.due.filter fun d => warm && resetWidth d.1 != 0 }
    bst := { lastFail := s.bst.lastFail, position := s.bst.position }
    car := s.car.reset }

/-- R481, R507. After POR and MODULE the domains D1 to D7 are OFF with their contents lost; after WARM those that firmware
wakes in stages 5 and 6 are, while D2 and D3 run; one of the two that was not ON (`asleep`, with whether its contents were lost)
wakes at the release. -/
def State.domsReset (s : State) (warm : Bool) (asleep : List (Nat × Bool)) : State :=
  let s := { s with pwr := {}, car := { s.car with speedFrom := [], speedPart := [] } }
  let s := (if warm then [1, 4, 5, 6, 7] else [1, 2, 3, 4, 5, 6, 7]).foldl (fun s d =>
    (s.set (PWR.D_STATUS.STATE d) 2).setDom d { cold := true }) s
  let s := asleep.foldl (fun s (p : Nat × Bool) => (s.set (PWR.D_STATUS.STATE p.1) (if p.2 then 2 else 1)).setDom p.1 { cold := p.2 }) s
  (List.range 8).foldl (fun s d => if s.domOn d then s.speedStart d else s) s

/-- R508. The results of targets 16 to 19 that a WARM start carries. -/
def carryMask : Nat := 2 ^ 16 + 2 ^ 17 + 2 ^ 18 + 2 ^ 19

/-- R500, R505. WARM. No transaction is in flight after it, so no ring holds a tag. The event rings keep their set-up and
WRITE_INDEX; the count of their head, a LOST_COUNT not yet reported and an overflow episode go (notes/assumptions/133.md). -/
def State.warmReset (s : State) : State :=
  let held := ((List.range 64).filterMap fun l => (s.lockOwner l).map fun o => (l, o)) ++ s.fab.held0.map fun l => (l, 0)
  let gone := s.upd.entries.map (·.1)
  let asleep := ([2, 3].filter fun d => !s.domOn d).map fun d => (d, (s.dom d).cold)
  let passed := s.get BST.PASSED.TARGETS &&& carryMask
  let failed := s.get BST.FAILED.TARGETS &&& carryMask
  let s := (List.range 64).foldl (fun s n => s.set (RNG.RING_STATUS.TAGS_HELD n) 0) s.ringsWarm
  let s := ((s.clearParts true).dropRegs fun _ c => c == .C).domsReset true asleep
  let s := ((s.set BST.PASSED.TARGETS passed).set BST.FAILED.TARGETS failed).set REC.STATUS.QUEUE s.log.queue.length
  let s := { s with bst := { s.bst with carried := targetsOf (passed + failed) }
                    rng := { s.rng with started := [], tagWaits := [], erings := [] } }
  gone.foldl (fun s v => s.post 226 v) ((s.putPairs 10 (inAddr 64) (List.replicate 64 0)).breakAll held)

/-- R500, R505. MODULE, and POR, which also restarts the tick counter. -/
def State.fullReset (s : State) (por : Bool) : State :=
  let s := (s.clearParts false).loseDram
  let s := { s with rng := {}, prtActive := [], plant := 0, acq := {}, bst := { s.bst with position := [] } }
  -- R37: after a POR the seat and the supply are timed from the new tick 0; an unpowered module drives no reset line (R19)
  let s := if por then { s with tick := 0, cyc := {}, log := { s.log with queue := [], lost := 0 }
                                car := { s.car with converters := false, supplyLow := false, supplyAt := 0
                                                    seatedAt := s.car.seatedAt.map fun _ => 0
                                                    resetOutUntil := none, yellowUntil := ticksPerSec / 2 } }
    else { s with log := { s.log with lost := 0 } }
  ((s.dropRegs fun _ c => c != .P).domsReset false []).set REC.STATUS.QUEUE s.log.queue.length

/-- R501, R502. A reset of a kind from a source (R523) is asserted: merged into one in progress of the same or a wider reach. The
token has stopped, so the gate is closed, before any logic is reset. -/
def State.resetHold (s : State) (kind source : Nat) : State :=
  let merged := match s.rst.held with
    | some (k, _) => decide (resetWidth kind ≤ resetWidth k)
    | none => false
  if merged then s
  else
    let s := s.tokenStop.gate.flush
    let s := if resetWidth kind = 0 then s.warmReset else s.fullReset (kind == 0)
    { s with rst := { s.rst with held := some (kind, source) } }

/-- R500. First supply, loss of D0 power-good, or a spent hold-up store. -/
def execSupplyFirstApplied (s : State) : Answer := (s.resetHold 0 0).done

/-! ## Release (R25, R28, R31, R33, R37, R507) -/

/-- R37. SEATED and a supply of 19.2 V or more for 20 ms: the main converters start and POR is released. -/
def State.porRelease (s : State) : State :=
  match s.car.seatedAt with
  | none => s
  | some t =>
    if s.now < max t s.car.supplyAt + 20 * ticksPerMs ∨ s.car.supplyLow then s
    else { s with car := { s.car with converters := true } }

def execPorRelease (s : State) : Answer := s.porRelease.done

/-- R25. The slot measured: its number, and whether it is valid. -/
def slotOf (ohms : Nat) : Nat × Bool :=
  if ohms < 100 then (0, true) else if 3300 ≤ ohms ∧ ohms ≤ 6800 then (1, true) else (0, false)

/-- R541. The configuration in force from this start: its digest, and the pairs that this unit is witness for, of which the
epochs are kept and the holders unknown for 10 ms (R365). -/
def State.configStart (s : State) : State :=
  let bs := s.upd.config
  let digest := if bs = [] then List.replicate 32 0 else (cHash bs).take 32
  let s := (List.range 8).foldl (fun s w => s.set (UPD.CONFIG_DIGEST.DIGEST w) (leAt digest (4 * w) 4)) s
  let body := bs.drop 8192
  let ids := (sectionsOf body (cSections bs)).flatMap fun x => if x.type ≠ 0x21 then []
    else (List.range (x.len / 8)).map fun i => leAt body (x.off + 8 * i) 8
  let old := s.par.witnessFor
  let ws := ids.map fun c => { carrier := c, epoch := ((old.find? fun w => w.carrier == c).map (·.epoch)).getD 0
                               expiry := s.now + 10 * ticksPerMs : WitnessEntry }
  { s with par := { s.par with witnessFor := ws } }

/-- R523. The counts of the kinds. -/
def State.countReset (s : State) (kind : Nat) : State :=
  s.bump (match kind with
    | 0 => RST.COUNTS_A.POR
    | 1 => RST.COUNTS_A.MODULE
    | 2 => RST.COUNTS_B.WARM
    | _ => RST.COUNTS_B.WDT)

/-- The carrier's lines at release: slot, seat, partner, latch; both tokens are classified dead (R33). The lines are taken as
found: no source 6 or 7, and a latch already at its detent starts no action of R38 (the model's choice,
notes/assumptions/132.md). -/
def State.carrierStart (s : State) (ohms : Nat) : State :=
  let (slot, ok) := slotOf ohms
  let s := ((s.set SYS.CARRIER_STATUS.SLOT slot).setB SYS.CARRIER_STATUS.SLOT_FAULT !ok).set PAR.STATUS.UNIT slot
  let s := ((s.setB SYS.CARRIER_STATUS.SEATED s.car.seatedAt.isSome).setB SYS.CARRIER_STATUS.PARTNER_SEATED
    s.car.partnerLine).setB SYS.CARRIER_STATUS.LATCH_REQUEST s.car.latchLine
  ((s.set SYS.CARRIER_STATUS.TOKEN_SELF_LIVE 0).set SYS.CARRIER_STATUS.TOKEN_PARTNER_LIVE 0).gate

/-- R507. A reset is released, `ohms` measured at SLOT_ID, and the start sequence begins. A POR waits for its release (R37). -/
def State.resetRelease (s : State) (ohms : Nat) : State :=
  match s.rst.held with
  | none => s
  | some (kind, source) =>
    if kind = 0 ∧ ¬ s.car.converters then s
    else
      let warm := resetWidth kind = 0
      let lost := s.rst.lostForces
      let s := { s with rst := { s.rst with held := none, startTick := s.now, starting := true, stopped := false, lostForces := 0 }
                        cyc := { s.cyc with auto := true } }
      let s := ((s.set RST.CAUSE.KIND kind).set RST.CAUSE.SOURCE source).countReset kind
      let s := s.set RST.START_STATUS.STAGE (if warm then 4 else 1)
      let s := (((s.carrierStart ohms).configStart).leaseStart).busRead 0 0x20
      let s := s.recordChange 0x8003 0 0xFF 0 (leBytes 4 lost ++ leBytes 4 0)
      if warm then ((List.range 8).filter fun d => !s.domOn d).foldl State.startWake s else s

def execResetRelease (ohms : Nat) (s : State) : Answer := (s.resetRelease ohms).done

/-! ## The carrier EEPROM (R28 to R30) -/

/-- R29, R30. Why the contents are invalid (1), the CRC wrong (2), or 0. -/
def eepromCause (bs : List Nat) : Nat :=
  if bs.take 4 != [0x55, 0x54, 0x43, 0x32] || bs.getD 4 0 != 1 || bs.getD 5 0 == 0 || bs.getD 5 0 == 0xFF then 1
  else if crc32c ((bs ++ List.replicate 252 0).take 252) != leAt bs 252 4 then 2
  else 0

/-- R30. The carrier is taken as unknown. CARRIER_REV reads 0 then, the model's choice (notes/assumptions/132.md): R31 has it
copy byte 0x05 only. -/
def State.eepromBad (s : State) (cause : Nat) : State :=
  let n := s.car.attempts
  let s := { s with car := { s.car with carrierId := 0, bypass := 0xFF } }
  ((s.set SYS.CARRIER_STATUS.EEPROM_VALID 0).set SYS.CARRIER_STATUS.CARRIER_REV 0).recordEvent 7 [cause, n, 0, 0, 0, 0, 0, 0]

/-- R28, R29. One read that has won arbitration. -/
def State.eepromRead (s : State) (bs : List Nat) : State :=
  let c := eepromCause bs
  if c ≠ 0 then s.eepromBad c
  else
    let s := { s with car := { s.car with carrierId := leAt bs 0x1C 8, bypass := bs.getD 0x24 0 } }
    (s.set SYS.CARRIER_STATUS.EEPROM_VALID 1).set SYS.CARRIER_STATUS.CARRIER_REV (bs.getD 5 0)

/-- R28. An attempt to read: `none` where arbitration is lost, after which the read restarts 1 ms later; answers whether the
read is at its end. -/
def State.eepromTry (s : State) (bs : Option (List Nat)) : State × Bool :=
  if s.now < s.car.retryAt then (s, false) else
  let s := { s with car := { s.car with attempts := s.car.attempts + 1 } }
  match bs with
  | some b => ((s.eepromRead b), true)
  | none => if 8 ≤ s.car.attempts then (s.eepromBad 3, true)
    else ({ s with car := { s.car with retryAt := s.now + ticksPerMs } }, false)

/-! ## Boot (R537, R543, R547, R548) -/

/-- R537. Whether a slot's container passes checks 1 to 8. -/
def State.slotGood (s : State) (i : Nat) : Bool :=
  let bs := (s.slot i).container
  let body := bs.drop 8192
  !headerBad bs bs.length && cKind bs == 1 && decide (8192 ≤ bs.length) && (s.headerCheck bs s.upd.plantKeys).isNone
  && shake256 body 64 == cHash bs

/-- The address of settings area `i`. -/
def settingsAt (i : Nat) : Nat := 0x23000000 + 0x100000 * i

/-- R547. Fall-back with a cause; answers whether a slot is left to load. -/
def State.fallBack (s : State) (cause : Nat) : State × Bool :=
  let i := s.activeSlot
  let s := (s.setSlotState i 4).set UPD.ACTIVE.TRIAL_STARTS 0
  let o := 1 - i
  if s.slotState o = 3 ∧ s.slotGood o then
    let s := s.set UPD.ACTIVE.SLOT o
    let zeros := List.replicate 0x100000 0
    let s := (s.store (settingsAt i) zeros).written 8 (settingsAt i) zeros
    ((s.recordSlot 6 o cause 4 0xFF 0).post 228 (o + 256 * cause), true)
  else (s, false)

/-- R547. Stage 4 by the boot ROM; `ok` says whether the eMMC gave the active slot's container. -/
def State.boot (s : State) (ok : Bool) : State × Bool :=
  let i := s.activeSlot
  let fall := s.upd.fall
  let s := { s with upd := { s.upd with fall := false } }
  if fall then s.fallBack 1
  else if s.slotState i = 2 ∧ s.get UPD.ACTIVE.TRIAL_STARTS = 1 then s.fallBack 2
  else if !ok || !s.slotGood i || !(s.slotState i == 2 || s.slotState i == 3) then s.fallBack 3
  else if s.slotState i = 2 then (s.set UPD.ACTIVE.TRIAL_STARTS 1, true)
  else (s, true)

/-! ## The stages (R507, R508) -/

/-- R507. The start stops in its stage, in pair state OUT. -/
def State.startStops (s : State) : State :=
  (({ s with rst := { s.rst with starting := false, stopped := true } }).goOut 5)

/-- The results of a stage's targets: `bad` the targets that fail. LBIST and MBIST show the factory signature where they
pass; where they fail the signature is a free value. -/
def State.stageTests (s : State) (ts : List Nat) (bad : Nat) : State :=
  ts.foldl (fun s t =>
    let pass := !bad.testBit t
    let (v, s) := s.fresh
    let exp := Config.bistExpected t
    (s.bistResult t pass (if pass then exp else v) exp 0 0).post 248 (t + 256 * b2n pass)) s

/-- R507, R508. A domain that the start wakes. -/
def State.startDomain (s : State) (d seen : Nat) : State := if s.domOn d || s.domFailed d then s else s.domUp d seen

def State.toStage (s : State) (n : Nat) : State := s.set RST.START_STATUS.STAGE n

/-- Whether some target of `ts` is among `bad`. -/
def anyBad (ts : List Nat) (bad : Nat) : Bool := ts.any bad.testBit

/-- R507, R508. The stage in progress ends. `bad`: the targets whose test fails; `seen`: what D1 (the comparator test, R129) or D6
(reference checks, R337) senses; `eeprom`: the carrier EEPROM's bytes, none where arbitration is lost; `ok`: the work that no
other operand tells of succeeds. -/
def State.startUp (s : State) (bad seen : Nat) (eeprom : Option (List Nat)) (ok : Bool) : State :=
  let warm := resetWidth (s.get RST.CAUSE.KIND) == 0
  match s.stageNow with
  | 1 =>
    let s := (((s.zeroed .sram).zeroed .pair).stageTests [7, 17, 18] bad)
    if !ok || anyBad [7, 17, 18] bad then s.startStops else s.toStage 2
  | 2 =>
    if !ok || s.domFailed 2 then s.startStops
    else
      let (s, done) := (s.startDomain 2 0).eepromTry eeprom
      if done then s.toStage 3 else s
  | 3 =>
    if !ok || s.domFailed 3 then s.startStops
    else
      let s := ((s.startDomain 3 0).zeroed .dram).stageTests [16, 19] bad
      if anyBad [16, 19] bad then s.startStops else s.toStage 4
  | 4 =>
    let first := warm && s.car.attempts == 0
    let s := if first then s.stageTests [7] bad else s
    let s := if warm then [2, 3].foldl (fun s d => s.startDomain d 0) s else s
    if (first && anyBad [7] bad) || (warm && (s.domFailed 2 || s.domFailed 3)) then s.startStops
    else
      let (s, done) := if warm then s.eepromTry eeprom else (s, true)
      if !done then s
      else
        let (s, left) := s.boot ok
        if left then s.toStage 5 else s.startStops
  | 5 =>
    let s := [4, 5, 6, 7].foldl (fun s d => s.startDomain d seen) s
    (s.stageTests [3, 4, 5, 6, 8, 9, 10, 11, 12, 13, 14, 15, 21, 22, 23, 24] bad).toStage 6
  | 6 => ((s.startDomain 1 seen).stageTests [0, 1, 2, 20] bad).toStage 7
  | 7 => s.toStage 8
  | _ => s

def execStartUp (bad : Nat) (seen : Fin 256) (eeprom : Option (List Nat)) (ok : Bool) (s : State) : Answer :=
  (s.startUp bad seen eeprom ok).done

/-- R28. The read starts again 1 ms after arbitration was lost. -/
def State.eepromRetry (s : State) (bs : Option (List Nat)) : State :=
  let warm := resetWidth (s.get RST.CAUSE.KIND) == 0
  let here := s.stageNow == (if warm then 4 else 2) && s.car.attempts != 0
  if !here then s
  else
    let (s, done) := s.eepromTry bs
    if !done then s
    else if warm then
      let (s, left) := s.boot true
      if left then s.toStage 5 else s.startStops
    else s.toStage 3

def execEepromArbitrationRetry (bytes : Option (List Nat)) (s : State) : Answer := (s.eepromRetry bytes).done

/-- R507. START_LIMIT has passed. -/
def State.startLimit (s : State) : State :=
  if s.rst.starting && decide (s.rst.startTick + max 1 (s.get RST.START_LIMIT.SECONDS) * ticksPerSec ≤ s.now) then s.startStops
  else s

def execStartLimitExpiry (s : State) : Answer := s.startLimit.done

/-! ## RST.CMD (R502, R504, R523) -/

/-- R525, R528. An RST.CMD ends; a refusal asserts source 1. -/
def State.rstEnd (s : State) (op arg status reason origin priv session : Nat) : State :=
  let s := ((s.set RST.CMD_STATUS.STATUS status).set RST.CMD_STATUS.REASON reason).set RST.CMD_STATUS.PENDING 0
  let s := s.recordCommand 2 op arg status reason origin priv session
  if status = 0x60 then s.post 1 (op + 16 * reason) else s

/-- R502. WARM or MODULE: on a LEAD after a planned hand-over, otherwise at once. -/
def State.rstWhole (s : State) (op origin priv session : Nat) : State :=
  let kind := if op = 1 then 2 else 1
  if priv ≠ 1 then s.rstEnd op 0 0x60 1 origin priv session
  else if s.pairState ≠ 2 then (s.rstEnd op 0 0 0 origin priv session).resetHold kind 1
  else match s.startHandover 3 with
    | (s, 0) =>
      ({ s with rst := { s.rst with waiting := some ⟨kind, 0, origin, priv, session⟩ } }).set RST.CMD_STATUS.PENDING 1
    | (s, _) => s.rstEnd op 0 0x60 2 origin priv session

def execRstWarm (init : Fin 22) (priv : Fin 8) (session : Fin 65536) (s : State) : Answer :=
  (s.rstWhole 1 (originOf init) priv session).done
def execRstModule (init : Fin 22) (priv : Fin 8) (session : Fin 65536) (s : State) : Answer :=
  (s.rstWhole 2 (originOf init) priv session).done

/-- R500, R501, R505, R506. A DOMAIN reset of D1 to D7: rings stop, contents and classes C and D are lost, and the domain wakes. It is
merged into a reset in progress of its own domain or of a wider kind. -/
def State.domainReset (s : State) (d : Nat) : State :=
  if s.rst.held.isSome || (s.dom d).resetting then s else
  let s := if s.domOn d || s.domState d == 4 then s.domDown d 0x40 else s
  let s := ((s.coresDown d).rejoinDown d).loseDomain d false
  let ends (s : State) (r : Option PwrReq) : State := match r with
    | some r => s.reqEnd d r 0x33 0
    | none => s
  let s := ends (ends s (s.dom d).req) (s.dom d).pend
  let s := { s with pwr := { s.pwr with bus := s.pwr.bus.filter fun c => c.page != d || c.read } }
  let s := ((s.set (PWR.D_STATUS.BUSY d) 0).set (PWR.D_STATUS.PENDING d) 0).set (PWR.D_STATUS.SAVED d) 0
  (((s.set (PWR.D_STATUS.STATE d) 2).setDom d { cold := true, resetting := true }).speedStop d).startWake d

/-- R523. DOMAIN. -/
def State.rstDomain (s : State) (d origin priv session : Nat) : State :=
  if priv ≠ 1 then s.rstEnd 3 d 0x60 1 origin priv session
  else if d = 0 ∨ ((d = 1 ∨ d = 4 ∨ d = 5) ∧ s.pairState ≠ 5) then s.rstEnd 3 d 0x60 3 origin priv session
  else (s.domainReset d).rstEnd 3 d 0 0 origin priv session

def execRstDomain (init : Fin 22) (priv : Fin 8) (session : Fin 65536) (d : Fin 8) (s : State) : Answer :=
  (s.rstDomain d (originOf init) priv session).done

/-- R500, R505. SVC_CORE: the core starts again from its reset vector. A TARGET above 3 names no core. -/
def State.rstCore (s : State) (k origin priv session : Nat) : State :=
  if priv ≠ 1 then s.rstEnd 4 k 0x60 1 origin priv session
  else (if k < 4 then s.svcRestart k else s).rstEnd 4 k 0 0 origin priv session

def execSvcCore (init : Fin 22) (priv : Fin 8) (session : Fin 65536) (core : Fin 8) (s : State) : Answer :=
  (s.rstCore core (originOf init) priv session).done

/-- R504. The partner has sent no HEARTBEAT for 10 ms, or reported OUT. -/
def State.partnerSilent (s : State) : Bool :=
  (match s.par.heartbeatAt with
    | some t => decide (t + 10 * ticksPerMs ≤ s.now)
    | none => true) || s.get PAR.STATUS.PARTNER_STATE == 5

/-- R19, R504. PARTNER_RESET: the line is low for 20 us. -/
def State.rstPartner (s : State) (origin priv session : Nat) : State :=
  if priv ≠ 1 then s.rstEnd 5 0 0x60 1 origin priv session
  else if !(s.isDriving && s.partnerSeated && !s.bit SYS.CARRIER_STATUS.TOKEN_PARTNER_LIVE && s.partnerSilent) then
    s.rstEnd 5 0 0x60 4 origin priv session
  else
    let s := { s with car := { s.car with resetOutUntil := some (s.now + 20 * ticksPerUs) } }
    ((s.send (.pin "PARTNER_RESET_OUT" false)).post 3 0).rstEnd 5 0 0 0 origin priv session

def execPartnerReset (init : Fin 22) (priv : Fin 8) (session : Fin 65536) (s : State) : Answer :=
  (s.rstPartner (originOf init) priv session).done

/-- OP 6 to 15. -/
def execRstCmdReserved (init : Fin 22) (priv : Fin 8) (session : Fin 65536) (op : Fin 10) (s : State) : Answer :=
  (s.rstEnd (6 + op) 0 0x60 5 (originOf init) priv session).done

/-- R502, R548. After a hand-over boundary: a reset that waits follows once the unit no longer leads; one whose hand-over
has failed is refused, or, for a fall-back, deferred and tried again at every boundary. -/
def State.waitingReset (s : State) : State :=
  match s.rst.waiting with
  | none => s
  | some w =>
    let drop (s : State) : State := { s with rst := { s.rst with waiting := none } }
    let op := if w.kind = 2 then 1 else 2
    if w.asker = 1 ∧ ¬ s.upd.fall then drop s
    else if s.pairState ≠ 2 then
      let s := drop s
      let s := if w.asker = 0 then s.rstEnd op 0 0 0 w.origin w.priv w.session else s
      s.resetHold w.kind 1
    else if s.par.handover.isSome then s
    else if w.asker = 0 then (drop s).rstEnd op 0 0x60 2 w.origin w.priv w.session
    else
      let again := match s.upd.deferred with
        | some t => decide (t + 60 * ticksPerSec ≤ s.now)
        | none => true
      let s := if again then ({ s with upd := { s.upd with deferred := some s.now } }).post 229 0 else s
      (s.startHandover 3).1

/-! ## Watchdog and PARTNER_RESET_IN (R19, R502, R503) -/

/-- R502. Watchdog expiry or PARTNER_RESET_IN: on a driving unit an event of R375, the reset following 10 us after it; on any other
unit the reset. -/
def State.forcedReset (s : State) (cause kind source : Nat) : State :=
  if s.isDriving then
    let s := s.goOut cause
    { s with rst := { s.rst with due := some (kind, source, s.now + 10 * ticksPerUs) } }
  else s.resetHold kind source

/-- R502. The reset that is due. -/
def State.resetDue (s : State) : State :=
  match s.rst.due with
  | none => s
  | some (kind, source, t) =>
    if s.now < t then s else State.resetHold { s with rst := { s.rst with due := none } } kind source

/-- R19. A low of `ticks` on PARTNER_RESET_IN: 5 us or more. -/
def execPartnerResetInLow (ticks : Nat) (s : State) : Answer :=
  (if ticks < 5 * ticksPerUs then s else s.forcedReset 7 1 2).done

/-- R503. The watchdog starts; it cannot be stopped. -/
def State.wdtEnable (s : State) : State :=
  if s.bit RST.WDT_CFG.ENABLE then s
  else ({ s with rst := { s.rst with wdtStart := some s.now, warned := false } }).set RST.WDT_CFG.ENABLE 1

def execWdtEnable (s : State) : Answer := s.wdtEnable.done

/-- R503. A write of RST.WDT_KICK. -/
def State.wdtKick (s : State) (init key : Nat) : State :=
  if key ≠ 0xA5 ∨ init ≠ s.get RST.WDT_CFG.FEEDER then s.bump RST.WDT_STATUS.BAD_KICKS
  else if s.rst.wdtStart.isNone then s
  else { s with rst := { s.rst with wdtStart := some s.now, warned := false } }

def execWdtKick (init : Fin 22) (key : Fin 256) (s : State) : Answer := (s.wdtKick init key).done

/-- TIMEOUT in ticks. -/
def State.wdtLimit (s : State) : Nat := max 1 (s.get RST.WDT_TIMEOUT.MS) * ticksPerMs

/-- R523. WDT_STATUS.REMAINING in ms. -/
def State.wdtRemaining (s : State) : Nat :=
  match s.rst.wdtStart with
  | some t => (t + s.wdtLimit - s.now) / ticksPerMs
  | none => 0

/-- R503. Half of TIMEOUT has passed without a kick. -/
def State.wdtWarning (s : State) : State :=
  match s.rst.wdtStart with
  | none => s
  | some t =>
    if s.rst.warned || decide (s.now < t + s.wdtLimit / 2) then s
    else ({ s with rst := { s.rst with warned := true } }).post 2 s.wdtRemaining

def execWdtWarning (s : State) : Answer := s.wdtWarning.done

/-- R502, R503. The watchdog expires. -/
def State.wdtExpiry (s : State) : State :=
  match s.rst.wdtStart with
  | none => s
  | some t => if s.now < t + s.wdtLimit then s
    else s.forcedReset 6 (if s.bit RST.WDT_CFG.ACTION then 4 else 3) 3

def execWdtExpiry (s : State) : Answer := s.wdtExpiry.done

/-! ## Other resets (R127, R128, R548) -/

/-- R128. The DOMAIN reset of D1 after FAILSTOP. -/
def execFailstopDomainReset (s : State) : Answer := (if s.bit VOT.STATUS.FAILSTOP then s.domainReset 1 else s).done

/-- R127, R132. VOT.CMD LEAVE_SPLIT. -/
def State.leaveSplit (s : State) (init : Nat) : State :=
  let s := s.votReplace
  if s.get VOT.STATUS.MODE ≠ 2 then s.votEnd init 4 0 0x60 else (s.votEnd init 4 0 0).domainReset 1

def execLeaveSplit (init : Fin 22) (s : State) : Answer := (s.leaveSplit init).done

/-- R548. CONFIRM has not come in time: the unit falls back through a WARM reset, on a LEAD after a hand-over. -/
def State.confirmExpiry (s : State) : State :=
  match s.upd.confirmBy with
  | none => s
  | some t =>
    if s.now < t || s.slotState s.activeSlot != 2 then s
    else
      let s := { s with upd := { s.upd with confirmBy := none, fall := true } }
      if s.pairState ≠ 2 then s.resetHold 2 1
      else
        let s := (s.startHandover 3).1
        { s with rst := { s.rst with waiting := some ⟨2, 1, 0, 0xFF, 0⟩ } }

def execConfirmTimeExpiry (s : State) : Answer := s.confirmExpiry.done

/-! ## Activation (R546) -/

/-- R546. The activation restart. -/
def State.activationRestart (s : State) : State :=
  let i := 1 - s.activeSlot
  let s := s.endActivate 0 0
  let s := ((s.setSlotState i 2).set UPD.ACTIVE.SLOT i).set UPD.ACTIVE.TRIAL_STARTS 0
  let s := s.recordSlot 4 i 0 0 0xFF 0
  let kept := s.bytes (settingsAt (1 - i)) 0x100000
  let s := (s.store (settingsAt i) kept).written 8 (settingsAt i) kept
  s.resetHold 2 1

/-- R546. The boundary at or after T: by pair state. -/
def State.activationBoundary (s : State) : State :=
  match s.upd.activate with
  | none => s
  | some a =>
    if a.handing then
      if s.pairState ≠ 2 then s.activationRestart else if s.par.handover.isNone then s.endActivate 0x60 15 else s
    else if !s.bit TIM.STATUS.SET || decide (s.tim.bpt / 2 ^ 32 < a.time) then s
    else if s.pairState = 2 then
      match s.startHandover 4 with
      | (s, 0) => { s with upd := { s.upd with activate := some { a with handing := true } } }
      | (s, _) => s.endActivate 0x60 15
    else if s.pairState = 0 ∧ ¬ a.allow then s.endActivate 0x60 15
    else s.activationRestart

end Sys2Proof.Machine
end

