-- ==== Sys2Proof/Machine/Carrier.lean ====
section
/-! DEFINITION. The carrier's lines: seat, latch, presence, tokens, supply; the oscillator and the speed monitors (spec/01 R24,
R31 to R40, R584; spec/02 R52, R56 to R62; spec/11 R370, R371, R375, R381; spec/20 R567).

Marks (notes/assumptions): DEDUCED 116, 130, 131. -/

namespace Sys2Proof.Machine

/-- The lines reach their registers while no reset is held (R31). -/
def State.lineSet (s : State) (f : Fld) (b : Bool) : State := if s.rst.held.isSome then s else s.setB f b

/-- R34, R37, R40. The own presence net: seated, or withdrawn, which closes the gate and, unless the unit is OUT, is an unplanned
withdrawal. -/
def State.seatedChange (s : State) (seated : Bool) : State :=
  let s := { s with car := { s.car with
    seatedAt := if seated then some (s.car.seatedAt.getD s.now) else none
    clReady := s.car.clReady && seated } }
  -- R24: channels are not valid again before 50 ms seated
  let s := if seated then s else (List.range 8).foldl (fun s n => s.set (CLP.CH_STATUS.VALID n) 0) s
  let s := (s.lineSet SYS.CARRIER_STATUS.SEATED seated).gate
  if seated || s.pairState == 5 then s.refreshPair
  else ((s.recordEvent 3 [s.pairState, 0, 0, 0, 0, 0, 0, 0]).goOut 3).refreshPair

def execSeatedChange (seated : Bool) (s : State) : Answer := (s.seatedChange seated).done

/-- R32, R381. The partner's presence net. -/
def State.presence (s : State) (seated : Bool) : State :=
  let s := { s with car := { s.car with partnerLine := seated } }
  if s.rst.held.isSome || s.partnerSeated == seated then s
  else ((s.setB SYS.CARRIER_STATUS.PARTNER_SEATED seated).post 7 (b2n seated)).roleWithPartner

def execCarrierPresence (seated : Bool) (s : State) : Answer := (s.presence seated).done

/-- R38. The latch of a LEAD: a planned hand-over, or, while one is under way towards an eligible partner, that one, after
which the unit goes OUT; otherwise a refusal. -/
def State.latchLead (s : State) : State :=
  match s.par.handover with
  | some h =>
    if s.get PAR.STATUS.PARTNER_STATE = 3 && s.par.partnerEligible
    then { s with par := { s.par with handover := some { h with latch := true } } } else s.latchRefused
  | none => match s.startHandover 1 with
    | (s, 0) => s
    | (s, _) => s.latchRefused

/-- R38, R39, R381. The latch reaches its first detent. -/
def State.latchActs (s : State) : State :=
  match s.pairState with
  | 0 => ((((s.tokenStop).dropHandover).closeRequest).noAlone).setPairState 5
  | 2 => s.latchLead
  | 5 => ((s.tokenStop).closeRequest).noAlone
  | _ => { s with par := { s.par with latchAt := some s.cycle } }

/-- R32. The latch line changes. -/
def State.latch (s : State) (on : Bool) : State :=
  let s := { s with car := { s.car with latchLine := on } }
  if s.rst.held.isSome || s.bit SYS.CARRIER_STATUS.LATCH_REQUEST == on then s
  else
    let s := (s.setB SYS.CARRIER_STATUS.LATCH_REQUEST on).post 6 (b2n on)
    if on then s.latchActs else s

def execCarrierLatch (on : Bool) (s : State) : Answer := (s.latch on).done

/-- R38. A unit that neither led nor drove alone at its latch request goes OUT at the boundary after it, whatever it has become
since (notes/assumptions/130.md). -/
def State.latchBoundary (s : State) : State :=
  match s.par.latchAt with
  | none => s
  | some c =>
    if s.cycle ≤ c then s
    else
      State.goOut { s with par := { s.par with latchAt := none } } 5

/-! ## Tokens (R33, R34, R370, R375, R376) -/

/-- R33. A token line is classified live. A driving unit past its claim window gives way to the partner's token (R370). -/
def State.tokenLive (s : State) (partner : Bool) : State :=
  if s.rst.held.isSome then s
  else if partner then
    let s := (s.set SYS.CARRIER_STATUS.TOKEN_PARTNER_LIVE 1).gate
    let window := match s.par.claimUntil with
      | some t => decide (s.now < t)
      | none => false
    if s.isDriving && !window then s.demote 1 else s
  else
    (State.set { s with par := { s.par with selfDeadAt := none } } SYS.CARRIER_STATUS.TOKEN_SELF_LIVE 1).gate

def execTokenLineLive (partner : Bool) (s : State) : Answer := (s.tokenLive partner).done

/-- R33. A token line is classified dead. The partner's, while it is seated and was driving, is a positive failure notice
(R375). -/
def State.tokenDead (s : State) (partner : Bool) : State :=
  if partner then
    let was := s.bit SYS.CARRIER_STATUS.TOKEN_PARTNER_LIVE
    let s := (s.set SYS.CARRIER_STATUS.TOKEN_PARTNER_LIVE 0).gate
    let p := s.get PAR.STATUS.PARTNER_STATE
    if was && s.partnerSeated && (p == 0 || p == 2) then s.takeover 2 s.nextEpoch else s
  else
    let s := (s.set SYS.CARRIER_STATUS.TOKEN_SELF_LIVE 0).gate
    if s.bit PAR.STATUS.TOKEN_RAISED && s.par.selfDeadAt.isNone then
      { s with par := { s.par with selfDeadAt := some s.now } } else s

def execTokenLineDead (partner : Bool) (s : State) : Answer := (s.tokenDead partner).done

/-! ## FAULT LED, oscillator, supply (R52, R423, R567, R584) -/

def execFaultLedAck (s : State) : Answer := (s.set SYS.FAULT_LED.AWAIT 0).done
def execFaultLedRaise (s : State) : Answer := (s.set SYS.FAULT_LED.AWAIT 1).done

/-- R52, R423. The timing source changes over. -/
def State.oscillator (s : State) (fallback : Bool) : State :=
  if s.car.fallback == fallback then s
  else (({ s with car := { s.car with fallback := fallback } }).setB TIM.STATUS.UNCALIBRATED fallback).post 178 (b2n fallback)

def execReferenceOscillatorFail (s : State) : Answer := (s.oscillator true).done
def execReferenceReturn (s : State) : Answer := (s.oscillator false).done

/-- R567. The supply is back before the store is exhausted. -/
def execSupplyReturn (s : State) : Answer := State.done { s with car := { s.car with supplyLow := false, supplyAt := s.now } }

/-! ## Speed monitors (R56 to R62) -/

/-- R58. The threshold applied to a domain. -/
def State.speedFloor (s : State) (d : Nat) : Nat :=
  let f := s.get SYS.SPEED_FLOOR.FLOOR
  if d ≠ 0 ∧ s.get (PWR.D_STATUS.RAIL d) = 0 then f * 4 / 5 else f

/-- R60. The running window of domain `d` has been full so far: the domain ON and the monitor enabled since its start. -/
def State.speedFull (s : State) (d : Nat) : Bool :=
  s.domOn d && Nat.testBit (s.get SYS.SPEED_CTRL.ENABLE) d && !s.car.speedPart.contains d

/-- R56, R61. The window of domain `d` that began at `t` has run its 65,536 ticks. -/
def State.speedDue (s : State) (d t : Nat) : Bool :=
  Sparse.find s.car.speedFrom d == some t && decide (t + 65536 ≤ s.now)

/-- R56, R60 to R62. The window of domain `d` that began at `t` ends with `count` completions, and the next one begins. Only
full windows are held against the floor; a monitor that is disabled counts nothing, and its window end still updates
SPEED_n (notes/assumptions/131.md). -/
def State.speedUpdate (s : State) (d t count : Nat) : State :=
  let ok := s.speedFull d
  let on := Nat.testBit (s.get SYS.SPEED_CTRL.ENABLE) d
  let low := ok && decide (count < s.speedFloor d)
  let s := (((s.set (SYS.SPEED.COUNT d) (if on then count else 0)).setB (SYS.SPEED.VALID d) ok).setB
    (SYS.SPEED.BELOW_FLOOR d) low).wrap (SYS.SPEED.SEQ d)
  let s := { s with car := { s.car with
    speedFrom := Sparse.insert s.car.speedFrom d (t + 65536)
    speedPart := if on && s.domOn d then s.car.speedPart.filter (· != d) else addOnce s.car.speedPart d } }
  let s := if ok && (Sparse.find s.bst.speeds d).isNone then
    { s with bst := { s.bst with speeds := Sparse.insert s.bst.speeds d count } } else s
  let seen := s.get SYS.SPEED_STATUS.LOW_SEEN
  if low && !seen.testBit d then
    ((s.set SYS.SPEED_STATUS.LOW_SEEN (setBit seen d)).post 8 (d + 256 * count)).recordEvent 5
      ([d, 0, 0, 0] ++ leBytes 4 count)
  else s

/-- R56, R61. A window ends, once its 65,536 ticks have run; where no window runs nothing changes. -/
def State.speedWindow (s : State) (d count : Nat) : State :=
  match Sparse.find s.car.speedFrom d with
  | none => s
  | some t => if s.speedDue d t then s.speedUpdate d t count else s

/-- COUNT as whole multiples of 65,536 and the rest: COUNT / 65,536 is the speed margin of R56. -/
def execSpeedWindowEnd (d : Fin 8) (whole : Fin 16) (part : Fin 65536) (s : State) : Answer :=
  (s.speedWindow d (65536 * whole + part)).done

end Sys2Proof.Machine
end

