-- ==== Sys2Proof/Machine/Boundary.lean ====
section
/-! DEFINITION. KEND and the base-cycle boundary (spec/04 R110, R111, R122; spec/05 R134 to R149; spec/11 R354, R356, R361,
R376, R379; spec/17 R502, R516; spec/18 R546).

Marks (notes/assumptions): DEDUCED 31, 40, 116; DESIGN CHOICE 46. -/

namespace Sys2Proof.Machine

/-! ## KEND (R110, R111) -/

/-- R111. What a core makes of KEND: M mode, and the running class's number in rs1. The request stands for the class ended. -/
def State.kendIntent (s : State) (rs1 : Nat) (k : Core) : Intent :=
  if !k.mmode then .trap 27 (keafyBits 1 0x2B 0 rs1 0)
  else match s.runClass with
    | none => .trap 28 (k.reg rs1)
    | some c => if k.reg rs1 = c then .req { kind := .fence, addr := c, mmode := k.mmode } else .trap 28 (k.reg rs1)

/-- R110, R122 to R125, R359, R361, R518. What a class-0 KEND starts: the scrub, the voter's pending command and rejoin, the
tether image, digests, the test of a core that a rotation step has taken out. -/
def State.kendZero (s : State) : State :=
  let s := s.voterKend
  let s := { s with cyc := { s.cyc with kendAt := some s.now } }
  if s.bit VOT.STATUS.FAILSTOP then s else ((s.tetherKend).digestKend).rotationKend

/-- KEND. -/
def State.kend (s : State) (rs1 : Nat) : State :=
  let zero := s.runClass == some 0
  let s := s.together (s.kendIntent rs1) fun s _ q => (s.endClass q.addr, .ok Core.retire)
  if zero && s.phase 0 != 2 then s.kendZero else s

def execKend (rs1 : Fin 32) (s : State) : Answer := (s.kend rs1).done

/-! ## The boundary (R134) -/

/-- R134. The boundary is counted, at its nominal tick. -/
def State.countBoundary (s : State) : State :=
  ({ s with cyc := { s.cyc with boundary := s.cyc.boundary + s.p0 } }).set2 CYC.CYCLE_LO.NUMBER CYC.CYCLE_HI.NUMBER (s.cycle + 1)

/-- R354, R374 to R381. What the pair does at a boundary: hand-over, either way, a take-over's DOWN, a latch request. A lead by
hand-over tethers the old lead (R379). -/
def State.pairBoundary (s : State) : State :=
  let s := s.handoverBoundary
  let trail := s.isTrail
  let s := s.handInBoundary
  let s := if trail && s.isDriving then s.startTether else s
  let s := s.takeoverSkips
  let s := if s.par.takeoverDue && s.isDriving then s.takeoverDown else s
  s.latchBoundary

/-- R174. A new lead crosses as the old lead's CROSSED told it. -/
def State.leadCross (s : State) : State :=
  match s.par.follow.crossed with
  | some (b, _) => if s.isDriving && decide (b ≤ s.cycle) then (s.putFollow { s.par.follow with crossed := none }).trailCross
    else s
  | none => s

/-- R135 to R138, R145, R171, R257. In RUN a driving unit releases its classes, and while it is halted in DEBUG sends DOWN
frames at each release (R190); in STOP cuts go on (R148). -/
def State.boundaryRelease (s : State) : State :=
  if !s.inRun then s.stopCuts
  else if !s.isDriving then s
  else
    let (s, cut) := s.releases
    let (s, ks) := s.holdClasses cut
    let s := ks.foldl State.startClass s
    let s := if cut.contains 0 then s.motRelease else s
    if s.vot.halted then s.launchDue else s

/-- R134. A base-cycle boundary, one base cycle after the last: commits in progress end first (R138); a reset that it brings
ends it. -/
def State.baseBoundary (s : State) : State :=
  if s.now < s.cyc.boundary + s.p0 then s else
  let s := s.finishCommits
  let s := if s.isDriving then s.budgetBoundary else s
  let s := ((s.countBoundary.timBoundary).canBoundary).crossBoundary
  let held := s.rst.held.isSome
  let s := (s.waitingReset).activationBoundary
  if s.rst.held.isSome && !held then s
  else
    let s := (((s.pairBoundary.overrunStop).cmdBoundary).autostart).controlBoundary
    let s := ((s.forceBoundary).leadCross).crossBudget.crossTry
    ((s.boundaryRelease).followCuts).lagBoundary

def execBaseCycleBoundary (s : State) : Answer := s.baseBoundary.done

end Sys2Proof.Machine
end

