-- ==== Sys2Proof/Machine/Bus.lean ====
section
/-! DEFINITION. Accesses to register space: what a write does to each field (spec/00 R13, R14, spec/19 R553 to R563, and the
register table of each block), and what a read returns (R558). A register whose write is a command goes to the operation that
the command's own row uses.

Marks (notes/assumptions): DEDUCED 14, 15, 16, 25, 104, 142; DESIGN CHOICE 11, 13. -/

namespace Sys2Proof.Machine

/-- The nearer limit of `lo` to `hi`. -/
def clampTo (lo hi v : Nat) : Nat := if v < lo then lo else if hi < v then hi else v

/-- The instance whose register at `reg` of each instance stands at `off`, in an array of `n` at `base`. -/
def instAt (base n stride reg off : Nat) : Option Nat :=
  if base + reg ≤ off ∧ off < base + n * stride ∧ (off - base) % stride = reg then some ((off - base) / stride) else none

/-- R561. The set-up lock of block `b` is closed. -/
def State.locked (s : State) (b : Nat) : Bool := blockHasLock b && s.bit ⟨b * 0x10000, 0, 1, 0⟩

/-- The bits of a field in a written value. -/
def Fld.of (f : Fld) (v : Nat) : Nat := bitsOf v f.lo f.w

/-! ## What a write stores -/

/-- R247. The fields that SPR's own operations write. -/
def sprOwn (off : Nat) : Bool := (instAt 0x100 16 0x40 0 off).isSome || (instAt 0x100 16 0x40 8 off).isSome

/-- Fields that are not simply stored: enables with checks, and values that an operation takes over. -/
def ownWrite (b off lo : Nat) : Bool :=
  match b with
  | 2 => off == 0x10 && lo == 0
  | 3 => off == 0x50
  | 7 => (instAt 0x1000 64 0x40 0x20 off).isSome
  | 8 => lo == 31 && (instAt 0x3000 4 0x20 4 off).isSome
  | 11 => lo == 0 && (instAt 0x100 4 0x40 0 off).isSome
  | 13 => off == 4
  | 14 => sprOwn off
  | 15 => off == 4
  | 16 => off == 4
  | 17 => off == 4
  | 20 => lo == 0 && (instAt 0x100 2 0x40 0 off).isSome
  | _ => false

/-- Whether the block ignores a write of this field now, its set-up lock apart. -/
def State.ignores (s : State) (b off lo v : Nat) : Bool :=
  match b with
  -- R498: AUTO of D0, D1, D4 and D5
  | 1 => lo == 0 && ((instAt 0x100 8 0x80 0 off).map fun d => decide (d ∈ [0, 1, 4, 5])).getD false
  -- R389: the slots of reserved blocks
  | 4 => ((instAt 0x1000 256 8 0 off).map fun n => decide (26 ≤ n)).getD false
         || ((instAt 0x1000 256 8 4 off).map fun n => decide (26 ≤ n)).getD false
  -- R403: the quotas of the voted complex
  | 5 => ((instAt 0x180 22 4 0 off).map fun i => decide (i < 4)).getD false
  | 9 => off == 0x10 && v == 7
  -- R143: outside STOP only a block without an owner takes one
  | 10 => s.inRun && ((instAt 0x1000 128 4 0 off).map fun w => decide (s.get (CYC.OUT_OWNER.OWNER w (lo / 4)) < 8)).getD false
  -- R241: DIR, TYPE and OUT_SOURCE while FIO runs
  | 13 => s.bit FIO.CTRL.ENABLE && (instAt 0x100 32 0x10 0 off).isSome && lo ∈ [0, 2, 5]
  -- R247: UNIT_u_ACTION of a unit in use
  | 14 => ((instAt 0x100 16 0x40 4 off).map s.spurUsed).getD false
  -- R324: MODE, OUT_SOURCE, CHAR, HART_MODE and RATE while CLP runs
  | 17 => s.bit CLP.CTRL.ENABLE && ((instAt 0x100 8 0x40 0 off).map fun n =>
      [(CLP.CH_CFG.MODE n).lo, (CLP.CH_CFG.OUT_SOURCE n).lo, (CLP.CH_CFG.CHAR n).lo, (CLP.CH_CFG.HART_MODE n).lo,
       (CLP.CH_CFG.RATE n).lo].contains lo).getD false
  | 18 => off == 0x10 && lo == 1 && 6 ≤ v
  -- R417, R421: a trail's increment is the lead's
  | 19 => s.bit TIM.STATUS.PAIR_FOLLOW && off == 0xC
  -- R458: buffer configuration while the channel runs
  | 20 => (List.range 2).any fun c => s.bit (CAN.CH_CFG.ENABLE c)
      && [0, 4, 8].any fun r => (instAt (0x1000 + 0x2000 * c) 64 0x80 r off).isSome
  -- R472: what a running CAPTURE uses
  | 21 => s.acq.job.isSome && (decide (8 ≤ off ∧ off ≤ 0x28) || decide (0x100 ≤ off))
  -- R515
  | 25 => lo == 0 && v == 1 && (instAt 0x100 2 0x40 0 off).isSome && s.targetFailed [9]
  | _ => false

/-- The value that a write of `v` stores: limits of the register tables. -/
def State.stored (s : State) (b off lo v : Nat) : Nat :=
  match b with
  | 0 => if off = 0x84 then max 0x8000 v else v
  | 1 => if off = 4 then clampTo 10 1000 v else if lo = 8 ∧ (instAt 0x100 8 0x80 0 off).isSome then max 1 v else v
  | 2 => if off = 0x14 ∨ off = 0x2C then max 1 v else v
  | 3 =>
    if off = 0x34 ∧ lo = 8 then max 1 v
    else if off = 0x38 then Nat.land v 0x0130807F
    else if off = 0x3C then Nat.land v 0x013EA07F
    else if off = 0x40 then max 1 v else v
  | 5 => if off = 4 then max 100 v else v
  | 7 => if off = 0xC then min 32 v else if lo = 24 ∧ (instAt 0x1000 64 0x40 0x18 off).isSome then clampTo 1 128 v else v
  | 9 => if off = 0x18 then max 1 v else v
  | 10 => if off = 0x14 then max 200 v else if off = 0x18 then max 1 v else v
  | 13 =>
    if off = 0xC then max 1 v
    else if (lo = 16 ∧ (instAt 0x100 32 0x10 0 off).isSome) ∨ (instAt 0x100 32 0x10 4 off).isSome then max 1 v else v
  | 14 => if (instAt 0x100 16 0x40 0x18 off).isSome then max 1 v else v
  | 15 => if off = 0x18 then ofSigned 32 (max (-100000) (min 100000 (toSigned 32 v))) else v
  | 17 =>
    if lo = 16 ∧ (instAt 0x100 8 0x40 0 off).isSome then max 1 v
    else if (instAt 0x100 8 0x40 0x10 off).isSome then (if lo = 0 then min 3600 v else clampTo 21000 24000 v) else v
  | 18 =>
    if off = 4 ∧ lo = 4 then max 1 v
    else if off = 8 then clampTo 10000 2000000 v
    else if off = 0xC then min (s.get PAR.LEASE.TICKS / 5) v
    else if off = 0x1C then clampTo 4 100 v
    else if off = 0x20 then max 100 v
    else if off = 0x24 then max 1 v
    else if off = 0x28 then clampTo 1 64 v else v
  | 19 =>
    if off = 4 ∧ lo = 16 then min 127 v
    else if off = 4 ∧ lo = 24 then ofSigned 4 (max (-7) (min 0 (toSigned 4 v)))
    else if off = 0x38 then max 1 v else v
  | 20 => if lo = 4 ∧ (instAt 0x100 2 0x40 0x1C off).isSome then min 11 v else v
  | 21 =>
    if off = 0x1C then clampTo 1 4096 v
    else if off = 0x28 then clampTo 1 4096 v
    else if off = 0x2C then clampTo 16 256 v else v
  | 23 => if off = 0x20 then max 1 v else v
  | _ => v

/-- A binary32 value held within limits; what a NaN stores the manual does not state. -/
def State.holdFloat (s : State) (lo hi v : Nat) : Nat × State := if f32.isNan v then s.fresh else (f32.clamp lo hi v, s)

/-- R13, R14. One field of a written register. -/
def State.fieldWrite (s : State) (b off value : Nat) (f : Fld) (acc : Access) : State :=
  let v := f.of value
  if ownWrite b off f.lo then s
  else match acc with
    | .RO => s
    | .WO => s
    | .W1C => s.set f (s.get f - Nat.land (s.get f) v)
    | .W1S => s.set f (Nat.lor (s.get f) v)
    | a =>
      if (a = .RWS ∧ s.locked b) ∨ s.ignores b off f.lo v then s
      -- CLP CUTOFF, 0.0 to 0.1, and SUBST, 0.0 to 24.0
      else if b = 17 ∧ (instAt 0x100 8 0x40 0xC off).isSome then let (w, s) := s.holdFloat 0 0x3DCCCCCD v; s.set f w
      else if b = 17 ∧ (instAt 0x100 8 0x40 0x14 off).isSome then let (w, s) := s.holdFloat 0 0x41C00000 v; s.set f w
      else s.set f (s.stored b off f.lo v)

/-! ## What a write sets off -/

/-- An enable written: 1 runs its check, 0 clears it. -/
def State.enableWrite (s : State) (b : Nat) (v : Nat) (f : Fld) (on : State → State) : State :=
  if s.locked b then s else if v.testBit f.lo then on s else s.set f 0

/-- R88. A write of RING_n_CTRL: ENABLE, then STOP, ABORT and RESUME. -/
def State.ringCtrl (s : State) (n v : Nat) : State :=
  let s := if v.testBit 0 then s.ringEnable n else s.ringDisable n
  let s := if v.testBit 1 then s.ringStop n else s
  let s := if v.testBit 2 then s.ringAbort n false else s
  if v.testBit 3 then s.ringResume n else s

/-- R523. A write of RST.CMD. -/
def State.rstWrite (s : State) (init v : Nat) : State :=
  let op := RST.CMD.OP.of v; let t := RST.CMD.TARGET.of v
  let p := RST.CMD.PRIV.of v; let x := RST.CMD.SESSION.of v
  let o := originOf init
  match op with
  | 0 => s
  | 1 => s.rstWhole 1 o p x
  | 2 => s.rstWhole 2 o p x
  | 3 => s.rstDomain t o p x
  | 4 => s.rstCore t o p x
  | 5 => s.rstPartner o p x
  | _ => s.rstEnd op 0 0x60 5 o p x

/-- R131. A write of VOT.CMD. -/
def State.votWrite (s : State) (init v : Nat) : State :=
  let op := VOT.CMD.OP.of v; let c := VOT.CMD.CORE.of v
  match op with
  | 0 => s
  | 1 => s.takeOut init c
  | 2 => s.coreReturn init c
  | 3 => s.enterSplit init
  | 4 => s.leaveSplit init
  | 5 => s.clearCounts init
  | _ => s.votReplace.votEnd init op 0 0x60

/-- R550. A write of UPD.CMD. -/
def State.updWrite (s : State) (init v : Nat) : State :=
  match UPD.CMD.OP.of v with
  | 0 => s
  | 1 => s.confirm init (UPD.CMD.SESSION.of v)
  | 2 => s.updRelease (UPD.CMD.ENTRY.of v)
  | 3 => (s.endActivate 0x33 0).updStatus 0 0
  | _ => s.updStatus 0x60 4

/-- R551. A write of SEC.CMD. -/
def State.secWrite (s : State) (init v : Nat) : State :=
  match SEC.CMD.OP.of v with
  | 0 => s
  | 1 => s.commitLeaseKey init (SEC.CMD.PRIV.of v) (SEC.CMD.SESSION.of v)
  | 2 => s.factoryTrust init (SEC.CMD.PRIV.of v) (SEC.CMD.SESSION.of v)
  | _ => s.secStatus 0x60 3

/-- R514, R519. A write of BST. -/
def State.bstWrite (s : State) (init off v : Nat) : State :=
  if off = 4 then
    match BST.CMD.OP.of v with
    | 0 => s
    | 3 => s.report init
    | op => s.bstStart init op (BST.CMD.TARGET.of v)
  else if off = 0x50 ∧ 4 ≤ init ∧ init < 8 ∧ v.testBit (init - 4) then s.svcRelease init false
  else s

/-- Bit `i` of a written value sets off `f`. -/
def State.onBit (s : State) (v i : Nat) (f : State → State) : State := if v.testBit i then f s else s

/-- `f` where the offset belongs to an instance. -/
def State.onInst (s : State) (i : Option Nat) (f : State → Nat → State) : State :=
  match i with
  | some k => f s k
  | none => s

/-- R484, R486, R498. A write of PWR. -/
def State.pwrWrite (s : State) (init off v : Nat) : State :=
  let at_ (r : Nat) := instAt 0x100 8 0x80 r off
  let s := s.onInst (at_ 4) fun s d => s.domRequest d ⟨(PWR.D_REQ.STATE d).of v, (PWR.D_REQ.RAIL d).of v, false⟩
  let s := s.onInst (at_ 0x10) fun s d => s.onBit v 0 fun s => s.voteSet init d
  let s := s.onInst (at_ 0x14) fun s d => s.onBit v 0 fun s => s.voteClear init d
  s.onInst (at_ 0x24) fun s d => s.onBit v 0 fun s => s.clearAccounts d

/-- R230, R232, R233, R237, R241. A write of FIO. -/
def State.fioWrite (s : State) (off v : Nat) : State :=
  if off = 4 then s.enableWrite 13 v FIO.CTRL.ENABLE State.fioEnable
  else
    let s := s.onInst (instAt 0x40 4 0x10 8 off) fun s g => s.onBit v 0 fun s => s.groupAck g
    let s := s.onInst (instAt 0x100 32 0x10 0xC off) fun s n => s.onBit v 0 fun s => s.channelClear n
    let s := s.onInst (instAt 0x300 4 0x20 8 off) fun s c => s.set (FIO.CNT_VALUE.VALUE c) v
    s.onInst (instAt 0x400 16 0x20 4 off) fun s p =>
      (s.onBit v 0 fun s => s.probeArm p true).onBit v 1 fun s => s.probeArm p false

/-- R243, R247. A write of SPR. -/
def State.sprWrite (s : State) (off v : Nat) : State :=
  let s := s.onInst (instAt 0x100 16 0x40 0 off) fun s u => s.trigWrite u v
  let s := s.onInst (instAt 0x100 16 0x40 8 off) fun s u => if s.bit (SPR.UNIT_ACTION.PARAM_SRC u) then s else s.setParam u v
  s.onInst (instAt 0x100 16 0x40 0x1C off) fun s u =>
    ((s.onBit v 0 fun s => s.spurArm u true).onBit v 1 fun s => s.spurArm u false).onBit v 2 fun s => s.spurFlush u

/-- The write of a register beyond the fields that it stores. -/
def State.writeActs (s : State) (init b off v : Nat) : State :=
  match b with
  | 0 =>
    if off = 0x20 then s.sysCmd init (SYS.CMD.OP.of v) (SYS.CMD.TASK.of v) (SYS.CMD.PRIV.of v) (SYS.CMD.SESSION.of v)
    else if off = 0x44 then s.onBit v 1 fun s => s.set SYS.FAULT_LED.AWAIT 1
    else if off = 0x80 then (List.range 8).foldl (fun s d => if v.testBit d then s else s.speedBroken d) s else s
  | 1 => s.pwrWrite init off v
  | 2 =>
    if off = 8 then s.rstWrite init v
    else if off = 0x10 then s.onBit v 0 State.wdtEnable
    else if off = 0x18 then s.wdtKick init (RST.WDT_KICK.KEY.of v) else s
  | 3 => s.bstWrite init off v
  | 4 => if off = 4 then s.prtCmd init (PRT.CMD.OP.of v) else s
  | 5 => s.onInst (instAt 0x200 10 0x10 0xC off) fun s t =>
      s.onBit v (ARB.TARGET_PEAK_WAIT.CLEAR t).lo fun s => s.set (ARB.TARGET_PEAK_WAIT.TICKS t) 0
  | 6 =>
    if off = 4 then s.lockRequest init (LCK.REQUEST.LOCK.of v) (LCK.REQUEST.OP.of v)
    else if off = 0xC then s.onBit v 31 fun s => s.breakLock (LCK.BREAK.LOCK.of v) else s
  | 7 =>
    if off = 8 then s.onBit v 31 State.clearPeak
    else if off = 0x14 then s.onBit v 31 fun s => s.set RNG.DB_IGNORED.COUNT 0
    else s.onInst (instAt 0x1000 64 0x40 0x20 off) fun s n => s.ringCtrl n v
  | 8 =>
    if off = 0x10 then s.evtRaise (EVT.RAISE.SOURCE.of v)
    else s.onInst (instAt 0x3000 4 0x20 4 off) fun s n =>
      if v.testBit 31 then s.eringEnable n else s.set (EVT.ERING_BASE_HI.ENABLE n) 0
  | 9 => if off = 8 then s.votWrite init v else s
  | 10 => s.onInst (instAt 0x100 8 0x20 0xC off) fun s k =>
      s.onBit v (CYC.CLASS_EXEC_MAX.CLEAR k).lo fun s => s.set (CYC.CLASS_EXEC_MAX.TICKS k) 0
  -- R184: a write of RATE_MODE lets the crossing return to 2.5 Gbit/s
  | 11 => s.onInst (instAt 0x100 4 0x40 0 off) fun s c =>
      let s := { s with crs := { s.crs with slow := s.crs.slow.filter (· != c) } }
      if s.locked 11 then s else if v.testBit 0 then s.crossEnable c else s.crossDisable c
  | 13 => s.fioWrite off v
  | 14 => s.sprWrite off v
  | 15 =>
    if off = 4 then s.enableWrite 15 v MOT.CTRL.ENABLE State.motEnable
    else if off = 0x24 then s.onBit v 0 fun s => s.set MOT.PASS_STATUS.MAX 0 else s
  | 16 =>
    if off = 4 then s.enableWrite 16 v LOP.CTRL.ENABLE State.lopEnable
    else if off = 0x18 then s.onBit v LOP.QUEUE.CLEAR.lo fun s => s.set LOP.QUEUE.PEAK (s.get LOP.QUEUE.DEPTH)
    else if off = 0x1C then s.onBit v LOP.WORST.CLEAR.lo fun s => s.set LOP.WORST.TICKS 0 else s
  -- R336, R528: a trim is written to the change log
  | 17 =>
    let s := s.onInst (instAt 0x100 8 0x40 0x28 off) fun s n =>
      s.recordChange 0x8007 (originOf init) 0xFF 0 ([n, 0, 0, 0] ++ leBytes 4 v)
    if off = 4 then s.enableWrite 17 v CLP.CTRL.ENABLE State.clpEnable else s
  | 18 =>
    let s := if off = 0x30 then s.parWrite init (PAR.CMD.OP.of v) (PAR.CMD.PRIV.of v) (PAR.CMD.SESSION.of v)
      else if off = 0x58 then s.onBit v PAR.STREAM_MAX.CLEAR.lo fun s => s.set PAR.STREAM_MAX.BYTES 0 else s
    if off = 4 ∨ off = 0x10 then s.refreshPair else s
  | 19 =>
    if off = 0xC then s.incCommit
    else if off = 0x24 then s.timCmd init (TIM.CMD.OP.of v) (TIM.CMD.PRIV.of v) (TIM.CMD.SESSION.of v)
    else s.onInst (instAt 0x100 8 0x10 8 off) fun s u =>
      (s.onBit v (TIM.CMP_CTRL.ARM u).lo fun s => s.compareArm u).onBit v (TIM.CMP_CTRL.DISARM u).lo fun s => s.compareDisarm u
  | 20 => s.onInst (instAt 0x100 2 0x40 0 off) fun s c => s.enableWrite 20 v (CAN.CH_CFG.ENABLE c) fun s => s.canEnable c
  | 21 =>
    if off = 0x34 then s.onBit v ACQ.QUEUE.CLEAR.lo State.acqQueueClear
    else if off = 0x3C then s.onBit v ACQ.MAX_DEAD.CLEAR.lo fun s => s.set ACQ.MAX_DEAD.TICKS 0 else s
  | 23 => if off = 4 then s.updWrite init v else s
  | 24 =>
    let s := s.onInst (instAt 0x20 8 4 0 off) fun s w => s.leaseKeyWrite init w v
    if off = 0x40 then s.secWrite init v else s
  | _ => s

/-- R483. Whether channel `n` is in use: a MODE, or loop power. -/
def State.clUsed (s : State) (n : Nat) : Bool := s.get (CLP.CH_CFG.MODE n) != 0 || s.bit (CLP.CH_CFG.LOOP_POWER n)

/-- R483. A write that ends the use of a channel starts its idle time; `old` is the state before it. -/
def State.clIdle (s old : State) (b off : Nat) : State :=
  if b ≠ 17 then s
  else s.onInst (instAt 0x100 8 0x40 0 off) fun s n =>
    if old.clUsed n && !s.clUsed n then s.setClch n { s.clch n with idleFrom := s.now } else s

/-- R13, R14, R556. A write of the register at `off` of block `b`, as it takes effect. -/
def State.regPut (s : State) (init b off v : Nat) : State :=
  let t := (fieldsAt b off).foldl (fun s (p : Fld × FieldRow) => s.fieldWrite b off v p.1 p.2.acc) s
  (t.clIdle s b off).writeActs init b off v

/-- R488, R492, R553, R555, R560. A write of `n` bytes at byte `a` of register space: refused, held while the block's domain quiesces,
ignored where it is not ON, or performed. Answers whether it was refused. -/
def State.regWrite (s : State) (init a n v : Nat) : State × Bool :=
  match s.check { init := init } .write (0x10000000 + a) n with
  | some r => (s.noteRefused r .write, true)
  | none =>
    let b := a / 65536
    if s.quiesces (blockDomain b) then
      ({ s with pwr := { s.pwr with held := s.pwr.held ++ [(init, b, a % 65536, v % 2 ^ 32)] } }, false)
    else if !s.domOn (blockDomain b) then (s.accessDown init (blockDomain b), false)
    else (s.regPut init b (a % 65536) (v % 2 ^ 32), false)

/-- R488, R489, R492. The register writes that a quiesce held: performed where the entry was aborted, ignored where it went on. -/
def State.heldWrites (s : State) : State :=
  let (stay, go) := s.pwr.held.partition fun w => s.quiesces (blockDomain w.2.1)
  go.foldl (fun s w => if s.domOn (blockDomain w.2.1) then s.regPut w.1 w.2.1 w.2.2.1 w.2.2.2
    else s.accessDown w.1 (blockDomain w.2.1)) { s with pwr := { s.pwr with held := stay } }

/-- REGISTER_WRITE: initiator, byte of register space, size of the access and value. -/
def execRegisterWrite (init : Fin 22) (off : Fin 16777216) (size : Fin 9) (value : Nat) (s : State) : Answer :=
  (s.regWrite init off size value).1.done

/-- R561. SETUP_LOCK.CLOSED of a block written 1. -/
def execSetupLockClose (init : Fin 22) (b : Fin 26) (s : State) : Answer :=
  (if blockHasLock b then (s.regWrite init (b * 65536) 4 1).1 else s).done

/-! ## Reads (R14, R558 to R560) -/

/-- A field as a read by `init` returns it. -/
def State.fieldRead (s : State) (init b off : Nat) (f : Fld) : Nat :=
  match b with
  -- R31: valid from 10 us after reset release
  | 0 =>
    if off = 0x40 ∧ s.now < s.rst.startTick + 2000 then 0
    else match instAt 0x90 8 4 0 off with
      | some d => if f.lo = 20 ∧ !(s.get SYS.SPEED_CTRL.ENABLE).testBit d then 0 else s.get f
      | none => s.get f
  | 1 => match instAt 0x100 8 0x80 0xC off with
    | some d => s.votes d
    | none => s.get f
  | 2 => if off = 0x1C ∧ f.lo = 0 then min s.wdtRemaining 0xFFFF else s.get f
  | 6 =>
    if off = 8 then
      let r := s.lockResult init
      if f.lo = 0 then r.status else if f.lo = 8 then r.reason else if f.lo = 16 then r.lock else b2n r.waiting
    else s.get f
  | 13 => match instAt 0x400 16 0x20 0xC off with
    | some p => Sparse.get (s.get f) s.fio.frozen p
    | none => s.get f
  | 19 =>
    -- R419: the words of the reader's sample; R437: those of a frozen latch
    let sample := Sparse.get [] s.tim.latches init
    let own (k : Nat) : Nat := if init < 8 then sample.getD k 0 else s.get f
    let held (u k : Nat) : Nat := match Sparse.find s.tim.frozen u with
      | some l => l.getD k 0
      | none => s.get f
    if f = TIM.PT_LO.NS then bitsOf s.plant 32 32
    else if f = TIM.PT_HI.NS then own 1
    else if f = TIM.PT_FRAC.FRAC then own 2
    else if f = TIM.SNAP_TICK_LO.TICK then own 3
    else if f = TIM.SNAP_TICK_HI.TICK then own 4
    else match (List.range 4).find? fun u => f == TIM.CAP_TICK_HI.TICK u || f == TIM.CAP_PT_LO.NS u || f == TIM.CAP_PT_HI.NS u with
      | some u => held u (if f = TIM.CAP_TICK_HI.TICK u then 0 else if f = TIM.CAP_PT_LO.NS u then 1 else 2)
      | none => s.get f
  | 22 =>
    let held (w : Nat) (hi : Bool) : Nat := match Sparse.find s.log.latch w with
      | some l => if hi then l.1 else l.2
      | none => s.get f
    if f = REC.EVENT_OLDEST_HI.SEQ then held 0 true
    else if f = REC.EVENT_OLDEST_ADDR.OFFSET then held 0 false
    else if f = REC.EVENT_NEXT_HI.SEQ then held 1 true
    else if f = REC.CHANGE_OLDEST_HI.SEQ then held 2 true
    else if f = REC.CHANGE_OLDEST_ADDR.OFFSET then held 2 false
    else if f = REC.CHANGE_NEXT_HI.SEQ then held 3 true
    else if f = REC.CHANGE_ARCHIVED_HI.SEQ then held 4 true
    else s.get f
  -- R548: seconds until CONFIRM is due
  | 23 => if off = 0x24 then match s.upd.confirmBy with
      | some t => min ((t - s.now) / ticksPerSec) 0xFFFF
      | none => 0
    else s.get f
  | _ => s.get f

/-- R558. The reads that do more than return a value. -/
def State.readActs (s : State) (init b off : Nat) : State :=
  match b with
  | 13 =>
    let s := s.onInst (instAt 0x400 16 0x20 8 off) State.probeRead
    s.onInst (instAt 0x400 16 0x20 0xC off) fun s p => { s with fio := { s.fio with frozen := Sparse.erase s.fio.frozen p } }
  | 19 =>
    let s := if TIM.PT_LO.NS.reg % 65536 = off then s.ptLoRead init else s
    let at_ (f : Nat → Fld) : Option Nat := (List.range 4).find? fun u => (f u).reg % 65536 == off
    let s := s.onInst (at_ TIM.CAP_TICK_LO.TICK) State.capRead
    s.onInst (at_ TIM.CAP_PT_HI.NS) fun s u => { s with tim := { s.tim with frozen := Sparse.erase s.tim.frozen u } }
  | 22 =>
    let los : List Fld := [REC.EVENT_OLDEST_LO.SEQ, REC.EVENT_NEXT_LO.SEQ, REC.CHANGE_OLDEST_LO.SEQ, REC.CHANGE_NEXT_LO.SEQ,
                           REC.CHANGE_ARCHIVED_LO.SEQ]
    s.onInst ((List.range 5).find? fun w => ((los[w]?).map fun f => f.reg % 65536 == off).getD false) State.recLoRead
  | _ => s

/-- R437. A read at a compare unit's CTRL returns its FIRE_TICK, which has no offset of its own. -/
def State.fireTick (s : State) (b off : Nat) : Nat :=
  if b ≠ 19 then 0
  else match instAt 0x100 8 0x10 8 off with
    | some u => s.get (TIM.CMP_FIRE_TICK.TICK u)
    | none => 0

/-- The register at `off` of block `b`, as a read by `init` returns it: WO fields and reserved bits read 0. -/
def State.regValue (s : State) (init b off : Nat) : Nat :=
  s.fireTick b off + (fieldsAt b off).foldl (fun n (p : Fld × FieldRow) =>
    if p.2.acc = .WO then n else n + s.fieldRead init b off p.1 % 2 ^ p.1.w * 2 ^ p.1.lo) 0

/-- R492, R553, R555, R560. A read of `n` bytes at byte `a` of register space: none where it is refused. -/
def State.regRead (s : State) (init a n : Nat) : State × Option Nat :=
  match s.check { init := init } .read (0x10000000 + a) n with
  | some r => (s.noteRefused r .read, none)
  | none =>
    let b := a / 65536
    if !s.domOn (blockDomain b) then (s.accessDown init (blockDomain b), some 0)
    else
      let v := s.regValue init b (a % 65536)
      (s.readActs init b (a % 65536), some v)

end Sys2Proof.Machine
end

