-- ==== Sys2Proof/Machine/Rv32.lean ====
section
/-! DEFINITION. One instruction of a core (spec/04 R101 to R112): RV32IMAFC, Zicsr, Zifencei and the Keafy extension in machine
and user mode, as the RISC-V unprivileged specification 20191213 and privileged specification 20211203 that R101 names have
them. A compressed instruction is read as the instruction that it abbreviates. What an instruction asks of the module is a
request; fetching and running stand in Run.lean.

Marks (notes/assumptions): DEDUCED 19; DESIGN CHOICE 139; PRESUMED 30. -/

namespace Sys2Proof.Machine

/-- What an instruction comes to in its core: done, a trap, a request, fence.i, or KEND. -/
inductive Exec where
  | done (k : Core)
  | trap (cause mtval : Nat)
  | ask (r : Req)
  | fenceI
  | kend (rs1 : Nat)
  deriving DecidableEq, Repr

/-- A trap or a request of a Keafy instruction, with what the core does with the answer. -/
def Intent.exec (d : Dest) : Intent → Exec
  | .trap c v => .trap c v
  | .req r => .ask { r with dest := d }

/-! ## Instruction words -/

/-- Bits `[lo + n - 1 : lo]` of an instruction, sign-extended to 32 bits. -/
def sext (n v : Nat) : Nat := ofSigned 32 (toSigned n v)

def encI (imm rs1 f3 rd op : Nat) : Nat := op + 2 ^ 7 * rd + 2 ^ 12 * f3 + 2 ^ 15 * rs1 + 2 ^ 20 * (imm % 4096)
def encR (f7 rs2 rs1 f3 rd op : Nat) : Nat := op + 2 ^ 7 * rd + 2 ^ 12 * f3 + 2 ^ 15 * rs1 + 2 ^ 20 * rs2 + 2 ^ 25 * f7
def encS (imm rs2 rs1 f3 op : Nat) : Nat :=
  op + 2 ^ 7 * (imm % 32) + 2 ^ 12 * f3 + 2 ^ 15 * rs1 + 2 ^ 20 * rs2 + 2 ^ 25 * bitsOf imm 5 7
def encB (imm rs1 f3 : Nat) : Nat :=
  0x63 + 2 ^ 7 * bitOf imm 11 + 2 ^ 8 * bitsOf imm 1 4 + 2 ^ 12 * f3 + 2 ^ 15 * rs1 + 2 ^ 25 * bitsOf imm 5 6
    + 2 ^ 31 * bitOf imm 12
def encJ (imm rd : Nat) : Nat :=
  0x6F + 2 ^ 7 * rd + 2 ^ 12 * bitsOf imm 12 8 + 2 ^ 20 * bitOf imm 11 + 2 ^ 21 * bitsOf imm 1 10 + 2 ^ 31 * bitOf imm 20

def immI (w : Nat) : Nat := sext 12 (bitsOf w 20 12)
def immS (w : Nat) : Nat := sext 12 (bitsOf w 7 5 + 32 * bitsOf w 25 7)
def immB (w : Nat) : Nat :=
  sext 13 (2 * bitsOf w 8 4 + 2 ^ 5 * bitsOf w 25 6 + 2 ^ 11 * bitOf w 7 + 2 ^ 12 * bitOf w 31)
def immJ (w : Nat) : Nat :=
  sext 21 (2 * bitsOf w 21 10 + 2 ^ 11 * bitOf w 20 + 2 ^ 12 * bitsOf w 12 8 + 2 ^ 20 * bitOf w 31)

/-! ## Compressed instructions -/

/-- The quadrant 0 instructions. -/
def expand0 (c : Nat) : Option Nat :=
  let rd := 8 + bitsOf c 2 3
  let rs := 8 + bitsOf c 7 3
  let off := 8 * bitsOf c 10 3 + 4 * bitOf c 6 + 64 * bitOf c 5
  match bitsOf c 13 3 with
  | 0 =>
    let imm := 16 * bitsOf c 11 2 + 64 * bitsOf c 7 4 + 4 * bitOf c 6 + 8 * bitOf c 5
    if imm = 0 then none else some (encI imm 2 0 rd 0x13)
  | 2 => some (encI off rs 2 rd 0x03)
  | 3 => some (encI off rs 2 rd 0x07)
  | 6 => some (encS off rd rs 2 0x23)
  | 7 => some (encS off rd rs 2 0x27)
  | _ => none

/-- The quadrant 1 instructions. -/
def expand1 (c : Nat) : Option Nat :=
  let rd := bitsOf c 7 5
  let rs := 8 + bitsOf c 7 3
  let rt := 8 + bitsOf c 2 3
  let u := 32 * bitOf c 12 + bitsOf c 2 5
  let imm := sext 6 u
  let j := sext 12 (2 ^ 11 * bitOf c 12 + 2 ^ 4 * bitOf c 11 + 2 ^ 8 * bitsOf c 9 2 + 2 ^ 10 * bitOf c 8 + 2 ^ 6 * bitOf c 7
    + 2 ^ 7 * bitOf c 6 + 2 * bitsOf c 3 3 + 2 ^ 5 * bitOf c 2)
  let b := sext 9 (2 ^ 8 * bitOf c 12 + 2 ^ 3 * bitsOf c 10 2 + 2 ^ 6 * bitsOf c 5 2 + 2 * bitsOf c 3 2 + 2 ^ 5 * bitOf c 2)
  match bitsOf c 13 3 with
  | 0 => some (encI imm rd 0 rd 0x13)
  | 1 => some (encJ j 1)
  | 2 => some (encI imm 0 0 rd 0x13)
  | 3 =>
    if u = 0 then none
    else if rd = 2 then
      some (encI (sext 10 (2 ^ 9 * bitOf c 12 + 2 ^ 4 * bitOf c 6 + 2 ^ 6 * bitOf c 5 + 2 ^ 7 * bitsOf c 3 2
        + 2 ^ 5 * bitOf c 2)) 2 0 2 0x13)
    else some (0x37 + 2 ^ 7 * rd + 2 ^ 12 * (imm % 2 ^ 20))
  | 4 => match bitsOf c 10 2 with
    | 0 => if u < 32 then some (encI u rs 5 rs 0x13) else none
    | 1 => if u < 32 then some (encI (0x400 + u) rs 5 rs 0x13) else none
    | 2 => some (encI imm rs 7 rs 0x13)
    | _ =>
      if bitOf c 12 = 1 then none
      else match bitsOf c 5 2 with
        | 0 => some (encR 0x20 rt rs 0 rs 0x33)
        | 1 => some (encR 0 rt rs 4 rs 0x33)
        | 2 => some (encR 0 rt rs 6 rs 0x33)
        | _ => some (encR 0 rt rs 7 rs 0x33)
  | 5 => some (encJ j 0)
  | 6 => some (encB b rs 0)
  | _ => some (encB b rs 1)

/-- The quadrant 2 instructions. -/
def expand2 (c : Nat) : Option Nat :=
  let rd := bitsOf c 7 5
  let rt := bitsOf c 2 5
  let u := 32 * bitOf c 12 + rt
  let load := 32 * bitOf c 12 + 4 * bitsOf c 4 3 + 64 * bitsOf c 2 2
  let store := 4 * bitsOf c 9 4 + 64 * bitsOf c 7 2
  match bitsOf c 13 3 with
  | 0 => if u < 32 then some (encI u rd 1 rd 0x13) else none
  | 2 => if rd = 0 then none else some (encI load 2 2 rd 0x03)
  | 3 => some (encI load 2 2 rd 0x07)
  | 4 =>
    if bitOf c 12 = 0 then
      if rt = 0 then (if rd = 0 then none else some (encI 0 rd 0 0 0x67)) else some (encR 0 rt 0 0 rd 0x33)
    else if rt = 0 then (if rd = 0 then some 0x00100073 else some (encI 0 rd 0 1 0x67))
    else some (encR 0 rt rd 0 rd 0x33)
  | 6 => some (encS store rt 2 2 0x23)
  | 7 => some (encS store rt 2 2 0x27)
  | _ => none

/-- The instruction that a compressed one abbreviates, or none where RV32FC has no such encoding. -/
def expand (c : Nat) : Option Nat :=
  match c % 4 with
  | 0 => expand0 c
  | 1 => expand1 c
  | _ => expand2 c

/-! ## Integers (RV32I, RV32M) -/

def addW (a b : Nat) : Nat := (a + b) % 2 ^ 32
def subW (a b : Nat) : Nat := (a + 2 ^ 32 - b) % 2 ^ 32

/-- The operations of OP and OP-IMM by their funct3; `alt` is bit 30. -/
def alu (f3 : Nat) (alt : Bool) (a b : Nat) : Nat :=
  match f3 with
  | 0 => if alt then subW a b else addW a b
  | 1 => a * 2 ^ (b % 32) % 2 ^ 32
  | 2 => b2n (decide (toSigned 32 a < toSigned 32 b))
  | 3 => b2n (decide (a < b))
  | 4 => Nat.xor a b
  | 5 => if alt then ofSigned 32 (toSigned 32 a / (2 ^ (b % 32) : Nat)) else a / 2 ^ (b % 32)
  | 6 => Nat.lor a b
  | _ => Nat.land a b

/-- The operations of the M extension by their funct3. -/
def mulDiv (f3 a b : Nat) : Nat :=
  let x := toSigned 32 a
  let y := toSigned 32 b
  match f3 with
  | 0 => a * b % 2 ^ 32
  | 1 => ofSigned 32 (x * y / (2 ^ 32 : Nat))
  | 2 => ofSigned 32 (x * b / (2 ^ 32 : Nat))
  | 3 => a * b / 2 ^ 32
  | 4 => if b = 0 then 2 ^ 32 - 1 else ofSigned 32 (x.tdiv y)
  | 5 => if b = 0 then 2 ^ 32 - 1 else a / b
  | 6 => if b = 0 then a else ofSigned 32 (x.tmod y)
  | _ => if b = 0 then a else a % b

/-- Whether a branch is taken, by its funct3; none where there is no such branch. -/
def branches (f3 a b : Nat) : Option Bool :=
  match f3 with
  | 0 => some (a == b)
  | 1 => some (a != b)
  | 4 => some (decide (toSigned 32 a < toSigned 32 b))
  | 5 => some (decide (toSigned 32 b ≤ toSigned 32 a))
  | 6 => some (decide (a < b))
  | 7 => some (decide (b ≤ a))
  | _ => none

/-! ## Single-precision numbers (RV32F): results with the flags NX 1, UF 2, OF 4, DZ 8, NV 16 -/

/-- `m * 2^-k` as a whole number in rounding mode `rm` (0 RNE, 1 RTZ, 2 RDN, 3 RUP, 4 RMM), and whether that changed it. -/
def shiftMode (rm : Nat) (neg : Bool) (m k : Nat) : Nat × Bool :=
  let q := m / 2 ^ k
  let r := m % 2 ^ k
  let up := match rm with
    | 0 => decide (2 ^ k < 2 * r) || (2 * r == 2 ^ k && q % 2 == 1)
    | 1 => false
    | 2 => neg
    | 3 => !neg
    | _ => decide (2 ^ k ≤ 2 * r)
  (if up && r != 0 then q + 1 else q, r != 0)

/-- A value rounded to binary32 in mode `rm`. Tininess is judged after rounding. -/
def roundMode (rm : Nat) (v : FV) : Nat × Nat :=
  match v with
  | .nan => (f32.nanBits, 0)
  | .inf n => (f32.infBits + f32.signBit * b2n n, 0)
  | .fin neg m e =>
    let sign := f32.signBit * b2n neg
    if m = 0 then (sign, 0)
    else
      let top : Int := e + Nat.log2 m
      let q := max (top - 23) (-149)
      let (mant, nx) := if q ≤ e then (m * 2 ^ (e - q).toNat, false) else shiftMode rm neg m (q - e).toNat
      let b := (q + 149).toNat * 2 ^ 23 + mant
      if f32.infBits ≤ b then
        ((if rm = 0 ∨ rm = 4 ∨ (rm = 2 ∧ neg) ∨ (rm = 3 ∧ !neg) then f32.infBits else f32.infBits - 1) + sign, 5)
      else
        let tiny := decide (top < -127) ||
          (top == -127 && (decide (top - 23 ≤ e) || decide ((shiftMode rm neg m (top - 23 - e).toNat).1 < 2 ^ 24)))
        (b + sign, b2n nx + 2 * b2n (nx && tiny))

/-- Whether a pattern is a signaling NaN. -/
def signaling (a : Nat) : Bool := f32.isNan a && !a.testBit 22

/-- The sum of two values; an exact zero from values of two signs is minus zero in RDN alone. -/
def sumMode (rm : Nat) (a b : FV) : FV :=
  match a.add b, a, b with
  | .fin n 0 e, .fin n1 _ _, .fin n2 _ _ => .fin (if n1 = n2 then n else rm == 2) 0 e
  | r, _, _ => r

/-- A result with NV where it is not a number though no operand was, or an operand signals. -/
def withNv (ops : List Nat) (rm : Nat) (v : FV) : Nat × Nat :=
  let r := roundMode rm v
  (r.1, r.2 + 16 * b2n (ops.any signaling || (v == .nan && !ops.any f32.isNan)))

def fAdd (rm a b : Nat) : Nat × Nat := withNv [a, b] rm (sumMode rm (f32.value a) (f32.value b))
def fSub (rm a b : Nat) : Nat × Nat := withNv [a, b] rm (sumMode rm (f32.value a) (f32.value b).neg)
def fMul (rm a b : Nat) : Nat × Nat := withNv [a, b] rm ((f32.value a).mul (f32.value b))

/-- a * b + c, with the product and the sum negated as asked; infinity times zero is invalid whatever c is. -/
def fMulAdd (rm : Nat) (negProd negSum : Bool) (a b c : Nat) : Nat × Nat :=
  let p := (f32.value a).mul (f32.value b)
  let bad := p == .nan && !f32.isNan a && !f32.isNan b
  let r := withNv [a, b, c] rm (sumMode rm (if negProd then p.neg else p) (if negSum then (f32.value c).neg else f32.value c))
  (r.1, if bad then Nat.lor r.2 16 else r.2)

/-- A quotient's or root's value: `m` whole with one more place that stands for a remainder. -/
def jam (neg : Bool) (m rest : Nat) (e : Int) : FV := .fin neg (2 * m + b2n (rest != 0)) (e - 1)

def fDiv (rm a b : Nat) : Nat × Nat :=
  match f32.value a, f32.value b with
  | .fin n1 m1 e1, .fin n2 m2 e2 =>
    if m2 = 0 then (if m1 = 0 then (f32.nanBits, 16) else (f32.infBits + f32.signBit * b2n (n1 != n2), 8))
    else if m1 = 0 then roundMode rm (.fin (n1 != n2) 0 0)
    else roundMode rm (jam (n1 != n2) (m1 * 2 ^ 64 / m2) (m1 * 2 ^ 64 % m2) (e1 - e2 - 64))
  | .inf n, .fin m _ _ => roundMode rm (.inf (n != m))
  | .fin n _ _, .inf m => roundMode rm (.fin (n != m) 0 0)
  | _, _ => withNv [a, b] rm .nan

def fSqrt (rm a : Nat) : Nat × Nat :=
  match f32.value a with
  | .fin n m e =>
    if m = 0 then (a, 0)
    else if n then (f32.nanBits, 16)
    else
      let (m, e) := if e % 2 = 0 then (m, e) else (2 * m, e - 1)
      let v := m * 4 ^ 32
      let r := isqrt (v.log2 + 1) v
      roundMode rm (jam false r (v - r * r) (e / 2 - 32))
  | .inf false => (a, 0)
  | _ => withNv [a] rm .nan

/-- FMIN and FMAX: the number where one operand is not; minus zero lies below plus zero. -/
def fMinMax (big : Bool) (a b : Nat) : Nat × Nat :=
  let nv := 16 * b2n (signaling a || signaling b)
  let below := f32.lt a b || ((f32.value a).isZero && (f32.value b).isZero && a.testBit 31)
  if f32.isNan a then (if f32.isNan b then f32.nanBits else b, nv)
  else if f32.isNan b then (a, nv)
  else (if below != big then a else b, nv)

/-- FEQ 2, FLT 1, FLE 0. -/
def fCompare (f3 a b : Nat) : Nat × Nat :=
  let nan := f32.isNan a || f32.isNan b
  let nv := 16 * b2n (if f3 = 2 then signaling a || signaling b else nan)
  let eq := !f32.lt a b && !f32.lt b a
  (b2n (!nan && (match f3 with
    | 2 => eq
    | 1 => f32.lt a b
    | _ => !f32.lt b a)), nv)

/-- FCVT.W.S and FCVT.WU.S. -/
def fToInt (rm : Nat) (unsigned : Bool) (a : Nat) : Nat × Nat :=
  let lo : Int := if unsigned then 0 else -2147483648
  let hi : Int := if unsigned then 4294967295 else 2147483647
  match f32.value a with
  | .nan => (ofSigned 32 hi, 16)
  | .inf n => (ofSigned 32 (if n then lo else hi), 16)
  | .fin n m e =>
    let (q, nx) := if 0 ≤ e then (m * 2 ^ e.toNat, false) else shiftMode rm n m (-e).toNat
    let i : Int := if n then -(q : Int) else q
    if i < lo then (ofSigned 32 lo, 16) else if hi < i then (ofSigned 32 hi, 16) else (ofSigned 32 i, b2n nx)

/-- FCLASS. -/
def fClass (a : Nat) : Nat :=
  let n := a.testBit 31
  let bit := match f32.value a with
    | .nan => if signaling a then 8 else 9
    | .inf _ => if n then 0 else 7
    | .fin _ m _ =>
      if m = 0 then (if n then 3 else 4) else if bitsOf a 23 8 = 0 then (if n then 2 else 5) else (if n then 1 else 6)
  2 ^ bit

/-! ## Registers and CSRs -/

def Core.freg (k : Core) (r : Nat) : Nat := Sparse.get 0 k.f r

/-- mstatus with FS dirty. -/
def Core.dirty (k : Core) : Core :=
  { k with mstatus := k.mstatus - bitsOf k.mstatus 13 2 * 2 ^ 13 - bitOf k.mstatus 31 * 2 ^ 31 + 3 * 2 ^ 13 + 2 ^ 31 }

def Core.setFreg (k : Core) (r v : Nat) : Core := Core.dirty { k with f := Sparse.put 0 k.f r (v % 2 ^ 32) }

/-- Exception flags accrue in fcsr. -/
def Core.flags (k : Core) (fl : Nat) : Core := if fl = 0 then k else Core.dirty { k with fcsr := Nat.lor k.fcsr fl }

/-- The legal values of mstatus: MIE, MPIE, MPP (0 or 3), FS, MPRV and TW are held; SD is 1 while FS is dirty. -/
def legalStatus (v : Nat) : Nat :=
  let v := Nat.land v 0x227888
  let v := if bitsOf v 11 2 = 3 then v else v - bitsOf v 11 2 * 2 ^ 11
  v + (if bitsOf v 13 2 = 3 then 2 ^ 31 else 0)

/-- A pmpcfg byte as it is held: reserved bits 0, and no write without read. -/
def legalPmp (v : Nat) : Nat :=
  let v := Nat.land v 0x9F
  if v.testBit 1 && !v.testBit 0 then v - 2 else v

/-- tdata1 and tdata2 of the trigger selected. -/
def Core.tdata1 (k : Core) (i : Nat) : Nat := Sparse.get 0 k.trig (2 * i)
def Core.tdata2 (k : Core) (i : Nat) : Nat := Sparse.get 0 k.trig (2 * i + 1)

/-- A CSR of a core, or none where its cores hold no such CSR. Performance counters and selectors read 0 (R103). -/
def Core.csr (k : Core) (n : Nat) : Option Nat :=
  match n with
  | 0x001 => some (k.fcsr % 32)
  | 0x002 => some (k.fcsr / 32 % 8)
  | 0x003 => some k.fcsr
  | 0x300 => some k.mstatus
  | 0x301 => some 0x40901125
  | 0x304 => some k.mie
  | 0x305 => some k.mtvec
  | 0x306 => some k.mcounteren
  | 0x30A => some 0
  | 0x310 => some 0
  | 0x31A => some 0
  | 0x320 => some 0
  | 0x340 => some k.mscratch
  | 0x341 => some k.mepc
  | 0x342 => some k.mcause
  | 0x343 => some k.mtval
  | 0x344 => some (b2n k.mip * 2048)
  | 0x7A0 => some k.tsel
  | 0x7A1 => some (2 * 2 ^ 28 + k.tdata1 k.tsel)
  | 0x7A2 => some (k.tdata2 k.tsel)
  | 0x7A4 => some 4
  | 0x7B0 => some k.dcsr
  | 0x7B1 => some k.pc
  | 0x7C0 => some k.kflags
  | 0xB02 => some (k.minstret % 2 ^ 32)
  | 0xB82 => some (k.minstret / 2 ^ 32)
  | 0xC02 => some (k.minstret % 2 ^ 32)
  | 0xC82 => some (k.minstret / 2 ^ 32)
  | 0xF11 => some (Config.mvendorid % 2 ^ 32)
  | 0xF12 => some (Config.marchid % 2 ^ 32)
  | 0xF13 => some (Config.mimpid % 2 ^ 32)
  | 0xF15 => some 0
  | _ =>
    if 0x323 ≤ n ∧ n < 0x340 then some 0
    else if (0xB03 ≤ n ∧ n < 0xB20) ∨ (0xB83 ≤ n ∧ n < 0xBA0) ∨ (0xC03 ≤ n ∧ n < 0xC20) ∨ (0xC83 ≤ n ∧ n < 0xCA0) then some 0
    else if 0x3A0 ≤ n ∧ n < 0x3A4 then some (leNat ((List.range 4).map fun i => Sparse.get 0 k.pmp (4 * (n - 0x3A0) + i) % 256))
    else if 0x3B0 ≤ n ∧ n < 0x3C0 then
      let a := Sparse.get 0 k.pmp (16 + (n - 0x3B0))
      some (if bitOf (Sparse.get 0 k.pmp (n - 0x3B0)) 4 = 0 then a / 2 * 2 else a)
    else none

/-- Whether entry `i` of the PMP is locked, and whether its address is (the entry above may be a locked TOR). -/
def Core.pmpLocked (k : Core) (i : Nat) : Bool := (Sparse.get 0 k.pmp i).testBit 7
def Core.addrLocked (k : Core) (i : Nat) : Bool :=
  k.pmpLocked i || (decide (i < 15) && k.pmpLocked (i + 1) && bitsOf (Sparse.get 0 k.pmp (i + 1)) 3 2 == 1)

/-- A write of tdata1: action 0 or 1, matches on the address alone; DMODE is the debug module's. -/
def Core.setTdata1 (k : Core) (debug : Bool) (v : Nat) : Core :=
  if !debug && (k.tdata1 k.tsel).testBit 27 then k
  else
    let v := Nat.land v 0x0800104F
    let v := if debug then v else v - Nat.land v 0x08001000
    { k with trig := Sparse.put 0 k.trig (2 * k.tsel) v }

/-- A CSR written, by the core or by the debug module; read-only ones and those that the cores do not hold stay. -/
def Core.setCsr (k : Core) (n v : Nat) (debug : Bool := true) : Core :=
  match n with
  | 0x001 => Core.dirty { k with fcsr := k.fcsr / 32 * 32 + v % 32 }
  | 0x002 => Core.dirty { k with fcsr := k.fcsr % 32 + v % 8 * 32 }
  | 0x003 => Core.dirty { k with fcsr := v % 256 }
  | 0x300 => { k with mstatus := legalStatus v }
  | 0x304 => { k with mie := Nat.land v 0x888 }
  | 0x305 => { k with mtvec := v / 4 * 4 + v % 2 }
  | 0x306 => { k with mcounteren := v % 2 ^ 32 }
  | 0x340 => { k with mscratch := v }
  | 0x341 => { k with mepc := v / 2 * 2 }
  | 0x342 => { k with mcause := v }
  | 0x343 => { k with mtval := v }
  | 0x7A0 => { k with tsel := v % 4 }
  | 0x7A1 => k.setTdata1 debug v
  | 0x7A2 =>
    if !debug && (k.tdata1 k.tsel).testBit 27 then k else { k with trig := Sparse.put 0 k.trig (2 * k.tsel + 1) v }
  | 0x7B0 => { k with dcsr := k.dcsr - Nat.land k.dcsr 0x9007 + Nat.land v 0x9004 + (if v % 4 = 3 then 3 else 0) }
  | 0x7B1 => { k with pc := v / 2 * 2 }
  | 0x7C0 => { k with kflags := v % 4 }
  | 0xB02 => { k with minstret := k.minstret / 2 ^ 32 * 2 ^ 32 + v }
  | 0xB82 => { k with minstret := k.minstret % 2 ^ 32 + v * 2 ^ 32 }
  | _ =>
    if 0x3A0 ≤ n ∧ n < 0x3A4 then
      { k with pmp := (List.range 4).foldl (fun m i =>
          if k.pmpLocked (4 * (n - 0x3A0) + i) then m
          else Sparse.put 0 m (4 * (n - 0x3A0) + i) (legalPmp (bitsOf v (8 * i) 8))) k.pmp }
    else if 0x3B0 ≤ n ∧ n < 0x3C0 then
      (if k.addrLocked (n - 0x3B0) then k else { k with pmp := Sparse.put 0 k.pmp (16 + (n - 0x3B0)) v })
    else k

/-- R104. The request that a sampled CSR makes, if `n` is one. -/
def sampledCsr (n : Nat) : Option ReqKind :=
  if n = 0xFC0 then some .sampleKvstat
  else if n = 0xB00 ∨ n = 0xC00 ∨ n = 0xC01 then some (.sampleHalf false)
  else if n = 0xB80 ∨ n = 0xC80 ∨ n = 0xC81 then some (.sampleHalf true)
  else none

/-- Whether the mode may access CSR `n`: M for the numbers that say so; in U mode the counters that mcounteren enables; fcsr
while FS is not off; the debug CSRs in no mode. -/
def Core.csrAllowed (k : Core) (n : Nat) : Bool :=
  if bitsOf n 8 2 = 0 then
    if n < 4 then bitsOf k.mstatus 13 2 != 0
    else if 0xC00 ≤ n ∧ n < 0xCA0 then k.mmode || k.mcounteren.testBit (n % 32) else true
  else k.mmode && !(decide (0x7B0 ≤ n) && decide (n < 0x7C0))

/-- Zicsr. The instruction `f3` on CSR `n`, with operand `v`; `wr` and `rd` say whether it writes and where it reads to. -/
def Core.csrInstr (k : Core) (hart bits len f3 n rd v : Nat) (wr : Bool) : Exec :=
  if !k.csrAllowed n || (wr && bitsOf n 10 2 == 3) then .trap 2 bits
  else match sampledCsr n with
    | some q => if rd = 0 ∧ f3 % 4 = 1 then .done (k.retireBy len) else .ask { kind := q, mmode := k.mmode, dest := .x rd 4 false, len := len }
    | none => match (if n = 0xF14 then some hart else k.csr n) with
      | none => .trap 2 bits
      | some old =>
        let new := match f3 % 4 with
          | 1 => v
          | 2 => Nat.lor old v
          | _ => Nat.land old (2 ^ 32 - 1 - v)
        let t := if wr then k.setCsr n new false else k
        let kept := wr && (n == 0xB02 || n == 0xB82)
        let t := (t.setReg rd old).retireBy len
        .done (if kept then { t with minstret := (k.setCsr n new false).minstret } else t)

/-! ## Privileged instructions -/

/-- MRET: the interrupt enable and the mode before the trap come back. -/
def Core.mret (k : Core) : Core :=
  let ms := k.mstatus
  let m := bitsOf ms 11 2 == 3
  let v := ms - bitOf ms 3 * 8 - bitOf ms 7 * 128 - bitsOf ms 11 2 * 2048 - (if m then 0 else bitOf ms 17 * 2 ^ 17)
  { k with mstatus := v + bitOf ms 7 * 8 + 128, mmode := m, pc := k.mepc, minstret := (k.minstret + 1) % 2 ^ 64 }

/-- The instructions of SYSTEM with funct3 0. -/
def Core.system (k : Core) (bits len w : Nat) : Exec :=
  if w = 0x00000073 then .trap (if k.mmode then 11 else 8) 0
  else if w = 0x00100073 then .trap 3 k.pc
  else if w = 0x30200073 ∧ k.mmode then .done k.mret
  else if w = 0x10500073 ∧ (k.mmode || !k.mstatus.testBit 21) then
    -- an interrupt that waits already ends the wait at once
    .done ({ k with wfi := !(k.mip && k.mie.testBit 11) }.retireBy len)
  else .trap 2 bits

/-! ## Loads, stores and atomics -/

/-- The mode under which a load or store is checked (MPRV). -/
def Core.dataMode (k : Core) : Bool :=
  if k.mmode && k.mstatus.testBit 17 then bitsOf k.mstatus 11 2 == 3 else k.mmode

/-- A request for memory; one that is not aligned traps, but in the pair region, where R108 answers it. -/
def Core.memAsk (k : Core) (kind : ReqKind) (a size data len : Nat) (d : Dest) : Exec :=
  if a % size ≠ 0 ∧ !within .pair a 1 then .trap (if kind = .load ∨ kind = .lr then 4 else 6) a
  else .ask { kind := kind, addr := a, size := size, be := (2 ^ size - 1) * 2 ^ (a % 4), data := data, mmode := k.dataMode,
              dest := d, len := len }

/-- The rounding mode of a field: 7 is the dynamic one; none where it is reserved. -/
def Core.rounding (k : Core) (rm : Nat) : Option Nat :=
  let r := if rm = 7 then k.fcsr / 32 % 8 else rm
  if r ≤ 4 then some r else none

/-- A result to register f, or to register x, with its flags. -/
def Core.putF (k : Core) (rd len : Nat) (r : Nat × Nat) : Exec := .done (((k.setFreg rd r.1).flags r.2).retireBy len)
def Core.putX (k : Core) (rd len : Nat) (r : Nat × Nat) : Exec := .done (((k.setReg rd r.1).flags r.2).retireBy len)

/-- OP-FP. -/
def Core.opFp (k : Core) (bits len w : Nat) : Exec :=
  let rd := bitsOf w 7 5
  let f3 := bitsOf w 12 3
  let rs2 := bitsOf w 20 5
  let a := k.freg (bitsOf w 15 5)
  let b := k.freg rs2
  let x := k.reg (bitsOf w 15 5)
  let sgn (s : Nat) : Exec := k.putF rd len (a % 2 ^ 31 + s * 2 ^ 31, 0)
  let rounded (f : Nat → Exec) : Exec := match k.rounding f3 with
    | some rm => f rm
    | none => .trap 2 bits
  match bitsOf w 25 7 with
  | 0x00 => rounded fun rm => k.putF rd len (fAdd rm a b)
  | 0x04 => rounded fun rm => k.putF rd len (fSub rm a b)
  | 0x08 => rounded fun rm => k.putF rd len (fMul rm a b)
  | 0x0C => rounded fun rm => k.putF rd len (fDiv rm a b)
  | 0x2C => if rs2 = 0 then rounded fun rm => k.putF rd len (fSqrt rm a) else .trap 2 bits
  | 0x10 => match f3 with
    | 0 => sgn (bitOf b 31)
    | 1 => sgn (1 - bitOf b 31)
    | 2 => sgn (if bitOf a 31 = bitOf b 31 then 0 else 1)
    | _ => .trap 2 bits
  | 0x14 => if f3 ≤ 1 then k.putF rd len (fMinMax (f3 == 1) a b) else .trap 2 bits
  | 0x50 => if f3 ≤ 2 then k.putX rd len (fCompare f3 a b) else .trap 2 bits
  | 0x60 => if rs2 ≤ 1 then rounded fun rm => k.putX rd len (fToInt rm (rs2 == 1) a) else .trap 2 bits
  | 0x68 =>
    if rs2 ≤ 1 then rounded fun rm => k.putF rd len (roundMode rm (.ofInt (if rs2 = 1 then (x : Int) else toSigned 32 x)))
    else .trap 2 bits
  | 0x70 =>
    if rs2 ≠ 0 then .trap 2 bits
    else if f3 = 0 then k.putX rd len (a, 0) else if f3 = 1 then k.putX rd len (fClass a, 0) else .trap 2 bits
  | 0x78 => if rs2 = 0 ∧ f3 = 0 then k.putF rd len (x, 0) else .trap 2 bits
  | _ => .trap 2 bits

/-- FMADD, FMSUB, FNMSUB and FNMADD. -/
def Core.fused (k : Core) (fOn : Bool) (bits len w : Nat) (negProd negSum : Bool) : Exec :=
  match k.rounding (bitsOf w 12 3) with
  | some rm =>
    if !fOn || bitsOf w 25 2 != 0 then .trap 2 bits
    else k.putF (bitsOf w 7 5) len
      (fMulAdd rm negProd negSum (k.freg (bitsOf w 15 5)) (k.freg (bitsOf w 20 5)) (k.freg (bitsOf w 27 5)))
  | none => .trap 2 bits

/-- R109. The instructions of custom-0 and custom-1; every other encoding there is illegal. -/
def Core.keafy (k : Core) (uTick : Bool) (bits w : Nat) : Exec :=
  let rd := bitsOf w 7 5
  let f3 := bitsOf w 12 3
  let rs1 := bitsOf w 15 5
  let rs2 := bitsOf w 20 5
  if bitsOf w 25 7 ≠ 0 then .trap 2 bits
  else if w % 128 = 0x0B then
    if f3 = 0 ∨ (f3 ≤ 2 ∧ rs2 = 0) then (k.pairIntent f3 rs1 bits rd).exec (.pair f3 rd rs2) else .trap 2 bits
  else if f3 = 0 ∧ rs1 = 0 ∧ rs2 = 0 then (k.tickIntent uTick rd bits).exec (.both rd)
  else if f3 = 1 ∧ rs2 = 0 ∧ rd = 0 then .kend rs1
  else .trap 2 bits

/-- R101. The instruction `w` of `len` bytes; `bits` are those of the instruction as it stands in memory, which an
illegal-instruction exception gives in mtval. -/
def Core.exec (k : Core) (hart : Nat) (uTick : Bool) (bits len w : Nat) : Exec :=
  let rd := bitsOf w 7 5
  let f3 := bitsOf w 12 3
  let f7 := bitsOf w 25 7
  let rs1 := bitsOf w 15 5
  let rs2 := bitsOf w 20 5
  let a := k.reg rs1
  let b := k.reg rs2
  let fOn := bitsOf k.mstatus 13 2 != 0
  let put (v : Nat) : Exec := .done ((k.setReg rd v).retireBy len)
  let jump (t v : Nat) : Exec :=
    .done { k.setReg rd v with pc := t % 2 ^ 32 / 2 * 2, minstret := (k.minstret + 1) % 2 ^ 64 }
  match w % 128 with
  | 0x37 => put (w / 4096 * 4096)
  | 0x17 => put (addW k.pc (w / 4096 * 4096))
  | 0x6F => jump (k.pc + immJ w) ((k.pc + len) % 2 ^ 32)
  | 0x67 => if f3 = 0 then jump (a + immI w) ((k.pc + len) % 2 ^ 32) else .trap 2 bits
  | 0x63 => match branches f3 a b with
    | none => .trap 2 bits
    | some false => .done (k.retireBy len)
    | some true => .done { k with pc := addW k.pc (immB w), minstret := (k.minstret + 1) % 2 ^ 64 }
  | 0x03 =>
    let size := 2 ^ (f3 % 4)
    if f3 = 3 ∨ 5 < f3 then .trap 2 bits
    else k.memAsk .load (addW a (immI w)) size 0 len (.x rd size (decide (f3 < 4)))
  | 0x23 =>
    if 2 < f3 then .trap 2 bits else k.memAsk .store (addW a (immS w)) (2 ^ f3) (b % 2 ^ (8 * 2 ^ f3)) len .none
  | 0x07 => if f3 ≠ 2 || !fOn then .trap 2 bits else k.memAsk .load (addW a (immI w)) 4 0 len (.f rd)
  | 0x27 => if f3 ≠ 2 || !fOn then .trap 2 bits else k.memAsk .store (addW a (immS w)) 4 (k.freg rs2) len .none
  | 0x2F =>
    let op := f7 / 4
    if f3 ≠ 2 then .trap 2 bits
    else if op = 2 then (if rs2 = 0 then k.memAsk .lr a 4 0 len (.x rd 4 false) else .trap 2 bits)
    else if op = 3 then k.memAsk .sc a 4 b len (.x rd 4 false)
    else if op ∈ [0, 1, 4, 8, 12, 16, 20, 24, 28] then k.memAsk (.amo op) a 4 b len (.x rd 4 false)
    else .trap 2 bits
  | 0x13 =>
    if (f3 = 1 ∧ f7 ≠ 0) ∨ (f3 = 5 ∧ f7 ≠ 0 ∧ f7 ≠ 0x20) then .trap 2 bits
    else put (alu f3 (f3 == 5 && f7 == 0x20) a (immI w))
  | 0x33 =>
    if f7 = 1 then put (mulDiv f3 a b)
    else if f7 = 0 then put (alu f3 false a b)
    else if f7 = 0x20 ∧ (f3 = 0 ∨ f3 = 5) then put (alu f3 true a b)
    else .trap 2 bits
  | 0x0F => match f3 with
    | 0 => .ask { kind := .fence, mmode := k.mmode, len := len }
    | 1 => .fenceI
    | _ => .trap 2 bits
  | 0x73 =>
    if f3 = 0 then k.system bits len w
    else if f3 = 4 then .trap 2 bits
    else k.csrInstr hart bits len f3 (bitsOf w 20 12) rd (if f3 < 4 then a else rs1) (f3 % 4 == 1 || rs1 != 0)
  | 0x53 => if fOn then k.opFp bits len w else .trap 2 bits
  | 0x43 => k.fused fOn bits len w false false
  | 0x47 => k.fused fOn bits len w false true
  | 0x4B => k.fused fOn bits len w true false
  | 0x4F => k.fused fOn bits len w true true
  | 0x0B => k.keafy uTick bits w
  | 0x2B => k.keafy uTick bits w
  | _ => .trap 2 bits

/-! ## The answer to a request -/

/-- R103, R110, R114, R122. What a core makes of the answer to its request `r`, which moved a pair-word where `inPair` says so:
the destination takes the value, the shadow digest folds a pair-word, and the instruction retires; or it traps. -/
def Core.takeAnswer (k : Core) (inPair : Bool) (r : Req) (p : Resp) : Core :=
  let fold (v : Nat) : Core := if inPair then { k with shadow := k.shadow ++ [v] } else k
  match p with
  | .trap cause => k.trap cause r.addr
  | .done => (fold (r.data % 2 ^ 32)).retireBy r.len
  | .words v c => match r.dest with
    | .pair m rd rs2 => k.pairEnd m rd rs2 v c
    | _ => (fold v).retireBy r.len
  | .value v =>
    let t := fold v
    Core.retireBy (match r.dest with
      | .x rd size signed => t.setReg rd (if signed then sext (8 * size) v else v % 2 ^ (8 * size))
      | .f rd => t.setFreg rd v
      | .both rd => (t.setReg rd v).setReg (rd + 1) (v / 2 ^ 32)
      | _ => t) r.len

end Sys2Proof.Machine
end

