-- ==== Sys2Proof/Machine/Egress.lean ====
section
/-! DEFINITION. The egress voter: the requests of the cores and what a released request does (spec/04 R104 to R108, R113 to
R119; spec/12 R396, R397, R581). The rows of the Ransel messages stand here, since a READ
lets a trail's held request go.

Marks (notes/assumptions): DEDUCED 17, 18, 19, 22, 23. -/

namespace Sys2Proof.Machine

/-! ## What a request does (R104 to R108, R119) -/

/-- The access fault of a request: cause 5 for a load or LR, 7 for the others. -/
def ReqKind.fault : ReqKind → Nat
  | .load => 5
  | .lr => 5
  | _ => 7

/-- R108, R110, R139, R396. A load from the pair region; a Keafy load takes both words. -/
def State.loadPair (s : State) (init a n : Nat) : State × Resp :=
  if n = 8 then match s.pairLoad init a n with
    | (s, .fault c) => (s, .trap c)
    | (s, .words v c) => (s, .words v c)
  else if a % 8 ≠ 0 ∨ n ≠ 4 then
    match s.check { init := init } .read a n with
    | some r => (s.noteRefused r .read, .trap 5)
    | none => (s, .trap 25)
  else match s.pairLoad init a n with
  | (s, .fault c) => (s, .trap c)
  | (s, .words v c) => (s, if pairValid v c then .value v else .trap 24)

/-- R108, R143, R144, R396. A store to the pair region: the voted complex stores to an output block of the class in execute,
whose pending set takes the value; everything else that it may store to is written at once. -/
def State.storePair (s : State) (init a n v : Nat) : State × Resp :=
  match s.check { init := init } .write a n with
  | some r => (s.noteRefused r .write, .trap 7)
  | none =>
    if a % 8 ≠ 0 ∨ n ≠ 4 then (s, .trap 25)
    else if inputImage a then (s, .trap 7)
    else
      let s := s.present { init := init } a 4 true
      let v := v % 2 ^ 32
      if outputImage a ∧ init = 0 then
        let i := (a - 0x2080000) / 8
        match s.runClass with
        | none => (s, .trap 7)
        | some k =>
          if s.owner i ≠ k then (s, .trap 7)
          else
            let c := s.cls k
            (s.setCls k { c with pend := Sparse.insert c.pend i v }, .done)
      else (s.putPair init a v, .done)

/-- R106. The result of an AMO on words. -/
def amoResult (op old v : Nat) : Nat :=
  match op with
  | 0 => (old + v) % 2 ^ 32
  | 1 => v
  | 4 => Nat.xor old v
  | 8 => Nat.lor old v
  | 12 => Nat.land old v
  | 16 => if toSigned 32 old ≤ toSigned 32 v then old else v
  | 20 => if toSigned 32 old ≤ toSigned 32 v then v else old
  | 24 => min old v
  | _ => max old v

/-- R106, R581. LR, SC and the AMO instructions: in control SRAM and DRAM, performed once at the target. An unreadable unit
fails as its read fails. -/
def State.atomicReq (s : State) (init a : Nat) (r : Req) : State × Resp :=
  let f := r.kind.fault
  if within .pair a 1 then (s, .trap 25)
  else if !inSramDram a 4 || a % 4 ≠ 0 then (s, .trap f)
  else
    let v : Via := { init := init }
    let d := r.data % 2 ^ 32
    -- LR asks for read, SC for write, an AMO for both
    match (if r.kind = .sc then none else s.check v .read a 4) with
    | some x => (s.noteRefused x .read, .trap f)
    | none => match (if r.kind = .lr then none else s.check v .write a 4) with
      | some x => ((s.noteRefused x .write).bellsRefused init a 4, .trap f)
      | none =>
        let (up, s) := s.dramUp init a 4
        if !up || s.unitBad (a / 8) then (s, .trap 5)
        else
          let s := s.present v a 4 (r.kind != .lr) true
          match r.kind with
          | .lr => ({ s with vot := { s.vot with reserve := some a } }, .value (leNat (s.bytes a 4)))
          | .sc =>
            let held := s.vot.reserve == some a
            let s : State := { s with vot := { s.vot with reserve := none } }
            if held then ((s.store a (leBytes 4 d)).written init a (leBytes 4 d), .value 0) else (s, .value 1)
          | .amo op =>
            let old := leNat (s.bytes a 4)
            let bs := leBytes 4 (amoResult op old d)
            ((s.store a bs).written init a bs, .value old)
          | _ => (s, .done)

/-- A plain load or store outside the pair region. -/
def State.plainReq (s : State) (init a : Nat) (r : Req) : State × Resp :=
  let v : Via := { init := init }
  if rangeOf a = .reg then
    if r.kind = .load then
      match s.regRead init (a - 0x10000000) r.size with
      | (s, none) => (s, .trap 5)
      | (s, some w) =>
        if init = 0 then let (s, w) := s.sampled 0 w; (s, .value w) else (s, .value w)
    else match s.regWrite init (a - 0x10000000) r.size r.data with
      | (s, true) => (s, .trap 7)
      | (s, false) => (s, .done)
  else if r.kind = .load then match s.read v a r.size with
    | (s, .error _) => (s, .trap 5)
    | (s, .ok bs) => (s, .value (leNat bs))
  else match s.write v a (leBytes r.size r.data) with
    | (s, .error _) => (s, .trap 7)
    | (s, .ok _) => (s, .done)

/-- R104 to R108, R119. A released request of initiator `init`. -/
def State.perform (s : State) (init : Nat) (r : Req) : State × Resp :=
  match r.kind with
  | .fence => (s, .done)
  | .sampleTick => let (s, v) := s.sampled init s.now; (s, .value v)
  | .sampleHalf high => let (s, v) := s.sampled init (if high then s.now / 2 ^ 32 % 2 ^ 32 else s.now % 2 ^ 32); (s, .value v)
  | .sampleKvstat => let (s, v) := s.sampled init (s.regValue init 9 4); (s, .value v)
  | k => match s.coreAddr r.addr with
    | none => (s, .trap k.fault)
    | some a =>
      if rangeOf a = .reg ∧ (k ≠ .load ∧ k ≠ .store) then (s, .trap k.fault)
      else if k ≠ .load ∧ k ≠ .store then s.atomicReq init a r
      else if !within .pair a 1 then s.plainReq init a r
      else if k = .load then s.loadPair init a r.size
      else s.storePair init a r.size r.data

/-! ## The voter (R113 to R118) -/

/-- R352. Whether the release of a request takes a value that the lead's READ brings. -/
def State.samples (s : State) (r : Req) : Bool :=
  match r.kind with
  | .sampleTick => true
  | .sampleHalf _ => true
  | .sampleKvstat => true
  | .load => ((s.coreAddr r.addr).map fun a => rangeOf a == .reg).getD false
  | _ => false

/-- R114. The response to its request `i` reaches core `c`. -/
def State.answer (s : State) (c i : Nat) (r : Req) (p : Resp) : State :=
  let inPair := ((s.coreAddr r.addr).map fun a => within .pair a 1).getD false
  let s := s.setCore c ((s.core c).takeAnswer inPair r p)
  { s with vot := { s.vot with resps := (s.vot.resps.filter fun x => x.1 != c) ++ [(c, i, p)] } }

/-- R114, R115. Request `i` is released: every core that presented it is answered, one that presented another is the
minority, and the others owe their copy. -/
def State.releaseReq (s : State) (i : Nat) (r : Req) (ps : List Presented) : State :=
  let s := { s with vot := { s.vot with presented := s.vot.presented.filter (·.idx != i) } }
  let (s, p) := s.perform 0 r
  let same := ps.filter fun x => x.req.same r
  let s := same.foldl (fun s x => s.answer x.core i x.req p) s
  let owed := s.running.filter fun c => !ps.any (·.core == c)
  let s := if owed.isEmpty then s
    else { s with vot := { s.vot with released := s.vot.released ++ [⟨i, r, p, s.now, owed⟩] } }
  (ps.filter fun x => !x.req.same r).foldl (fun s x => s.minority x.core false x.req.addr) s

/-- R490, R492. A held access to DRAM is a wake event of D3, once. -/
def State.heldWake (s : State) : State :=
  if s.domState 3 == 1 || (s.domState 3 == 4 && !(s.dom 3).wakeAfter) then s.wakeEvent 3 else s

/-- R114, R116, R118. The lowest request presented is released, found without majority, or left to wait; answers whether
the voter has moved on. -/
def State.voteOne (s : State) : State × Bool :=
  match s.vot.presented with
  | [] => (s, false)
  | p :: rest =>
    if !s.voting then (s, false)
    else
      let i := rest.foldl (fun m x => min m x.idx) p.idx
      let ps := s.vot.presented.filter (·.idx == i)
      let pair := ps.find? fun x => ps.any fun y => y.core != x.core && y.req.same x.req
      match pair with
      | some x =>
        if s.samples x.req && s.readWaits then (s, false)
        else if s.accessHeld x.req then (s.heldWake, false)
        else (s.releaseReq i x.req ps, true)
      | none =>
        if ps.length < s.running.length then (s, false)
        else (s.failstop (if s.get VOT.STATUS.MODE = 0 then 4 else 5) ((ps.head?.map fun x => x.req.addr).getD 0), false)

/-- Requests released one after the other; `fuel` bounds their number. -/
def State.voteN : Nat → State → State
  | 0, s => s
  | fuel + 1, s => match s.voteOne with
    | (s, true) => State.voteN fuel s
    | (s, false) => s

/-- R117. At most 8 requests of each core are presented. -/
def State.voteAll (s : State) : State := s.voteN 24

/-- R113, R115, R117. Core `c` presents its next request to the voter. -/
def State.presentReq (s : State) (c : Nat) (r : Req) : State :=
  let held := (s.vot.presented.filter (·.core == c)).length
  if 8 ≤ held then s
  else
    let i := s.vot.count.getD c 0
    let s := { s with vot := { s.vot with count := s.vot.count.set c (i + 1) } }
    match s.vot.released.find? fun x => x.idx == i && x.owed.contains c with
    | some x =>
      if x.tick + 64 < s.now then s.minority c true r.addr
      else if !x.req.same r then s.minority c false r.addr
      else
        let rel := (s.vot.released.map fun (y : Released) => if y.idx = i then { y with owed := y.owed.filter (· != c) } else y)
        let s := { s with vot := { s.vot with released := rel.filter fun (y : Released) => !y.owed.isEmpty } }
        s.answer c i r x.resp
    | none => State.voteAll { s with vot := { s.vot with presented := s.vot.presented ++ [⟨c, i, r, s.now⟩] } }

/-- R102, R107, R112. The fault that a core takes by itself, before any request: outside its map, refused by PMP, or kvstat
in U mode. -/
def State.ownFault (s : State) (c : Nat) (r : Req) : Option (Nat × Nat) :=
  match r.kind with
  | .fence => none
  | .sampleTick => none
  | .sampleHalf _ => none
  | .sampleKvstat => if r.mmode then none else some (2, 0)
  | k =>
    let core := { s.core c with mmode := r.mmode }
    if (s.coreAddr r.addr).isNone then some (k.fault, r.addr)
    else if !core.pmpOk r.addr r.size (if k = .load ∨ k = .lr then 0 else 1) then some (k.fault, r.addr)
    else none

/-- R114, R119. A core's egress request: to the voter in VOTE3 and VOTE2, past it in SPLIT and DEBUG. -/
def State.egress (s : State) (c : Nat) (r : Req) : State :=
  if !s.domOn 1 || s.bit VOT.STATUS.FAILSTOP || !(s.core c).running then s
  else match s.ownFault c r with
    | some (cause, v) => s.setCore c ((s.core c).trap cause v)
    | none =>
      if s.voting then s.presentReq c r
      else if s.get VOT.STATUS.MODE < 2 then s
      else
        let i := s.vot.count.getD c 0
        let (s, p) := { s with vot := { s.vot with count := s.vot.count.set c (i + 1) } }.perform (c + 1) r
        s.answer c i r p

/-! ## Ransel messages -/

/-- A message, and the requests that it lets go. -/
def State.messageIn (s : State) (h : RanselHead) (m : RMsg) : State := (s.ranselIn h m).voteAll

def execSeqMissing (s : State) : Answer := s.seqMissing.voteAll.done

def execHeartbeat (h : RanselHead) (st : Fin 6) (eligible lease : Bool) (epoch cycle tick : Nat) (down : List Nat)
    (s : State) : Answer :=
  (s.messageIn h (.heartbeat st eligible lease epoch cycle tick down)).done
def execHello (h : RanselHead) (unit slot proto carrier gen : Nat) (digest : List Nat) (s : State) : Answer :=
  (s.messageIn h (.hello unit slot proto carrier gen digest)).done
def execNak (h : RanselHead) (missing : Nat) (s : State) : Answer := (s.messageIn h (.nak missing)).done
def execCutList (h : RanselHead) (k : Fin 8) (c : CutWait) (s : State) : Answer :=
  (s.messageIn h (.cutList { c with cls := k, waiting := false })).done
def execRanselCommit (h : RanselHead) (k : Fin 8) (cycle digest tick : Nat) (s : State) : Answer :=
  (s.messageIn h (.commit k cycle digest tick)).done
def execRanselRead (h : RanselHead) (idx value : Nat) (s : State) : Answer := (s.messageIn h (.read idx value)).done
def execDelivery (h : RanselHead) (point : Nat) (words : List Nat) (s : State) : Answer :=
  (s.messageIn h (.delivery point words)).done
def execRanselLock (h : RanselHead) (idx : Nat) (lock : Fin 64) (status : Fin 256) (s : State) : Answer :=
  (s.messageIn h (.lock idx lock status)).done
def execCompletion (h : RanselHead) (ring : Fin 64) (record data : List Nat) (s : State) : Answer :=
  (s.messageIn h (.completion ring record data)).done
def execRanselLoop (h : RanselHead) (i : LoopHead) (word out tick : Nat) (s : State) : Answer :=
  (s.messageIn h (.loop ⟨i.inst, i.mode, i.flags, word, out, tick⟩)).done
def execChannelStatus (h : RanselHead) (ch : Fin 8) (flags : Fin 4) (ma : Nat) (s : State) : Answer :=
  (s.messageIn h (.channelStatus ch flags ma)).done
def execRanselControl (h : RanselHead) (c : Control) (s : State) : Answer := (s.messageIn h (.control h.link c)).done
def execCrossedNotice (h : RanselHead) (b gen : Nat) (s : State) : Answer := (s.messageIn h (.crossed b gen)).done
def execRanselMirror (h : RanselHead) (chans : List (Nat × Nat × Nat × Nat)) (await : Fin 16) (s : State) : Answer :=
  (s.messageIn h (.mirror chans await)).done
def execStateDigest (h : RanselHead) (cycle : Nat) (blocks : List (Nat × Nat)) (s : State) : Answer :=
  (s.messageIn h (.stateDigest cycle blocks)).done
def execBlockData (h : RanselHead) (idx cycle : Nat) (data : List Nat) (s : State) : Answer :=
  (s.messageIn h (.blockData idx cycle data)).done
def execBlockRequest (h : RanselHead) (idx : Nat) (s : State) : Answer := (s.messageIn h (.blockRequest idx)).done
def execFrameRequest (h : RanselHead) (node : Fin 2048) (seq : Nat) (s : State) : Answer :=
  (s.messageIn h (.frameRequest node seq)).done
def execFrameData (h : RanselHead) (node : Fin 2048) (seq : Nat) (body : List Nat) (s : State) : Answer :=
  (s.messageIn h (.frameData node seq body)).done
def execRelay (h : RanselHead) (c : Fin 4) (frame : List Nat) (s : State) : Answer :=
  (s.messageIn h (.relay c frame)).done
def execStaged (h : RanselHead) (gen crc : Nat) (s : State) : Answer := (s.messageIn h (.staged gen crc)).done
def execHandoverRequest (h : RanselHead) (cause : Fin 256) (s : State) : Answer :=
  (s.messageIn h (.handoverRequest cause)).done
def execHandover (h : RanselHead) (b epoch : Nat) (s : State) : Answer := (s.messageIn h (.handover b epoch)).done
def execYield (h : RanselHead) (epoch : Nat) (cause : Fin 256) (s : State) : Answer :=
  (s.messageIn h (.yield epoch cause)).done
def execTetherData (h : RanselHead) (off : Nat) (data : List Nat) (s : State) : Answer :=
  (s.messageIn h (.tetherData off data)).done
def execTether (h : RanselHead) (cycle digest : Nat) (img : TetherImage) (s : State) : Answer :=
  (s.messageIn h (.tether cycle digest img)).done

end Sys2Proof.Machine
end

