-- ==== Sys2Proof/Machine/Run.lean ====
section
/-! DEFINITION. The cores at their program: fetching and running instructions, the delivery point, triggers, DEBUG and the debug
module's accesses (spec/04 R103 to R107, R120, R121, R127, R130).

Marks (notes/assumptions): DEDUCED 33, 34, 35; DESIGN CHOICE 139; PRESUMED 24. -/

namespace Sys2Proof.Machine

/-! ## Fetching (R105, R107, R108) -/

/-- R105, R119. The initiator of a core's fetches: 0 while the complex votes, its own in SPLIT and DEBUG. -/
def State.fetchInit (s : State) (c : Nat) : Nat := if s.get VOT.STATUS.MODE ≤ 1 then 0 else c + 1

/-- R105. Line `l` of memory for core `c`: from its cache, which holds 512 lines of 64 bytes, or from memory by an unvoted read
under the protection table; none where that is refused or fails. -/
def State.fetchLine (s : State) (c l : Nat) : State × Option (List Nat) :=
  match (s.vot.icache.getD c []).find? (fun x => x.1 == l) with
  | some x => (s, some x.2)
  | none =>
    let r := rangeOf (l * 64)
    if r = .pair ∨ r = .reg then (s, none)
    else match s.read { init := s.fetchInit c } (l * 64) 64 .exec with
      | (s, .error _) => (s, none)
      | (s, .ok bs) =>
        ({ s with vot := { s.vot with icache := s.vot.icache.set c (((l, bs) :: s.vot.icache.getD c []).take 512) } }, some bs)

/-- R102, R105, R107. The 16 bits at core address `a`, or none for an instruction access fault. -/
def State.parcel (s : State) (c a : Nat) : State × Option Nat :=
  match s.coreAddr a with
  | none => (s, none)
  | some p =>
    if !(s.core c).pmpOk a 2 2 then (s, none)
    else match s.fetchLine c (p / 64) with
      | (s, none) => (s, none)
      | (s, some bs) => (s, some (leAt bs (p % 64) 2))

/-- The instruction at the pc of core `c`, as (bits, length), or the address of the access fault. -/
def State.instruction (s : State) (c : Nat) : State × Except Nat (Nat × Nat) :=
  let pc := (s.core c).pc
  match s.parcel c pc with
  | (s, none) => (s, .error pc)
  | (s, some lo) =>
    if lo % 4 ≠ 3 then (s, .ok (lo, 2))
    else match s.parcel c ((pc + 2) % 2 ^ 32) with
      | (s, none) => (s, .error ((pc + 2) % 2 ^ 32))
      | (s, some hi) => (s, .ok (lo + 65536 * hi, 4))

/-! ## Entering DEBUG (R127, R130) -/

/-- R127. Whether a debug halt request is granted. -/
def State.mayHalt (s : State) : Bool :=
  s.voting && s.bit VOT.DEBUG_CTRL.ALLOW && !(s.pairState == 2 && !s.bit VOT.DEBUG_CTRL.ALLOW_LEAD)

/-- R127, R130. The running cores halt: dcsr tells why (1 ebreak, 2 a trigger, 3 a halt request) and the mode left; dpc is the
pc. A rejoin under way waits for the next one. -/
def State.enterDebug (s : State) (cause : Nat) : State :=
  let s := s.eachCore fun k =>
    { k with dcsr := k.dcsr - bitsOf k.dcsr 6 3 * 64 - k.dcsr % 4 + cause * 64 + (if k.mmode then 3 else 0) }
  let m := match s.vot.rejoin with
    | some r => r.cores.head?
    | none => s.vot.marked
  let v := { s.vot with prior := s.get VOT.STATUS.MODE, halted := true, rejoin := none, marked := m }
  let s := { s with vot := { v with unavailable := false } }
  ((((s.set VOT.STATUS.REJOIN_ACTIVE 0).set VOT.STATUS.MODE 3).set VOT.STATUS.DEBUG_SEEN 1).post 23 0).refreshPair

/-- R130. Whether trigger `i` matches an access of one of `kinds` (0 load, 1 store, 2 execute) to `a` in the core's mode. -/
def Core.triggers (k : Core) (i : Nat) (kinds : List Nat) (a : Nat) : Bool :=
  let t := k.tdata1 i
  t.testBit (if k.mmode then 6 else 3) && kinds.any t.testBit && k.tdata2 i == a

/-- R130. What the lowest trigger that matches does: `true` a debug halt, where one is granted; `false` a breakpoint trap. -/
def State.hit (s : State) (k : Core) (kinds : List Nat) (a : Nat) : Option Bool :=
  match (List.range 4).find? fun i => k.triggers i kinds a with
  | none => none
  | some i => if (k.tdata1 i).testBit 12 then (if s.mayHalt then some true else none) else some false

/-- The kinds of access that a trigger sees in a request. -/
def ReqKind.access : ReqKind → List Nat
  | .load => [0]
  | .lr => [0]
  | .store => [1]
  | .sc => [1]
  | .amo _ => [0, 1]
  | _ => []

/-! ## Running (R101, R103) -/

/-- How one instruction of a core went: it goes on; it presented a request; it waits, for an answer or an interrupt; it stands at
KEND; it stands where a debug halt is asked, with the cause. -/
inductive Went where
  | on | asked | waits
  | kend (rs1 : Nat)
  | halt (cause : Nat)
  deriving DecidableEq, Repr

/-- R103. The number that mhartid reads. -/
def State.hartId (s : State) (c : Nat) : Nat := if s.get VOT.STATUS.MODE ≤ 1 then 0 else c + 1

/-- What an instruction of `c` comes to, carried out. -/
def State.carryOut (s : State) (c len : Nat) (e : Exec) : State × Went :=
  let k := s.core c
  match e with
  | .done t => (s.setCore c t, .on)
  | .trap cause v =>
    if cause = 3 ∧ s.mayHalt ∧ k.dcsr.testBit (if k.mmode then 15 else 12) then (s, .halt 1)
    else (s.setCore c (k.trap cause v), .on)
  | .fenceI => ({ s with vot := { s.vot with icache := [[], [], []] } }.setCore c (k.retireBy len), .on)
  | .kend rs1 => (s, .kend rs1)
  | .ask r =>
    match s.hit k r.kind.access r.addr with
    | some true => (s, .halt 2)
    | some false => (s.setCore c (k.trap 3 r.addr), .on)
    | none => (s.egress c r, .asked)

/-- R101, R105. Core `c` fetches its next instruction and runs it. -/
def State.oneInstr (s : State) (c : Nat) : State × Went :=
  let k := s.core c
  if !s.domOn 1 || s.bit VOT.STATUS.FAILSTOP || !k.running || k.wfi || s.vot.presented.any (·.core == c) then (s, .waits)
  else match s.hit k [2] k.pc with
    | some true => (s, .halt 2)
    | some false => (s.setCore c (k.trap 3 k.pc), .on)
    | none => match s.instruction c with
      | (s, .error a) => (s.setCore c (k.trap 1 a), .on)
      | (s, .ok (bits, len)) =>
        match (if len = 4 then some bits else expand bits) with
        | none => (s.setCore c (k.trap 2 bits), .on)
        | some w => s.carryOut c len (k.exec (s.hartId c) (s.bit VOT.KEAFY_CTRL.U_TICK) bits len w)

/-- Whether the running cores stand at one instruction of their stream, with no request out. -/
def State.abreast (s : State) : Bool :=
  let m := (s.core (s.running.headD 0)).minstret
  s.voting && s.vot.presented.isEmpty && s.running.all fun c => (s.core c).minstret == m

/-- R105, R114. Core `c` runs at most `n` instructions, up to the first that presents a request, waits, or stands at KEND. A halt
that an instruction asks comes once every running core stands at it. -/
def State.runCore (c : Nat) : Nat → State → State
  | 0, s => s
  | n + 1, s => match s.oneInstr c with
    | (s, .on) => State.runCore c n s
    | (s, .halt cause) => if s.abreast then s.enterDebug cause else s
    | (s, _) => s

/-- EGRESS_REQUEST: core and request; or the instructions up to the core's next request. -/
def execEgressRequest (c : Fin 3) (r : Req) (s : State) : Answer :=
  if r.run = 0 then (s.egress c r).done
  else if !s.voting && s.get VOT.STATUS.MODE != 2 then s.done
  else (State.runCore c r.run s).done

/-! ## The delivery point (R120, R121, R352) -/

/-- One instruction of every running core that has not yet retired `p`. -/
def State.round (p : Nat) (s : State) : State :=
  s.running.foldl (fun s c => if (s.core c).minstret < p then (s.oneInstr c).1 else s) s

/-- R121. The running cores run until they have retired `p` instructions. A round may end in a trap, which retires nothing. -/
def State.runTo (s : State) (p : Nat) : State :=
  let low := s.running.foldl (fun m c => min m (s.core c).minstret) p
  (List.range (2 * (p - low))).foldl (fun s _ => s.round p) s

/-- R120. Every running core takes the interrupt at the delivery point; one in WFI takes it at its WFI. Until every core has come
there, running its program, nothing is taken. -/
def State.interruptTaken (s : State) : State :=
  match s.vot.delivery with
  | none => s
  | some p =>
    if !s.voting || s.cutWaits then s
    else
      let s := s.runTo p
      if !s.voting || !(s.running.all fun c => (s.core c).wfi || decide (p ≤ (s.core c).minstret)) then s
      else
        let s := { s with vot := { s.vot with delivery := none } }
        let s := s.adoptPending
        let s := s.eachCore fun k =>
          let k := { k with wfi := false, mip := s.irq0 }
          if k.takes then k.trap (2 ^ 31 + 11) 0 else k
        let s := s.enterExecute
        -- the next delivery of a trail
        match s.par.follow.deliveries with
        | d :: _ => if s.isTrail then { s with vot := { s.vot with delivery := some d.1 } } else s
        | [] => s

def execInterruptTaken (s : State) : Answer := s.interruptTaken.done

/-! ## DEBUG (R127, R130) -/

/-- R127. A debug halt request: refused, with the cores reported unavailable, or all running cores halt at one delivery point. -/
def State.debugHalt (s : State) : State :=
  if !s.mayHalt then { s with vot := { s.vot with unavailable := true } }
  else
    let s := s.runTo s.deliveryPoint
    let s := { s with vot := { s.vot with unavailable := false } }
    if s.abreast || (s.voting && s.running.all fun c => (s.core c).wfi) then s.enterDebug 3 else s

def execDebugHaltRequest (s : State) : Answer := s.debugHalt.done

/-- R127. Resume: the running cores other than REF are rejoined from it, in the mode that its dcsr holds. -/
def State.debugResume (s : State) : State :=
  if s.get VOT.STATUS.MODE ≠ 3 || !s.vot.halted || s.vot.rejoin.isSome then s
  else
    let r := s.get VOT.DEBUG_CTRL.REF
    let r := if r = 3 then 0 else r
    let r := if s.running.contains r then r else s.running.headD 0
    let m := s.vot.marked
    let s := s.eachCore fun k => { k with mmode := k.dcsr % 4 == 3 }
    let s := s.startRejoin (s.running.filter (· != r)) r true
    { s with vot := { s.vot with marked := m } }

def execDebugResume (s : State) : Answer := s.debugResume.done

/-- R130. One instruction of halted core `c`, in the mode that its dcsr holds; KEND by what `before` has of the running class.
Answers whether the class ends. -/
def State.stepCore (before s : State) (c : Nat) : State × Option Nat :=
  let s := s.setCore c { s.core c with mmode := (s.core c).dcsr % 4 == 3, wfi := false }
  let (s, ended) := match s.oneInstr c with
    | (s, .kend rs1) => match before.kendIntent rs1 (s.core c) with
      | .trap cause v => (s.setCore c ((s.core c).trap cause v), none)
      | .req q => (s.setCore c (s.core c).retire, some q.addr)
    | (s, _) => (s, none)
  let k := s.core c
  (s.setCore c { k with dcsr := k.dcsr - bitsOf k.dcsr 6 3 * 64 - k.dcsr % 4 + 4 * 64 + (if k.mmode then 3 else 0) }, ended)

/-- R130. A single step of all the halted cores together. -/
def State.debugStep (s : State) : State :=
  if s.get VOT.STATUS.MODE ≠ 3 || !s.vot.halted || s.vot.rejoin.isSome then s
  else
    let r := s.running.foldl (fun (r : State × Option Nat) c =>
      let (t, e) := State.stepCore s r.1 c
      (t, if r.2.isSome then r.2 else e)) (s, none)
    match r.2 with
    | none => r.1
    | some k =>
      let t := r.1.endClass k
      if k = 0 && t.phase 0 != 2 then t.kendZero else t

def execDebugStep (s : State) : Answer := s.debugStep.done

/-- A register of core `c` by its abstract number: CSRs from 0, x registers from 0x1000, f registers from 0x1020. -/
def State.debugReg (s : State) (c n : Nat) : Option Nat :=
  if n < 0x1000 then
    if n = 0xF14 then some (c + 1)
    else match sampledCsr n with
      | some (.sampleHalf high) => some (if high then s.now / 2 ^ 32 % 2 ^ 32 else s.now % 2 ^ 32)
      | some _ => some (s.regValue (c + 1) 9 4)
      | none => (s.core c).csr n
  else if n < 0x1020 then some ((s.core c).reg (n - 0x1000))
  else if n < 0x1040 then some ((s.core c).freg (n - 0x1020))
  else none

def Core.setDebugReg (k : Core) (n v : Nat) : Core :=
  if n < 0x1000 then k.setCsr n v
  else if n < 0x1020 then k.setReg (n - 0x1000) v
  else if n < 0x1040 then { k with f := Sparse.put 0 k.f (n - 0x1020) v }
  else k

/-- R130. An abstract register or memory access of a halted core: it acts on that core only, memory as its initiator. -/
def State.debugAccess (s : State) (c : Nat) (mem : Bool) (addr : Nat) (write : Option Nat) : State :=
  if !s.domOn 1 || s.get VOT.STATUS.MODE ≠ 3 || !s.vot.halted || s.vot.rejoin.isSome || !(s.core c).running then s
  else
    let note (s : State) (p : Resp) : State :=
      { s with vot := { s.vot with resps := (s.vot.resps.filter fun x => x.1 != c) ++ [(c, s.vot.count.getD c 0, p)] } }
    match mem, write with
    | true, none => let (s, p) := s.perform (c + 1) { kind := .load, addr := addr % 2 ^ 32 }; note s p
    | true, some v => let (s, p) := s.perform (c + 1) { kind := .store, addr := addr % 2 ^ 32, data := v % 2 ^ 32 }; note s p
    | false, none => match s.debugReg c addr with
      | some v => note s (.value v)
      | none => s
    | false, some v => s.setCore c ((s.core c).setDebugReg addr (v % 2 ^ 32))

/-- DEBUG_ABSTRACT_ACCESS: core, memory or register, address or abstract register number, and the value of a write. -/
def execDebugAbstractAccess (c : Fin 3) (mem : Bool) (addr : Nat) (write : Option Nat) (s : State) : Answer :=
  (s.debugAccess c mem addr write).done

end Sys2Proof.Machine
end

