-- ==== Sys2Proof/Machine/Dispatch.lean ====
section
/-! DEFINITION. One arm for each command: the command's meaning. -/

namespace Sys2Proof.Machine

def exec (i : Instr) (s : State) : Host.Outcome State Fault Refusal :=
  match i with
  | .registerWrite init off size value => Sys2Proof.Machine.execRegisterWrite init off size value s
  | .setupLockClose init b => Sys2Proof.Machine.execSetupLockClose init b s
  | .supplyFirstApplied => Sys2Proof.Machine.execSupplyFirstApplied s
  | .seatedChange seated => Sys2Proof.Machine.execSeatedChange seated s
  | .porRelease => Sys2Proof.Machine.execPorRelease s
  | .resetRelease ohms => Sys2Proof.Machine.execResetRelease ohms s
  | .eepromArbitrationRetry bytes => Sys2Proof.Machine.execEepromArbitrationRetry bytes s
  | .partnerResetInLow ticks => Sys2Proof.Machine.execPartnerResetInLow ticks s
  | .carrierLatch on => Sys2Proof.Machine.execCarrierLatch on s
  | .carrierPresence seated => Sys2Proof.Machine.execCarrierPresence seated s
  | .tokenLineLive partner => Sys2Proof.Machine.execTokenLineLive partner s
  | .tokenLineDead partner => Sys2Proof.Machine.execTokenLineDead partner s
  | .faultLedAck => Sys2Proof.Machine.execFaultLedAck s
  | .faultLedRaise => Sys2Proof.Machine.execFaultLedRaise s
  | .referenceOscillatorFail => Sys2Proof.Machine.execReferenceOscillatorFail s
  | .referenceReturn => Sys2Proof.Machine.execReferenceReturn s
  | .speedWindowEnd d whole part => Sys2Proof.Machine.execSpeedWindowEnd d whole part s
  | .ringEnable n => Sys2Proof.Machine.execRingEnable n s
  | .ringDisable n => Sys2Proof.Machine.execRingDisable n s
  | .ringStop n => Sys2Proof.Machine.execRingStop n s
  | .ringAbort n => Sys2Proof.Machine.execRingAbort n s
  | .ringResume n => Sys2Proof.Machine.execRingResume n s
  | .tagsClearPeak => Sys2Proof.Machine.execTagsClearPeak s
  | .dbIgnoredClear => Sys2Proof.Machine.execDbIgnoredClear s
  | .doorbellWrite n init half value => Sys2Proof.Machine.execDoorbellWrite n init half value s
  | .descriptorFetch n => Sys2Proof.Machine.execDescriptorFetch n s
  | .tagGranted => Sys2Proof.Machine.execTagGranted s
  | .descriptorComplete n => Sys2Proof.Machine.execDescriptorComplete n s
  | .nop n => Sys2Proof.Machine.execNop n s
  | .copy n => Sys2Proof.Machine.execCopy n s
  | .fill n => Sys2Proof.Machine.execFill n s
  | .evtRaise src => Sys2Proof.Machine.execEvtRaise src s
  | .evtPendClear t w mask => Sys2Proof.Machine.execEvtPendClear t w mask s
  | .eringEnable n => Sys2Proof.Machine.execEringEnable n s
  | .interruptTaken => Sys2Proof.Machine.execInterruptTaken s
  | .egressRequest c r => Sys2Proof.Machine.execEgressRequest c r s
  | .minorityLate c => Sys2Proof.Machine.execMinorityLate c s
  | .vote2PresentationTimeout => Sys2Proof.Machine.execVote2PresentationTimeout s
  | .progressWatchdog => Sys2Proof.Machine.execProgressWatchdog s
  | .failstopDomainReset => Sys2Proof.Machine.execFailstopDomainReset s
  | .kpls rd rs1 rs2 => Sys2Proof.Machine.execKpls rd rs1 rs2 s
  | .kpchk rd rs1 => Sys2Proof.Machine.execKpchk rd rs1 s
  | .kpraw rd rs1 => Sys2Proof.Machine.execKpraw rd rs1 s
  | .ktick rd => Sys2Proof.Machine.execKtick rd s
  | .kend rs1 => Sys2Proof.Machine.execKend rs1 s
  | .fenceI => Sys2Proof.Machine.execFenceI s
  | .rejoinMirrorEnd => Sys2Proof.Machine.execRejoinMirrorEnd s
  | .rejoinDone => Sys2Proof.Machine.execRejoinDone s
  | .takeOut init c => Sys2Proof.Machine.execTakeOut init c s
  | .votReturn init c => Sys2Proof.Machine.execVotReturn init c s
  | .enterSplit init => Sys2Proof.Machine.execEnterSplit init s
  | .leaveSplit init => Sys2Proof.Machine.execLeaveSplit init s
  | .clearCounts init => Sys2Proof.Machine.execClearCounts init s
  | .votCmdReserved init op => Sys2Proof.Machine.execVotCmdReserved init op s
  | .debugHaltRequest => Sys2Proof.Machine.execDebugHaltRequest s
  | .debugResume => Sys2Proof.Machine.execDebugResume s
  | .debugStep => Sys2Proof.Machine.execDebugStep s
  | .debugAbstractAccess c mem addr write => Sys2Proof.Machine.execDebugAbstractAccess c mem addr write s
  | .baseCycleBoundary => Sys2Proof.Machine.execBaseCycleBoundary s
  | .overrunStop => Sys2Proof.Machine.execOverrunStop s
  | .outputCommit k => Sys2Proof.Machine.execOutputCommit k s
  | .run init priv session => Sys2Proof.Machine.execRun init priv session s
  | .stop init priv session => Sys2Proof.Machine.execStop init priv session s
  | .hold init priv session task => Sys2Proof.Machine.execHold init priv session task s
  | .release init priv session task => Sys2Proof.Machine.execRelease init priv session task s
  | .releaseAll init priv session => Sys2Proof.Machine.execReleaseAll init priv session s
  | .sysCmdReserved init priv session op => Sys2Proof.Machine.execSysCmdReserved init priv session op s
  | .execMaxClear k => Sys2Proof.Machine.execExecMaxClear k s
  | .stage n => Sys2Proof.Machine.execStage n s
  | .ferryStaged => Sys2Proof.Machine.execFerryStaged s
  | .ferrySweepGranule => Sys2Proof.Machine.execFerrySweepGranule s
  | .cross n => Sys2Proof.Machine.execCross n s
  | .crossed => Sys2Proof.Machine.execCrossed s
  | .crossBudgetExpiry => Sys2Proof.Machine.execCrossBudgetExpiry s
  | .crossTimeout => Sys2Proof.Machine.execCrossTimeout s
  | .abandon n => Sys2Proof.Machine.execAbandon n s
  | .forceSet n => Sys2Proof.Machine.execForceSet n s
  | .forceClear n => Sys2Proof.Machine.execForceClear n s
  | .forceClearAll n => Sys2Proof.Machine.execForceClearAll n s
  | .forceRead n => Sys2Proof.Machine.execForceRead n s
  | .upFrameLanded c fcsOk void frame => Sys2Proof.Machine.execUpFrameLanded c fcsOk void frame s
  | .downFrameReceived c fcsOk frame => Sys2Proof.Machine.execDownFrameReceived c fcsOk frame s
  | .identify c fcsOk frame => Sys2Proof.Machine.execIdentify c fcsOk frame s
  | .mgmtTimeoutExpiry id => Sys2Proof.Machine.execMgmtTimeoutExpiry id s
  | .response c fcsOk frame => Sys2Proof.Machine.execResponse c fcsOk frame s
  | .crossingLinkChange c up fast => Sys2Proof.Machine.execCrossingLinkChange c up fast s
  | .crossingEnable c => Sys2Proof.Machine.execCrossingEnable c s
  | .crossingDisable c => Sys2Proof.Machine.execCrossingDisable c s
  | .mgmtRequest n => Sys2Proof.Machine.execMgmtRequest n s
  | .discover n => Sys2Proof.Machine.execDiscover n s
  | .stationStatus n => Sys2Proof.Machine.execStationStatus n s
  | .stationUpdate n => Sys2Proof.Machine.execStationUpdate n s
  | .inputFilterChange n volts => Sys2Proof.Machine.execInputFilterChange n volts s
  | .wireBreak n broken => Sys2Proof.Machine.execWireBreak n broken s
  | .contention a suspects => Sys2Proof.Machine.execContention a suspects s
  | .shortToSupply n => Sys2Proof.Machine.execShortToSupply n s
  | .overload n => Sys2Proof.Machine.execOverload n s
  | .channelClear n => Sys2Proof.Machine.execChannelClear n s
  | .autoRetry n => Sys2Proof.Machine.execAutoRetry n s
  | .groupStateChange g new volts => Sys2Proof.Machine.execGroupStateChange g new volts s
  | .groupAck g => Sys2Proof.Machine.execGroupAck g s
  | .counterStep c aVolts aHeld bVolts bHeld => Sys2Proof.Machine.execCounterStep c aVolts aHeld bVolts bHeld s
  | .counterLoad c value => Sys2Proof.Machine.execCounterLoad c value s
  | .index c volts => Sys2Proof.Machine.execIndex c volts s
  | .probeLatched p before volts held => Sys2Proof.Machine.execProbeLatched p before volts held s
  | .probeArm p => Sys2Proof.Machine.execProbeArm p s
  | .probeDisarm p => Sys2Proof.Machine.execProbeDisarm p s
  | .probeValueLoRead p => Sys2Proof.Machine.execProbeValueLoRead p s
  | .fioEnable => Sys2Proof.Machine.execFioEnable s
  | .spurInputTrigger u => Sys2Proof.Machine.execSpurInputTrigger u s
  | .spurTimeTrigger u => Sys2Proof.Machine.execSpurTimeTrigger u s
  | .spurActionDue u => Sys2Proof.Machine.execSpurActionDue u s
  | .spurPulseEnd u => Sys2Proof.Machine.execSpurPulseEnd u s
  | .spurTrigWrite u value => Sys2Proof.Machine.execSpurTrigWrite u value s
  | .spurArm u => Sys2Proof.Machine.execSpurArm u s
  | .spurDisarm u => Sys2Proof.Machine.execSpurDisarm u s
  | .spurFlush u => Sys2Proof.Machine.execSpurFlush u s
  | .motionPassEnd => Sys2Proof.Machine.execMotionPassEnd s
  | .axisLoad n => Sys2Proof.Machine.execAxisLoad n s
  | .moveAbs n => Sys2Proof.Machine.execMoveAbs n s
  | .moveVel n => Sys2Proof.Machine.execMoveVel n s
  | .motStop n => Sys2Proof.Machine.execMotStop n s
  | .gearIn n => Sys2Proof.Machine.execGearIn n s
  | .camIn n => Sys2Proof.Machine.execCamIn n s
  | .phaseShift n => Sys2Proof.Machine.execPhaseShift n s
  | .motResetFault n => Sys2Proof.Machine.execMotResetFault n s
  | .camCheck n => Sys2Proof.Machine.execCamCheck n s
  | .motStatus n => Sys2Proof.Machine.execMotStatus n s
  | .motEnable => Sys2Proof.Machine.execMotEnable s
  | .motClearMax => Sys2Proof.Machine.execMotClearMax s
  | .loopEvaluation => Sys2Proof.Machine.execLoopEvaluation s
  | .loopLoad n => Sys2Proof.Machine.execLoopLoad n s
  | .setMode n => Sys2Proof.Machine.execSetMode n s
  | .loopResetFault n => Sys2Proof.Machine.execLoopResetFault n s
  | .loopStatus n => Sys2Proof.Machine.execLoopStatus n s
  | .clearStats n => Sys2Proof.Machine.execClearStats n s
  | .lopEnable => Sys2Proof.Machine.execLopEnable s
  | .lopQueueClear => Sys2Proof.Machine.execLopQueueClear s
  | .lopWorstClear => Sys2Proof.Machine.execLopWorstClear s
  | .conversionResult n na => Sys2Proof.Machine.execConversionResult n na s
  | .outputStageMeasure n na mv => Sys2Proof.Machine.execOutputStageMeasure n na mv s
  | .clLoopShort n short => Sys2Proof.Machine.execClLoopShort n short s
  | .clInputSettled => Sys2Proof.Machine.execClInputSettled s
  | .clpEnable => Sys2Proof.Machine.execClpEnable s
  | .hartRequest n => Sys2Proof.Machine.execHartRequest n s
  | .hartListen n => Sys2Proof.Machine.execHartListen n s
  | .hartFrameReceived ch err burst body => Sys2Proof.Machine.execHartFrameReceived ch err burst body s
  | .hartTimeout ch => Sys2Proof.Machine.execHartTimeout ch s
  | .heartbeat h st eligible lease epoch cycle tick down => Sys2Proof.Machine.execHeartbeat h st eligible lease epoch cycle tick down s
  | .heartbeatSend => Sys2Proof.Machine.execHeartbeatSend s
  | .hello h unit slot proto carrier gen digest => Sys2Proof.Machine.execHello h unit slot proto carrier gen digest s
  | .nak h missing => Sys2Proof.Machine.execNak h missing s
  | .seqMissing => Sys2Proof.Machine.execSeqMissing s
  | .cutList h k c => Sys2Proof.Machine.execCutList h k c s
  | .ranselCommit h k cycle digest tick => Sys2Proof.Machine.execRanselCommit h k cycle digest tick s
  | .ranselRead h idx value => Sys2Proof.Machine.execRanselRead h idx value s
  | .delivery h point words => Sys2Proof.Machine.execDelivery h point words s
  | .ranselLock h idx lock status => Sys2Proof.Machine.execRanselLock h idx lock status s
  | .completion h ring record data => Sys2Proof.Machine.execCompletion h ring record data s
  | .ranselLoop h inst word out tick => Sys2Proof.Machine.execRanselLoop h inst word out tick s
  | .channelStatus h ch flags ma => Sys2Proof.Machine.execChannelStatus h ch flags ma s
  | .ranselControl h c => Sys2Proof.Machine.execRanselControl h c s
  | .crossedNotice h b gen => Sys2Proof.Machine.execCrossedNotice h b gen s
  | .ranselMirror h chans await => Sys2Proof.Machine.execRanselMirror h chans await s
  | .stateDigest h cycle blocks => Sys2Proof.Machine.execStateDigest h cycle blocks s
  | .blockData h idx cycle data => Sys2Proof.Machine.execBlockData h idx cycle data s
  | .blockRequest h idx => Sys2Proof.Machine.execBlockRequest h idx s
  | .frameRequest h node seq => Sys2Proof.Machine.execFrameRequest h node seq s
  | .frameData h node seq body => Sys2Proof.Machine.execFrameData h node seq body s
  | .relay h c frame => Sys2Proof.Machine.execRelay h c frame s
  | .staged h gen crc => Sys2Proof.Machine.execStaged h gen crc s
  | .handoverRequest h cause => Sys2Proof.Machine.execHandoverRequest h cause s
  | .handover h b epoch => Sys2Proof.Machine.execHandover h b epoch s
  | .yield h epoch cause => Sys2Proof.Machine.execYield h epoch cause s
  | .tetherData h off data => Sys2Proof.Machine.execTetherData h off data s
  | .tether h cycle digest img => Sys2Proof.Machine.execTether h cycle digest img s
  | .ranselLinkDown l blockLock => Sys2Proof.Machine.execRanselLinkDown l blockLock s
  | .ranselLinkUp l => Sys2Proof.Machine.execRanselLinkUp l s
  | .linkTrainingEnd l latency => Sys2Proof.Machine.execLinkTrainingEnd l latency s
  | .leaseRenewalDue => Sys2Proof.Machine.execLeaseRenewalDue s
  | .renewAck port frame => Sys2Proof.Machine.execRenewAck port frame s
  | .refuse port frame => Sys2Proof.Machine.execRefuse port frame s
  | .epochGrant port frame => Sys2Proof.Machine.execEpochGrant port frame s
  | .leaseLapsed => Sys2Proof.Machine.execLeaseLapsed s
  | .witnessProbe => Sys2Proof.Machine.execWitnessProbe s
  | .witnessChange => Sys2Proof.Machine.execWitnessChange s
  | .renew port frame => Sys2Proof.Machine.execRenew port frame s
  | .epochRequest port frame => Sys2Proof.Machine.execEpochRequest port frame s
  | .witnessLeaseExpiry w => Sys2Proof.Machine.execWitnessLeaseExpiry w s
  | .untetheredSilenceExpiry => Sys2Proof.Machine.execUntetheredSilenceExpiry s
  | .demoted token => Sys2Proof.Machine.execDemoted token s
  | .ownTokenDead => Sys2Proof.Machine.execOwnTokenDead s
  | .supplyLow => Sys2Proof.Machine.execSupplyLow s
  | .takebackHoldoffExpiry => Sys2Proof.Machine.execTakebackHoldoffExpiry s
  | .joiningLinkTimeout => Sys2Proof.Machine.execJoiningLinkTimeout s
  | .parHandover init priv session => Sys2Proof.Machine.execParHandover init priv session s
  | .goOut init priv session => Sys2Proof.Machine.execGoOut init priv session s
  | .rejoin init priv session => Sys2Proof.Machine.execRejoin init priv session s
  | .clearDivergence init priv session => Sys2Proof.Machine.execClearDivergence init priv session s
  | .parCmdReserved init priv session op => Sys2Proof.Machine.execParCmdReserved init priv session op s
  | .streamMaxClear => Sys2Proof.Machine.execStreamMaxClear s
  | .commitL0 init => Sys2Proof.Machine.execCommitL0 init s
  | .commitL1 init => Sys2Proof.Machine.execCommitL1 init s
  | .prtCmdReserved init => Sys2Proof.Machine.execPrtCmdReserved init s
  | .prtDrainComplete => Sys2Proof.Machine.execPrtDrainComplete s
  | .enforce => Sys2Proof.Machine.execEnforce s
  | .arbiterGrant t => Sys2Proof.Machine.execArbiterGrant t s
  | .quotaWindowStart => Sys2Proof.Machine.execQuotaWindowStart s
  | .peakWaitClear t => Sys2Proof.Machine.execPeakWaitClear t s
  | .lckTry init lock => Sys2Proof.Machine.execLckTry init lock s
  | .lckWait init lock => Sys2Proof.Machine.execLckWait init lock s
  | .lockRelease init lock => Sys2Proof.Machine.execLockRelease init lock s
  | .cancel init lock => Sys2Proof.Machine.execCancel init lock s
  | .lockResultRead init => Sys2Proof.Machine.execLockResultRead init s
  | .lockBreak lock => Sys2Proof.Machine.execLockBreak lock s
  | .lockHold lock => Sys2Proof.Machine.execLockHold lock s
  | .incCommit => Sys2Proof.Machine.execIncCommit s
  | .ptLoRead init => Sys2Proof.Machine.execPtLoRead init s
  | .timSet init priv session => Sys2Proof.Machine.execTimSet init priv session s
  | .timStep init priv session => Sys2Proof.Machine.execTimStep init priv session s
  | .timCmdReserved init priv session => Sys2Proof.Machine.execTimCmdReserved init priv session s
  | .holdover => Sys2Proof.Machine.execHoldover s
  | .delayReq c seq who => Sys2Proof.Machine.execDelayReq c seq who s
  | .timeCompare u => Sys2Proof.Machine.execTimeCompare u s
  | .compareArm u => Sys2Proof.Machine.execCompareArm u s
  | .compareDisarm u => Sys2Proof.Machine.execCompareDisarm u s
  | .timeCapture u => Sys2Proof.Machine.execTimeCapture u s
  | .capTickLoRead u => Sys2Proof.Machine.execCapTickLoRead u s
  | .plantFrameReceived p fcsOk frame => Sys2Proof.Machine.execPlantFrameReceived p fcsOk frame s
  | .plnLink p up => Sys2Proof.Machine.execPlnLink p up s
  | .plnTransmit n => Sys2Proof.Machine.execPlnTransmit n s
  | .plnReceive n => Sys2Proof.Machine.execPlnReceive n s
  | .canFrameReceived c ident dlc esi remote data => Sys2Proof.Machine.execCanFrameReceived c ident dlc esi remote data s
  | .canAttemptEnd c result lec same => Sys2Proof.Machine.execCanAttemptEnd c result lec same s
  | .canTransmit n free => Sys2Proof.Machine.execCanTransmit n free s
  | .canReceive n => Sys2Proof.Machine.execCanReceive n s
  | .scheduleLoad n => Sys2Proof.Machine.execScheduleLoad n s
  | .txExpired c b => Sys2Proof.Machine.execTxExpired c b s
  | .ttWindowStart c w free => Sys2Proof.Machine.execTtWindowStart c w free s
  | .ttWindowMissed c w => Sys2Proof.Machine.execTtWindowMissed c w s
  | .busOffRecovery c => Sys2Proof.Machine.execBusOffRecovery c s
  | .busIntegration c => Sys2Proof.Machine.execBusIntegration c s
  | .canChannelEnable c => Sys2Proof.Machine.execCanChannelEnable c s
  | .acqChangeRecord pulses took => Sys2Proof.Machine.execAcqChangeRecord pulses took s
  | .gapEnd pulses took => Sys2Proof.Machine.execGapEnd pulses took s
  | .segmentDone => Sys2Proof.Machine.execSegmentDone s
  | .postTimeoutExpiry => Sys2Proof.Machine.execPostTimeoutExpiry s
  | .segmentStart pulses took => Sys2Proof.Machine.execSegmentStart pulses took s
  | .capture n pulses => Sys2Proof.Machine.execCapture n pulses s
  | .forceTrigger n => Sys2Proof.Machine.execForceTrigger n s
  | .archive n stored => Sys2Proof.Machine.execArchive n stored s
  | .restore n => Sys2Proof.Machine.execRestore n s
  | .acqQueueClear => Sys2Proof.Machine.execAcqQueueClear s
  | .acqMaxDeadClear => Sys2Proof.Machine.execAcqMaxDeadClear s
  | .domainRequest d st rail => Sys2Proof.Machine.execDomainRequest d st rail s
  | .voteSet init d => Sys2Proof.Machine.execVoteSet init d s
  | .voteClear init d => Sys2Proof.Machine.execVoteClear init d s
  | .pwrClearAccounts d => Sys2Proof.Machine.execPwrClearAccounts d s
  | .idleTimeExpiry d => Sys2Proof.Machine.execIdleTimeExpiry d s
  | .d6ChannelOff n => Sys2Proof.Machine.execD6ChannelOff n s
  | .quiesceEnd d => Sys2Proof.Machine.execQuiesceEnd d s
  | .quiesceTimeout d init => Sys2Proof.Machine.execQuiesceTimeout d init s
  | .entryComplete d => Sys2Proof.Machine.execEntryComplete d s
  | .domainWakeStageEnd d seen => Sys2Proof.Machine.execDomainWakeStageEnd d seen s
  | .wakeStageTimeout d => Sys2Proof.Machine.execWakeStageTimeout d s
  | .railChangeComplete d ok => Sys2Proof.Machine.execRailChangeComplete d ok s
  | .powerGoodLost d => Sys2Proof.Machine.execPowerGoodLost d s
  | .pmbusCommandEnd result word fault => Sys2Proof.Machine.execPmbusCommandEnd result word fault s
  | .smbalert => Sys2Proof.Machine.execSmbalert s
  | .rstWarm init priv session => Sys2Proof.Machine.execRstWarm init priv session s
  | .rstModule init priv session => Sys2Proof.Machine.execRstModule init priv session s
  | .rstDomain init priv session d => Sys2Proof.Machine.execRstDomain init priv session d s
  | .svcCore init priv session core => Sys2Proof.Machine.execSvcCore init priv session core s
  | .partnerReset init priv session => Sys2Proof.Machine.execPartnerReset init priv session s
  | .rstCmdReserved init priv session op => Sys2Proof.Machine.execRstCmdReserved init priv session op s
  | .wdtEnable => Sys2Proof.Machine.execWdtEnable s
  | .wdtKick init key => Sys2Proof.Machine.execWdtKick init key s
  | .wdtWarning => Sys2Proof.Machine.execWdtWarning s
  | .wdtExpiry => Sys2Proof.Machine.execWdtExpiry s
  | .startUp bad seen eeprom ok => Sys2Proof.Machine.execStartUp bad seen eeprom ok s
  | .startLimitExpiry => Sys2Proof.Machine.execStartLimitExpiry s
  | .bstRun init t => Sys2Proof.Machine.execBstRun init t s
  | .runTransparent init t => Sys2Proof.Machine.execRunTransparent init t s
  | .report init => Sys2Proof.Machine.execReport init s
  | .bistDone sig expected rows addr bad => Sys2Proof.Machine.execBistDone sig expected rows addr bad s
  | .rotationStep => Sys2Proof.Machine.execRotationStep s
  | .svcRelease init wfi => Sys2Proof.Machine.execSvcRelease init wfi s
  | .recorderWrite => Sys2Proof.Machine.execRecorderWrite s
  | .changeLogArchive ok => Sys2Proof.Machine.execChangeLogArchive ok s
  | .recLoRead w => Sys2Proof.Machine.execRecLoRead w s
  | .append n => Sys2Proof.Machine.execAppend n s
  | .recRead n => Sys2Proof.Machine.execRecRead n s
  | .verify n => Sys2Proof.Machine.execVerify n s
  | .updStage n ok => Sys2Proof.Machine.execUpdStage n ok s
  | .activate n => Sys2Proof.Machine.execActivate n s
  | .install n => Sys2Proof.Machine.execInstall n s
  | .attest n => Sys2Proof.Machine.execAttest n s
  | .certRead n => Sys2Proof.Machine.execCertRead n s
  | .confirm init session => Sys2Proof.Machine.execConfirm init session s
  | .updRelease entry => Sys2Proof.Machine.execUpdRelease entry s
  | .cancelActivate => Sys2Proof.Machine.execCancelActivate s
  | .updCmdReserved => Sys2Proof.Machine.execUpdCmdReserved s
  | .confirmTimeExpiry => Sys2Proof.Machine.execConfirmTimeExpiry s
  | .leaseKeyWrite init w value => Sys2Proof.Machine.execLeaseKeyWrite init w value s
  | .commitLeaseKey init priv session => Sys2Proof.Machine.execCommitLeaseKey init priv session s
  | .factoryTrust init priv session => Sys2Proof.Machine.execFactoryTrust init priv session s
  | .secCmdReserved => Sys2Proof.Machine.execSecCmdReserved s
  | .frontEndReady n ok => Sys2Proof.Machine.execFrontEndReady n ok s
  | .claimWindowEnd => Sys2Proof.Machine.execClaimWindowEnd s
  | .supplyReturn => Sys2Proof.Machine.execSupplyReturn s
  | .canReceiveError c lec eight => Sys2Proof.Machine.execCanReceiveError c lec eight s
  | .atTimeTarget c free => Sys2Proof.Machine.execAtTimeTarget c free s
  | .dramRefresh => Sys2Proof.Machine.execDramRefresh s
  | .filterSettled n => Sys2Proof.Machine.execFilterSettled n s
  | .latentHourExpiry c => Sys2Proof.Machine.execLatentHourExpiry c s
  | .divergenceHourExpiry => Sys2Proof.Machine.execDivergenceHourExpiry s

end Sys2Proof.Machine
end

