-- ==== Sys2Proof/Machine/Tick.lean ====
section
/-! DEFINITION. One tick of the module's clock: what the step does where no command waits (spec/02 R51; spec/13 R416).

Marks (notes/assumptions): DEDUCED 142; DESIGN CHOICE 1. -/

namespace Sys2Proof.Machine

/-- R235. The counters whose index asks for it are zeroed on the tick after the latch. -/
def State.indexZero (s : State) : State :=
  if s.fio.zeroDue = [] then s
  else s.fio.zeroDue.foldl (fun s c => s.set (FIO.CNT_VALUE.VALUE c) 0) { s with fio := { s.fio with zeroDue := [] } }

/-- R488, R492. Accesses held by a domain's power state, tried again at the tick. -/
def State.heldTick (s : State) : State := s.heldWrites.voteAll

/-- Whether something waits for its tick: the end of a PARTNER_RESET_OUT pulse, a counter to be zeroed, a chained SPUR unit, a
reset due 10 us after its event, a command of the regulator's bus sent again, an access held. -/
def State.tickWaits (s : State) : Bool :=
  s.car.resetOutUntil.isSome || !s.fio.zeroDue.isEmpty || !s.fio.chainDue.isEmpty || s.rst.due.isSome
  || s.pwr.retryAt.isSome || !s.pwr.held.isEmpty || !s.vot.presented.isEmpty

/-- One tick: the counter advances, plant time by its increment, and what is due at the new tick happens. -/
def State.passTick (s : State) : State :=
  let t := { s with tick := s.tick + 1, plant := (s.plant + s.tim.inc) % 2 ^ 96 }
  if s.tickWaits then (((((t.resetOutEnd.indexZero).chainTick).resetDue).busRetry).heldTick).settle else t

/-- The step of an empty queue (notes/assumptions/1.md). -/
def idle (s : State) : Answer := .next s.passTick

end Sys2Proof.Machine
end

