-- ==== Sys2Proof/WellFormed.lean ====
section
/-! DEFINITION. Which commands are well formed: every operand within the width that its field, message or frame gives it
(spec/04 R113, spec/06 R190 to R194, spec/11 R344 to R348, spec/14 R442). The meanings are total: they do not rest on it. -/

namespace Sys2Proof

open Machine

/-- Every number is a byte. -/
def bytesOk (l : List Nat) : Bool := l.all fun b => decide (b < 256)

/-- Every number fits 32 bits. -/
def wordsOk (l : List Nat) : Bool := l.all fun w => decide (w < 2 ^ 32)

/-- Bytes, where there are any. -/
def optBytesOk : Option (List Nat) → Bool
  | some l => bytesOk l
  | none => true

/-- Registers by their numbers, and the sizes of R108. -/
def Machine.Dest.wf : Dest → Bool
  | .none => true
  | .x rd size _ => decide (rd < 32) && size ∈ [1, 2, 4]
  | .f rd => decide (rd < 32)
  | .both rd => decide (rd < 31)
  | .pair m rd rs2 => decide (m < 3) && decide (rd < 31) && decide (rs2 < 32)

/-- R113. A request that a core can present: an aligned access of 1, 2 or 4 bytes, a word for LR, SC and the AMO
instructions that RV32A has. -/
def Machine.Req.wf (r : Req) : Bool :=
  decide (r.addr < 2 ^ 32) && decide (r.data < 2 ^ 32) && decide (r.be < 16)
  && r.dest.wf && (r.len == 2 || r.len == 4) && decide (r.run ≤ 4096)
  && match r.kind with
    | .load => r.size ∈ [1, 2, 4] && r.addr % r.size == 0
    | .store => r.size ∈ [1, 2, 4] && r.addr % r.size == 0
    | .lr => r.size == 4 && r.addr % 4 == 0
    | .sc => r.size == 4 && r.addr % 4 == 0
    | .amo op => r.size == 4 && r.addr % 4 == 0 && op ∈ [0, 1, 4, 8, 12, 16, 20, 24, 28]
    | .sampleTick => true
    | .sampleHalf _ => true
    | .sampleKvstat => true
    | .fence => true

/-- R344. A SEQ of 32 bits. -/
def Machine.RanselHead.wf (h : RanselHead) : Bool := decide (h.seq < 2 ^ 32)

/-- R350. A class, eight header words, entries of nodes, and local blocks of words. -/
def Machine.CutWait.wf (c : CutWait) : Bool :=
  decide (c.cls < 8) && c.header.length == 8 && wordsOk c.header
  && (c.entries.all fun e => decide (e.1 < 2048 ∧ e.2.1 < 2 ^ 32)) && wordsOk c.fio && wordsOk c.clp

/-- R348. The fields of a CONTROL message. -/
def Machine.Control.wf (c : Control) : Bool :=
  decide (c.due < 2 ^ 64 ∧ c.op < 256 ∧ c.origin < 256 ∧ c.priv < 256 ∧ c.session < 65536) && bytesOk c.arg

/-- R361. Register fields of a tether image in rising order. -/
def Machine.TetherImage.wf (t : TetherImage) : Bool := (t.regs.zip t.regs.tail).all fun p => decide (p.1.1 < p.2.1)

/-- Whether a command is well formed. -/
def Instr.wellFormed : Instr → Bool
  | .registerWrite _ _ size value => decide (1 ≤ size.val) && decide (value < 2 ^ 32)
  | .setupLockClose _ _ => true
  | .supplyFirstApplied => true
  | .seatedChange _ => true
  | .porRelease => true
  | .resetRelease _ => true
  | .eepromArbitrationRetry bytes => optBytesOk bytes
  | .partnerResetInLow ticks => decide (ticks < 2 ^ 64)
  | .carrierLatch _ => true
  | .carrierPresence _ => true
  | .tokenLineLive _ => true
  | .tokenLineDead _ => true
  | .faultLedAck => true
  | .faultLedRaise => true
  | .referenceOscillatorFail => true
  | .referenceReturn => true
  | .speedWindowEnd _ _ _ => true
  | .ringEnable _ => true
  | .ringDisable _ => true
  | .ringStop _ => true
  | .ringAbort _ => true
  | .ringResume _ => true
  | .tagsClearPeak => true
  | .dbIgnoredClear => true
  | .doorbellWrite _ _ _ value => decide (value < 2 ^ 32)
  | .descriptorFetch _ => true
  | .tagGranted => true
  | .descriptorComplete _ => true
  | .nop _ => true
  | .copy _ => true
  | .fill _ => true
  | .evtRaise _ => true
  | .evtPendClear _ _ mask => decide (mask < 2 ^ 32)
  | .eringEnable _ => true
  | .interruptTaken => true
  | .egressRequest _ r => r.wf
  | .minorityLate _ => true
  | .vote2PresentationTimeout => true
  | .progressWatchdog => true
  | .failstopDomainReset => true
  | .kpls _ _ _ => true
  | .kpchk _ _ => true
  | .kpraw _ _ => true
  | .ktick _ => true
  | .kend _ => true
  | .fenceI => true
  | .rejoinMirrorEnd => true
  | .rejoinDone => true
  | .takeOut _ _ => true
  | .votReturn _ _ => true
  | .enterSplit _ => true
  | .leaveSplit _ => true
  | .clearCounts _ => true
  | .votCmdReserved _ _ => true
  | .debugHaltRequest => true
  | .debugResume => true
  | .debugStep => true
  | .debugAbstractAccess _ _ addr write => decide (addr < 2 ^ 40) && (write.map fun v => decide (v < 2 ^ 32)).getD true
  | .baseCycleBoundary => true
  | .overrunStop => true
  | .outputCommit _ => true
  | .run _ _ _ => true
  | .stop _ _ _ => true
  | .hold _ _ _ _ => true
  | .release _ _ _ _ => true
  | .releaseAll _ _ _ => true
  | .sysCmdReserved _ _ _ _ => true
  | .execMaxClear _ => true
  | .stage _ => true
  | .ferryStaged => true
  | .ferrySweepGranule => true
  | .cross _ => true
  | .crossed => true
  | .crossBudgetExpiry => true
  | .crossTimeout => true
  | .abandon _ => true
  | .forceSet _ => true
  | .forceClear _ => true
  | .forceClearAll _ => true
  | .forceRead _ => true
  | .upFrameLanded _ _ _ frame => bytesOk frame
  | .downFrameReceived _ _ frame => bytesOk frame
  | .identify _ _ frame => bytesOk frame
  | .mgmtTimeoutExpiry id => decide (id < 2 ^ 32)
  | .response _ _ frame => bytesOk frame
  | .crossingLinkChange _ _ _ => true
  | .crossingEnable _ => true
  | .crossingDisable _ => true
  | .mgmtRequest _ => true
  | .discover _ => true
  | .stationStatus _ => true
  | .stationUpdate _ => true
  | .inputFilterChange _ _ => true
  | .wireBreak _ _ => true
  | .contention _ suspects => decide (suspects < 2 ^ 32)
  | .shortToSupply _ => true
  | .overload _ => true
  | .channelClear _ => true
  | .autoRetry _ => true
  | .groupStateChange _ _ _ => true
  | .groupAck _ => true
  | .counterStep _ _ _ _ _ => true
  | .counterLoad _ value => decide (value < 2 ^ 32)
  | .index _ _ => true
  | .probeLatched _ _ _ _ => true
  | .probeArm _ => true
  | .probeDisarm _ => true
  | .probeValueLoRead _ => true
  | .fioEnable => true
  | .spurInputTrigger _ => true
  | .spurTimeTrigger _ => true
  | .spurActionDue _ => true
  | .spurPulseEnd _ => true
  | .spurTrigWrite _ value => decide (value < 2 ^ 32)
  | .spurArm _ => true
  | .spurDisarm _ => true
  | .spurFlush _ => true
  | .motionPassEnd => true
  | .axisLoad _ => true
  | .moveAbs _ => true
  | .moveVel _ => true
  | .motStop _ => true
  | .gearIn _ => true
  | .camIn _ => true
  | .phaseShift _ => true
  | .motResetFault _ => true
  | .camCheck _ => true
  | .motStatus _ => true
  | .motEnable => true
  | .motClearMax => true
  | .loopEvaluation => true
  | .loopLoad _ => true
  | .setMode _ => true
  | .loopResetFault _ => true
  | .loopStatus _ => true
  | .clearStats _ => true
  | .lopEnable => true
  | .lopQueueClear => true
  | .lopWorstClear => true
  | .conversionResult _ na => decide (na ≤ 25000000)
  | .outputStageMeasure _ na _ => decide (na < 2 ^ 32)
  | .clLoopShort _ _ => true
  | .clInputSettled => true
  | .clpEnable => true
  | .hartRequest _ => true
  | .hartListen _ => true
  | .hartFrameReceived _ _ _ body => bytesOk body
  | .hartTimeout _ => true
  | .heartbeat h _ _ _ epoch cycle tick down => h.wf && decide (epoch < 2 ^ 32) && decide (cycle < 2 ^ 64) && decide (tick < 2 ^ 64) && wordsOk down && down.length == 4
  | .heartbeatSend => true
  | .hello h unit slot proto carrier gen digest => h.wf && decide (unit < 2) && decide (slot < 2) && decide (proto < 256) && decide (carrier < 2 ^ 64) && decide (gen < 2 ^ 32) && wordsOk digest && digest.length == 8
  | .nak h missing => h.wf && decide (missing < 2 ^ 32)
  | .seqMissing => true
  | .cutList h _ c => h.wf && c.wf
  | .ranselCommit h _ cycle digest tick => h.wf && decide (cycle < 2 ^ 64) && decide (digest < 2 ^ 32) && decide (tick < 2 ^ 64)
  | .ranselRead h idx value => h.wf && decide (idx < 2 ^ 64) && decide (value < 2 ^ 32)
  | .delivery h point words => h.wf && decide (point < 2 ^ 64) && wordsOk words && words.length == 8
  | .ranselLock h idx _ _ => h.wf && decide (idx < 2 ^ 64)
  | .completion h _ record data => h.wf && bytesOk record && bytesOk data
  | .ranselLoop h _ word out tick => h.wf && decide (word < 2 ^ 32) && decide (out < 2 ^ 32) && decide (tick < 2 ^ 64)
  | .channelStatus h _ _ ma => h.wf && decide (ma < 2 ^ 32)
  | .ranselControl h c => h.wf && c.wf
  | .crossedNotice h b gen => h.wf && decide (b < 2 ^ 64) && decide (gen < 2 ^ 32)
  | .ranselMirror h chans _ => h.wf && chans.all fun p => decide (p.1 < 32)
  | .stateDigest h cycle blocks => h.wf && decide (cycle < 2 ^ 64) && blocks.all fun p => decide (p.2 < 2 ^ 32)
  | .blockData h idx cycle data => h.wf && decide (idx < 2 ^ 64) && decide (cycle < 2 ^ 64) && bytesOk data && data.length == 4096
  | .blockRequest h idx => h.wf && decide (idx < 2 ^ 64)
  | .frameRequest h _ seq => h.wf && decide (seq < 2 ^ 32)
  | .frameData h _ seq body => h.wf && decide (seq < 2 ^ 32) && bytesOk body
  | .relay h _ frame => h.wf && bytesOk frame
  | .staged h gen crc => h.wf && decide (gen < 2 ^ 32) && decide (crc < 2 ^ 32)
  | .handoverRequest h _ => h.wf
  | .handover h b epoch => h.wf && decide (b < 2 ^ 64) && decide (epoch < 2 ^ 32)
  | .yield h epoch _ => h.wf && decide (epoch < 2 ^ 32)
  | .tetherData h off data => h.wf && decide (off < 2 ^ 64) && bytesOk data && data.length == 4096
  | .tether h cycle digest img => h.wf && decide (cycle < 2 ^ 64) && decide (digest < 2 ^ 32) && img.wf
  | .ranselLinkDown _ _ => true
  | .ranselLinkUp _ => true
  | .linkTrainingEnd _ _ => true
  | .leaseRenewalDue => true
  | .renewAck _ frame => bytesOk frame
  | .refuse _ frame => bytesOk frame
  | .epochGrant _ frame => bytesOk frame
  | .leaseLapsed => true
  | .witnessProbe => true
  | .witnessChange => true
  | .renew _ frame => bytesOk frame
  | .epochRequest _ frame => bytesOk frame
  | .witnessLeaseExpiry _ => true
  | .untetheredSilenceExpiry => true
  | .demoted _ => true
  | .ownTokenDead => true
  | .supplyLow => true
  | .takebackHoldoffExpiry => true
  | .joiningLinkTimeout => true
  | .parHandover _ _ _ => true
  | .goOut _ _ _ => true
  | .rejoin _ _ _ => true
  | .clearDivergence _ _ _ => true
  | .parCmdReserved _ _ _ _ => true
  | .streamMaxClear => true
  | .commitL0 _ => true
  | .commitL1 _ => true
  | .prtCmdReserved _ => true
  | .prtDrainComplete => true
  | .enforce => true
  | .arbiterGrant _ => true
  | .quotaWindowStart => true
  | .peakWaitClear _ => true
  | .lckTry _ _ => true
  | .lckWait _ _ => true
  | .lockRelease _ _ => true
  | .cancel _ _ => true
  | .lockResultRead _ => true
  | .lockBreak _ => true
  | .lockHold _ => true
  | .incCommit => true
  | .ptLoRead _ => true
  | .timSet _ _ _ => true
  | .timStep _ _ _ => true
  | .timCmdReserved _ _ _ => true
  | .holdover => true
  | .delayReq _ _ who => decide (who < 2 ^ 48)
  | .timeCompare _ => true
  | .compareArm _ => true
  | .compareDisarm _ => true
  | .timeCapture _ => true
  | .capTickLoRead _ => true
  | .plantFrameReceived _ _ frame => bytesOk frame
  | .plnLink _ _ => true
  | .plnTransmit _ => true
  | .plnReceive _ => true
  | .canFrameReceived _ ident _ _ _ data => decide (ident < 2 ^ 32) && bytesOk data && decide (data.length ≤ 64)
  | .canAttemptEnd _ _ _ _ => true
  | .canTransmit _ _ => true
  | .canReceive _ => true
  | .scheduleLoad _ => true
  | .txExpired _ _ => true
  | .ttWindowStart _ _ _ => true
  | .ttWindowMissed _ _ => true
  | .busOffRecovery _ => true
  | .busIntegration _ => true
  | .canChannelEnable _ => true
  | .acqChangeRecord pulses _ => decide (pulses < 2 ^ 64)
  | .gapEnd pulses _ => decide (pulses < 2 ^ 64)
  | .segmentDone => true
  | .postTimeoutExpiry => true
  | .segmentStart pulses _ => decide (pulses < 2 ^ 64)
  | .capture _ pulses => decide (pulses < 2 ^ 64)
  | .forceTrigger _ => true
  | .archive _ _ => true
  | .restore _ => true
  | .acqQueueClear => true
  | .acqMaxDeadClear => true
  | .domainRequest _ _ _ => true
  | .voteSet _ _ => true
  | .voteClear _ _ => true
  | .pwrClearAccounts _ => true
  | .idleTimeExpiry _ => true
  | .d6ChannelOff _ => true
  | .quiesceEnd _ => true
  | .quiesceTimeout _ _ => true
  | .entryComplete _ => true
  | .domainWakeStageEnd _ _ => true
  | .wakeStageTimeout _ => true
  | .railChangeComplete _ _ => true
  | .powerGoodLost _ => true
  | .pmbusCommandEnd _ _ _ => true
  | .smbalert => true
  | .rstWarm _ _ _ => true
  | .rstModule _ _ _ => true
  | .rstDomain _ _ _ _ => true
  | .svcCore _ _ _ _ => true
  | .partnerReset _ _ _ => true
  | .rstCmdReserved _ _ _ _ => true
  | .wdtEnable => true
  | .wdtKick _ _ => true
  | .wdtWarning => true
  | .wdtExpiry => true
  | .startUp bad _ eeprom _ => decide (bad < 2 ^ 25) && optBytesOk eeprom
  | .startLimitExpiry => true
  | .bstRun _ _ => true
  | .runTransparent _ _ => true
  | .report _ => true
  | .bistDone sig expected rows addr _ => decide (sig < 2 ^ 64) && decide (expected < 2 ^ 64) && decide (rows < 2 ^ 32) && decide (addr < 2 ^ 40)
  | .rotationStep => true
  | .svcRelease _ _ => true
  | .recorderWrite => true
  | .changeLogArchive _ => true
  | .recLoRead _ => true
  | .append _ => true
  | .recRead _ => true
  | .verify _ => true
  | .updStage _ _ => true
  | .activate _ => true
  | .install _ => true
  | .attest _ => true
  | .certRead _ => true
  | .confirm _ _ => true
  | .updRelease _ => true
  | .cancelActivate => true
  | .updCmdReserved => true
  | .confirmTimeExpiry => true
  | .leaseKeyWrite _ _ value => decide (value < 2 ^ 32)
  | .commitLeaseKey _ _ _ => true
  | .factoryTrust _ _ _ => true
  | .secCmdReserved => true
  | .frontEndReady _ _ => true
  | .claimWindowEnd => true
  | .supplyReturn => true
  | .canReceiveError _ _ _ => true
  | .atTimeTarget _ _ => true
  | .dramRefresh => true
  | .filterSettled _ => true
  | .latentHourExpiry _ => true
  | .divergenceHourExpiry => true

end Sys2Proof
end

