-- ==== Sys2Proof/Safety.lean ====
section
/-! DEFINITION. What the claims call a sound state: memory in its canonical form, PAR.STATUS in agreement with the
conditions of eligibility (R374), and the states in which the end of a command only notifies cores. -/

namespace Sys2Proof.Machine

/-- The canonical form of memory: addresses strictly rising, and no byte listed that reads as an unlisted one. -/
def Memory.wf (m : List Host.Cell) : Bool := Sparse.wf memDefault m

/-- R374. PAR.STATUS.INELIGIBLE gives the first failing reason, and ELIGIBLE is 1 exactly where there is none. -/
def State.EligibilityTold (s : State) : Prop :=
  s.get PAR.STATUS.INELIGIBLE = s.ineligible ∧ s.get PAR.STATUS.ELIGIBLE = b2n (s.ineligible == 0)

/-- R95. No event source is routed to an event ring (targets 5 to 8). -/
def State.NoEventRing (s : State) : Prop := ∀ src, s.get (EVT.ROUTE.TARGETS src) < 32

/-- The fields that the end of a command may write where it only notifies cores: PAR.STATUS.ELIGIBLE and INELIGIBLE (R374), the
pending sets (R95), the recorder's queue and losses (R529), and D2, which a pending bit of a service core wakes (R482). -/
def Fld.settled (f : Fld) : Bool :=
  [PAR.STATUS.ELIGIBLE, PAR.STATUS.INELIGIBLE, REC.STATUS.QUEUE, REC.LOST.COUNT, PWR.D_STATUS.STATE 2,
   PWR.D_STATUS.STAGE 2, PWR.D_ENTRIES.WAKE_IN_ENTRY 2].any (fun g => g.id == f.id)
  || (List.range 40).any fun i => (EVT.PEND.BITS (i / 8) (i % 8)).id == f.id

/-- R185 to R187. A frame of `kind` on an enabled crossing that the unit takes: its EtherType, length and header are in order. -/
def State.frameGood (s : State) (c : Nat) (f : List Nat) (kind : Nat) : Bool :=
  s.crossOn c && beAt f 12 2 != 0x88F7 && beAt f 12 2 == s.get FLD.ETHERTYPE.VALUE && decide (60 ≤ f.length)
  && decide (f.length ≤ 9212) && headerOk f && s.blocksOk c f && f.getD 15 0 == kind

/-- R345. The next valid message of the stream in order, with none held ahead of it. -/
def State.inOrder (s : State) (h : RanselHead) : Bool :=
  h.good && s.par.synced && s.par.ahead.isEmpty && h.seq % 2 ^ 32 == s.par.recvSeq

/-- R345. The stream moved on by that message. -/
def State.moved (s : State) (h : RanselHead) : State :=
  let s := s.setLink h.link { s.link h.link with last := s.now }
  { s with par := { s.par with recvSeq := (s.par.recvSeq + 1) % 2 ^ 32, gapAt := none, nakAt := none } }

/-- R345. What follows a message that has acted: those held behind it, what waited for it, and the requests let go. -/
def State.messageDone (s : State) (h : RanselHead) : State :=
  (State.drainAhead h.link s.fromLead.par.ahead.length s.fromLead).afterAct.voteAll

/-- R364. An answer of the witness that passes its checks, for the open request or an open renewal. -/
def State.answerGood (s : State) (port : Nat) (f : List Nat) : Bool :=
  s.domOn 4 && beAt f 12 2 == s.get FLD.ETHERTYPE.VALUE && f.getD 15 0 == 3 && headerOk f && ucpLength f == 40
  && s.hasWitness && port == s.witnessPort && ucpSource f == 0xF0FF && s.leaseAuthOk f && leaseCarrier f == s.car.carrierId
  && (match s.par.witnessSeq with | some q => decide (q < ucpSeq f) | none => true)

/-- R364. A request to this unit as witness that passes its checks. -/
def State.requestGood (s : State) (f : List Nat) (w : WitnessEntry) : Bool :=
  s.domOn 4 && beAt f 12 2 == s.get FLD.ETHERTYPE.VALUE && f.getD 15 0 == 3 && headerOk f && ucpLength f == 40
  && s.isDriving && s.leaseAuthOk f && ucpSource f == 0xF000 + leaseUnit f && leaseCarrier f == w.carrier
  && decide (Sparse.get 0 w.lastSeq (leaseUnit f) < ucpSeq f)

end Sys2Proof.Machine
end

