-- ==== Sys2Proof/Certificates/Slice0/Obligations.lean ====
section
/-! DEFINITION. The statements for the provers. -/

open Sys2Proof Sys2Proof.Machine

/-! ## The step -/

/-- Derived (R14 and the block's command queue, notes/assumptions/1.md): a step runs the command at the front of the queue
on the state with the queue's rest. -/
def Obligations.StepRunsFrontCommand : Prop :=
  ∀ (c : Instr) (rest : List Instr) (s : State), s.pending = c :: rest →
    step s = exec c { s with pending := rest }

/-- The model's choice (notes/assumptions/1.md): with no command waiting a step is one tick of 5 ns (R8); plant time advances by
the increment in force (R416), and where nothing waits for its tick nothing else changes. What waits is done at its tick: the
low of PARTNER_RESET_OUT ends after its 20 us (R19), and a counter whose index asks for it is zeroed (R235). -/
def Obligations.EmptyQueueIsOneTick : Prop :=
  (∀ s : State, s.pending = [] → s.tickWaits = false →
    step s = .next { s with tick := s.tick + 1, plant := (s.plant + s.tim.inc) % 2 ^ 96 }) ∧
  (∀ (s t : State) (u : Nat), s.pending = [] → s.fio.chainDue = [] → s.rst.due = none → s.pwr.retryAt = none → s.pwr.held = [] →
    s.vot.presented = [] →
    t = { s with tick := s.tick + 1, plant := (s.plant + s.tim.inc) % 2 ^ 96 } →
    (s.fio.zeroDue = [] → s.car.resetOutUntil = some u → u ≤ t.now →
      step s = .next (State.settle (State.send { t with car := { t.car with resetOutUntil := none } } (.pin "PARTNER_RESET_OUT" true)))) ∧
    (s.car.resetOutUntil = none → ∀ c : Fin 8, s.fio.zeroDue = [c.val] →
      step s = .next (State.settle (State.set { t with fio := { t.fio with zeroDue := [] } } (FIO.CNT_VALUE.VALUE c) 0))))

/-- No command of the table ends in a fault or a refusal: every one ends, with its events delivered. -/
def Obligations.EveryCommandSettles : Prop :=
  ∀ (c : Instr) (s : State), ∃ x : State, exec c s = .next x.settle

/-- R374. PAR.STATUS.INELIGIBLE gives the first failing reason and ELIGIBLE is 1 exactly where there is none: every step
keeps this, from every state. -/
def Obligations.EligibilityKept : Prop :=
  ∀ s t : State, s.EligibilityTold → step s = .next t → t.EligibilityTold

/-- R374. ... and it holds after reset. -/
def Obligations.EligibilityToldAtReset : Prop :=
State.reset.EligibilityTold

/-- R500, R562: the machine when supply is first applied: every register field at its reset value, the pair state OUT with
reason 1 (not tethered), the voter in VOTE3, the controller in STOP, memory with nothing listed, no command waiting. -/
def Obligations.ResetState : Prop :=
  (∀ f : Fld, State.reset.get f = f.rst) ∧ State.reset.get PAR.STATUS.STATE = 5 ∧ State.reset.get PAR.STATUS.INELIGIBLE = 1 ∧
  State.reset.get VOT.STATUS.MODE = 0 ∧ State.reset.get SYS.STATUS.RUN = 0 ∧ State.reset.tick = 0 ∧
  State.reset.mem = [] ∧ State.reset.pending = []

/-! ## What a command leaves unchanged, and memory -/

/-- R95. Where no source is routed to an event ring, delivering a command's events changes no byte of memory and no register
field but the pending sets, the recorder's queue and losses, D2's wake, and PAR.STATUS, and no engine's state. -/
def Obligations.SettleFrame : Prop :=
  ∀ s : State, s.NoEventRing →
    s.settle.mem = s.mem ∧ s.settle.poison = s.poison ∧ s.settle.tick = s.tick ∧ s.settle.plant = s.plant ∧
    s.settle.prtActive = s.prtActive ∧ s.settle.pending = s.pending ∧ s.settle.free = s.free ∧
    s.settle.fab = s.fab ∧ s.settle.cyc = s.cyc ∧ s.settle.fer = s.fer ∧ s.settle.fio = s.fio ∧ s.settle.crs = s.crs ∧
    s.settle.mot = s.mot ∧ s.settle.lop = s.lop ∧ s.settle.clp = s.clp ∧ s.settle.can = s.can ∧ s.settle.acq = s.acq ∧
    s.settle.rst = s.rst ∧ s.settle.bst = s.bst ∧ s.settle.upd = s.upd ∧ s.settle.car = s.car ∧ s.settle.tim = s.tim ∧
    ∀ f : Fld, f.settled = false → s.settle.get f = s.get f

/-- The frame of the commands that write single register fields only, the fields written named beside each command: where no event
source is routed to an event ring, every byte of memory, the active protection table, the time and every other register field stay as
they were, but for those that the end of a command may write (Fld.settled). Of two commands that store, every byte outside the
stored bytes stays: a doorbell write stores at the doorbell word (R71), the recorder at the write offset of its log (R529). -/
def Obligations.CommandFrames : Prop :=
  (∀ (s t : State) (init : Fin 22) (key : Fin 256) (k c2 : Fin 8) (c : Fin 4) (d : Fin 8) (c3 : Fin 3) (w5 : Fin 5) (t10 : Fin 10) (u16 : Fin 16)
    (l : Fin 64) (src : Fin 256) (p2 : Fin 2) (b : Bool) (v : Nat) (cnt : Fin 65536) (priv : Fin 8) (ss : Fin 65536) (op11 : Fin 11)
    (op10 : Fin 10), s.NoEventRing → ∀ p ∈ ([
      (.tagsClearPeak, [RNG.TAGS.PEAK]), (.dbIgnoredClear, [RNG.DB_IGNORED.COUNT]), (.execMaxClear k, [CYC.CLASS_EXEC_MAX.TICKS k]),
      (.peakWaitClear t10, [ARB.TARGET_PEAK_WAIT.TICKS t10]), (.streamMaxClear, [PAR.STREAM_MAX.BYTES]),
      (.motClearMax, [MOT.PASS_STATUS.MAX]), (.lopQueueClear, [LOP.QUEUE.PEAK]), (.lopWorstClear, [LOP.WORST.TICKS]),
      (.acqQueueClear, [ACQ.QUEUE.PEAK]), (.acqMaxDeadClear, [ACQ.MAX_DEAD.TICKS]), (.faultLedAck, [SYS.FAULT_LED.AWAIT]),
      (.faultLedRaise, [SYS.FAULT_LED.AWAIT]), (.evtRaise src, []), (.enforce, [PRT.CTRL.ENFORCE]),
      (.compareDisarm k, [TIM.CMP_STATUS.ARMED k]), (.counterLoad c v, [FIO.CNT_VALUE.VALUE c]), (.recLoRead w5, []),
      (.leaseKeyWrite init c2 v, []), (.updCmdReserved, [UPD.CMD_STATUS.STATUS, UPD.CMD_STATUS.REASON]),
      (.secCmdReserved, [SEC.CMD_STATUS.STATUS, SEC.CMD_STATUS.REASON]), (.supplyReturn, []),
      (.referenceOscillatorFail, [TIM.STATUS.UNCALIBRATED]), (.referenceReturn, [TIM.STATUS.UNCALIBRATED]),
      (.holdover, [TIM.STATUS.HOLDOVER]), (.lockHold l, [LCK.LOCK_STATUS.HOLD_EXCEEDED l]), (.voteClear init d, [PWR.D_VOTE.VOTES d]),
      (.probeValueLoRead u16, []), (.lockResultRead init, [LCK.RESULT.STATUS, LCK.RESULT.REASON, LCK.RESULT.LOCK, LCK.RESULT.WAITING]),
      (.parCmdReserved init priv ss op11, [PAR.CMD_STATUS.STATUS, PAR.CMD_STATUS.REASON, PAR.CMD_STATUS.PENDING]),
      (.rstCmdReserved init priv ss op10, [RST.CMD_STATUS.STATUS, RST.CMD_STATUS.REASON, RST.CMD_STATUS.PENDING]),
      (.timCmdReserved init priv ss, [TIM.CMD_STATUS.STATUS, TIM.CMD_STATUS.REASON, TIM.CMD_STATUS.PENDING]),
      (.ptLoRead init, [TIM.PT_LO.NS, TIM.PT_HI.NS, TIM.PT_FRAC.FRAC, TIM.SNAP_TICK_LO.TICK, TIM.SNAP_TICK_HI.TICK]),
      (.capTickLoRead c, []), (.plnLink p2 b, [PLN.PORT_STATUS.LINK p2]), (.clLoopShort k b, [CLP.CH_STATUS.LOOP_SHORT k]),
      (.clInputSettled, []), (.latentHourExpiry c3, [VOT.MINORITY.LATENT_HOUR c3]),
      (.divergenceHourExpiry, [PAR.DIVERGENCE.BLOCK_HOUR]), (.leaseLapsed, [PAR.STATUS.LEASE_HELD]),
      (.wdtKick init key, [RST.WDT_STATUS.BAD_KICKS]), (.wdtWarning, []), (.rejoinMirrorEnd, []), (.porRelease, []),
      (.speedWindowEnd d u16 cnt, [SYS.SPEED.COUNT d, SYS.SPEED.VALID d, SYS.SPEED.BELOW_FLOOR d, SYS.SPEED.SEQ d,
        SYS.SPEED_STATUS.LOW_SEEN])] :
        List (Instr × List Fld)), exec p.1 s = .next t →
      t.mem = s.mem ∧ (∀ a, t.byte a = s.byte a) ∧ t.prtActive = s.prtActive ∧ t.tick = s.tick ∧ t.plant = s.plant ∧
      ∀ f : Fld, f.settled = false → (∀ x ∈ p.2, x.id ≠ f.id) → t.get f = s.get f) ∧
  (∀ s t : State, s.NoEventRing → s.dramLost = false →
    (∀ (n : Fin 64) (init : Fin 22) (half : Bool) (v : Nat), exec (.doorbellWrite n init half v) s = .next t →
      ∀ a, a < s.bellAddr n ∨ s.bellAddr n + (if half then 2 else 4) ≤ a → t.byte a = s.byte a) ∧
    (∀ r q, s.log.queue = r :: q → s.nextOff r.change + r.len ≤ logSize r.change →
      exec .recorderWrite s = .next t → ∀ a, let o := logBase r.change + s.nextOff r.change
      a < o ∨ o + (s.recordBytes r r.len (s.nextSeq r.change)).length ≤ a → t.byte a = s.byte a))

/-- R90, R582. Memory keeps its canonical form under the two operations that change it: bytes stored, and DRAM lost.

R5, R10. While no DRAM is lost, what was stored reads back byte for byte, every other byte reads as before, and a unit
stored whole holds no error (R581). -/
def Obligations.MemoryStores : Prop :=
  (∀ (s : State) (a : Nat) (bs : List Nat), Memory.wf s.mem = true →
    Memory.wf (s.store a bs).mem = true ∧ Memory.wf s.loseDram.mem = true) ∧
  (∀ (s : State) (a : Nat) (bs : List Nat), s.dramLost = false → (∀ b ∈ bs, b < 256) →
    (s.store a bs).bytes a bs.length = bs ∧
    (∀ x, x < a ∨ a + bs.length ≤ x → (s.store a bs).byte x = s.byte x) ∧
    (∀ u, a ≤ u * 8 → u * 8 + 8 ≤ a + bs.length → (s.store a bs).unitBad u = false))

/-- R11. A pair-word is its value and the value's complement: the eight bytes made from a value are a valid pair-word that
carries it, and a pair-word is valid for one value only. -/
def Obligations.PairWordCarriesValue : Prop :=
  (∀ v, v < 2 ^ 32 → pairOk (pairBytes v) = true ∧ leAt (pairBytes v) 0 4 = v) ∧
  (∀ bs : List Nat, bs.length = 8 → (∀ b ∈ bs, b < 256) → pairOk bs = true → bs = pairBytes (leAt bs 0 4))

/-! ## Registers, carrier, tokens (spec/00 to spec/02, spec/19) -/

/-- R14, R388, R492. Every REGISTER_WRITE: refused by the protection check, it is recorded and stores nothing; while its block's
domain quiesces it is held (R488); with its block's domain not ON, it only counts as an access that may wake the domain; otherwise it is performed on the register. A performed
write does to each field what its access kind says (R13, R14): RW and RWS store what the register's limits make of the value, W1C
clears and W1S sets the bits written 1, RO and WO keep. A 32-bit write of FLD.ETHERTYPE stores the value.

R561. Writing 1 to SETUP_LOCK.CLOSED closes the lock of every block that has one; the RWS fields of a block whose lock is closed
ignore a write.

The rows that zero, or set to the present level, one count: each writes that field and no other.

Completion is stated for REGISTER_WRITE and SETUP_LOCK_CLOSE (every initiator, register and value that the check grants) and for
the ten rows of counts (every state): TAGS_CLEAR_PEAK, DB_IGNORED_CLEAR, EXEC_MAX_CLEAR, PEAK_WAIT_CLEAR, STREAM_MAX_CLEAR,
MOT_CLEAR_MAX, LOP_QUEUE_CLEAR, LOP_WORST_CLEAR, ACQ_QUEUE_CLEAR and ACQ_MAX_DEAD_CLEAR. -/
def Obligations.RegisterWrites : Prop :=
  (∀ (s : State) (init : Fin 22) (off : Fin 16777216) (size : Fin 9) (v : Nat),
    (∀ r, s.check { init := init } .write (0x10000000 + off) size = some r →
      exec (.registerWrite init off size v) s = .next (s.noteRefused r .write).settle) ∧
    (s.check { init := init } .write (0x10000000 + off) size = none →
      (s.quiesces (blockDomain (off / 65536)) = true →
        exec (.registerWrite init off size v) s = .next (State.settle { s with pwr := { s.pwr with
          held := s.pwr.held ++ [(init.val, off.val / 65536, off.val % 65536, v % 2 ^ 32)] } })) ∧
      (s.domOn (blockDomain (off / 65536)) = false → s.quiesces (blockDomain (off / 65536)) = false →
        exec (.registerWrite init off size v) s = .next (s.accessDown init (blockDomain (off / 65536))).settle) ∧
      (s.domOn (blockDomain (off / 65536)) = true →
        exec (.registerWrite init off size v) s =
          .next (s.regPut init (off / 65536) (off % 65536) (v % 2 ^ 32)).settle))) ∧
  (∀ (s : State) (b off v : Nat) (f : Fld), ownWrite b off f.lo = false →
    s.fieldWrite b off v f .RO = s ∧ s.fieldWrite b off v f .WO = s ∧
    (∀ x, f.id ≠ x.id → (s.fieldWrite b off v f .W1S).get x = s.get x) ∧
    s.fieldWrite b off v f .W1C = s.set f (s.get f - Nat.land (s.get f) (bitsOf v f.lo f.w)) ∧
    s.fieldWrite b off v f .W1S = s.set f (Nat.lor (s.get f) (bitsOf v f.lo f.w)) ∧
    (b ≠ 17 → s.ignores b off f.lo (bitsOf v f.lo f.w) = false →
      s.fieldWrite b off v f .RW = s.set f (s.stored b off f.lo (bitsOf v f.lo f.w)) ∧
      (s.locked b = false → s.fieldWrite b off v f .RWS = s.set f (s.stored b off f.lo (bitsOf v f.lo f.w))))) ∧
  (∀ (s : State) (init : Fin 22) (b : Fin 26),
    (blockHasLock b = true → s.check { init := init } .write (0x10000000 + b * 65536) 4 = none →
      s.domOn (blockDomain b) = true →
      ∃ x : State, exec (.setupLockClose init b) s = .next x.settle ∧ x.locked b = true) ∧
    (blockHasLock b = false → exec (.setupLockClose init b) s = .next s.settle)) ∧
  ((∀ (s : State) (init : Fin 22) (v : Nat), v < 65536 → s.domOn 4 = true → s.bit FLD.SETUP_LOCK.CLOSED = false →
    s.check { init := init } .write 0x100B0004 4 = none →
    exec (.registerWrite init 0xB0004 4 v) s = .next (s.set FLD.ETHERTYPE.VALUE v).settle) ∧
  (∀ (s : State) (init : Fin 22) (v : Nat) (r : Refused), s.check { init := init } .write 0x100B0004 4 = some r →
    exec (.registerWrite init 0xB0004 4 v) s = .next (s.noteRefused r .write).settle)) ∧
  ((∀ (s : State) (init : Fin 22), s.check { init := init } .write 0x100D0000 4 = none → s.domOn 5 = true →
    exec (.setupLockClose init 13) s = .next (s.set FIO.SETUP_LOCK.CLOSED (Nat.lor (s.get FIO.SETUP_LOCK.CLOSED) 1)).settle) ∧
  (∀ (s : State) (b off v : Nat) (f : Fld), s.locked b = true → s.fieldWrite b off v f .RWS = s)) ∧
  (∀ s : State,
    exec .tagsClearPeak s = .next (s.set RNG.TAGS.PEAK (s.get RNG.TAGS.IN_FLIGHT)).settle ∧
    exec .dbIgnoredClear s = .next (s.set RNG.DB_IGNORED.COUNT 0).settle ∧
    (∀ k : Fin 8, exec (.execMaxClear k) s = .next (s.set (CYC.CLASS_EXEC_MAX.TICKS k) 0).settle) ∧
    (∀ t : Fin 10, exec (.peakWaitClear t) s = .next (s.set (ARB.TARGET_PEAK_WAIT.TICKS t) 0).settle) ∧
    exec .streamMaxClear s = .next (s.set PAR.STREAM_MAX.BYTES 0).settle ∧
    exec .motClearMax s = .next (s.set MOT.PASS_STATUS.MAX 0).settle ∧
    exec .lopQueueClear s = .next (s.set LOP.QUEUE.PEAK (s.get LOP.QUEUE.DEPTH)).settle ∧
    exec .lopWorstClear s = .next (s.set LOP.WORST.TICKS 0).settle ∧
    exec .acqQueueClear s = .next (s.set ACQ.QUEUE.PEAK (s.get ACQ.QUEUE.LEVEL)).settle ∧
    exec .acqMaxDeadClear s = .next (s.set ACQ.MAX_DEAD.TICKS 0).settle)

/-- R584. FAULT_LED.ACK clears AWAIT and RAISE sets it.

R32, R33, R37, R38: the carrier's lines. A seat, presence, latch or token line that changes while no reset is held changes its
bit of CARRIER_STATUS, and the driver gate follows (R34); the presence line asserts source 7 and the latch line source 6, each
with the line's new level, and what the pair (R381) or the latch's action (R38) makes of it follows. A seat lost sends the unit
OUT (R40). While a reset is held the lines are only followed.

R37. Seated, with a supply of 19.2 V or more, for 20 ms: the main converters start, and POR may be released.

R52, R423. The reference fails: the counter runs on the fallback oscillator, UNCALIBRATED is set and source 178 asserted; when it
returns both clear.

R56, R60 to R62. The end of a speed window, 65,536 ticks after its start, writes COUNT, VALID, BELOW_FLOOR and SEQ of its domain
together and starts the next window: COUNT the completions, 0 for a disabled monitor, VALID 1 for a full window, BELOW_FLOOR 1
for a full window under the floor. Where no window runs nothing changes.

Completion is stated for FAULT_LED_ACK, FAULT_LED_RAISE, SEATED_CHANGE, CARRIER_PRESENCE, CARRIER_LATCH, POR_RELEASE,
REFERENCE_OSCILLATOR_FAIL, REFERENCE_RETURN and SPEED_WINDOW_END. -/
def Obligations.CarrierEvents : Prop :=
  (∀ s : State, exec .faultLedAck s = .next (s.set SYS.FAULT_LED.AWAIT 0).settle ∧
    exec .faultLedRaise s = .next (s.set SYS.FAULT_LED.AWAIT 1).settle) ∧
  (∀ (s : State) (b : Bool),
    (∃ x : State, exec (.seatedChange b) s = .next x.settle ∧ x.car.seatedAt.isSome = b ∧ (b = false → x.pairState = 5)) ∧
    (s.rst.held.isSome = true → exec (.carrierPresence b) s = .next (State.settle { s with car := { s.car with partnerLine := b } }) ∧
      exec (.carrierLatch b) s = .next (State.settle { s with car := { s.car with latchLine := b } })) ∧
    (s.rst.held = none → s.bit SYS.CARRIER_STATUS.PARTNER_SEATED = !b →
      exec (.carrierPresence b) s = .next (State.roleWithPartner
        ((State.setB { s with car := { s.car with partnerLine := b } } SYS.CARRIER_STATUS.PARTNER_SEATED b).post 7 (b2n b))).settle) ∧
    (s.rst.held = none → s.bit SYS.CARRIER_STATUS.LATCH_REQUEST = false →
      exec (.carrierLatch true) s = .next (State.latchActs
        ((State.setB { s with car := { s.car with latchLine := true } } SYS.CARRIER_STATUS.LATCH_REQUEST true).post 6 1)).settle)) ∧
  (∀ (s : State) (t : Nat), s.car.seatedAt = some t → max t s.car.supplyAt + 20 * ticksPerMs ≤ s.now → s.car.supplyLow = false →
    exec .porRelease s = .next (State.settle { s with car := { s.car with converters := true } })) ∧
  (∀ s : State, s.rst.held = none →
    (∃ x : State, exec (.seatedChange true) s = .next x.settle ∧ x.bit SYS.CARRIER_STATUS.SEATED = true ∧
      x.bit SYS.CARRIER_STATUS.DRIVERS_ENABLED =
        (s.bit SYS.CARRIER_STATUS.TOKEN_SELF_LIVE && !s.bit SYS.CARRIER_STATUS.TOKEN_PARTNER_LIVE)) ∧
    (∃ x : State, exec (.seatedChange false) s = .next x.settle ∧ x.bit SYS.CARRIER_STATUS.SEATED = false ∧
      x.bit SYS.CARRIER_STATUS.DRIVERS_ENABLED = false ∧ x.pairState = 5) ∧
    (∀ b, s.bit SYS.CARRIER_STATUS.PARTNER_SEATED = !b → s.pairState = 5 → exec (.carrierPresence b) s =
      .next (((({ s with car := { s.car with partnerLine := b } }).setB SYS.CARRIER_STATUS.PARTNER_SEATED b).post 7 (b2n b))).settle) ∧
    (s.bit SYS.CARRIER_STATUS.LATCH_REQUEST = true → exec (.carrierLatch false) s =
      .next (((({ s with car := { s.car with latchLine := false } }).setB SYS.CARRIER_STATUS.LATCH_REQUEST false).post 6 0)).settle) ∧
    (s.bit SYS.CARRIER_STATUS.LATCH_REQUEST = false → s.pairState = 3 →
      ∃ x : State, exec (.carrierLatch true) s = .next x.settle ∧ x.bit SYS.CARRIER_STATUS.LATCH_REQUEST = true ∧
        x.par.latchAt = some s.cycle ∧ x.rng.evq = s.rng.evq ++ [⟨6, 1, true⟩])) ∧
  (∀ s : State,
    (s.car.fallback = false → exec .referenceOscillatorFail s = .next
      ((State.setB { s with car := { s.car with fallback := true } } TIM.STATUS.UNCALIBRATED true).post 178 1).settle) ∧
    (s.car.fallback = true → exec .referenceReturn s = .next
      ((State.setB { s with car := { s.car with fallback := false } } TIM.STATUS.UNCALIBRATED false).post 178 0).settle)) ∧
  (∀ (s : State) (d : Fin 8) (whole : Fin 16) (part : Fin 65536),
    (Sparse.find s.car.speedFrom d = none → exec (.speedWindowEnd d whole part) s = .next s.settle) ∧
    (∀ t, Sparse.find s.car.speedFrom d = some t → t + 65536 ≤ s.now →
      ∃ x : State, exec (.speedWindowEnd d whole part) s = .next x.settle ∧
        x.get (SYS.SPEED.COUNT d) = (if Nat.testBit (s.get SYS.SPEED_CTRL.ENABLE) d then 65536 * whole.val + part.val else 0) ∧
        x.get (SYS.SPEED.VALID d) = b2n (s.speedFull d) ∧
        x.get (SYS.SPEED.BELOW_FLOOR d) = b2n (s.speedFull d && decide (65536 * whole.val + part < s.speedFloor d)) ∧
        x.get (SYS.SPEED.SEQ d) = (s.get (SYS.SPEED.SEQ d) + 1) % 256 ∧
        Sparse.find x.car.speedFrom d = some (t + 65536)))

/-- R33, R34, R370. A token line classified live or dead. The partner's token live beside a driving unit whose claim window has
ended demotes the unit; the own token dead while it is raised starts the 2 us of R375.

R371, R375, R567. The clocks of a driving unit's token and supply: a token dead for 2 us, or a supply below 18 V, sends it OUT;
the end of the claim window beside a live partner token demotes it; a supply that returns in time changes nothing else. The
token of a seated partner that was driving, gone dead, is a positive failure notice (R375).

Completion is stated for TOKEN_LINE_LIVE, TOKEN_LINE_DEAD, OWN_TOKEN_DEAD, SUPPLY_LOW, SUPPLY_RETURN, CLAIM_WINDOW_END and
DEMOTED. -/
def Obligations.TokensAndSupply : Prop :=
  (∀ s : State, s.rst.held = none →
    (exec (.tokenLineLive false) s = .next
      (State.gate (State.set { s with par := { s.par with selfDeadAt := none } } SYS.CARRIER_STATUS.TOKEN_SELF_LIVE 1)).settle) ∧
    (s.isDriving = false →
      exec (.tokenLineLive true) s = .next (State.gate (s.set SYS.CARRIER_STATUS.TOKEN_PARTNER_LIVE 1)).settle) ∧
    (s.isDriving = true → s.par.claimUntil = none →
      ∃ x : State, exec (.tokenLineLive true) s = .next x.settle ∧ x.pairState = 4 ∧ x.get PAR.STATUS.UNTETHER_REASON = 6) ∧
    (s.bit PAR.STATUS.TOKEN_RAISED = true → s.par.selfDeadAt = none →
      ∃ x : State, exec (.tokenLineDead false) s = .next x.settle ∧ x.par.selfDeadAt = some s.now ∧
        x.bit SYS.CARRIER_STATUS.TOKEN_SELF_LIVE = false ∧ x.bit SYS.CARRIER_STATUS.DRIVERS_ENABLED = false) ∧
    (s.bit SYS.CARRIER_STATUS.TOKEN_PARTNER_LIVE = false →
      exec (.tokenLineDead true) s = .next (State.gate (s.set SYS.CARRIER_STATUS.TOKEN_PARTNER_LIVE 0)).settle) ∧
    (∀ t, s.isDriving = true → s.par.claimUntil = some t → s.now < t →
      exec (.tokenLineLive true) s = .next (State.gate (s.set SYS.CARRIER_STATUS.TOKEN_PARTNER_LIVE 1)).settle)) ∧
  (∀ s : State, exec (.tokenLineDead true) s = .next (State.settle
    (let t := (s.set SYS.CARRIER_STATUS.TOKEN_PARTNER_LIVE 0).gate
     if s.bit SYS.CARRIER_STATUS.TOKEN_PARTNER_LIVE && t.partnerSeated &&
         (t.get PAR.STATUS.PARTNER_STATE == 0 || t.get PAR.STATUS.PARTNER_STATE == 2)
     then t.takeover 2 t.nextEpoch else t))) ∧
  (∀ s : State,
    (∀ t, s.par.selfDeadAt = some t → s.isDriving = true → s.bit PAR.STATUS.TOKEN_RAISED = true → t + 400 ≤ s.now →
      ∃ x : State, exec .ownTokenDead s = .next x.settle ∧ x.pairState = 5 ∧ x.bit PAR.STATUS.TOKEN_RAISED = false) ∧
    (s.isDriving = true → ∃ x : State, exec .supplyLow s = .next x.settle ∧ x.pairState = 5 ∧ x.car.supplyLow = true) ∧
    exec .supplyReturn s = .next (State.settle { s with car := { s.car with supplyLow := false, supplyAt := s.now } }) ∧
    (∀ t, s.par.claimUntil = some t → t ≤ s.now → s.bit SYS.CARRIER_STATUS.TOKEN_PARTNER_LIVE = true → s.isDriving = true →
      ∃ x : State, exec .claimWindowEnd s = .next x.settle ∧ x.pairState = 4 ∧ x.par.claimUntil = none ∧
        x.get PAR.STATUS.UNTETHER_REASON = 6) ∧
    (s.isDriving = true → s.par.ownEpoch < s.get PAR.EPOCH.EPOCH →
      ∃ x : State, exec (.demoted false) s = .next x.settle ∧ x.pairState = 4 ∧ x.get PAR.STATUS.UNTETHER_REASON = 6) ∧
    (s.isDriving = true → s.bit SYS.CARRIER_STATUS.TOKEN_PARTNER_LIVE = true → s.par.claimUntil = none →
      ∃ x : State, exec (.demoted true) s = .next x.settle ∧ x.pairState = 4 ∧ x.get PAR.STATUS.UNTETHER_REASON = 6) ∧
    (s.isDriving = false → exec .supplyLow s = .next (State.settle { s with car := { s.car with supplyLow := true } })))

/-! ## Rings, descriptors, the copy engine, events (spec/03) -/

/-- R70, R76. Setting ENABLE on a DISABLED ring whose set-up fails no check and whose doorbell word can be read makes it RUNNING with
CONS and PROD at the index that the doorbell word holds, and clears the fault; a failing check refuses with its cause.

R88. The ring state machine: STOP, ABORT and a cleared ENABLE on a ring with nothing started and nothing finished go through
STOPPING to STOPPED (or DISABLED) and assert source 233; with descriptors started, ABORT and a cleared ENABLE end each of them
first, and the ring stays STOPPING until its records are written; a STOPPED or FAULTED ring whose ENABLE is cleared is DISABLED;
RESUME takes a STOPPED or FAULTED ring back to RUNNING.

Completion is stated for RING_ENABLE, RING_STOP, RING_ABORT, RING_DISABLE and RING_RESUME. -/
def Obligations.RingStates : Prop :=
  (∀ (s : State) (n : Fin 64), s.get (RNG.RING_STATUS.STATE n) = 0 →
    (∀ s' bs, s.ringCause n = 0 →
      s.read { init := 8, owner := some (s.get (RNG.RING_CFG.OWNER n)) } (s.bellAddr n) 4 = (s', .ok bs) →
      ∃ x : State, exec (.ringEnable n) s = .next x.settle ∧ x.get (RNG.RING_STATUS.STATE n) = 1 ∧
        x.get (RNG.RING_CTRL.ENABLE n) = 1 ∧ x.get (RNG.RING_STATUS.CFG_ERR n) = 0 ∧
        x.get (RNG.RING_INDEX.CONS n) = leAt bs 0 2 % 65536 ∧ x.get (RNG.RING_INDEX.PROD n) = leAt bs 0 2 % 65536 ∧
        x.get (RNG.RING_FAULT.REASON n) = 0 ∧ x.ring n = {} ∧ x.mem = s'.mem) ∧
    (∀ c, c ≠ 0 → s.ringCause n = c → exec (.ringEnable n) s = .next (s.ringRefuse n c).settle)) ∧
  (∀ (s : State) (n : Fin 64),
    (s.get (RNG.RING_STATUS.STATE n) = 1 → s.rng.started = [] → s.rng.finished = [] → s.get (RNG.RING_CFG.ENGINE n) ≠ 8 →
      (∃ x : State, exec (.ringStop n) s = .next x.settle ∧
        x.get (RNG.RING_STATUS.STATE n) = (if (s.ring n).toDisabled then 0 else 3) ∧
        x.rng.evq = s.rng.evq ++ [⟨233, n, true⟩]) ∧
      (∃ x : State, exec (.ringAbort n) s = .next x.settle ∧ x.get (RNG.RING_STATUS.STATE n) = 3 ∧
        x.rng.evq = s.rng.evq ++ [⟨233, n, true⟩]) ∧
      (∃ x : State, exec (.ringDisable n) s = .next x.settle ∧ x.get (RNG.RING_STATUS.STATE n) = 0 ∧
        x.get (RNG.RING_CTRL.ENABLE n) = 0)) ∧
    (s.get (RNG.RING_STATUS.STATE n) = 1 →
      exec (.ringStop n) s = .next ((s.set (RNG.RING_STATUS.STATE n) 2).ringSettle n).settle ∧
      (s.get (RNG.RING_CFG.ENGINE n) ≠ 8 →
        exec (.ringAbort n) s = .next ((((s.set (RNG.RING_STATUS.STATE n) 2).setRing n
          { s.ring n with toDisabled := false }).abortStarted n 0x33).ringSettle n).settle ∧
        exec (.ringDisable n) s = .next (((((s.set (RNG.RING_CTRL.ENABLE n) 0).set (RNG.RING_STATUS.STATE n) 2).setRing n
          { s.ring n with toDisabled := true }).abortStarted n 0x33).ringSettle n).settle)) ∧
    (s.get (RNG.RING_STATUS.STATE n) = 2 → exec (.ringDisable n) s =
      .next ((s.set (RNG.RING_CTRL.ENABLE n) 0).setRing n { s.ring n with toDisabled := true }).settle) ∧
    (s.get (RNG.RING_STATUS.STATE n) = 3 ∨ s.get (RNG.RING_STATUS.STATE n) = 4 → exec (.ringDisable n) s =
      .next ((s.set (RNG.RING_CTRL.ENABLE n) 0).set (RNG.RING_STATUS.STATE n) 0).settle) ∧
    (s.get (RNG.RING_STATUS.STATE n) = 3 ∨ s.get (RNG.RING_STATUS.STATE n) = 4 →
      ∃ x : State, exec (.ringResume n) s = .next x.settle ∧ x.get (RNG.RING_STATUS.STATE n) = 1 ∧
        x.get (RNG.RING_FAULT.REASON n) = 0 ∧ x.get (RNG.RING_INDEX.CONS n) = s.get (RNG.RING_INDEX.CONS n) ∧
        x.get (RNG.RING_INDEX.PROD n) = s.get (RNG.RING_INDEX.PROD n)))

/-- R73. A doorbell write carrying PROD, all differences modulo 65,536: more than the ring holds faults it with REASON 4; an index behind
the last accepted is ignored with cause 3; any other is accepted and PROD takes it, one that stays the same with no effect; of
several that are accepted only the newest matters. -/
def Obligations.DoorbellRule : Prop :=
  ∀ (s : State) (n : Fin 64) (p init : Nat), p < 65536 →
    let cons := s.get (RNG.RING_INDEX.CONS n)
    let new := (p + 65536 - cons) % 65536
    let old := (s.get (RNG.RING_INDEX.PROD n) + 65536 - cons) % 65536
    (new ≤ s.ringSize n → old ≤ new → (s.bellAccept n p init).get (RNG.RING_INDEX.PROD n) = p ∧
      (s.bellAccept n p init).get (RNG.RING_STATUS.STATE n) = s.get (RNG.RING_STATUS.STATE n) ∧
      (old = new → (s.bellAccept n p init).ring n = s.ring n) ∧
      (∀ q, q < 65536 → (q + 65536 - cons) % 65536 ≤ s.ringSize n → new ≤ (q + 65536 - cons) % 65536 →
        ((s.bellAccept n p init).bellAccept n q init).get (RNG.RING_INDEX.PROD n) = q)) ∧
    (new ≤ s.ringSize n → new < old → s.bellAccept n p init = s.bellIgnored n 3 init ∧
      (s.bellAccept n p init).get (RNG.RING_INDEX.PROD n) = s.get (RNG.RING_INDEX.PROD n)) ∧
    (s.ringSize n < new → (s.bellAccept n p init).get (RNG.RING_STATUS.STATE n) = 4 ∧
      (s.get (RNG.RING_STATUS.STATE n) ≠ 4 → s.get (RNG.RING_FAULT.REASON n) = 0 →
        (s.bellAccept n p init).get (RNG.RING_FAULT.REASON n) = 4) ∧
      (s.bellAccept n p init).get (RNG.RING_INDEX.PROD n) = s.get (RNG.RING_INDEX.PROD n))

/-- R71 to R73. A doorbell write is a memory write of the writer; where it is granted and the word names the ring, comes from its
owner and publishes no more than the ring holds, PROD takes the index and the doorbell is kept with its tick.

R84 to R88. A ready ring whose turn it is and for which a tag is free starts the descriptor it fetches: CONS advances, the
descriptor joins the started ones, and a tag is taken; a refused fetch faults the ring with REASON 2 and CONS stays.

R85. A tag becomes free: the waiter of the nearest deadline that finds one is taken, and its transaction goes on: a fetch of its
ring, a completion record, or data of a descriptor. A descriptor fetch or a record that finds no tag waits for one.

R80, R81. A finished descriptor's record is written: 16 bytes at the completion index, and the ring counts it; the descriptor is
gone.

Completion is stated for DOORBELL_WRITE, DESCRIPTOR_FETCH, TAG_GRANTED and DESCRIPTOR_COMPLETE. -/
def Obligations.DescriptorPath : Prop :=
  ((∀ (s : State) (n : Fin 64) (init : Fin 22) (half : Bool) (v : Nat),
    exec (.doorbellWrite n init half v) s = .next
      (s.write { init := init } (s.bellAddr n) (leBytes (if half then 2 else 4) v)).1.settle) ∧
  (∀ (s : State) (n p init : Nat), let cons := s.get (RNG.RING_INDEX.CONS n)
    let new := (p + 65536 - cons) % 65536
    let old := (s.get (RNG.RING_INDEX.PROD n) + 65536 - cons) % 65536
    p < 65536 → new ≤ s.ringSize n → old < new → s.get (RNG.RING_CFG.ENGINE n) ≠ 7 →
    (s.bellAccept n p init).get (RNG.RING_INDEX.PROD n) = p ∧
    ((s.bellAccept n p init).ring n).bells = (s.ring n).bells ++ [⟨p, s.now, s.execCycle⟩])) ∧
  (∀ (s : State) (n : Fin 64), s.ringReady n = true → s.outrun n = false → s.rng.tagWaits = [] →
    s.tagFree n (s.nextDeadline n) = true →
    (exec (.descriptorFetch n) s = .next (s.fetch n).settle) ∧
    (∀ (t : State) (st : Started), st.ring = n → st.d.fence = false → st.d.crit = false → st.d.expire = false →
      (t.ring n).chainAbort = false → t.follows n = false → t.engineRoom n st.d = true →
      t.bit (RNG.RING_CFG.CRIT_ONLY n) = false → bitsOf st.d.w3 8 24 = 0 →
      (engineOps (t.get (RNG.RING_CFG.ENGINE n))).contains st.d.opcode = true →
      (t.startDesc n st).rng.started = t.rng.started ++ [st] ∧
      (t.startDesc n st).get (RNG.RING_INDEX.CONS n) = (st.idx + 1) % 65536)) ∧
  (∀ (s : State) (n : Fin 64), s.ringReady n = true → s.outrun n = false →
    s.rng.tagWaits.any (fun w => w.ring == n.val && w.use == .fetch) = false → s.tagFree n (s.nextDeadline n) = false →
    exec (.descriptorFetch n) s = .next (State.settle { s with rng := { s.rng with
      tagWaits := s.rng.tagWaits ++ [⟨n, s.nextDeadline n, .fetch⟩] } })) ∧
  (∀ (s : State) (w : TagWait), s.nextWaiter = some w →
    let t := { s with rng := { s.rng with tagWaits := s.rng.tagWaits.erase w } }
    (w.use = .fetch → s.ringReady w.ring = true → exec .tagGranted s = .next (t.fetch w.ring).settle) ∧
    (w.use = .record → exec .tagGranted s = .next (t.completeNow w.ring).settle) ∧
    (∀ g x, w.use = .data g x → exec .tagGranted s = .next ((t.takeTag w.ring).arrive g { x with arrival := s.now }).settle)) ∧
  (∀ (s : State) (n : Fin 64) (f : Finished), s.rng.finished.find? (fun f => f.st.ring == n.val) = some f →
    (s.tagFree n f.st.deadline = true → exec (.descriptorComplete n) s = .next (s.completeNow n).settle) ∧
    (s.tagFree n f.st.deadline = false → s.rng.tagWaits.any (fun w => w.ring == n.val && w.use == .record) = false →
      exec (.descriptorComplete n) s = .next (State.settle { s with rng := { s.rng with
        tagWaits := s.rng.tagWaits ++ [⟨n, f.st.deadline, .record⟩] } }))) ∧
  (∀ (s s' : State) (n : Fin 64) (f : Finished), s.rng.finished = [f] → f.st.ring = n → f.st.d.notify = false →
    f.res.status = 0 → s.tagFree n f.st.deadline = true →
    State.write { s with rng := { s.rng with finished := [] } }
      { init := 8, owner := some (s.get (RNG.RING_CFG.OWNER n)), due := some f.st.deadline, ring := some n.val }
      (s.compBase n + 16 * ((s.ring n).comps % s.ringSize n)) (compBytes n (s.ringSize n) (s.ring n).comps f) = (s', .ok ()) →
    s'.streams = false →
    exec (.descriptorComplete n) s = .next
      ((s'.setRing n { s'.ring n with comps := (s.ring n).comps + 1 }).ringSettle n).settle)

/-- R91. The copy engine's descriptors: NOP moves nothing and completes DONE; COPY and FILL that break no rule of their form move
LENGTH bytes transaction by transaction and complete with what was written, as the engine (8) and the ring's owner; one that
breaks a rule of its form completes BAD_DESCRIPTOR.

Completion is stated for NOP, COPY and FILL. -/
def Obligations.CopyEngine : Prop :=
  ∀ (s : State) (n : Fin 64) (d : Started),
    (s.offered n [0] 0 = some d → d.d.w1 = 0 → d.d.w2 = 0 → d.d.w3 = 0 → d.d.w4 = 0 → d.d.w5 = 0 → d.d.eflags = 0 →
      exec (.nop n) s = .next (s.finish d 0).settle) ∧
    (s.offered n [0] 1 = some d → copyBad d.d = true → exec (.copy n) s = .next (s.finish d 0x10).settle) ∧
    (s.offered n [0] 2 = some d → d.d.eflags ≠ 0 ∨ d.d.w5 ≠ 0 ∨ d.d.primary % 4 ≠ 0 ∨ d.d.w1 % 4 ≠ 0 ∨
      touchesPair d.d.primary d.d.w1 = true → exec (.fill n) s = .next (s.finish d 0x10).settle) ∧
    (∀ s' m st dt, s.offered n [0] 1 = some d → copyBad d.d = false →
      s.copyLoop (s.via 8 d) (touchesPair d.d.primary d.d.w1 || touchesPair d.d.secondary d.d.w1) (d.d.w1 + 1)
        d.d.primary d.d.secondary d.d.w1 = (s', m, st, dt) →
      exec (.copy n) s = .next (s'.finish d st m dt).settle) ∧
    (∀ s' m st dt, s.offered n [0] 2 = some d → d.d.eflags = 0 → d.d.w5 = 0 → d.d.primary % 4 = 0 → d.d.w1 % 4 = 0 →
      touchesPair d.d.primary d.d.w1 = false →
      s.fillLoop (s.via 8 d) d.d.w4 (d.d.w1 + 1) d.d.primary d.d.w1 = (s', m, st, dt) →
      exec (.fill n) s = .next (s'.finish d st m dt).settle)

/-- R95, R96, R98. EVT.RAISE asserts its source with data word 0; the bits of a pending word written 1 clear and no other; an event
ring that is disabled and well set up starts at index 0 with no losses. With the last pending bit of target 0 its interrupt
request goes, and mip of the cores with it (R120, notes/assumptions/139.md).

Completion is stated for EVT_RAISE, EVT_PEND_CLEAR and ERING_ENABLE. -/
def Obligations.EventCommands : Prop :=
  (∀ (s : State) (src : Fin 256), exec (.evtRaise src) s = .next
    (State.settle { s with rng := { s.rng with evq := s.rng.evq ++ [⟨src, 0, false⟩] } })) ∧
  (∀ (s : State) (t : Fin 5) (w : Fin 8) (mask : Nat), s.get (EVT.PEND.BITS t w) < 2 ^ 32 →
    ∃ x : State, exec (.evtPendClear t w mask) s = .next x.settle ∧
      (∀ i, (x.get (EVT.PEND.BITS t w)).testBit i = ((s.get (EVT.PEND.BITS t w)).testBit i && !mask.testBit i)) ∧
      (t.val = 0 → x.irq0 = false → ∀ c < 3, (x.core c).mip = false)) ∧
  (∀ (s : State) (n : Fin 4), s.bit (EVT.ERING_BASE_HI.ENABLE n) = false →
    4 ≤ s.get (EVT.ERING_BASE_HI.ENTRIES_LOG2 n) → s.get (EVT.ERING_BASE_HI.ENTRIES_LOG2 n) ≤ 14 →
    inSramDram (s.get (EVT.ERING_BASE_LO.ADDR n) * 16 + s.get (EVT.ERING_BASE_HI.ADDR n) * 2 ^ 32)
      (16 * 2 ^ s.get (EVT.ERING_BASE_HI.ENTRIES_LOG2 n)) = true →
    inSramDram (s.get (EVT.ERING_HEAD_LO.ADDR n) * 4 + s.get (EVT.ERING_HEAD_HI.ADDR n) * 2 ^ 32) 4 = true →
    exec (.eringEnable n) s = .next ((((s.set (EVT.ERING_BASE_HI.ENABLE n) 1).set (EVT.ERING_STATUS.WRITE_INDEX n) 0).set
      (EVT.ERING_LOST.LOST_TOTAL n) 0).setERing n {}).settle)

/-! ## The voted complex (spec/04) -/

/-- R113, R114. A core's request joins those presented, with its index and tick; the second identical one releases it: both cores
are answered, and the third owes its copy. Here with a fence, which asks nothing of the fabric; each core answered retires it
(R103).

R101, R103, R105. A core that fetches and runs instructions of its own does so up to its next request: an instruction that asks
nothing of the module gives the core the state that the instruction set says and retires. The value that a load returns reaches
its register x (the low bytes, signed or not) or f, a KTICK's both halves reach rd and rd + 1, and the load retires; a fault
traps with the address in mtval.

Completion is stated for EGRESS_REQUEST. -/
def Obligations.EgressVote : Prop :=
  (∀ (s : State) (c : Fin 3) (r : Req), 0 < r.run → s.voting = true ∨ s.get VOT.STATUS.MODE = 2 →
    exec (.egressRequest c r) s = .next (State.runCore c r.run s).settle) ∧
  (∀ (s t : State) (c : Nat) (bits : Nat) (k : Core), s.domOn 1 = true → s.bit VOT.STATUS.FAILSTOP = false →
    (s.core c).running = true → (s.core c).wfi = false → s.vot.presented.any (·.core == c) = false →
    (∀ i < 4, (s.core c).triggers i [2] (s.core c).pc = false) → s.instruction c = (t, .ok (bits, 4)) → t.core c = s.core c →
    (s.core c).exec (t.hartId c) (t.bit VOT.KEAFY_CTRL.U_TICK) bits 4 bits = .done k →
    s.oneInstr c = (t.setCore c k, .on)) ∧
  (∀ (k : Core) (hart : Nat) (u : Bool) (rd rs1 rs2 : Fin 32),
    (let w := encR 0 rs2 rs1 0 rd 0x33
     k.exec hart u w 4 w = .done ((k.setReg rd ((k.reg rs1 + k.reg rs2) % 2 ^ 32)).retireBy 4)) ∧
    (let w := encI 0xF14 0 2 rd 0x73
     k.mmode = true → k.exec hart u w 4 w = .done ((k.setReg rd hart).retireBy 4)) ∧
    (let w := keafyBits 3 0x0B rd rs1 rs2
     k.exec hart u w 4 w = .trap 2 w)) ∧
  (∀ (k : Core) (r : Req) (rd v : Nat), 0 < rd → rd < 32 → r.len = 4 →
    (r.dest = .x rd 1 true → (k.takeAnswer false r (.value v)).reg rd = ofSigned 32 (toSigned 8 v)) ∧
    (r.dest = .x rd 4 false → (k.takeAnswer false r (.value v)).reg rd = v % 2 ^ 32) ∧
    (r.dest = .f rd → (k.takeAnswer false r (.value v)).freg rd = v % 2 ^ 32) ∧
    (r.dest = .both rd → (k.takeAnswer false r (.value v)).reg (rd + 1) = v / 2 ^ 32 % 2 ^ 32) ∧
    (k.takeAnswer false r (.value v)).minstret = (k.minstret + 1) % 2 ^ 64 ∧
    (∀ cause, k.takeAnswer false r (.trap cause) = k.trap cause r.addr)) ∧
  ∀ (s : State) (c : Fin 3) (r : Req), s.domOn 1 = true → s.voting = true → (s.core c).running = true → s.vot.released = [] →
    r.run = 0 →
    (2 ≤ s.running.length → s.ownFault c r = none → s.vot.presented = [] →
      exec (.egressRequest c r) s = .next (State.settle { s with vot := { s.vot with
        count := s.vot.count.set c (s.vot.count.getD c 0 + 1)
        presented := [⟨c, s.vot.count.getD c 0, r, s.now⟩] } })) ∧
    (∀ (a b : Fin 3) (t : Nat), a ≠ c → b ≠ c → a ≠ b → s.running = [0, 1, 2] → r = { kind := .fence } →
      s.vot.presented = [⟨a, s.vot.count.getD c 0, r, t⟩] →
      ∃ x : State, exec (.egressRequest c r) s = .next x.settle ∧ x.vot.presented = [] ∧
        x.vot.released = [⟨s.vot.count.getD c 0, r, .done, s.now, [b]⟩] ∧
        (c.val, s.vot.count.getD c 0, Resp.done) ∈ x.vot.resps ∧ (a.val, s.vot.count.getD c 0, Resp.done) ∈ x.vot.resps ∧
        (s.vot.cores.length = 3 → (x.core c).minstret = ((s.core c).minstret + 1) % 2 ^ 64))

/-- R115, R116, R118, R127, R128. The voter's clocks: a copy 64 ticks late takes its core out as the minority by lateness and the
complex goes on in VOTE2; in VOTE2 a presentation missing for 64 ticks, and a request not released within 4,096 ticks, are
FAILSTOP, which sends the unit OUT; a DOMAIN reset of D1 follows.

R128. After FAILSTOP D1 is reset: it is waking, its rail being set.

R124, R360. The 60-minute histories: an entry that has passed 60 minutes leaves the count of its core; the others stay.

Completion is stated for MINORITY_LATE, VOTE2_PRESENTATION_TIMEOUT, PROGRESS_WATCHDOG, FAILSTOP_DOMAIN_RESET and
LATENT_HOUR_EXPIRY. -/
def Obligations.VoterFaults : Prop :=
  (∀ s : State, s.voting = true →
    (∀ (c : Fin 3) (r : Released), s.vot.released = [r] → r.owed.contains c.val = true → r.tick + 64 ≤ s.now →
      s.get VOT.STATUS.MODE = 0 → s.vot.rejoin = none →
      ∃ x : State, exec (.minorityLate c) s = .next x.settle ∧ x.get VOT.STATUS.MODE = 1 ∧ x.get VOT.STATUS.OUT_CORE = c ∧
        x.get VOT.STATUS.VOTE2_REASON = 1 ∧ x.vot.marked = some c.val) ∧
    (∀ p : Presented, s.vot.presented = [p] → s.get VOT.STATUS.MODE = 1 → p.tick + 64 ≤ s.now → s.vot.vote2Since + 64 ≤ s.now →
      ∃ x : State, exec .vote2PresentationTimeout s = .next x.settle ∧ x.bit VOT.STATUS.FAILSTOP = true ∧ x.pairState = 5) ∧
    (∀ p : Presented, s.vot.presented = [p] → p.tick + 4096 ≤ s.now → s.accessHeld p.req = false →
      ∃ x : State, exec .progressWatchdog s = .next x.settle ∧ x.bit VOT.STATUS.FAILSTOP = true ∧ x.pairState = 5 ∧
        x.get VOT.LAST_EVENT.KIND = 6)) ∧
  (∀ s : State, s.bit VOT.STATUS.FAILSTOP = true →
    exec .failstopDomainReset s = .next (s.domainReset 1).settle ∧
    (s.rst.held = none → (s.dom 1).resetting = false → (s.domainReset 1).domState 1 = 5)) ∧
  (∀ (s : State) (c : Fin 3), (∀ l ∈ s.vot.latent, l.1 = c.val ∧ l.2 + 3600 * ticksPerSec ≤ s.now) →
    ∃ x : State, exec (.latentHourExpiry c) s = .next x.settle ∧ x.vot.latent = [] ∧ x.get (VOT.MINORITY.LATENT_HOUR c) = 0) ∧
  (∀ (s : State) (c : Fin 3), ∃ x : State, exec (.latentHourExpiry c) s = .next x.settle ∧
    x.vot.latent = (s.vot.latent.filter fun l => l.1 != c.val || decide (s.now < l.2 + 3600 * ticksPerSec)) ∧
    x.get (VOT.MINORITY.LATENT_HOUR c) = min 15 (x.vot.latent.filter fun l => l.1 == c.val).length)

/-- R109 to R111. A pair-word instruction of three cores in step whose request the fabric answers with value `v` and complement
word `w`: KPLS gives each core `v`, or rs2 with SUB set where the pair-word is invalid; KPCHK gives `v`, or 0 with BAD set;
KPRAW gives both words unchecked. Each core retires it.

R105, R110. KTICK in M mode, or in U mode where U_TICK allows it, with an even rd other than x0 gives every core one sampled tick
count in rd and rd + 1; fence.i invalidates the three instruction caches; each retires.

Completion is stated for KPLS, KPCHK, KPRAW, KTICK and FENCE_I. -/
def Obligations.PairInstructions : Prop :=
  (∀ (s s' : State) (k : Core) (q : Req) (rd rs1 rs2 : Fin 32) (v w : Nat), s.voting = true → s.vot.cores = [k, k, k] →
    k.running = true →
    (k.pairIntent 0 rs1 (keafyBits 0 0x0B rd rs1 rs2) rd = .req q → s.pairLoad 0 q.addr 8 = (s', .words v w) →
      ∃ x : State, exec (.kpls rd rs1 rs2) s = .next x.settle ∧ x.vot.cores = List.replicate 3
        (if w = compl32 v then ({ k with shadow := k.shadow ++ [v] }.setReg rd v).retire
         else Core.retire { { k with shadow := k.shadow ++ [v] }.setReg rd (k.reg rs2) with
           kflags := if k.kflags.testBit 0 then k.kflags else k.kflags + 1 })) ∧
    (k.pairIntent 1 rs1 (keafyBits 1 0x0B rd rs1 0) rd = .req q → s.pairLoad 0 q.addr 8 = (s', .words v w) →
      ∃ x : State, exec (.kpchk rd rs1) s = .next x.settle ∧ x.vot.cores = List.replicate 3
        (if w = compl32 v then ({ k with shadow := k.shadow ++ [v] }.setReg rd v).retire
         else Core.retire { { k with shadow := k.shadow ++ [v] }.setReg rd 0 with
           kflags := if k.kflags.testBit 1 then k.kflags else k.kflags + 2 })) ∧
    (k.pairIntent 2 rs1 (keafyBits 2 0x0B rd rs1 0) rd = .req q → s.pairLoad 0 q.addr 8 = (s', .words v w) →
      ∃ x : State, exec (.kpraw rd rs1) s = .next x.settle ∧
        x.vot.cores = List.replicate 3 (({ k with shadow := k.shadow ++ [v] }.setReg rd v).setReg (rd.val + 1) w).retire)) ∧
  (∀ (s : State) (k : Core), s.voting = true → s.vot.cores = [k, k, k] → k.running = true →
    (∀ rd : Fin 32, k.mmode = true ∨ s.bit VOT.KEAFY_CTRL.U_TICK = true → rd.val % 2 = 0 → rd.val ≠ 0 → s.pairState = 0 → s.streams = false → s.nextRead = none →
      ∃ x : State, exec (.ktick rd) s = .next x.settle ∧ x.vot.readIdx = s.vot.readIdx + 1 ∧
        x.vot.cores = List.replicate 3 ((k.setReg rd s.now).setReg (rd.val + 1) (s.now / 2 ^ 32)).retire) ∧
    (∃ x : State, exec .fenceI s = .next x.settle ∧ x.vot.icache = [[], [], []] ∧
      x.vot.cores = List.replicate 3 k.retire))

/-- R120. At the delivery point every running core takes the interrupt together: the point is used up, and each has its external
interrupt pending and leaves WFI, at the same count of retired instructions; where mie and mstatus let it, it is in its trap
handler. A core in WFI takes it at its WFI.

R125, R126. A rejoin: the mirror's end gives the rejoined cores the source's cache and starts the transfer; the transfer's end
gives them the source's registers, and the complex votes with three cores again, or after DEBUG in the mode before.

Completion is stated for INTERRUPT_TAKEN, REJOIN_MIRROR_END and REJOIN_DONE. -/
def Obligations.InterruptsAndRejoin : Prop :=
  (∀ (s : State) (p : Nat) (k : Core), s.voting = true → s.isTrail = false → s.vot.delivery = some p →
    s.vot.cores = [k, k, k] → k.running = true → s.par.follow.deliveries = [] → s.irq0 = true →
    k.wfi = true ∨ p ≤ k.minstret →
    ∃ x : State, exec .interruptTaken s = .next x.settle ∧ x.vot.delivery = none ∧
      x.vot.cores = List.replicate 3 (let t := { k with wfi := false, mip := true }
        if t.takes then t.trap (2 ^ 31 + 11) 0 else t)) ∧
  (∀ (s : State) (r : Rejoin), s.vot.rejoin = some r →
    (exec .rejoinMirrorEnd s = .next (State.settle { s with vot := { s.vot with
      rejoin := some { r with transfer := true }
      icache := r.cores.foldl (fun (l : List (List (Nat × List Nat))) c => l.set c (l.getD r.src [])) s.vot.icache } })) ∧
    (r.transfer = true → r.debug = true → r.cores = [1, 2] → r.src = 0 → s.vot.cores.length = 3 →
      ∃ x : State, exec .rejoinDone s = .next x.settle ∧ x.vot.rejoin = none ∧ x.get VOT.STATUS.MODE = s.vot.prior ∧
        x.vot.halted = false ∧ x.get VOT.STATUS.REJOIN_ACTIVE = 0 ∧ x.core 1 = { s.core 0 with running := true } ∧
        x.core 2 = { s.core 0 with running := true }) ∧
    (∀ (c : Fin 3), r.transfer = true → r.debug = false → r.cores = [c.val] → s.vot.cores.length = 3 →
      ∃ x : State, exec .rejoinDone s = .next x.settle ∧ x.vot.rejoin = none ∧ x.get VOT.STATUS.MODE = 0 ∧
        x.get VOT.STATUS.OUT_CORE = 3 ∧ x.get VOT.STATUS.REJOIN_ACTIVE = 0 ∧
        x.core c = { s.core r.src with running := true }))

/-- R127, R131, R132. VOT.CMD with nothing pending: TAKE_OUT and RETURN that may be carried out wait for the next class-0 KEND with
PENDING set; ENTER_SPLIT and CLEAR_COUNTS are carried out at once; LEAVE_SPLIT resets D1; a reserved OP is refused (0x60) and
changes nothing but the command's status and the change log.

R127, R130. The debug module: a halt that DEBUG_CTRL allows takes the cores to one delivery point and halts them there in DEBUG,
a refused one reports the cores unavailable; resume starts the rejoin of the others from REF; a step runs one instruction of
every halted core; a register access reads or writes the addressed core only, a memory access goes as the core's own initiator.

Completion is stated for TAKE_OUT, RETURN, ENTER_SPLIT, LEAVE_SPLIT, CLEAR_COUNTS, VOT_CMD_RESERVED, DEBUG_HALT_REQUEST,
DEBUG_RESUME, DEBUG_STEP and DEBUG_ABSTRACT_ACCESS. -/
def Obligations.VoterAndDebugCommands : Prop :=
  (∀ (s : State) (init : Fin 22), s.vot.cmd = none →
    (∀ c : Fin 4, c.val ≠ 3 → s.get VOT.STATUS.MODE = 0 → s.bit VOT.STATUS.FAILSTOP = false →
      exec (.takeOut init c) s = .next
        ((State.votStatus { s with vot := { s.vot with cmd := some (1, c, originOf init) } } 0 true)).settle) ∧
    (∀ c : Fin 4, s.mayReturn c = true → exec (.votReturn init c) s = .next
        ((State.votStatus { s with vot := { s.vot with cmd := some (2, c, originOf init) } } 0 true)).settle) ∧
    (s.maySplit = true → ∃ x : State, exec (.enterSplit init) s = .next x.settle ∧ x.get VOT.STATUS.MODE = 2 ∧
      x.get VOT.CMD_STATUS.STATUS = 0 ∧ x.vot.presented = []) ∧
    (s.get VOT.STATUS.MODE = 2 → exec (.leaveSplit init) s = .next ((s.votEnd init 4 0 0).domainReset 1).settle) ∧
    (s.inRun = false → ∃ x : State, exec (.clearCounts init) s = .next x.settle ∧ x.vot.latent = [] ∧
      ∀ c < 3, x.get (VOT.MINORITY.EGRESS c) = 0 ∧ x.get (VOT.MINORITY.LATENT c) = 0 ∧
        x.get (VOT.MINORITY.LATENT_HOUR c) = 0) ∧
    (∀ op : Fin 10, exec (.votCmdReserved init op) s = .next (s.votEnd init (6 + op) 0 0x60).settle)) ∧
  (∀ s : State,
    (s.voting = true → s.bit VOT.DEBUG_CTRL.ALLOW = true → s.pairState ≠ 2 ∨ s.bit VOT.DEBUG_CTRL.ALLOW_LEAD = true →
      (∀ k ∈ s.vot.cores, k.running = true → k.wfi = true) →
      ∃ x : State, exec .debugHaltRequest s = .next x.settle ∧ x.get VOT.STATUS.MODE = 3 ∧ x.vot.halted = true ∧
        x.vot.prior = s.get VOT.STATUS.MODE ∧ x.get VOT.STATUS.DEBUG_SEEN = 1) ∧
    (s.mayHalt = true → (s.runTo s.deliveryPoint).abreast = true →
      exec .debugHaltRequest s = .next (let t := s.runTo s.deliveryPoint
        State.settle (State.enterDebug { t with vot := { t.vot with unavailable := false } } 3))) ∧
    (s.mayHalt = false → exec .debugHaltRequest s = .next (State.settle { s with vot := { s.vot with unavailable := true } })) ∧
    (s.get VOT.STATUS.MODE = 3 → s.vot.halted = true → s.vot.rejoin = none →
      (∀ (a b c : Nat) (t u v : State), s.running = [a, b, c] → s.stepCore s a = (t, none) → s.stepCore t b = (u, none) →
        s.stepCore u c = (v, none) → exec .debugStep s = .next v.settle) ∧
      (∀ (c : Fin 3) (addr v : Nat), s.domOn 1 = true → (s.core c).running = true →
        ∃ x : State, exec (.debugAbstractAccess c true addr (some v)) s = .next x.settle ∧
          x.mem = (s.perform (c + 1) { kind := .store, addr := addr % 2 ^ 32, data := v % 2 ^ 32 }).1.mem) ∧
      (s.get VOT.DEBUG_CTRL.REF = 0 → s.running = [0, 1, 2] →
        ∃ x : State, exec .debugResume s = .next x.settle ∧ x.get VOT.STATUS.REJOIN_ACTIVE = 1 ∧
          x.vot.rejoin.map (fun r => (r.cores, r.src, r.debug)) = some ([1, 2], 0, true)) ∧
      (∀ (c : Fin 3) (r : Fin 32) (v : Nat), s.domOn 1 = true → (s.core c).running = true →
        exec (.debugAbstractAccess c false (0x1000 + r) (some v)) s = .next
          (s.setCore c ((s.core c).setReg r (v % 2 ^ 32))).settle)))

/-! ## Cyclic execution, forces, the ferry (spec/05) -/

/-- R110, R111, R144. KEND in M mode with the running class's number in rs1 ends its execute phase: the class begins its commit
(PHASE 3), its execution time is recorded, and each core retires; class 0 goes on with what its KEND starts (R122 to R125). An
abandoned cycle ends without a commit (R149); in U mode every core traps with cause 27.

R144. OUTPUT_COMMIT of a class whose KEND has retired: its pending set is empty, its cycle is the last committed, and the class
is idle. Class 0 commits once the motion pass has ended (R259). In SPLIT nothing is committed.

R146. The STOP of an overrun at its boundary: the controller leaves RUN with STOP_CAUSE 2.

R134. A base-cycle boundary, one base cycle after the last, counts: the cycle number rises by 1 and the boundary's nominal tick is
kept; before its tick there is none. Where no reset takes effect, the effects of a boundary follow in the order of R138: commits in
progress end, the boundary counts, time, CAN and the crossings act, then the pair, the run state, forces and the ferry, and last the
releases. Its count is stated of a unit that is OUT and in STOP, with no class enabled and nothing waiting for a boundary.

Completion is stated for KEND, OUTPUT_COMMIT, OVERRUN_STOP and BASE_CYCLE_BOUNDARY. -/
def Obligations.CycleEnds : Prop :=
  (∀ (s : State) (k : Core) (rs1 : Fin 32) (n : Nat), s.voting = true → s.vot.cores = [k, k, k] → k.running = true →
    k.mmode = true → s.runClass = some n → k.reg rs1 = n →
    ((s.cls n).abandoned = false → ∃ x : State,
      exec (.kend rs1) s = .next (if n = 0 then x.kendZero else x).settle ∧ x.get (CYC.CLASS_STATUS.PHASE n) = 3 ∧
      x.get (CYC.CLASS_EXEC_LAST.TICKS n) = min (s.pairTick - (s.cls n).release) (2 ^ 31 - 1) ∧
      x.vot.cores = List.replicate 3 k.retire) ∧
    ((s.cls n).abandoned = true → ∃ x : State,
      exec (.kend rs1) s = .next (if n = 0 then x.kendZero else x).settle ∧ x.get (CYC.CLASS_STATUS.PHASE n) = 0 ∧
      (x.cls n).pend = [] ∧ x.vot.cores = List.replicate 3 k.retire)) ∧
  (∀ (s : State) (k : Core) (rs1 : Fin 32), s.voting = true → s.vot.cores = [k, k, k] → k.running = true → k.mmode = false →
    ∃ x : State, exec (.kend rs1) s = .next (if s.runClass = some 0 ∧ s.phase 0 ≠ 2 then x.kendZero else x).settle ∧
      x.vot.cores = List.replicate 3 (k.trap 27 (keafyBits 1 0x2B 0 rs1 0))) ∧
  (∀ (s : State) (k : Fin 8), s.phase k = 3 → s.vot.halted = false → (k.val = 0 → s.motBusy = false) →
    (s.get VOT.STATUS.MODE ≠ 2 → exec (.outputCommit k) s = .next (s.commit k).settle ∧
      (s.pairState = 5 → s.par.handover = none → (s.commit k).phase k = 0 ∧ ((s.commit k).cls k).pend = [] ∧
        ((s.commit k).cls k).lastCommit = some (s.cls k).cycle)) ∧
    (s.get VOT.STATUS.MODE = 2 → exec (.outputCommit k) s = .next
      ((s.setCls k { s.cls k with pend := [] }).set (CYC.CLASS_STATUS.PHASE k) 0).settle)) ∧
  (∀ (s : State) (b : Nat), s.cyc.stopDue = some b → b ≤ s.cycle → s.inRun = true →
    ∃ x : State, exec .overrunStop s = .next x.settle ∧ x.inRun = false ∧ x.get SYS.STATUS.STOP_CAUSE = 2 ∧
      x.cyc.stopDue = none) ∧
  (∀ s t : State, (s.now < s.cyc.boundary + s.p0 → exec .baseCycleBoundary s = .next s.settle) ∧
    (s.cyc.boundary + s.p0 ≤ s.now →
      State.activationBoundary (State.waitingReset (State.crossBoundary (State.canBoundary (State.timBoundary (State.countBoundary
        (if s.finishCommits.isDriving then s.finishCommits.budgetBoundary else s.finishCommits)))))) = t →
      t.rst.held = none →
      exec .baseCycleBoundary s = .next (State.lagBoundary (State.followCuts (State.boundaryRelease (State.crossTry (State.crossBudget
        (State.leadCross (State.forceBoundary (State.controlBoundary (State.autostart (State.cmdBoundary (State.overrunStop
        t.pairBoundary))))))))))).settle)) ∧
  (∀ s : State, s.cyc.boundary + s.p0 ≤ s.now → s.pairState = 5 → s.inRun = false →
    (∀ k < 8, s.get (CYC.CLASS_CFG.ENABLE k) = 0) →
    (∀ k < 8, s.get (CYC.CLASS_STATUS.PHASE k) = 0) → s.cyc.stopDue = none → s.cyc.cmd = none → s.cyc.announced = [] →
    s.cyc.waits = [] → s.cyc.auto = false → s.tim.cmd = none → s.tim.pend = none → s.tim.follow = [] → s.can = [] →
    s.crs = {} → s.fer = {} → s.par = {} → s.rst.waiting = none → s.rst.held = none → s.upd.activate = none →
    s.domOn 5 = false → s.get FIO.CTRL.ENABLE = 0 → s.get CLP.CTRL.ENABLE = 0 → s.cyc.forces = [] →
    ∃ x : State, exec .baseCycleBoundary s = .next x.settle ∧ x.cycle = (s.cycle + 1) % 2 ^ 64 ∧
      x.cyc.boundary = s.cyc.boundary + s.p0)

/-- R149. SYS.CMD: an accepted command waits for its boundary with PENDING set, and the one it replaces is recorded CANCELLED (0x32);
a refused one reports its reason, and only its status and the change log change, a command that waits staying pending.

R149. When SYS.CMD is refused: RUN needs ENGINEER privilege, a driving unit, STOP, the checks of R136 and a voting mode; on a unit
for which these hold it is accepted.

Completion is stated for RUN, STOP, HOLD, RELEASE, RELEASE_ALL and SYS_CMD_RESERVED. -/
def Obligations.SysCommands : Prop :=
  (∀ (s : State) (init : Fin 22) (priv : Fin 8) (x : Fin 65536),
    (∀ (c : Instr) (op t : Nat), (c, op, t) ∈ [(Instr.run init priv x, 1, 0), (.stop init priv x, 2, 0), (.releaseAll init priv x, 5, 0)] ∨
        (∃ k : Fin 64, (c, op, t) ∈ [(Instr.hold init priv x k, 3, k.val), (.release init priv x k, 4, k.val)]) →
      (s.sysReason op t priv = 0 → s.cyc.cmd = none → exec c s = .next
        (State.cmdStatus { s with cyc := { s.cyc with cmd := some ⟨op, t, x, originOf init, priv, none⟩, cmdLast := true } } 0 0 true).settle) ∧
      (∀ m, s.sysReason op t priv = 0 → s.cyc.cmd = some m → ∃ y : State, exec c s = .next y.settle ∧
        y.cyc.cmd = some ⟨op, t, x, originOf init, priv, none⟩ ∧ y.get SYS.CMD_STATUS.PENDING = 1 ∧
        y = State.cmdStatus { s.recordCommand 0 m.op m.task 0x32 0 m.origin m.priv m.session with
          cyc := { s.cyc with cmd := some ⟨op, t, x, originOf init, priv, none⟩, cmdLast := true } } 0 0 true) ∧
      (s.sysReason op t priv ≠ 0 → exec c s = .next (((State.cmdStatus { s with cyc := { s.cyc with cmdLast := false } } 0x60
        (s.sysReason op t priv) (s.bit SYS.CMD_STATUS.PENDING))).recordCommand 0 op t 0x60 (s.sysReason op t priv) (originOf init) priv
        x).settle)) ∧
    (∀ op : Fin 10, exec (.sysCmdReserved init priv x op) s = .next
      ((State.cmdStatus { s with cyc := { s.cyc with cmdLast := false } } 0x60 7 (s.bit SYS.CMD_STATUS.PENDING)).recordCommand
        0 (6 + op) 0 0x60 7 (originOf init) priv x).settle)) ∧
  (∀ (s : State) (priv : Nat), s.sysReason 1 0 priv = 0 ↔
    (priv = 1 ∧ s.isDriving = true ∧ s.inRun = false ∧ s.runChecks = true ∧ s.get VOT.STATUS.MODE < 2))

/-- R153, R154, R165. Force descriptors of a driving unit with ENGINEER privilege that break no rule wait for their boundary, in
order; FORCE_READ writes the table's records at once. One that breaks a rule ends BAD_DESCRIPTOR, one without the privilege PRIVILEGE
(status 0x60, DETAIL 12), one of a unit that does not drive REFUSED.

R165. FORCE_READ writes as many records as fit, and says so with DONE_PARTIAL where not all did.

R153. FORCE_SET sets or replaces the one entry of its kind and target, and FORCE_CLEAR removes it and no other.

Completion is stated for FORCE_SET, FORCE_CLEAR, FORCE_CLEAR_ALL and FORCE_READ. -/
def Obligations.Forces : Prop :=
  (∀ (s : State) (n : Fin 64) (d : Started), forceBad d.d = false → d.d.priv = 1 → s.isDriving = true →
    (s.offered n [8] 0x10 = some d → exec (.forceSet n) s = .next (State.settle (State.accept { s with cyc := { s.cyc with
      waits := s.cyc.waits ++ [⟨d.ring, d.idx, d.d.opcode, ⟨d.d.eflags, d.d.forceAt, d.d.w4, d.d.w1, d.d.session⟩, none⟩] } } d))) ∧
    (s.offered n [8] 0x11 = some d → exec (.forceClear n) s = .next (State.settle (State.accept { s with cyc := { s.cyc with
      waits := s.cyc.waits ++ [⟨d.ring, d.idx, d.d.opcode, ⟨d.d.eflags, d.d.forceAt, d.d.w4, d.d.w1, d.d.session⟩, none⟩] } } d))) ∧
    (s.offered n [8] 0x12 = some d → exec (.forceClearAll n) s = .next (State.settle (State.accept { s with cyc := { s.cyc with
      waits := s.cyc.waits ++ [⟨d.ring, d.idx, d.d.opcode, ⟨d.d.eflags, d.d.forceAt, d.d.w4, d.d.w1, d.d.session⟩, none⟩] } } d)))) ∧
  (∀ (s : State) (n : Fin 64) (d : Started), ∀ c ∈ [(Instr.forceSet n, 0x10), (.forceClear n, 0x11), (.forceClearAll n, 0x12)],
    s.offered n [8] c.2 = some d →
    (forceBad d.d = true → exec c.1 s = .next (s.finish d 0x10).settle) ∧
    (forceBad d.d = false → d.d.priv ≠ 1 → exec c.1 s = .next (s.finish d 0x60 0 12).settle) ∧
    (forceBad d.d = false → d.d.priv = 1 → s.isDriving = false → exec c.1 s = .next (s.finish d 0x60).settle)) ∧
  (∀ (s : State) (n : Fin 64) (d : Started), s.offered n [8] 0x13 = some d →
    (bitsOf d.d.w5 19 13 ≠ 0 ∨ d.d.eflags ≠ 0 ∨ d.d.w4 ≠ 0 → exec (.forceRead n) s = .next (s.finish d 0x10).settle) ∧
    (bitsOf d.d.w5 19 13 = 0 → d.d.eflags = 0 → d.d.w4 = 0 → d.d.priv ≠ 1 →
      exec (.forceRead n) s = .next (s.finish d 0x60 0 12).settle)) ∧
  (∀ (s s' : State) (n : Fin 64) (d : Started) (m : Nat), s.offered n [8] 0x13 = some d → bitsOf d.d.w5 19 13 = 0 →
    d.d.eflags = 0 → d.d.w4 = 0 → d.d.priv = 1 →
    s.writeBuf (s.via 20 d) d.d.primary
      ((s.cyc.forces.take (min s.cyc.forces.length (d.d.w1 / 16))).flatMap Force.bytes) = (s', m, none) →
    exec (.forceRead n) s = .next
      (s'.finish d (b2n (decide (min s.cyc.forces.length (d.d.w1 / 16) < s.cyc.forces.length))) m).settle) ∧
  (∀ (s : State) (f : Force),
    ((s.forceSet f).cyc.forces.filter (·.same f.kind f.target)).all (· = f) = true ∧ f ∈ (s.forceSet f).cyc.forces ∧
    (∀ g ∈ s.cyc.forces, g.same f.kind f.target = false → g ∈ (s.forceSet f).cyc.forces) ∧
    (s.forceClear f.kind f.target).cyc.forces = s.cyc.forces.filter (fun g => !g.same f.kind f.target))

/-- R166 to R168. STAGE: a map, its entries and its image that are read and pass the checks are staged: tracking is armed and the first
pass converts every entry. The end of the first pass completes STAGE and asserts source 44.

R169 to R171, R175. A swept granule is converted again, and a fault of it drops the map; CROSS arms; ABANDON drops the map and
completes; a crossing whose dirty granules are all clean, or that is within its budget, cleans them and takes the new generation, and
the map is no longer staged; a crossing out of budget, or armed for too many boundaries, leaves the map staged, its held classes
start, and nothing happens to it before. A descriptor with a reserved field set ends BAD_DESCRIPTOR, one without the privilege ends
PRIVILEGE.

Completion is stated for STAGE, FERRY_STAGED, FERRY_SWEEP_GRANULE, CROSS, ABANDON, CROSSED, CROSS_BUDGET_EXPIRY and CROSS_TIMEOUT. -/
def Obligations.FerryDescriptors : Prop :=
  ((∀ (s s1 s2 s3 : State) (n : Fin 64) (d : Started) (h body image : List Nat), s.offered n [8] 1 = some d →
    bitsOf d.d.w5 19 13 = 0 → d.d.eflags = 0 → d.d.w4 = 0 → d.d.primary % 8 = 0 →
    inSramDram d.d.primary (max 80 d.d.w1) = true → s.readBuf (s.via 20 d) d.d.primary 80 = (s1, h, none) →
    mapHeaderBad h = false → crc32c (h.take 0x4C) = leAt h 0x4C 4 → 0 < leAt h 0x10 4 → leAt h 0x10 4 ≤ 65536 →
    d.d.w1 = 80 + 32 * leAt h 0x10 4 →
    s1.readBuf (s1.via 20 d) (d.d.primary + 80) (32 * leAt h 0x10 4) = (s2, body, none) → crc32c body = leAt h 0x48 4 →
    s2.readBuf (s2.via 20 d) (leAt h 0x18 5) (leAt h 0x20 4) = (s3, image, none) →
    s3.mapCheck d.d h body image
      ((List.range (leAt h 0x10 4)).map fun i => ferryEntry ((body.drop (32 * i)).take 32)) = none →
    exec (.stage n) s = .next (s3.stagePass d h
      ((List.range (leAt h 0x10 4)).map fun i => ferryEntry ((body.drop (32 * i)).take 32))).settle) ∧
  (∀ (s : State) (n : Fin 64) (d : Started), s.offered n [8] 1 = some d →
    (bitsOf d.d.w5 19 13 ≠ 0 ∨ d.d.eflags ≠ 0 ∨ d.d.w4 ≠ 0 → exec (.stage n) s = .next (s.finish d 0x10).settle) ∧
    (bitsOf d.d.w5 19 13 = 0 → d.d.eflags = 0 → d.d.w4 = 0 →
      d.d.primary % 8 ≠ 0 ∨ inSramDram d.d.primary (max 80 d.d.w1) = false →
      exec (.stage n) s = .next (s.finish d 0x10 0 7).settle)) ∧
  (∀ (s t : State) (m : FerryMap), s.fer.map = some m → s.fer.staging = true →
    ((State.set { s with fer := { s.fer with staging := false, stager := none } } CYC.FERRY_STATUS.STATE 2).finishAt
      s.fer.stager 0 m.bytes).post 44 m.newGen = t →
    exec .ferryStaged s = .next (if t.isTrail then t.ransel 0x40 (leBytes 4 m.newGen ++ leBytes 4 m.crc) else t).settle)) ∧
  ((∀ (s s' : State) (m : FerryMap) (b : Nat), s.fer.map = some m → s.fer.staging = false → s.fer.dirty ≠ [] → s.crossLate = false →
    (s.cleanOne m = (s', b, none) → exec .ferrySweepGranule s = .next
      (if s'.fer.crossing.isSome then { s' with fer := { s'.fer with crossBytes := s'.fer.crossBytes + b } } else s').settle) ∧
    (∀ e, s.cleanOne m = (s', b, some e) → exec .ferrySweepGranule s = .next (s'.ferryFault e).settle)) ∧
  (∀ (s : State) (n : Fin 64) (d : Started), s.offered n [8] 2 = some d → bitsOf d.d.w5 19 13 = 0 → d.d.eflags = 0 →
    d.d.w1 = 0 → d.d.w2 = 0 → d.d.w3 = 0 → d.d.w4 = 0 → d.d.priv = 1 → s.fer.map.isSome = true → s.fer.staging = false →
    s.fer.crosser = none →
    exec (.cross n) s = .next ((((State.set { s with fer := { s.fer with crosser := some (d.ring, d.idx), crossBytes := 0 } }
      CYC.FERRY_STATUS.STATE 3).set CYC.FERRY_STATUS.LAST_BLOCK 0).set CYC.FERRY_STATUS.DEFERRALS 0).accept d).settle) ∧
  (∀ (s : State) (n : Fin 64) (d : Started), ∀ c ∈ [(Instr.cross n, 2), (.abandon n, 3)], s.offered n [8] c.2 = some d →
    (bitsOf d.d.w5 19 13 ≠ 0 ∨ d.d.eflags ≠ 0 ∨ d.d.w1 ≠ 0 ∨ d.d.w2 ≠ 0 ∨ d.d.w3 ≠ 0 ∨ d.d.w4 ≠ 0 →
      exec c.1 s = .next (s.finish d 0x10).settle) ∧
    (bitsOf d.d.w5 19 13 = 0 → d.d.eflags = 0 → d.d.w1 = 0 → d.d.w2 = 0 → d.d.w3 = 0 → d.d.w4 = 0 → d.d.priv ≠ 1 →
      exec c.1 s = .next (s.finish d 0x60 0 12).settle) ∧
    (c.2 = 2 → bitsOf d.d.w5 19 13 = 0 → d.d.eflags = 0 → d.d.w1 = 0 → d.d.w2 = 0 → d.d.w3 = 0 → d.d.w4 = 0 → d.d.priv = 1 →
      s.fer.map = none ∨ s.fer.staging = true ∨ s.fer.crosser.isSome = true → exec c.1 s = .next (s.finish d 0x60).settle)) ∧
  (∀ (s : State) (n : Fin 64) (d : Started), s.offered n [8] 3 = some d → bitsOf d.d.w5 19 13 = 0 → d.d.eflags = 0 →
    d.d.w1 = 0 → d.d.w2 = 0 → d.d.w3 = 0 → d.d.w4 = 0 → d.d.priv = 1 →
    exec (.abandon n) s = .next ((s.ferryEnd 0x33).finish d 0).settle) ∧
  (∀ (s : State) (m : FerryMap) (b : Nat), s.fer.map = some m → s.fer.crossing = some (b, []) → s.fer.dirty = [] →
    m.entries = [] → s.cyc.forces = [] →
    ∃ x : State, exec .crossed s = .next x.settle ∧ x.get CYC.PROGRAM_GEN.GEN = m.newGen % 2 ^ 32 ∧ x.fer = {} ∧
      x.get CYC.FERRY_STATUS.STATE = 0) ∧
  (∀ (s t u : State) (m : FerryMap) (b : Nat) (ks : List Nat), s.fer.map = some m → s.fer.crossing = some (b, ks) →
    (∀ k, s.crossLate = false ∨ s.fer.dirty = [] → s.cleanAll m (s.fer.dirty.length + 1) = (t, k, none) →
      { t with fer := { t.fer with crossBytes := t.fer.crossBytes + k } } = u →
      exec .crossed s = .next (u.crossEffect m (originOf (u.get (RNG.RING_CFG.OWNER u.fer.ring)))
        (((u.fer.crosser.bind fun p => u.startedAt p.1 p.2).map (·.d.priv)).getD 0xFF)
        (((u.fer.crosser.bind fun p => u.startedAt p.1 p.2).map (·.d.session)).getD 0) false).settle) ∧
    (s.crossLate = true → s.fer.dirty ≠ [] →
      State.startAllHeld { s with fer := { s.fer with crossing := none } } false ks = t → t.fer.map.isSome = true →
      exec .crossBudgetExpiry s = .next (t.crossDefer 5).settle ∧
      (ks = [] → t = { s with fer := { s.fer with crossing := none } })) ∧
    (s.crossLate = false → exec .crossBudgetExpiry s = .next s.settle)) ∧
  (∀ s : State, s.fer.crosser.isSome = true → s.fer.crossing = none →
    max 1 (s.get CYC.CROSS_MAX_DEFER.CYCLES) ≤ s.get CYC.FERRY_STATUS.DEFERRALS →
    exec .crossTimeout s = .next (((State.set { s with fer := { s.fer with crosser := none } } CYC.FERRY_STATUS.STATE 2).finishAt
      s.fer.crosser 0x30 0 (s.get CYC.FERRY_STATUS.LAST_BLOCK))).settle))

/-- R168. While tracking is armed, a write to any byte of a SRC range marks the 64-byte granule that holds it dirty, in the write itself
(State.written ends every write that reaches memory), and FERRY_DIRTY is the number of dirty granules. (A write into the container of
the staged map drops the map, R538: then tracking is armed no longer.) -/
def Obligations.DirtyMarks : Prop :=
  ∀ (s : State) (m : FerryMap) (init a : Nat) (bs : List Nat), s.fer.map = some m → (s.written init a bs).fer.map = some m →
    (∀ e ∈ m.entries, ∀ x, a ≤ x → x < a + bs.length → e.src ≤ x → x < e.src + e.srcLen →
      x / 64 ∈ (s.written init a bs).fer.dirty) ∧
    (s.written init a bs).get CYC.FERRY_DIRTY.DIRTY = (s.written init a bs).fer.dirty.length % 2 ^ CYC.FERRY_DIRTY.DIRTY.w

/-! ## Crossings (spec/06) -/

/-- R187, R192 to R194, R203. A frame of a station that is admitted, from its recorded address, whose length, pair-words and
configuration check are right, lands, and so does the first of a station that waits; a frame of no station of the crossing, of a
wrong length, pair-word or configuration, or marked void by the version memory, ends as R194 says; while the crossing is relayed, a
frame of a station that the partner's bank cannot reach is sent on as well (R210). A frame with a wrong FCS is counted and otherwise
ignored.

R340, R368. A DOWN frame shows its epoch: PAR.EPOCH keeps the highest seen.

Completion is stated for UP_FRAME_LANDED and DOWN_FRAME_RECEIVED. -/
def Obligations.StationFrames : Prop :=
  ((∀ (s s' : State) (c : Fin 4) (f : List Nat) (e e' : Station), s.frameGood c f 2 = true →
    s.bit (FLD.CROSS_STATUS.RELAY c) = false → s.station (ucpSource f) = some e → ucpSource f / 512 = c →
    s.heard c (ucpSource f) e f = s' → slowPort ((ucpBody f).getD 1 0) = false → s'.station (ucpSource f) = some e' →
    e'.mac = some (ucpMac f) → e'.st = 2 → ucpLength f = e'.upBytes → (upValues e' (ucpBody f)).1 = true →
    beAt (ucpBody f) 12 4 = e'.crc →
    exec (.upFrameLanded c true false f) s = .next (s'.land (ucpSource f) f (upValues e' (ucpBody f)).2).settle) ∧
  (∀ (s t u : State) (c : Fin 4) (void : Bool) (f : List Nat) (e e' : Station), s.frameGood c f 2 = true →
    (if s.bit (FLD.CROSS_STATUS.RELAY c) && s.cutOff (ucpSource f) then s.ransel 0x30 ([c.val, 0, 0, 0] ++ f) else s) = t →
    (t.station (ucpSource f) = none → exec (.upFrameLanded c true void f) s = .next
      (t.frameBad c 2 (FLD.CROSS_DISCARDS.COUNT c) none).settle) ∧
    (t.station (ucpSource f) = some e → ucpSource f / 512 ≠ c → exec (.upFrameLanded c true void f) s = .next
      (t.frameBad c 2 (FLD.CROSS_DISCARDS.COUNT c) none).settle) ∧
    (t.station (ucpSource f) = some e → ucpSource f / 512 = c →
      (if slowPort ((ucpBody f).getD 1 0) then (t.heard c (ucpSource f) e f).slowDown c else t.heard c (ucpSource f) e f) = u →
      u.station (ucpSource f) = some e' →
      (e'.device ≠ 0 → e'.mac.isSome = true → e'.mac ≠ some (ucpMac f) → e'.st ≠ 4 ∨ e'.code = 2 →
        exec (.upFrameLanded c true void f) s = .next (u.otherMac (ucpSource f)).settle) ∧
      (e'.device = 0 ∨ e'.mac = none ∨ e'.mac = some (ucpMac f) → e'.st ≠ 4 →
        (ucpLength f ≠ e'.upBytes → exec (.upFrameLanded c true void f) s = .next (u.mismatch (ucpSource f) 0).settle) ∧
        (ucpLength f = e'.upBytes → (upValues e' (ucpBody f)).1 = false → exec (.upFrameLanded c true void f) s = .next
          (u.frameBad c 1 (FLD.CROSS_PAIR_ERRORS.COUNT c) (some (ucpSource f))).settle) ∧
        (ucpLength f = e'.upBytes → (upValues e' (ucpBody f)).1 = true → beAt (ucpBody f) 12 4 ≠ e'.crc →
          exec (.upFrameLanded c true void f) s = .next (u.mismatch (ucpSource f) 1).settle) ∧
        (ucpLength f = e'.upBytes → (upValues e' (ucpBody f)).1 = true → beAt (ucpBody f) 12 4 = e'.crc →
          exec (.upFrameLanded c true void f) s = .next (if void then (u.bump PIM.VERSION_ECC.COUNT).post 65 (ucpSource f)
            else u.land (ucpSource f) f (upValues e' (ucpBody f)).2).settle)))) ∧
  (∀ (s : State) (c : Fin 4) (void : Bool) (f : List Nat), s.crossOn c = true → beAt f 12 2 ≠ 0x88F7 →
    exec (.upFrameLanded c false void f) s = .next (s.frameBad c 0 (FLD.CROSS_FCS_ERRORS.COUNT c)
      (if ucpSource f < 0x800 then some (ucpSource f) else none)).settle)) ∧
  (∀ (s : State) (c : Fin 4) (f : List Nat), s.frameGood c f 1 = true → ucpEpoch f < 2 ^ 32 →
    ∃ x : State, exec (.downFrameReceived c true f) s = .next x.settle ∧
      x.get PAR.EPOCH.EPOCH = max (s.get PAR.EPOCH.EPOCH) (ucpEpoch f))

/-- R196, R204, R216. Management answers: an IDENTIFY that answers an open identity check with the DEVICE_ID of the table confirms the
station; a RESPONSE completes the descriptor that waits for it; a timeout completes it with status 0x30.

R183, R184, R202, R208. The crossing's link and enable: a link that comes up on a crossing that is not enabled sets LINK and RATE and
asserts source 51, one that goes down asserts it too, and the port offers only the rates of RATE_MODE (the far end's rates as the
model has them, notes/assumptions/136.md); an enable whose check fails leaves the crossing disabled with its cause, one that passes
installs the entries; disabling clears ENABLE, and its stations become unconfigured while the values of their areas hold.

R216. Management descriptors: MGMT_REQUEST and DISCOVER take a REQUEST_ID and wait for their answers; STATION_STATUS writes a record
for each node of its range; STATION_UPDATE waits for the next boundary. One that breaks a rule ends BAD_DESCRIPTOR; a trail's
MGMT_REQUEST and DISCOVER end REFUSED with DETAIL 1.

Completion is stated for IDENTIFY, RESPONSE, MGMT_TIMEOUT_EXPIRY, CROSSING_LINK_CHANGE, CROSSING_ENABLE, CROSSING_DISABLE,
MGMT_REQUEST, DISCOVER, STATION_STATUS and STATION_UPDATE. -/
def Obligations.CrossingManagement : Prop :=
  ((∀ (s : State) (c : Fin 4) (f : List Nat) (k : Nat × Nat × Nat) (e : Station), s.frameGood c f 4 = true →
    (ucpBody f).getD 0 0 = 2 → s.crs.checks = [k] → k.1 = beAt (ucpBody f) 4 4 → s.station k.2.1 = some e →
    e.asked = some k.1 → e.mac = some (ucpMac f) → beAt (ucpBody f) 16 4 = e.device →
    ∃ x : State, exec (.identify c true f) s = .next x.settle ∧ x.crs.checks = [] ∧
      x.station k.2.1 = some { e with asked := none, sure := true }) ∧
  (∀ (s s' : State) (c : Fin 4) (f : List Nat) (w : MgmtWait) (d : Started) (m : Nat), s.frameGood c f 4 = true →
    (ucpBody f).getD 0 0 = 5 → s.crs.waits = [w] → w.id = beAt (ucpBody f) 4 4 → w.cross = c →
    s.startedAt w.ring w.idx = some d → d.d.opcode = 1 → (ucpBody f).getD 1 0 ≤ 5 →
    (s.dropWait w).writeBuf ((s.dropWait w).via 9 d) d.d.secondary ((ucpBody f).take (min (ucpLength f) 1040)) = (s', m, none) →
    exec (.response c true f) s = .next
      (s'.finish d 0 ((ucpBody f).take (min (ucpLength f) 1040)).length ((ucpBody f).getD 1 0)).settle) ∧
  (∀ (s : State) (w : MgmtWait) (d : Started), s.crs.checks = [] → s.crs.waits = [w] → w.due ≤ s.now →
    s.startedAt w.ring w.idx = some d → d.d.opcode = 1 →
    exec (.mgmtTimeoutExpiry w.id) s = .next ((s.dropWait w).finish d 0x30).settle)) ∧
  (∀ (s : State) (c : Fin 4),
    (∀ up fast : Bool, s.domOn 4 = true → s.crossOn c = false → s.get (FLD.CROSS_CFG.RATE_MODE c) = 0 →
      (s.bit (FLD.CROSS_STATUS.LINK c) ≠ up → ∃ x : State, exec (.crossingLinkChange c up fast) s = .next x.settle ∧
        x.bit (FLD.CROSS_STATUS.LINK c) = up ∧
        x.rng.evq.take (s.rng.evq.length + 1) = s.rng.evq ++ [⟨51, c.val + 4 * b2n up + 8 * (if up
          then b2n (fast && !s.crs.slow.contains c.val) else s.get (FLD.CROSS_STATUS.RATE c)), true⟩] ∧
        (up = true → fast = false → c.val ∈ x.crs.slow)) ∧
      (s.bit (FLD.CROSS_STATUS.LINK c) = false → exec (.crossingLinkChange c false fast) s = .next s.settle)) ∧
    (s.domOn 4 = true → s.crossOn c = false → s.get (FLD.CROSS_CFG.RATE_MODE c) = 2 → s.bit (FLD.CROSS_STATUS.LINK c) = false →
      exec (.crossingLinkChange c true true) s = exec (.crossingLinkChange c true false) s) ∧
    (s.domOn 4 = true → s.crossOn c = false → s.get (FLD.CROSS_CFG.RATE_MODE c) = 1 → s.bit (FLD.CROSS_STATUS.LINK c) = false →
      exec (.crossingLinkChange c true false) s = .next s.settle) ∧
    (s.domOn 4 = true → s.crossOn c = false → s.bit (FLD.CROSS_STATUS.LINK c) = false → s.crs.slow = [] →
      s.get (FLD.CROSS_CFG.RATE_MODE c) ≠ 2 →
      ∃ x : State, exec (.crossingLinkChange c true true) s = .next x.settle ∧ x.bit (FLD.CROSS_STATUS.LINK c) = true ∧
        x.bit (FLD.CROSS_STATUS.RATE c) = true ∧ x.rng.evq = s.rng.evq ++ [⟨51, c + 4 + 8, true⟩]) ∧
    (s.bit (FLD.CROSS_CFG.ENABLE c) = false → s.targetFailed [8, 22] = false →
      (s.cause1 c = true → exec (.crossingEnable c) s = .next (s.crossRefuse c 1).settle) ∧
      (∀ s' es, s.cause1 c = false → inSramDram s.stationTable 65536 = true → s.entriesRead c 0 512 = (s', some es) →
        s'.tableCause c es = 0 → exec (.crossingEnable c) s = .next
          (((s'.set (FLD.CROSS_CFG.ENABLE c) 1).set (FLD.CROSS_CFG.CFG_CAUSE c) 0).install c 0 es).settle)) ∧
    (s.bit (FLD.CROSS_CFG.ENABLE c) = true → ∃ x : State, exec (.crossingDisable c) s = .next x.settle ∧
      x.get (FLD.CROSS_CFG.ENABLE c) = 0 ∧ (∀ p ∈ x.crs.stations, p.1 / 512 ≠ c) ∧
      (∀ p ∈ s.crs.stations, p.1 / 512 = c → (p.1, { p.2 with st := 0 }) ∈ x.crs.kept)) ∧
    (s.bit (FLD.CROSS_CFG.ENABLE c) = true → s.crs.stations = [] →
      ∃ x : State, exec (.crossingDisable c) s = .next x.settle ∧ x.get (FLD.CROSS_CFG.ENABLE c) = 0 ∧
        x.get (FLD.CROSS_STATUS.ADMITTED c) = 0 ∧ x.get (FLD.CROSS_STATUS.RELAY c) = 0)) ∧
  (∀ (s : State) (n : Fin 64) (d : Started),
    (∀ s' body, s.offered n [1] 1 = some d → crossBad d.d = false → 16 ≤ d.d.w1 → d.d.w1 ≤ 1040 → s.isTrail = false →
      s.readBuf (s.via 9 d) d.d.primary d.d.w1 = (s', body, none) → body.getD 0 0 = 3 ∨ body.getD 0 0 = 4 →
      s'.crossOn d.d.crossing = true →
      exec (.mgmtRequest n) s = .next (((s'.nextId.2.fresh.2).sendMgmt d.d.crossing (s'.nextId.2.fresh.1 % 2 ^ 48)
        (body.take 4 ++ beBytes 4 s'.nextId.1 ++ body.drop 8)).awaitMgmt d s'.nextId.1 false).settle) ∧
    (s.offered n [1] 2 = some d → crossBad d.d = false → d.d.w2 ≤ 1 → d.d.w3 = 0 → s.isTrail = false →
      s.crossOn d.d.crossing = true → d.d.w2 = s.unit →
      exec (.discover n) s = .next ((s.nextId.2.sendMgmt d.d.crossing (groupMac d.d.crossing)
        (discoverBody d.d.w2 s.nextId.1)).awaitMgmt d s.nextId.1 (decide (d.d.w1 < 48))).settle) ∧
    (∀ s' m, s.offered n [1] 3 = some d → rangeBad d.d = false →
      s.writeBuf (s.via 9 d) d.d.secondary ((List.range d.d.w1).flatMap fun i => s.stationRecord (d.d.w2 + i)) = (s', m, none) →
      exec (.stationStatus n) s = .next (s'.finish d 0 m).settle) ∧
    (∀ c ∈ [(Instr.mgmtRequest n, 1), (.discover n, 2), (.stationStatus n, 3), (.stationUpdate n, 4)],
      s.offered n [1] c.2 = some d → crossBad d.d = true → exec c.1 s = .next (s.finish d 0x10).settle) ∧
    (∀ c ∈ [(Instr.mgmtRequest n, 1), (.discover n, 2)], s.offered n [1] c.2 = some d → crossBad d.d = false → s.isTrail = true →
      16 ≤ d.d.w1 → d.d.w1 ≤ 1040 → d.d.w2 ≤ 1 → d.d.w3 = 0 → exec c.1 s = .next (s.finish d 0x60 0 1).settle) ∧
    (s.offered n [1] 4 = some d → rangeBad d.d = false → d.d.w4 = 0 → d.d.w5 = 0 →
      exec (.stationUpdate n) s = .next (State.settle (State.accept
        { s with crs := { s.crs with updates := s.crs.updates ++ [(d.ring, d.idx)] } } d))))

/-! ## Fast channels and spur units (spec/07) -/

/-- R222, R224, R225, R232. Inputs: the raw state follows the terminal by the thresholds of its type, and keeps between them; a
filter that has come to the raw level writes STATE; the readback of an output is the band of its pin; a wire break changes
WIRE_BREAK, takes VALID back and asserts source 81; an input whose filter has settled after its group recovered is VALID unless its
wire is broken.

R229, R230, R250. A diagnosis latches the channel off with its code, and for a contention its partner, the lowest-numbered suspect
commanded to the opposite level; the channel clears on CLEAR, with its partner, and after 100 ms where its group retries; a trail's
latches are the lead's.

R231, R232. A measurement of a group's supply moves its state as the thresholds allow: below 15.00 V it goes UNDER, its inputs are
invalid and its counter held; a group that recovers from LOST without RESUME awaits an ack; an ack clears AWAIT_ACK.

R241. FIO's enable: with no failing cause it is set and CFG_ERR cleared; otherwise CFG_ERR is set with the first cause.

Completion is stated for INPUT_FILTER_CHANGE, WIRE_BREAK, FILTER_SETTLED, CONTENTION, SHORT_TO_SUPPLY, OVERLOAD, CHANNEL_CLEAR,
AUTO_RETRY, GROUP_STATE_CHANGE, GROUP_ACK and FIO_ENABLE. -/
def Obligations.FastChannels : Prop :=
  (∀ (s : State) (n : Fin 32) (v : Fin 65536),
    (s.bit (FIO.CH_CFG.TYPE n) = false → s.inputOn n v =
      (decide (1000 ≤ v.val) || (decide (900 < v.val) && s.bit (FIO.CH_STATUS.RAW n)))) ∧
    (s.bit (FIO.CH_CFG.TYPE n) = true → s.inputOn n v =
      (decide (800 ≤ v.val) || (decide (700 < v.val) && s.bit (FIO.CH_STATUS.RAW n)))) ∧
    (s.domOn 5 = true →
      (∃ x : State, exec (.inputFilterChange n v) s = .next x.settle ∧ x.bit (FIO.CH_STATUS.RAW n) = s.inputOn n v ∧
        (isOutput s n = true → x.get (FIO.CH_STATUS.READBACK n) = s.band n v)) ∧
      (isOutput s n = false → s.bit (FIO.CH_STATUS.RAW n) = s.inputOn n v →
        (s.groupUp n = true → s.bit (FIO.CH_STATUS.STATE n) = !s.inputOn n v → s.filterDone n s.now = true →
          exec (.inputFilterChange n v) s = .next ((s.setB (FIO.CH_STATUS.STATE n) (s.inputOn n v)).noteEdge n false (s.inputOn n v)
            (s.states false)).settle) ∧
        (s.bit (FIO.CH_STATUS.STATE n) = s.inputOn n v ∨ s.filterDone n s.now = false ∨ s.groupUp n = false →
          exec (.inputFilterChange n v) s = .next s.settle)))) ∧
  (∀ (s : State) (n : Fin 32), s.domOn 5 = true → s.groupUp n = true →
    (∀ b, s.get (FIO.CH_CFG.DIR n) = 0 → s.bit (FIO.CH_CFG.WB_ENABLE n) = true → s.bit (FIO.CH_STATUS.WIRE_BREAK n) = !b →
      ∃ x : State, exec (.wireBreak n b) s = .next x.settle ∧ x.bit (FIO.CH_STATUS.WIRE_BREAK n) = b ∧
        x.bit (FIO.CH_STATUS.VALID n) = (s.fio.settled.testBit n && !b) ∧
        x.rng.evq = s.rng.evq ++ [⟨81, n + 256 * b2n b, true⟩]) ∧
    (Sparse.get s.fio.start s.fio.recovered (n.val / 8) + s.settleTicks n ≤ s.now →
      ∃ x : State, exec (.filterSettled n) s = .next x.settle ∧ x.fio.settled.testBit n = true ∧
        x.bit (FIO.CH_STATUS.VALID n) = !s.bit (FIO.CH_STATUS.WIRE_BREAK n)) ∧
    (s.now < Sparse.get s.fio.start s.fio.recovered (n.val / 8) + s.settleTicks n → exec (.filterSettled n) s = .next s.settle)) ∧
  (∀ (s : State) (n : Fin 32),
    (∀ sus m : Nat, s.paired n sus = some m →
      (m ≠ n ∧ sus.testBit n = true ∧ sus.testBit m = true ∧ s.pushPull n = true ∧ s.pushPull m = true ∧
        s.command m = !s.command n ∧ ∀ b < m, b ≠ n → sus.testBit b = true → s.pushPull b = true → s.command b = s.command n) ∧
      ∃ x : State, exec (.contention n sus) s = .next x.settle ∧ x.bit (FIO.CH_STATUS.LATCHED_OFF n) = true ∧
        x.bit (FIO.CH_STATUS.LATCHED_OFF m) = true ∧ x.get (FIO.CH_STATUS.DIAG n) = 3 ∧ x.get (FIO.CH_STATUS.DIAG m) = 3 ∧
        x.get (FIO.CH_STATUS.PARTNER n) = m ∧ x.get (FIO.CH_STATUS.PARTNER m) = n) ∧
    (∀ sus, s.paired n sus = none → exec (.contention n sus) s = .next s.settle) ∧
    (s.diagnosed n = true → s.get (FIO.CH_CFG.DIR n) = 1 → s.command n = false →
      ∃ x : State, exec (.shortToSupply n) s = .next x.settle ∧ x.bit (FIO.CH_STATUS.LATCHED_OFF n) = true ∧
        x.get (FIO.CH_STATUS.DIAG n) = 1 ∧ x.rng.evq = s.rng.evq ++ [⟨80, n + 256, true⟩]) ∧
    (s.diagnosed n = true → s.command n = true →
      ∃ x : State, exec (.overload n) s = .next x.settle ∧ x.bit (FIO.CH_STATUS.LATCHED_OFF n) = true ∧
        x.get (FIO.CH_STATUS.DIAG n) = 2 ∧ x.rng.evq = s.rng.evq ++ [⟨80, n + 512, true⟩]) ∧
    (s.diagnosed n = false → exec (.shortToSupply n) s = .next s.settle ∧ exec (.overload n) s = .next s.settle) ∧
    (s.bit (FIO.CH_STATUS.LATCHED_OFF n) = true → s.get (FIO.CH_STATUS.DIAG n) ≠ 4 → s.isTrail = false →
      (s.get (FIO.CH_STATUS.DIAG n) ≠ 3 →
        ∃ x : State, exec (.channelClear n) s = .next x.settle ∧ x.bit (FIO.CH_STATUS.LATCHED_OFF n) = false ∧
          x.get (FIO.CH_STATUS.DIAG n) = 0 ∧ x.rng.evq = s.rng.evq ++ [⟨87, n, true⟩]) ∧
      (∀ m : Fin 32, m ≠ n → s.get (FIO.CH_STATUS.DIAG n) = 3 → s.get (FIO.CH_STATUS.PARTNER n) = m →
        s.get (FIO.CH_STATUS.DIAG m) = 3 → s.get (FIO.CH_STATUS.PARTNER m) = n →
        ∃ x : State, exec (.channelClear n) s = .next x.settle ∧ x.bit (FIO.CH_STATUS.LATCHED_OFF n) = false ∧
          x.bit (FIO.CH_STATUS.LATCHED_OFF m) = false ∧ x.rng.evq = s.rng.evq ++ [⟨87, n, true⟩, ⟨87, m, true⟩])) ∧
    (s.bit (FIO.CH_STATUS.LATCHED_OFF n) = false ∨ s.get (FIO.CH_STATUS.DIAG n) = 4 ∨ s.isTrail = true →
      exec (.channelClear n) s = .next s.settle) ∧
    (s.bit (FIO.CH_STATUS.LATCHED_OFF n) = true → s.get (FIO.CH_STATUS.DIAG n) ≠ 4 → s.domOn 5 = true → s.isTrail = false →
      s.bit (FIO.GROUP_CFG.AUTO_RETRY (n / 8)) = true → Sparse.get 0 s.fio.latched n + 20000000 ≤ s.now →
      ∃ x : State, exec (.autoRetry n) s = .next x.settle ∧ x.bit (FIO.CH_STATUS.LATCHED_OFF n) = false ∧
        x.get (FIO.CH_STATUS.DIAG n) = 0 ∧ x.rng.evq = s.rng.evq ++ [⟨87, n + 256, true⟩])) ∧
  (∀ (s : State) (g : Fin 4),
    (∀ (new : Fin 4) (v : Fin 65536), s.domOn 5 = true →
      ∃ x : State, exec (.groupStateChange g new v) s = .next x.settle ∧
        x.groupState g = (if s.groupMay (s.groupState g) new v then new.val else s.groupState g) ∧
        x.get (FIO.GROUP_STATUS.VOLTAGE g) = v % 2 ^ (FIO.GROUP_STATUS.VOLTAGE g).w) ∧
    (∀ v : Fin 65536, s.domOn 5 = true → s.groupState g ≤ 1 → v.val < 1500 →
      ∃ x : State, exec (.groupStateChange g 2 v) s = .next x.settle ∧ x.groupState g = 2 ∧
        x.get (FIO.CNT_STATUS.HELD g) = 1 ∧ (∀ i < 8, x.bit (FIO.CH_STATUS.VALID (8 * g + i)) = false) ∧
        x.get (FIO.GROUP_STATUS.VOLTAGE g) = v % 2 ^ (FIO.GROUP_STATUS.VOLTAGE g).w) ∧
    (∀ v : Fin 65536, s.domOn 5 = true → s.groupState g = 3 → 1960 < v.val → s.fio.start + 2000000 ≤ s.now → s.isTrail = false →
      s.bit (FIO.GROUP_CFG.RESUME g) = false →
      ∃ x : State, exec (.groupStateChange g 0 v) s = .next x.settle ∧ x.groupState g = 0 ∧
        x.get (FIO.CNT_STATUS.HELD g) = 0 ∧ x.bit (FIO.GROUP_STATUS.AWAIT_ACK g) = true) ∧
    (s.bit (FIO.GROUP_STATUS.AWAIT_ACK g) = true → s.isTrail = false →
      ∃ x : State, exec (.groupAck g) s = .next x.settle ∧ x.bit (FIO.GROUP_STATUS.AWAIT_ACK g) = false) ∧
    (s.bit (FIO.GROUP_STATUS.AWAIT_ACK g) = false ∨ s.isTrail = true → exec (.groupAck g) s = .next s.settle)) ∧
  (∀ s : State, s.bit FIO.CTRL.ENABLE = false → s.targetFailed [12] = false →
    (s.fioCause = 0 → exec .fioEnable s = .next
      (((s.setB FIO.CTRL.ENABLE true).setB FIO.CTRL.CFG_ERR false).set FIO.CTRL.CFG_CAUSE 0).settle) ∧
    (∀ k, k ≠ 0 → s.fioCause = k → exec .fioEnable s = .next
      (((s.setB FIO.CTRL.ENABLE false).setB FIO.CTRL.CFG_ERR true).set FIO.CTRL.CFG_CAUSE k).settle))

/-- R233 to R235. What passes the glitch filters of a counter's inputs is counted: in the up/down mode a rising edge of A by the level
of B; a quadrature step in which A and B change together counts nothing and is an error; a load writes the value; an edge of the
index latches it, and where it asks for it the value is zeroed on the next tick.

R236, R237. Touch probes: an armed single-shot probe on a rising edge latches the tick of the raw transition, disarms and asserts
source 86; it is armed and disarmed by its control register; a read of the low word freezes the high word.

Completion is stated for COUNTER_STEP, COUNTER_LOAD, INDEX, PROBE_LATCHED, PROBE_ARM, PROBE_DISARM and PROBE_VALUE_LO_READ. -/
def Obligations.CountersAndProbes : Prop :=
  (∀ (s t : State) (c : Fin 4) (av ah bv bh : Fin 65536), s.domOn 5 = true →
    (s.sense (8 * c) av ah).sense (8 * c + 1) bv bh = t →
    (t.glitchReady c (8 * c) = false → t.glitchReady c (8 * c + 1) = false →
      exec (.counterStep c av ah bv bh) s = .next t.settle) ∧
    (∀ k, t.glitchReady c (8 * c) = true → t.glitchReady c (8 * c + 1) = false → t.groupState c ≤ 1 →
      countStep (t.get (FIO.CNT_CFG.MODE c)) (t.chIn (8 * c)).glitch (!(t.chIn (8 * c)).glitch) (t.chIn (8 * c + 1)).glitch
        (t.chIn (8 * c + 1)).glitch = some k → k ≠ 0 →
      exec (.counterStep c av ah bv bh) s = .next ((t.glitchFlip (8 * c)).counted c
        (if t.bit (FIO.CNT_CFG.INVERT_DIR c) then -k else k)).settle) ∧
    (∀ b, t.glitchReady c (8 * c) = true → t.glitchReady c (8 * c + 1) = false → t.groupState c ≤ 1 →
      (t.chIn (8 * c)).glitch = false → (t.chIn (8 * c + 1)).glitch = b → 2 ≤ t.get (FIO.CNT_CFG.MODE c) →
      t.bit (FIO.CNT_CFG.INVERT_DIR c) = false → t.fio.queues = [] → (∀ u < 16, t.get (SPR.UNIT_TRIG.KIND u) = 0) →
      ∃ x : State, exec (.counterStep c av ah bv bh) s = .next x.settle ∧
        x.get (FIO.CNT_VALUE.VALUE c) = ofSigned 32 ((s.get (FIO.CNT_VALUE.VALUE c) : Int) + (if b then -1 else 1))) ∧
    (t.glitchReady c (8 * c) = true → t.glitchReady c (8 * c + 1) = true → (t.chIn (8 * c)).since = (t.chIn (8 * c + 1)).since →
      t.groupState c ≤ 1 → t.get (FIO.CNT_CFG.MODE c) = 1 →
      ∃ x : State, exec (.counterStep c av ah bv bh) s = .next x.settle ∧
        x.get (FIO.CNT_VALUE.VALUE c) = s.get (FIO.CNT_VALUE.VALUE c) ∧
        x.get (FIO.CNT_STATUS.QUAD_ERRORS c) = satAdd (s.get (FIO.CNT_STATUS.QUAD_ERRORS c)) 1
          (2 ^ (FIO.CNT_STATUS.QUAD_ERRORS c).w - 1) % 2 ^ (FIO.CNT_STATUS.QUAD_ERRORS c).w)) ∧
  (∀ (s : State) (c : Fin 4) (v : Nat), exec (.counterLoad c v) s = .next (s.set (FIO.CNT_VALUE.VALUE c) v).settle) ∧
  (∀ (s t : State) (c : Fin 4) (v : Fin 65536), s.domOn 5 = true → s.sense (8 * c + 2) v 0 = t →
    (t.glitchReady c (8 * c + 2) = false → exec (.index c v) s = .next t.settle) ∧
    (t.glitchReady c (8 * c + 2) = true → t.groupState c ≤ 1 → t.bit (FIO.CNT_CFG.INDEX_ENABLE c) = true →
      t.bit (FIO.CNT_CFG.INDEX_EDGE c) = !t.bit (FIO.CH_STATUS.RAW (8 * c + 2)) →
      (t.bit (FIO.CNT_CFG.INDEX_RESET c) = false →
        exec (.index c v) s = .next ((((t.glitchFlip (8 * c + 2)).set (FIO.CNT_INDEX_LATCH.VALUE c)
          (t.get (FIO.CNT_VALUE.VALUE c))).set (FIO.CNT_STATUS.INDEX_SEEN c) 1).post 85 c).settle) ∧
      (t.bit (FIO.CNT_CFG.INDEX_RESET c) = true → ∃ x : State, exec (.index c v) s = .next x.settle ∧
        x.get (FIO.CNT_INDEX_LATCH.VALUE c) = s.get (FIO.CNT_VALUE.VALUE c) ∧
        x.get (FIO.CNT_VALUE.VALUE c) = s.get (FIO.CNT_VALUE.VALUE c) ∧ c.val ∈ x.fio.zeroDue))) ∧
  (∀ (s : State) (p : Fin 16),
    (∀ (t : State) (be v held : Fin 65536), s.domOn 5 = true →
      ((s.sense (s.get (FIO.PRB_CFG.CHANNEL p)) be (held + 1)).sense (s.get (FIO.PRB_CFG.CHANNEL p)) v held).filterLook
        (s.get (FIO.PRB_CFG.CHANNEL p)) s.now = t →
      ((∀ e ∈ t.fio.probeDue, e.1 ≠ p) → exec (.probeLatched p be v held) s = .next t.settle) ∧
      (∀ q, t.fio.probeDue = [(p.val, q)] → t.bit (FIO.PRB_STATUS.ARMED p) = true → exec (.probeLatched p be v held) s = .next
        (State.probeLatch { t with fio := { t.fio with probeDue := [] } } p q).settle)) ∧
    (∀ (be v held : Fin 65536) (n : Nat), s.domOn 5 = true → s.bit (FIO.PRB_STATUS.ARMED p) = true →
      s.get (FIO.PRB_CFG.CHANNEL p) = n → s.groupUp n = true → isOutput s n = false → s.get (FIO.PRB_CFG.EDGE p) = 0 →
      s.bit (FIO.PRB_CFG.SOURCE p) = true → s.get (FIO.PRB_CFG.QUANTITY p) = 0 → s.bit (FIO.PRB_CFG.CONTINUOUS p) = false →
      s.fio.probeDue = [] → s.bit (FIO.CH_STATUS.RAW n) = false → s.inputOn n be = false → s.inputOn n v = true →
      ∃ x : State, exec (.probeLatched p be v held) s = .next x.settle ∧ x.bit (FIO.PRB_STATUS.ARMED p) = false ∧
        x.bit (FIO.PRB_STATUS.LATCHED p) = true ∧
        x.get2 (FIO.PRB_VALUE_LO.VALUE p) (FIO.PRB_VALUE_HI.VALUE p) = max (s.chIn n).since (s.now - held) % 2 ^ 64 ∧
        x.rng.evq = s.rng.evq ++ [⟨86, p, true⟩]) ∧
    (s.bit (FIO.PRB_CFG.ARM_SRC p) = false →
      exec (.probeArm p) s = .next ((if s.bit (FIO.PRB_STATUS.ARMED p) then s else
        { s with fio := { s.fio with probeDue := s.fio.probeDue.filter fun e => e.1 != p } }).setB (FIO.PRB_STATUS.ARMED p) true).settle ∧
      exec (.probeDisarm p) s = .next ((if s.bit (FIO.PRB_STATUS.ARMED p) then s else
        { s with fio := { s.fio with probeDue := s.fio.probeDue.filter fun e => e.1 != p } }).setB (FIO.PRB_STATUS.ARMED p) false).settle) ∧
    (s.bit (FIO.PRB_CFG.ARM_SRC p) = true → exec (.probeArm p) s = .next s.settle ∧ exec (.probeDisarm p) s = .next s.settle) ∧
    exec (.probeValueLoRead p) s = .next (State.settle { s with fio := { s.fio with
      frozen := Sparse.insert s.fio.frozen p (s.get (FIO.PRB_VALUE_HI.VALUE p))
      unread := s.fio.unread.filter (· != p.val) } }))

/-- R242 to R245. A trigger of an armed unit whose action is immediate and sets its channel: the channel's spur level is high, FIRED
counts, and a ONCE unit is disarmed. By an input edge that it has recognised, by time, and as a scheduled action falls due. A unit
chained to one that commands is due on the tick after. A unit that is not armed does nothing.

R243, R245, R247. A pulse ends: its channel takes the level it then has. A unit not in use whose set-up fails no check takes a
trigger; one that fails is refused with its cause and source 99; a unit in use takes only the end of its use. ARM and DISARM write
ARMED where ARM_SRC is 0; FLUSH empties the queue.

Completion is stated for SPUR_INPUT_TRIGGER, SPUR_TIME_TRIGGER, SPUR_ACTION_DUE, SPUR_PULSE_END, SPUR_TRIG_WRITE, SPUR_ARM,
SPUR_DISARM and SPUR_FLUSH. -/
def Obligations.SpurUnits : Prop :=
  (∀ (s : State) (u : Fin 16), s.domOn 5 = true → s.bit (SPR.UNIT_STATUS.ARMED u) = true → s.inRun = true →
    s.get (SPR.UNIT_ACTION.KIND u) = 1 → s.fio.pulses = [] → s.fio.acted = [] →
    (s.get (SPR.UNIT_ACTION.TIMING u) = 0 → s.queue u = [] → s.bit (SPR.UNIT_ACTION.ONCE u) = true →
      (∀ t, s.fio.spurDue = [(u.val, t)] → s.get (SPR.UNIT_TRIG.KIND u) = 1 → s.groupUp (s.get (SPR.UNIT_TRIG.CHANNEL u)) = true →
        ∃ x : State, exec (.spurInputTrigger u) s = .next x.settle ∧ x.fio.spurDue = [] ∧
          x.fio.spur.testBit (s.get (SPR.UNIT_ACTION.OUT_CHANNEL u)) = true ∧ x.bit (SPR.UNIT_STATUS.ARMED u) = false ∧
          x.get2 (SPR.UNIT_LAST_LO.TICK u) (SPR.UNIT_LAST_HI.TICK u) = t % 2 ^ 64 ∧
          x.get (SPR.UNIT_FIRED.COUNT u) = satAdd (s.get (SPR.UNIT_FIRED.COUNT u)) 1 (2 ^ 32 - 1) % 2 ^ 32) ∧
      (s.get (SPR.UNIT_TRIG.KIND u) = 3 → s.fio.timeDone = [] → 0 ≤ diff32 s.now (s.get (SPR.UNIT_PARAM.PARAM u)) →
        ∃ x : State, exec (.spurTimeTrigger u) s = .next x.settle ∧ x.fio.timeDone = [u.val] ∧
          x.fio.spur.testBit (s.get (SPR.UNIT_ACTION.OUT_CHANNEL u)) = true ∧ x.bit (SPR.UNIT_STATUS.ARMED u) = false)) ∧
    (∀ t k len, s.queue u = [⟨t, .tick k, len⟩] → 0 ≤ diff32 s.now k →
      ∃ x : State, exec (.spurActionDue u) s = .next x.settle ∧ x.queue u = [] ∧
        x.fio.spur.testBit (s.get (SPR.UNIT_ACTION.OUT_CHANNEL u)) = true ∧
        x.get (SPR.UNIT_FIRED.COUNT u) = satAdd (s.get (SPR.UNIT_FIRED.COUNT u)) 1 (2 ^ 32 - 1) % 2 ^ 32 ∧
        (∀ v : Fin 16, s.get (SPR.UNIT_TRIG.KIND v) = 6 → s.get (SPR.UNIT_TRIG.CHAIN_UNIT v) = u →
          (v.val, s.now + 1) ∈ x.fio.chainDue))) ∧
  (∀ (s : State) (u : Fin 16),
    ((∀ e ∈ s.fio.spurDue, e.1 ≠ u) → exec (.spurInputTrigger u) s = .next s.settle) ∧
    (∀ t, s.fio.spurDue = [(u.val, t)] → s.bit (SPR.UNIT_STATUS.ARMED u) = false → s.queue u = [] →
      exec (.spurInputTrigger u) s = .next (State.settle { s with fio := { s.fio with spurDue := [] } })) ∧
    (s.get (SPR.UNIT_TRIG.KIND u) = 3 → diff32 s.now (s.get (SPR.UNIT_PARAM.PARAM u)) < 0 →
      exec (.spurTimeTrigger u) s = .next s.settle) ∧
    (∀ t k len, s.queue u = [⟨t, .tick k, len⟩] → diff32 s.now k < 0 → exec (.spurActionDue u) s = .next s.settle) ∧
    (∀ p : SpurPulse, s.fio.pulses = [p] → p.unit = u.val →
      (p.stop ≤ s.now → exec (.spurPulseEnd u) s = .next ((State.set { s with fio := { s.fio with pulses := [] } }
        (SPR.UNIT_STATUS.PULSE_ACTIVE u) 0).spurLevel p.chan p.level).settle) ∧
      (s.now < p.stop → exec (.spurPulseEnd u) s = .next s.settle)) ∧
    (∀ v, s.spurUsed u = false → bitsOf v 0 4 ≠ 0 →
      (s.spurCause u v = 0 →
        ∃ x : State, exec (.spurTrigWrite u v) s = .next x.settle ∧ x.get (SPR.UNIT_TRIG.KIND u) = bitsOf v 0 4 ∧
          x.get (SPR.UNIT_TRIG.CHANNEL u) = bitsOf v 4 5 ∧ x.get (SPR.UNIT_STATUS.CFG_ERR u) = 0) ∧
      (∀ c, c ≠ 0 → s.spurCause u v = c → exec (.spurTrigWrite u v) s = .next
        (((s.set (SPR.UNIT_STATUS.CFG_ERR u) 1).set (SPR.UNIT_STATUS.CFG_CAUSE u) c).post 99 (u + 256 * c)).settle)) ∧
    (∀ v, s.spurUsed u = true →
      (bitsOf v 0 4 ≠ 0 → exec (.spurTrigWrite u v) s = .next s.settle) ∧
      (bitsOf v 0 4 = 0 → ∃ x : State, exec (.spurTrigWrite u v) s = .next x.settle ∧ x.get (SPR.UNIT_TRIG.KIND u) = 0 ∧
        x.queue u = [])) ∧
    (s.bit (SPR.UNIT_ACTION.ARM_SRC u) = false →
      exec (.spurArm u) s = .next (s.setSpurArmed u true).settle ∧ exec (.spurDisarm u) s = .next (s.setSpurArmed u false).settle ∧
      (∀ b, (s.setSpurArmed u b).bit (SPR.UNIT_STATUS.ARMED u) = b)) ∧
    (s.bit (SPR.UNIT_ACTION.ARM_SRC u) = true →
      exec (.spurArm u) s = .next s.settle ∧ exec (.spurDisarm u) s = .next s.settle) ∧
    exec (.spurFlush u) s = .next (s.setQueue u []).settle)

/-! ## Motion (spec/08) -/

/-- R260, R265, R266. A motion command in RUN that breaks no rule of its form is accepted and waits for its effective pass; one that
does ends BAD_DESCRIPTOR; a pass that waited for it may then start. In STOP it acts or is refused at once with the DETAIL of R266:
RESET_FAULT acts, AXIS_LOAD applies entries that keep the rules, and the others are refused.

R259, R276, R280, R282. The end of a pass writes LAST and MAX, and a commit that waited for it is counted with source 118; CAM_CHECK
with DROP removes an unused table from the valid ones, and one without adds a table whose directory entry, points and CRC are in
order; STATUS writes one record for each index; the enable reads and checks the whole table, then sets ENABLE, or CFG_ERR with the
first cause.

Completion is stated for AXIS_LOAD, MOVE_ABS, MOVE_VEL, MOT_STOP, GEAR_IN, CAM_IN, PHASE_SHIFT, MOT_RESET_FAULT, CAM_CHECK,
MOT_STATUS, MOTION_PASS_END, MOT_ENABLE and MOT_CLEAR_MAX. -/
def Obligations.MotionEngine : Prop :=
  (∀ (s : State) (n : Fin 64) (d : Started),
    ∀ p ∈ [(1, Instr.axisLoad n), (2, .moveAbs n), (3, .moveVel n), (4, .motStop n), (5, .gearIn n), (6, .camIn n),
        (7, .phaseShift n), (8, .motResetFault n)], s.offered n [2] p.1 = some d →
      (s.motMalformed d.d = true → exec p.2 s = .next ((s.finish d 0x10).motTry).settle) ∧
      (s.motMalformed d.d = false → s.inRun = true → exec p.2 s = .next (State.settle (State.motTry
        { s.accept d with mot := { s.mot with waits := s.mot.waits ++ [(d.ring, d.idx)] } })) ∧
        (s.mot.due = none → exec p.2 s = .next (State.settle
          { s.accept d with mot := { s.mot with waits := s.mot.waits ++ [(d.ring, d.idx)] } }))) ∧
      (s.motMalformed d.d = false → s.inRun = false → s.mot.due = none → s.motDetail d ≠ 0 →
        exec p.2 s = .next ((s.finishAtTick d s.now 0x60 (s.motDetail d)).motRegs.motTry).settle)) ∧
  (∀ (s : State) (n : Fin 64) (d : Started), s.inRun = false → s.motMalformed d.d = false → s.motEarly d = 0 →
    (s.offered n [2] 8 = some d → s.motRefusal d = 0 →
      exec (.motResetFault n) s = .next (((s.motEffect d).finishAtTick d s.now 0).motRegs.motTry).settle) ∧
    (∀ s' es, s.offered n [2] 1 = some d → d.d.opcode = 1 → s.axesRead (s.via 11 d) d.d.motIndex d.d.motCount = (s', .ok es) →
      (es.any s'.axisRefused = true → exec (.axisLoad n) s = .next ((s'.finishAtTick d s.now 0x60 14).motRegs.motTry).settle) ∧
      (es.any s'.axisRefused = false →
        exec (.axisLoad n) s = .next (((es.foldl State.axisApply s').finishAtTick d s.now 0).motRegs.motTry).settle))) ∧
  (∀ s : State, s.mot.due = none →
    (s.mot.running = none → exec .motionPassEnd s = .next s.settle) ∧
    (∀ t, s.mot.running = some t → ∃ x : State, exec .motionPassEnd s = .next x.settle ∧ x.mot.running = none ∧ x.mot.held = none ∧
      x.get MOT.PASS_STATUS.LAST = min (s.now - t) 0xFFFF ∧
      x.get MOT.PASS_STATUS.MAX = max (s.get MOT.PASS_STATUS.MAX) (min (s.now - t) 0xFFFF) ∧
      x.rng.evq = s.rng.evq ++ (match s.mot.held with
        | some h => [⟨118, min (s.now - h) 0xFFFF, true⟩]
        | none => []))) ∧
  (∀ s : State, exec .motClearMax s = .next (s.set MOT.PASS_STATUS.MAX 0).settle) ∧
  (∀ (s : State) (n : Fin 64) (d : Started), d.d.motBad = false →
    (s.offered n [2] 9 = some d → d.d.eflags.testBit 0 = true → s.camUsed d.d.w4 = false →
      exec (.camCheck n) s = .next (State.settle (State.finish { s with mot := { s.mot with
        valid := s.mot.valid.filter (· != d.d.w4) } } d 0))) ∧
    (s.offered n [2] 9 = some d → d.d.eflags.testBit 0 = true → s.camUsed d.d.w4 = true →
      exec (.camCheck n) s = .next (s.finish d 0x60 0 13).settle) ∧
    (∀ (s0 s1 s2 : State) (e16 bs : List Nat), s.offered n [2] 9 = some d → d.d.eflags.testBit 0 = false →
      { s with mot := { s.mot with valid := s.mot.valid.filter (· != d.d.w4) } } = s0 →
      s0.readBuf (s0.via 11 d) (s0.camDir d.d.w4) 16 = (s1, e16, none) →
      (leAt e16 8 2 < 2 ∨ 4096 < leAt e16 8 2 → exec (.camCheck n) s = .next (s1.finish d 0x60 0 10).settle) ∧
      (2 ≤ leAt e16 8 2 → leAt e16 8 2 ≤ 4096 → leAt e16 0 8 < 256 * 2 ^ 32 → leAt e16 0 8 % 8 = 0 →
        within .dram (leAt e16 0 8) (24 * leAt e16 8 2) = true → e16.getD 0xA 0 < 2 → e16.getD 0xB 0 = 0 →
        s1.readBuf (s1.via 11 d) (leAt e16 0 8) (24 * leAt e16 8 2) = (s2, bs, none) → crc32c bs = leAt e16 0xC 4 →
        ((camPoints bs (leAt e16 8 2)).head?.map (·.x)) = some 0 → camRising (camPoints bs (leAt e16 8 2)) = true →
        exec (.camCheck n) s = .next (State.settle (State.finish { s2 with mot := { s2.mot with
          valid := addOnce s2.mot.valid d.d.w4 } } d 0)))) ∧
    (s.offered n [2] 10 = some d → s.motEarly d ≠ 0 → exec (.motStatus n) s = .next (s.finish d 0x60 0 (s.motEarly d)).settle) ∧
    (∀ s2 m, s.offered n [2] 10 = some d → s.motEarly d = 0 →
      s.putRecords (s.via 11 d) d.d.secondary ((List.range d.d.motCount).map fun j => s.statusRecord (d.d.motIndex + j)) = (s2, m, none) →
      exec (.motStatus n) s = .next (s2.finish d 0 (32 * m)).settle)) ∧
  (∀ (s s' : State) (es : List (Nat × Axis)), s.bit MOT.CTRL.ENABLE = false → s.targetFailed [10, 23] = false →
    (inSramDram s.motTable (520 * 64) = false → exec .motEnable s = .next (s.motEnableEnd 1).settle) ∧
    (inSramDram s.motTable (520 * 64) = true → within .dram (s.camDir 0) 4096 = false →
      exec .motEnable s = .next (s.motEnableEnd 2).settle) ∧
    (inSramDram s.motTable (520 * 64) = true → within .dram (s.camDir 0) 4096 = true →
      s.axesRead { init := 11 } 0 520 = (s', .ok es) →
      (∀ ax, s'.motCause es = 0 →
        (es.filter (·.2.present)).map (fun (e : Nat × Axis) => (e.1, { e.2 with st := 1, pos := s'.actual e.2 })) = ax →
        exec .motEnable s = .next ((State.motEnableEnd
          { s' with mot := { axes := ax, prev := s'.mot.prev, prev2 := s'.mot.prev2, waits := s'.mot.waits } } 0).motRegs).settle) ∧
      (∀ c, c ≠ 0 → s'.motCause es = c → exec .motEnable s = .next (s'.motEnableEnd c).settle)))

/-- R265, R268, R271, R272, R275, R278. What a motion command does at its effective pass, to its own index and to no other: a move
plans its goal and leaves a coupling; STOP plans a stop; GEAR_IN couples by its ratio, at once or through SYNC; CAM_IN couples by
its table, or arms a switch; PHASE_SHIFT adds its distance; RESET_FAULT returns to STANDSTILL at rest without a fault. -/
def Obligations.MotionEffects : Prop :=
  ∀ (s : State) (d : Started), let a := (s.motEffect d).axis d.d.motIndex
    (∀ j, j ≠ d.d.motIndex → (s.motEffect d).axis j = s.axis j) ∧
    (d.d.opcode = 2 → a.st = 2 ∧ a.couple = none ∧ a.shift = none ∧
      a.plan = .goal ((s.axis d.d.motIndex).unwrap (d.d.eflags % 4) d.d.value64)) ∧
    (d.d.opcode = 3 → a.st = 2 ∧ a.couple = none ∧ a.plan ≠ .rest ∧ a.plan ≠ .stop) ∧
    (d.d.opcode = 4 → a.st = 5 ∧ a.couple = none ∧ a.plan = .stop) ∧
    (d.d.opcode = 5 → a.st = (if d.d.eflags.testBit 2 then 3 else 4) ∧
      a.couple.map (fun c => (c.gear, c.kind, c.master, c.num, c.den)) =
        some (true, d.d.motKind, d.d.motMaster, toSigned 32 d.d.w4, d.d.w5)) ∧
    (d.d.opcode = 6 → d.d.eflags.testBit 2 = false → a.st = 4 ∧
      a.couple.map (fun c => (c.gear, c.kind, c.master, c.table)) = some (false, d.d.motKind, d.d.motMaster, d.d.w4)) ∧
    (d.d.opcode = 6 → d.d.eflags.testBit 2 = true → a.switch = some (d.d.w4, toSigned 32 d.d.w5) ∧
      a.couple = (s.axis d.d.motIndex).couple) ∧
    (d.d.opcode = 7 → a.switch = none ∧ a.shift.map (·.left) =
      some (((s.axis d.d.motIndex).shift.map fun h => h.left - h.done).getD 0 + d.d.value64)) ∧
    (d.d.opcode = 8 → a.st = 1 ∧ a.vel = 0 ∧ a.acc = 0 ∧ a.fault = 0 ∧ a.failing = false ∧ a.couple = none)

/-! ## Loops and current-loop channels (spec/09, spec/10) -/

/-- R297, R307, R323. LOOP_EVALUATION evaluates the sample at the head of the queue, writes its delay, sends the trail what it needs,
and offers its output to the instances that it feeds; a source that left AUTO and MANUAL loses them their samples. With no sample, in
STOP, on a trail, or with D5 off, nothing is evaluated.

R292, R299 to R302. The loop engine's commands of the kind Commit wait for the commit of their class's cycle, or act at once where
that is over: SET_MODE gives the instance its mode (one HELD by a lost sample takes it later), RESET_FAULT clears its fault,
LOOP_LOAD applies the entries that it read and that pass, and refuses them with DETAIL 4 or 5; STATUS writes a record for each
instance; CLEAR_STATS zeroes the counts of its instances.

R304, R324. An enable checks first: the first failing cause is told and the block stays disabled; with none it is enabled.

Completion is stated for LOOP_EVALUATION, LOOP_LOAD, SET_MODE, LOOP_RESET_FAULT, LOOP_STATUS, CLEAR_STATS, LOP_ENABLE,
LOP_QUEUE_CLEAR, LOP_WORST_CLEAR and CLP_ENABLE. -/
def Obligations.LoopEngine : Prop :=
  (∀ (s s1 t u : State) (e : LoopSample) (q : List LoopSample) (w : Nat), s.lop.queue = e :: q →
    (s.domOn 5 = true → s.inRun = true → s.isTrail = false → (s.setLoopQueue q).loopEvaluate e.inst e.tick e.word = (s1, w) →
      s1.loopDelay e.inst e.tick = t →
      (if t.streams then ((if (s.loop e.inst).dstKind = 2 then t.ransel 0x17 ([(s.loop e.inst).dstIndex,
          t.get (CLP.CH_STATUS.COMPLIANCE (s.loop e.inst).dstIndex)
            + 2 * t.get (CLP.CH_STATUS.ALARM_NOT_SIGNALLED (s.loop e.inst).dstIndex), 0, 0]
          ++ leBytes 4 (t.get (CLP.CH_CURRENT.MA (s.loop e.inst).dstIndex))) else t).ransel 0x16
          ((s.loop e.inst).record e.inst e.word w (t.inPair e.tick))) else t) = u →
      exec .loopEvaluation s = .next (((u.loopWrote e.inst ((u.loop e.inst).out.getD 0)).loopCascadeLost s).settle)) ∧
    (s.domOn 5 = false ∨ s.inRun = false ∨ s.isTrail = true → exec .loopEvaluation s = .next s.settle)) ∧
  (∀ s : State, (s.lop.queue = [] → exec .loopEvaluation s = .next s.settle) ∧
    exec .lopQueueClear s = .next (s.set LOP.QUEUE.PEAK (s.get LOP.QUEUE.DEPTH)).settle ∧
    exec .lopWorstClear s = .next (s.set LOP.WORST.TICKS 0).settle) ∧
  (∀ (s : State) (n : Fin 64) (d : Started),
    (∀ p ∈ [(1, Instr.loopLoad n), (2, .setMode n), (3, .loopResetFault n), (4, .loopStatus n), (5, .clearStats n)],
      s.offered n [3] p.1 = some d →
      (d.d.loopBad = true → exec p.2 s = .next (s.finish d 0x10).settle) ∧
      (d.d.loopBad = false → s.loopRefusal d ≠ 0 → exec p.2 s = .next (s.finish d 0x60 0 (s.loopRefusal d)).settle)) ∧
    (d.d.loopBad = false → s.loopRefusal d = 0 →
      (∀ p ∈ [(1, Instr.loopLoad n), (2, .setMode n), (3, .loopResetFault n)], s.offered n [3] p.1 = some d →
        d.cls.map s.loopsCommitted = some false →
        exec p.2 s = .next (State.settle { s.accept d with lop := { s.lop with waits := s.lop.waits ++ [(d.ring, d.idx)] } })) ∧
      (d.cls.map s.loopsCommitted = some true →
        (∀ s' es, s.offered n [3] 1 = some d → d.d.loopRange = false →
          s.loopRead (s.via 12 d) d.d.loopInst d.d.loopCount = (s', .ok es) →
          ((es.all (fun e => !e.2.present || (e.2.fieldsOk && s'.loopIndexOk e.2 && s'.loopChannelOk e.2)) = true ∧
            loopsShare (es.foldl (fun l e => Sparse.insert l e.1 e.2) s'.lop.insts) = false ∧ loopsLower es = true) →
            (∀ e ∈ es, (s'.loop e.1).mode ≠ 0 → e.2.present = true → (s'.loop e.1).srcKind = e.2.srcKind ∧
              (s'.loop e.1).srcIndex = e.2.srcIndex ∧ (s'.loop e.1).dstKind = e.2.dstKind ∧ (s'.loop e.1).dstIndex = e.2.dstIndex) →
            exec (.loopLoad n) s = .next ((((es.foldl (fun s e => s.loopApply (d.d.eflags.testBit 0) e) s').loopCascadeLost s').finish
              d 0).settle)) ∧
          (es.all (fun e => !e.2.present || (e.2.fieldsOk && s'.loopIndexOk e.2 && s'.loopChannelOk e.2)) = false ∨
            loopsShare (es.foldl (fun l e => Sparse.insert l e.1 e.2) s'.lop.insts) = true ∨ loopsLower es = false →
            exec (.loopLoad n) s = .next (s'.finish d 0x60 0 4).settle)) ∧
        (s.offered n [3] 1 = some d → d.d.loopRange = true → exec (.loopLoad n) s = .next (s.finish d 0x60 0 2).settle) ∧
        (s.offered n [3] 2 = some d → (s.loop d.d.loopInst).present = true →
          (d.d.w4 ≠ 1 ∨ (s.loop d.d.loopInst).manIndex ≠ 0 →
            ((s.loop d.d.loopInst).mode ≠ 3 ∨ (s.loop d.d.loopInst).reason ≠ 2 →
              exec (.setMode n) s = .next (((s.loopMode d.d.loopInst d.d.w4).loopCascadeLost s).finish d 0).settle) ∧
            ((s.loop d.d.loopInst).mode = 3 → (s.loop d.d.loopInst).reason = 2 →
              exec (.setMode n) s = .next ((s.setLoop d.d.loopInst { s.loop d.d.loopInst with kept := d.d.w4 }).finish d 0).settle)) ∧
          (d.d.w4 = 1 → (s.loop d.d.loopInst).manIndex = 0 → exec (.setMode n) s = .next (s.finish d 0x60 0 3).settle)) ∧
        (s.offered n [3] 3 = some d → (s.loop d.d.loopInst).present = true →
          ((s.loop d.d.loopInst).fault ≠ 0 →
            ∃ x : State, exec (.loopResetFault n) s = .next x.settle ∧ (x.loop d.d.loopInst).fault = 0 ∧
              (x.loop d.d.loopInst).mode = (s.loop d.d.loopInst).mode) ∧
          ((s.loop d.d.loopInst).fault = 0 → exec (.loopResetFault n) s = .next (s.finish d 0x60 0 3).settle)) ∧
        (∀ p ∈ [(2, Instr.setMode n), (3, .loopResetFault n)], s.offered n [3] p.1 = some d →
          (s.loop d.d.loopInst).present = false → exec p.2 s = .next (s.finish d 0x60 0 2).settle)) ∧
      (∀ s' m, s.offered n [3] 4 = some d → s.putRecords (s.via 12 d) d.d.primary
          ((List.range d.d.loopCount).map fun j => s.loopRecord (d.d.loopInst + j)) = (s', m, none) →
        exec (.loopStatus n) s = .next (s'.finish d 0 (32 * m)).settle) ∧
      (s.offered n [3] 5 = some d → ∃ x : State, exec (.clearStats n) s = .next x.settle ∧
        ∀ j < d.d.loopCount, (x.loop (d.d.loopInst + j)).evals = 0 ∧ (x.loop (d.d.loopInst + j)).replaced = 0 ∧
          x.get (LOP.INST_DELAY.LAST (d.d.loopInst + j)) = 0 ∧ x.get (LOP.INST_DELAY.MAX (d.d.loopInst + j)) = 0))) ∧
  (∀ s : State,
    (s.bit LOP.CTRL.ENABLE = false → s.targetFailed [11, 23] = false →
      (inSramDram s.loopTable (512 * 80) = false → exec .lopEnable s = .next (s.loopEnableEnd 1).settle) ∧
      (∀ s' es, inSramDram s.loopTable (512 * 80) = true → s.loopRead { init := 12 } 0 512 = (s', .ok es) →
        (s'.loopCause es = 0 → exec .lopEnable s = .next (((((State.setLoopQueue { s' with lop := { s'.lop with
          insts := es.filter (·.2.present) } } []).loopEnableEnd 0).loopCounts).loopMasks).settle)) ∧
        (∀ c, c ≠ 0 → s'.loopCause es = c → exec .lopEnable s = .next (s'.loopEnableEnd c).settle))) ∧
    (s.bit CLP.CTRL.ENABLE = false → s.targetFailed [14] = false →
      (s.clpCause = 0 → ∃ x : State, exec .clpEnable s = .next x.settle ∧ x.get CLP.CTRL.ENABLE = 1 ∧
        x.get CLP.CTRL.CFG_ERR = 0 ∧ x.get CLP.CTRL.CFG_CAUSE = 0 ∧
        ∀ n : Fin 8, (x.clch n).state = 0 ∧ x.get (CLP.CH_STATUS.VALID n) = 0 ∧ x.get (CLP.CH_STATUS.ALARM_LOW n) = 0 ∧
          x.get (CLP.CH_STATUS.ALARM_HIGH n) = 0 ∧ x.get (CLP.CH_STATUS.RANGE n) = 0) ∧
      (∀ c, c ≠ 0 → s.clpCause = c → exec .clpEnable s = .next
        (((s.set CLP.CTRL.ENABLE 0).set CLP.CTRL.CFG_ERR 1).set CLP.CTRL.CFG_CAUSE c).settle)))

/-- R313 to R316, R320, R333, R337. A conversion whose period ended at most 400 ticks ago: in the normal band of a channel in NORMAL it
gives current, value and VALID; on a multidrop channel the current alone; the last of ALARM_TIME results at 3.6 mA or less enters
ALARM_LOW, which takes VALID back. With no such period there is no result. An output without enabled drivers measures 0, and with
less than 1 V of headroom sets COMPLIANCE; a shorted loop supply is told; inputs settle 50 ms after the carrier seats; a front end
that is ready checks its reference.

R327 to R331. HART: a request of a permitted owner for a free channel is sent and waits; a listen waits for its window; a reply ends the
job of its channel; a burst frame that nobody waits for asserts source 150; a window that ends, or a request out of attempts,
answers TIMEOUT with source 151, and a request with attempts left is sent again.

Completion is stated for CONVERSION_RESULT, OUTPUT_STAGE_MEASURE, CL_LOOP_SHORT, CL_INPUT_SETTLED, FRONT_END_READY, HART_REQUEST,
HART_LISTEN, HART_FRAME_RECEIVED and HART_TIMEOUT. -/
def Obligations.CurrentLoops : Prop :=
  (∀ (s : State) (n : Fin 8), s.domOn 6 = true →
    (s.bit CLP.CTRL.ENABLE = true →
      (∀ na e, s.get (CLP.CH_CFG.MODE n) = 1 → s.car.clReady = true → s.bit (CLP.CH_STATUS.FAILED n) = false →
        (s.clch n).front = 0 → s.periodEnd n = some e → na ≤ 25000000 →
        (s.get (CLP.CH_CFG.HART_MODE n) = 2 → exec (.conversionResult n na) s = .next
          ((((s.setClch n { s.clch n with taken := e }).set (CLP.CH_CURRENT.MA n) (f32.ratio (s.trimmed n na) 1000000000000)).setB
            (CLP.CH_STATUS.OPEN n) (decide (s.trimmed n na < 500 * 1000 * 1000000))).set (CLP.CH_STATUS.VALID n) 0).settle) ∧
        (s.get (CLP.CH_CFG.HART_MODE n) ≠ 2 → (s.clch n).state = 0 → classify (s.trimmed n na) = 0 →
          ∃ x : State, exec (.conversionResult n na) s = .next x.settle ∧ x.get (CLP.CH_STATUS.VALID n) = 1 ∧
            x.get (CLP.CH_STATUS.OPEN n) = 0 ∧ (x.clch n).state = 0 ∧
            x.get (CLP.CH_CURRENT.MA n) = f32.ratio (s.trimmed n na) 1000000000000 % 2 ^ 32 ∧
            x.get (CLP.CH_VALUE.VALUE n) = s.clValue n (s.trimmed n na) % 2 ^ 32) ∧
        (s.get (CLP.CH_CFG.HART_MODE n) ≠ 2 → (s.clch n).state = 0 → classify (s.trimmed n na) = 3 → (s.clch n).cand = 2 →
          s.get (CLP.CH_CFG.ALARM_TIME n) ≤ (s.clch n).run + 1 →
          ∃ x : State, exec (.conversionResult n na) s = .next x.settle ∧ x.get (CLP.CH_STATUS.VALID n) = 0 ∧
            x.bit (CLP.CH_STATUS.ALARM_LOW n) = true ∧ (x.clch n).state = 2 ∧
            x.get (CLP.CH_VALUE.VALUE n) = s.get (CLP.CH_VALUE.VALUE n))) ∧
      (∀ na, s.periodEnd n = none → exec (.conversionResult n na) s = .next s.settle) ∧
      (∀ na (mv : Fin 65536), s.get (CLP.CH_CFG.MODE n) = 2 →
        (s.bit SYS.CARRIER_STATUS.DRIVERS_ENABLED = false →
          exec (.outputStageMeasure n na mv) s = .next
            ((s.setClch n { s.clch n with goodFrom := none, badFrom := none }).set (CLP.CH_CURRENT.MA n) 0).settle) ∧
        (s.bit SYS.CARRIER_STATUS.DRIVERS_ENABLED = true → s.bit (CLP.CH_STATUS.FAILED n) = false →
          (∃ x : State, exec (.outputStageMeasure n na mv) s = .next x.settle ∧ x.get (CLP.CH_HEADROOM.MV n) = mv ∧
            x.get (CLP.CH_CURRENT.MA n) = f32.ratio na 1000000 % 2 ^ 32) ∧
          (mv.val < 1000 → ∃ x : State, exec (.outputStageMeasure n na mv) s = .next x.settle ∧
            x.bit (CLP.CH_STATUS.COMPLIANCE n) = true ∧ x.get (CLP.CH_HEADROOM.MV n) = mv) ∧
          (∀ t, (s.clch n).goodFrom = some t → t + 200000 ≤ s.now → 1200 < mv.val →
            ∃ x : State, exec (.outputStageMeasure n na mv) s = .next x.settle ∧
              x.bit (CLP.CH_STATUS.COMPLIANCE n) = false))) ∧
      (∀ b, s.get (CLP.CH_CFG.MODE n) = 1 → s.bit (CLP.CH_CFG.LOOP_POWER n) = true → s.bit (CLP.CH_STATUS.LOOP_SHORT n) = !b →
        exec (.clLoopShort n b) s = .next ((s.setB (CLP.CH_STATUS.LOOP_SHORT n) b).post 147 (n + 256 * b2n b)).settle)) ∧
    (∀ t, s.car.seatedAt = some t → s.bit SYS.CARRIER_STATUS.SEATED = true →
      (t + 10000000 ≤ s.now → exec .clInputSettled s = .next (State.settle { s with car := { s.car with clReady := true } })) ∧
      (s.now < t + 10000000 → exec .clInputSettled s = .next s.settle)) ∧
    ((s.clch n).front = 2 →
      exec (.frontEndReady n true) s = .next (State.set (s.setClch n { s.clch n with front := 0 }) (CLP.CH_STATUS.FAILED n) 0).settle ∧
      exec (.frontEndReady n false) s = .next (((State.set (s.setClch n { s.clch n with front := 0 }) (CLP.CH_STATUS.FAILED n) 1).set
        (CLP.CH_STATUS.VALID n) 0).post 148 n).settle) ∧
    ((s.clch n).front ≠ 2 → ∀ b, exec (.frontEndReady n b) s = .next s.settle)) ∧
  (∀ s : State,
    (∀ (n : Fin 64) (d : Started), s.offered n [4] 1 = some d → s.hartJob d.d.eflags = none →
      (d.d.w1 < 16 ∨ 266 < d.d.w1 ∨ bitsOf d.d.w5 8 24 ≠ 0 → exec (.hartRequest n) s = .next (s.finish d 0x10).settle) ∧
      (∀ (s' : State) (bs : List Nat),
        16 ≤ d.d.w1 → d.d.w1 ≤ 266 → bitsOf d.d.w5 8 24 = 0 → s.readBuf (s.via 8 d) d.d.primary d.d.w1 = (s', bs, none) →
        hartBad bs = false →
        (s'.hartBarred d = true → exec (.hartRequest n) s = .next (s'.finish d 0x60 0 1).settle) ∧
        (s'.hartBarred d = false → s'.get (CLP.CH_CFG.HART_MODE d.d.eflags) = 0 →
          exec (.hartRequest n) s = .next (s'.finish d 0x60 0 2).settle) ∧
        (s'.hartBarred d = false →
          (s'.get (CLP.CH_CFG.HART_MODE d.d.eflags) = 1 ∧ ((bs.getD 0 0).testBit 0 = true ∨ bs.getD 1 0 = 0)) ∨
            (s'.get (CLP.CH_CFG.HART_MODE d.d.eflags) = 2 ∧ ((bs.getD 0 0).testBit 0 = true ∨ (bs.getD 1 0 ≠ 0 ∧ bs.getD 1 0 ≤ 15))) →
          s'.get (CLP.CH_CFG.MODE d.d.eflags) ≠ 2 ∨ s'.bit SYS.CARRIER_STATUS.DRIVERS_ENABLED = true →
          exec (.hartRequest n) s = .next ((((s'.accept d).setHart d.d.eflags (some { ring := d.ring, idx := d.idx, listen := false, frame := hartFrame bs, sent := 1, allow := bs.getD 5 0 + 1, error := 1 })).send (.hart d.d.eflags (hartFrame bs))).settle)))) ∧
    (∀ (n : Fin 64) (d : Started), s.offered n [4] 2 = some d → s.hartJob d.d.eflags = none → 1 ≤ d.d.w1 → d.d.w1 ≤ 60000 →
      d.d.primary = 0 → bitsOf d.d.w5 8 24 = 0 →
      (s.hartBarred d = true → exec (.hartListen n) s = .next (s.finish d 0x60 0 1).settle) ∧
      (s.hartBarred d = false → s.get (CLP.CH_CFG.HART_MODE d.d.eflags) = 0 →
        exec (.hartListen n) s = .next (s.finish d 0x60 0 2).settle) ∧
      (s.hartBarred d = false → s.get (CLP.CH_CFG.HART_MODE d.d.eflags) ≠ 0 →
        exec (.hartListen n) s = .next ((s.accept d).setHart d.d.eflags (some { ring := d.ring, idx := d.idx, listen := true, error := 1, due := s.now + d.d.w1 * ticksPerMs })).settle)) ∧
    (∀ (ch : Fin 8) (err : Fin 16) (b : Bool) (body : List Nat), s.domOn 6 = true → s.get (CLP.CH_CFG.HART_MODE ch) ≠ 0 →
      (s.hartJob ch = none →
        (err.val ≠ 0 → exec (.hartFrameReceived ch err b body) s = .next (s.bump (CLP.CH_HART_STATS.FRAMES_BAD ch)).settle) ∧
        exec (.hartFrameReceived ch 0 true body) s = .next ((s.bump (CLP.CH_HART_STATS.FRAMES_OK ch)).post 150 ch).settle ∧
        exec (.hartFrameReceived ch 0 false body) s = .next (s.bump (CLP.CH_HART_STATS.FRAMES_OK ch)).settle) ∧
      (∀ j : HartJob, s.hartJob ch = some j → j.listen = b →
        exec (.hartFrameReceived ch 0 b body) s = .next ((s.bump (CLP.CH_HART_STATS.FRAMES_OK ch)).hartDone ch j body).settle)) ∧
    (∀ (ch : Fin 8), (s.hartJob ch = none → exec (.hartTimeout ch) s = .next s.settle) ∧
      (∀ j : HartJob, s.hartJob ch = some j →
        ((j.listen = true ∧ j.due ≤ s.now) ∨ (j.listen = false ∧ j.allow ≤ j.sent) →
          exec (.hartTimeout ch) s = .next (((s.setHart ch none).finishAt (some (j.ring, j.idx)) 0x30 0 j.error).post 151
            (ch + 256 * j.error)).settle) ∧
        (∀ d, j.listen = false → j.sent < j.allow → s.startedAt j.ring j.idx = some d → s.hartShut d = 0 →
          exec (.hartTimeout ch) s = .next ((s.setHart ch (some { j with sent := j.sent + 1, error := 1 })).send
            (.hart ch j.frame)).settle))))

/-! ## The interconnect, the witness, the pair (spec/11) -/

/-- R345, R347, R348. A valid message that is the next of the stream acts, whatever its kind: the stream moves on by one, the message
does what its kind does (RanselTrailMessages, RanselPairMessages), and what waited for it goes on. A copy whose CRC fails is
counted and does nothing else. The first valid message sets the stream to its SEQ. A message whose SEQ has acted already, or is
held, only shows the link alive; one ahead of the stream is held, and the gap before it is timed.

Completion is stated for HEARTBEAT, HELLO, NAK, CUT_LIST, COMMIT, READ, DELIVERY, LOCK, COMPLETION, LOOP, CHANNEL_STATUS,
CONTROL, CROSSED_NOTICE, MIRROR, STATE_DIGEST, BLOCK_DATA, BLOCK_REQUEST, FRAME_REQUEST, FRAME_DATA, RELAY, STAGED,
HANDOVER_REQUEST, HANDOVER, YIELD, TETHER_DATA and TETHER. -/
def Obligations.RanselMessages : Prop :=
  ∀ (s : State) (h : RanselHead) (st : Fin 6) (b1 b2 : Bool) (n1 n2 n3 n4 n5 : Nat) (l1 l2 : List Nat) (k : Fin 8) (c : CutWait)
    (lk : Fin 64) (by1 : Fin 256) (lh : LoopHead) (fl : Fin 4) (ct : Control) (ml : List (Nat × Nat × Nat × Nat)) (aw : Fin 16)
    (bl : List (Nat × Nat)) (nd : Fin 2048) (img : TetherImage), ∀ p ∈ [
      (Instr.heartbeat h st b1 b2 n1 n2 n3 l1, RMsg.heartbeat st b1 b2 n1 n2 n3 l1), (.hello h n1 n2 n3 n4 n5 l1, .hello n1 n2 n3 n4 n5 l1),
      (.nak h n1, .nak n1), (.cutList h k c, .cutList { c with cls := k, waiting := false }),
      (.ranselCommit h k n1 n2 n3, .commit k n1 n2 n3), (.ranselRead h n1 n2, .read n1 n2), (.delivery h n1 l1, .delivery n1 l1),
      (.ranselLock h n1 lk by1, .lock n1 lk by1), (.completion h lk l1 l2, .completion lk l1 l2),
      (.ranselLoop h lh n1 n2 n3, .loop ⟨lh.inst, lh.mode, lh.flags, n1, n2, n3⟩), (.channelStatus h k fl n1, .channelStatus k fl n1),
      (.ranselControl h ct, .control h.link ct), (.crossedNotice h n1 n2, .crossed n1 n2), (.ranselMirror h ml aw, .mirror ml aw),
      (.stateDigest h n1 bl, .stateDigest n1 bl), (.blockData h n1 n2 l1, .blockData n1 n2 l1), (.blockRequest h n1, .blockRequest n1),
      (.frameRequest h nd n1, .frameRequest nd n1), (.frameData h nd n1 l1, .frameData nd n1 l1), (.relay h fl l1, .relay fl l1),
      (.staged h n1 n2, .staged n1 n2), (.handoverRequest h by1, .handoverRequest by1), (.handover h n1 n2, .handover n1 n2),
      (.yield h n1 by1, .yield n1 by1), (.tetherData h n1 l1, .tetherData n1 l1), (.tether h n1 n2 img, .tether n1 n2 img)],
    (s.inOrder h = true → exec p.1 s = .next (((s.moved h).act1 h.link p.2).messageDone h).settle) ∧
    (h.good = false → exec p.1 s = .next ((s.bump (PAR.LINK_ERRORS.CRC h.link)).voteAll).settle) ∧
    (h.good = true → s.par.synced = false → exec p.1 s = exec p.1 { s with par := { s.par with
      synced := true, recvSeq := h.seq % 2 ^ 32, ahead := [] } }) ∧
    (h.good = true → s.par.synced = true →
      let ahead := toSigned 32 ((h.seq % 2 ^ 32 + 2 ^ 32 - s.par.recvSeq) % 2 ^ 32)
      let heard := s.linkHeard h.link
      (ahead < 0 → s.linksDown = false → exec p.1 s = .next heard.voteAll.settle) ∧
      (0 < ahead → s.par.ahead.any (fun a => a.1 == h.seq % 2 ^ 32) = true → exec p.1 s = .next heard.voteAll.settle) ∧
      (0 < ahead → s.par.ahead.any (fun a => a.1 == h.seq % 2 ^ 32) = false → exec p.1 s =
        .next ((State.afterAct { heard with par := { heard.par with
          ahead := heard.par.ahead ++ [(h.seq % 2 ^ 32, p.2)] } }).voteAll).settle))

/-- R350 to R353, R359, R360, R583, R250, R323, R307, R174. What the messages of a lead do at a tethered trail: cut lists, COMMITs, READs,
DELIVERYs, LOCKs, COMPLETIONs, CONTROLs and digests that nothing there waits for are kept in stream order; MIRROR shows the
lead's latched channels; CROSSED names the crossing of the staged map, and without one untethers with reason 5. -/
def Obligations.RanselTrailMessages : Prop :=
  ∀ (s : State) (l : Nat), s.pairState = 3 →
    (∀ c, s.par.tetherFrom = none → (s.act1 l (.cutList c)).par.follow.cuts = s.par.follow.cuts ++ [c]) ∧
    (∀ k c d t, s.par.ownDigests = [] → (s.act1 l (.commit k c d t)).par.follow.commits = s.par.follow.commits ++ [(k, c, d, t)]) ∧
    (∀ i v, s.vot.readIdx ≤ i → (s.act1 l (.read i v)).par.follow.reads = s.par.follow.reads ++ [(i, v)]) ∧
    (∀ p ws, s.vot.delivery = none → (s.act1 l (.delivery p ws)).vot.delivery = some p ∧
      (s.act1 l (.delivery p ws)).par.follow.deliveries = s.par.follow.deliveries ++ [(p, ws)]) ∧
    (∀ i k st, s.par.follow.lockReqs = [] → s.vot.lockIdx ≤ i →
      (s.act1 l (.lock i k st)).par.follow.locks = s.par.follow.locks ++ [(i, k, st)]) ∧
    (∀ r rec data, s.rng.started = [] →
      (s.act1 l (.completion r rec data)).par.follow.comps = s.par.follow.comps ++ [(r, rec, data)]) ∧
    (∀ (r : LoopRec) k c d u, s.par.follow.commits = [(k, c, d, u)] → s.par.follow.loops = [] →
      (s.act1 l (.loop r)).par.follow.loops = [([(k, c)], r)]) ∧
    (∀ n f m, (n, f, m) ∈ (s.act1 l (.channelStatus n f m)).par.follow.channels) ∧
    (∀ k (c : Control), (c.op ∈ [1, 2, 0x10, 0x11, 0x12] →
        (s.act1 l (.control k c)).par.follow.controls = s.par.follow.controls ++ [c]) ∧
      (¬ c.op ∈ [1, 2, 0x10, 0x11, 0x12, 0x20] → (s.act1 l (.control k c)).pairState = 4 ∧
        (s.act1 l (.control k c)).get PAR.STATUS.UNTETHER_REASON = 3)) ∧
    (∀ b g, (∀ m, s.fer.map = some m → m.newGen = g → s.fer.staging = false →
        (s.act1 l (.crossed b g)).par.follow.crossed = some (b, g)) ∧
      (s.fer.map = none → (s.act1 l (.crossed b g)).pairState = 4 ∧
        (s.act1 l (.crossed b g)).get PAR.STATUS.UNTETHER_REASON = 5)) ∧
    (∀ cs a, (∀ n < 32, (s.act1 l (.mirror cs a)).bit (FIO.CH_STATUS.LATCHED_OFF n) = cs.any (·.1 == n)) ∧
      ∀ g < 4, (s.act1 l (.mirror cs a)).bit (FIO.GROUP_STATUS.AWAIT_ACK g) = a.testBit g) ∧
    (∀ c bs, (s.act1 l (.stateDigest c bs)).par.follow.digests = s.par.follow.digests ++ [(c, bs)]) ∧
    (∀ i c d, (s.cls 0).cycle < c → (s.act1 l (.blockData i c d)).par.installs = s.par.installs ++ [(i, c, d)]) ∧
    (∀ (n q : Nat) (b : List Nat) (e : Station), s.station n = some e → b.length = e.upBytes → (upValues e b).1 = true →
      beAt b 12 4 = e.crc → (s.act1 l (.frameData n q b)).bodyOf n q = some b) ∧
    (∀ o d, (s.act1 l (.tetherData o d)).par.tetherData = Sparse.insert s.par.tetherData o d) ∧
    (∀ b e, s.ineligible = 0 → (s.act1 l (.handover b e)).par.handIn = some (b, e, false))

/-- R345, R347, R349, R351, R360, R361, R209, R375, R379. What the other messages do: HELLO that passes its checks opens the pair, a
HEARTBEAT of the lead tells a trail the lead's state and tick offset, a NAK is answered while the message is kept, a
BLOCK_REQUEST and a FRAME_REQUEST are answered, a relayed frame that is no UCP DOWN or UP leaves, STAGED is kept, a
HANDOVER_REQUEST starts a hand-over or is refused, a YIELD lets an eligible trail take over, and a TETHER whose digest fails
restarts. -/
def Obligations.RanselPairMessages : Prop :=
  ∀ (s : State) (l : Nat),
    (∀ u sl pr ca ge dg, sl ≠ s.get SYS.CARRIER_STATUS.SLOT → pr = (s.slot s.activeSlot).proto → ca = s.car.carrierId →
      s.pairState ≠ 1 → (s.act1 l (.hello u sl pr ca ge dg)).par.helloOk = true ∧
        (s.act1 l (.hello u sl pr ca ge dg)).par.hello = some ⟨u, sl, pr, ca, ge, dg⟩) ∧
    (∀ el le ep cy ti dn, s.pairState = 3 → let x := s.act1 l (.heartbeat 2 el le ep cy ti dn)
      x.get PAR.STATUS.PARTNER_STATE = 2 ∧ x.par.partnerCycle = cy ∧ x.par.heartbeatAt = some s.now ∧
      x.get2 PAR.TICK_OFFSET_LO.OFFSET PAR.TICK_OFFSET_HI.OFFSET = (ti + (s.link l).latency + 2 ^ 64 - s.now) % 2 ^ 64) ∧
    (∀ q m, keptMessage q (2 ^ 20) (firstSent 0 (s.sent.drop s.par.keepFrom)).reverse = some m →
      (s.act1 l (.nak q)).sent = s.sent ++ [m]) ∧
    (∀ i, i ∈ (s.act1 l (.blockRequest i)).par.wantBlocks) ∧
    (∀ n q b, s.cyc.classes = [] → s.bodyOf n q = some b →
      (s.act1 l (.frameRequest n q)) = s.ransel 0x24 (leBytes 2 n ++ [0, 0] ++ leBytes 4 q ++ b)) ∧
    (∀ c f, s.crossOn c = true → c < 4 → f.getD 15 0 ≠ 1 → f.getD 15 0 ≠ 2 → s.act1 l (.relay c f) = s.send (.frame c f)) ∧
    (∀ g c, (s.act1 l (.staged g c)).par.trailStaged = some (g, c)) ∧
    (∀ c, (s.handoverReason ≠ 0 → s.act1 l (.handoverRequest c) = s.post 171 3) ∧
      (s.handoverReason = 0 → (s.act1 l (.handoverRequest c)).par.handover.map (fun h => (h.due, h.epoch, h.cause)) =
        some (s.cycle + 1, s.par.ownEpoch + 1, 2))) ∧
    (∀ e c, s.isDriving = false → s.act1 l (.yield e c) =
      ((s.post 166 (256 * c)).seeEpoch e).takeover 1 ((s.post 166 (256 * c)).seeEpoch e).nextEpoch) ∧
    (∀ b d img, s.isDriving = false → s.pairState ≠ 5 →
      (Config.tetherDigest img s.par.tetherData % 2 ^ 32 ≠ d → (s.act1 l (.tether b d img)).par.tetherData = [] ∧
        (s.act1 l (.tether b d img)).pairState = s.pairState) ∧
      (Config.tetherDigest img s.par.tetherData % 2 ^ 32 = d →
        (s.act1 l (.tether b d img)).pairState = 3 ∧ (s.act1 l (.tether b d img)).par.tetherFrom = some b))

/-- R343, R345, R346, R368. The links: a trained link sends HELLO; a link goes up after 1 ms of heartbeats and down on a loss; with the
second link down a tethered trail that may not ask for an epoch untethers; a heartbeat leaves after 1 us of silence; a
message missing for 2 us is named in a NAK, and given up 5 us later, when the stream goes on with the first message held.

R360, R380, R381. The clocks of the pair: the hold-off that has passed asks for a hand-over; a request that 18 base cycles have not
answered counts as refused (log 83); a joining unit whose links have been down for 5 s starts alone, or asks the witness
whether it may; divergences leave BLOCK_HOUR after 60 minutes.

Completion is stated for LINK_TRAINING_END, RANSEL_LINK_UP, RANSEL_LINK_DOWN, HEARTBEAT_SEND, SEQ_MISSING,
TAKEBACK_HOLDOFF_EXPIRY, JOINING_LINK_TIMEOUT and DIVERGENCE_HOUR_EXPIRY. -/
def Obligations.LinksAndPairClocks : Prop :=
  (∀ (s : State) (l : Fin 2),
    (∀ t : Fin 512, (s.link l).trained = false → s.bit SYS.CARRIER_STATUS.SEATED = true → s.partnerSeated = true →
      exec (.linkTrainingEnd l t) s = .next ((s.setLink l { s.link l with
        trained := true, latency := t, last := s.now, beatFrom := none }).sendHello).settle) ∧
    (∀ t : Fin 512, (s.link l).trained = true ∨ s.bit SYS.CARRIER_STATUS.SEATED = false ∨ s.partnerSeated = false →
      exec (.linkTrainingEnd l t) s = .next s.settle) ∧
    ((s.link l).trained = true → (s.link l).up = false → s.linkSteady l = true → ∃ x : State, exec (.ranselLinkUp l) s = .next x.settle ∧
      (x.link l).up = true ∧ x.par.linkLostAt = none ∧ x.rng.evq = s.rng.evq ++ [⟨161, l + 2, true⟩]) ∧
    ((s.link l).trained = false ∨ (s.link l).up = true ∨ s.linkSteady l = false → exec (.ranselLinkUp l) s = .next s.settle) ∧
    ((s.link l).up = true → (s.link (1 - l)).up = true → ∃ x : State, exec (.ranselLinkDown l true) s = .next x.settle ∧
      (x.link l).up = false ∧ (x.link l).trained = false ∧ x.rng.evq = s.rng.evq ++ [⟨161, l, true⟩]) ∧
    ((s.link l).up = true → (s.link (1 - l)).up = false → s.pairState = 3 → s.hasWitness = false →
      ∃ x : State, exec (.ranselLinkDown l true) s = .next x.settle ∧ x.linksDown = true ∧ x.pairState = 4 ∧
        x.get PAR.STATUS.UNTETHER_REASON = 1 ∧ x.par.linkLostAt = some s.now) ∧
    ((s.link l).last + s.get PAR.TIMING.LINK_LOSS * 200 ≤ s.now → exec (.ranselLinkDown l false) s = exec (.ranselLinkDown l true) s) ∧
    (s.now < (s.link l).last + s.get PAR.TIMING.LINK_LOSS * 200 → exec (.ranselLinkDown l false) s = .next s.settle) ∧
    (s.par.lastSent + 200 ≤ s.now → exec .heartbeatSend s = .next s.heartbeat.settle) ∧
    (s.now < s.par.lastSent + 200 → exec .heartbeatSend s = .next s.settle) ∧
    (∀ t a as, s.par.gapAt = some t → s.par.ahead = a :: as → t + 400 ≤ s.now → s.par.nakAt = none → s.vot.presented = [] →
      ∃ x : State, exec .seqMissing s = .next x.settle ∧ x.par.nakAt = some (s.par.recvSeq, s.now) ∧
        x.sent = s.sent ++ [.ransel 3 s.par.sendSeq (leBytes 4 s.par.recvSeq)]) ∧
    (∀ t a as q n, s.par.gapAt = some t → s.par.ahead = a :: as → t + 400 ≤ s.now → s.par.nakAt = some (q, n) → n + 1000 ≤ s.now →
      let y := State.untether { s with par := { s.par with recvSeq := a.1, gapAt := none, nakAt := none } } 3
      exec .seqMissing s = .next ((State.drainAhead 0 y.par.ahead.length y).afterAct.voteAll).settle)) ∧
  (∀ s : State,
    (∀ t, s.par.takebackAsked = none → s.par.eligibleSince = some t →
      t + max 1 (s.get PAR.TAKEBACK_HOLDOFF.SECONDS) * 200000000 ≤ s.now →
      exec .takebackHoldoffExpiry s = .next (((State.ransel { s with par := { s.par with takebackAsked := some s.now } } 0x41
        [1, 0, 0, 0]).post 171 1)).settle) ∧
    (∀ t, s.par.takebackAsked = some t → t + 18 * s.p0 ≤ s.now →
      exec .takebackHoldoffExpiry s = .next ((({ s with par := { s.par with
        takebackAsked := none, eligibleSince := some s.now } }).post 171 3).post 171 0).settle) ∧
    (∀ t, s.pairState = 1 → s.par.linkLostAt = some t → t + 1000000000 ≤ s.now → s.bit SYS.CARRIER_STATUS.TOKEN_PARTNER_LIVE = false →
      (s.hasWitness = false → s.isHome = true → s.bit SYS.CARRIER_STATUS.SLOT_FAULT = false →
        ∃ x : State, exec .joiningLinkTimeout s = .next x.settle ∧ x.pairState = 0 ∧ x.par.ownEpoch = s.nextEpoch) ∧
      (s.hasWitness = true →
        exec .joiningLinkTimeout s = .next (State.requestEpoch { s with par := { s.par with aloneAsked := true } }).settle)) ∧
    (∃ x : State, exec .divergenceHourExpiry s = .next x.settle ∧
      x.par.divs = s.par.divs.filter fun d => decide (s.now < d.2 + 3600 * 200000000)) ∧
    ((∀ d ∈ s.par.divs, d.2 + 3600 * 200000000 ≤ s.now) →
      ∃ x : State, exec .divergenceHourExpiry s = .next x.settle ∧ x.par.divs = [] ∧ x.get PAR.DIVERGENCE.BLOCK_HOUR = 0))

/-- R365, R366, R368, R376, R381. Answers of the witness that pass their checks: RENEW_ACK to a renewal holds the lease until its send tick
plus its LEASE_TICKS; EPOCH_GRANT to the start of a lone unit makes it drive with the granted epoch; REFUSE untethers a trail
with reason 1. A frame that fails a check is discarded and counted, on a crossing as a discard of the crossing too (R187).

R365, R369. This unit as witness of a pair: a RENEW of the holder with the current epoch extends its lease and is acknowledged; an
EPOCH_REQUEST while no lease runs is granted, one while another unit's lease runs waits for its end, when the first pending
request is granted.

R366 to R368. The clocks of the lease: a renewal each LEASE / 4 of a driving unit, a probe each millisecond of another, the lapse of
the lease, the loss of the witness, and the untethered trail's second request.

Completion is stated for RENEW_ACK, EPOCH_GRANT, REFUSE, RENEW, EPOCH_REQUEST, WITNESS_LEASE_EXPIRY, LEASE_RENEWAL_DUE,
WITNESS_PROBE, LEASE_LAPSED, WITNESS_CHANGE and UNTETHERED_SILENCE_EXPIRY. -/
def Obligations.WitnessProtocol : Prop :=
  (∀ (s : State) (port : Fin 6) (f : List Nat),
    (s.answerGood port f = true →
      (∀ t k, leaseOp f = 2 → s.par.openRequest = none → s.par.openRenews = [(leaseNonce f, t, k)] → k ≠ 0 → s.isDriving = true →
        s.par.leaseEnd ≤ t + k → s.now < t + k → leaseEpoch f ≤ s.par.ownEpoch →
        ∃ x : State, exec (.renewAck port f) s = .next x.settle ∧ x.par.leaseEnd = t + k ∧ x.bit PAR.STATUS.LEASE_HELD = true ∧
          x.bit PAR.STATUS.WITNESS_REACHABLE = true) ∧
      (let y : State := { s with par := { s.par with
          witnessSeq := some (ucpSeq f), openRenews := s.par.openRenews.filter fun r => r.1 != leaseNonce f } };
        (∀ n t k, leaseOp f = 2 → s.par.openRequest ≠ some (leaseNonce f) →
          s.par.openRenews.find? (fun r => r.1 == leaseNonce f) = some (n, t, k) →
          exec (.renewAck port f) s = .next ((y.witnessHeard.renewAcked t k).epochAbove (leaseEpoch f)).settle) ∧
        (s.par.openRequest = some (leaseNonce f) →
          (leaseOp f = 2 → exec (.renewAck port f) s = .next (y.witnessHeard.granted (leaseEpoch f)).settle) ∧
          (leaseOp f = 4 → exec (.epochGrant port f) s = .next (y.witnessHeard.granted (leaseEpoch f)).settle) ∧
          (leaseOp f = 5 → exec (.refuse port f) s = .next (y.witnessHeard.refused.epochAbove (leaseEpoch f)).settle))) ∧
      (s.par.openRequest = some (leaseNonce f) →
        (leaseOp f = 4 → s.par.aloneAsked = true → s.isDriving = false → s.bit SYS.CARRIER_STATUS.SLOT_FAULT = false →
          ∃ x : State, exec (.epochGrant port f) s = .next x.settle ∧ x.pairState = 0 ∧ x.par.ownEpoch = leaseEpoch f ∧
            x.par.openRequest = none) ∧
        (leaseOp f = 5 → s.pairState = 3 →
          ∃ x : State, exec (.refuse port f) s = .next x.settle ∧ x.pairState = 4 ∧ x.get PAR.STATUS.UNTETHER_REASON = 1 ∧
            x.par.openRequest = none ∧ x.par.refusedAt = s.now))) ∧
    (s.domOn 4 = true → headerOk f = false → ∀ i ∈ [Instr.renewAck port f, .epochGrant port f, .refuse port f, .renew port f,
      .epochRequest port f], exec i s = .next (s.leaseBad port).settle ∧ (4 ≤ port.val ∨ s.crossOn port = false →
        exec i s = .next (State.settle { s with par := { s.par with leaseDiscards := s.par.leaseDiscards + 1 } }))) ∧
    (s.domOn 4 = true → beAt f 12 2 = s.get FLD.ETHERTYPE.VALUE → f.getD 15 0 = 3 → headerOk f = true → ucpLength f = 40 →
      leaseOp f ≠ 1 → leaseOp f ≠ 3 → s.leaseAuthOk f = false → ∀ i ∈ [Instr.renewAck port f, .epochGrant port f, .refuse port f],
        exec i s = .next (State.settle { s with par := { s.par with leaseDiscards := s.par.leaseDiscards + 1 } }))) ∧
  (∀ (s : State) (port : Fin 6) (f : List Nat) (w : WitnessEntry),
    let w' := { w with lastSeq := Sparse.insert w.lastSeq (leaseUnit f) (ucpSeq f) }
    let r : WitnessReq := ⟨leaseUnit f, leaseEpoch f, leaseTicksOf f, leaseNonce f, port, ucpMac f⟩
    (s.requestGood f w = true → s.par.witnessFor.find? (fun x => x.carrier == leaseCarrier f) = some w →
      (leaseOp f = 1 → exec (.renew port f) s = .next ((s.putWitness w').witnessRenew w' r).settle) ∧
      (leaseOp f = 3 → exec (.epochRequest port f) s = .next ((s.putWitness w').witnessRequest w' r).settle)) ∧
    (s.par.witnessFor = [w] →
      (s.requestGood f w = true →
        (leaseOp f = 1 → 0 < leaseTicksOf f → leaseEpoch f = w.epoch → w.holder = some (leaseUnit f) → w.pend = [] →
          ∃ x : State, exec (.renew port f) s = .next x.settle ∧
            x.par.witnessFor = [{ w' with expiry := s.now + leaseTicksOf f, pend := [] }]) ∧
        (leaseOp f = 3 → w.expiry ≤ s.now →
          exec (.epochRequest port f) s = .next (((s.putWitness w').witnessGrant w' r)).settle) ∧
        (leaseOp f = 3 → s.now < w.expiry → w.holder ≠ some (leaseUnit f) → w.pend = [] →
          ∃ x : State, exec (.epochRequest port f) s = .next x.settle ∧ x.par.witnessFor = [{ w' with pend := [r] }] ∧
            x.sent = s.sent)) ∧
      (∀ q qs, w.pend = q :: qs → s.isDriving = true → w.expiry ≤ s.now →
        exec (.witnessLeaseExpiry 0) s = .next (s.witnessGrant w q).settle))) ∧
  (∀ (s : State) (i : Fin 8) w q qs, s.par.witnessFor[i.val]? = some w → w.pend = q :: qs → s.isDriving = true →
    (w.expiry ≤ s.now → exec (.witnessLeaseExpiry i) s = .next (s.witnessGrant w q).settle) ∧
    (s.now < w.expiry → exec (.witnessLeaseExpiry i) s = .next s.settle)) ∧
  (∀ s : State,
    (s.hasWitness = true → s.domOn 4 = true → s.par.renewAt = none → s.isDriving = true → s.par.openRenews = [] →
      ∃ x : State, exec .leaseRenewalDue s = .next x.settle ∧ x.par.renewAt = some s.now ∧
        x.par.openRenews = [((s.par.nonce + 1) % 2 ^ 32, s.now, s.leaseTicks)] ∧ x.sent.length = s.sent.length + 1) ∧
    (s.hasWitness = true → s.isDriving = true → (∀ t, s.par.renewAt = some t → t + s.get PAR.LEASE.TICKS / 4 ≤ s.now) →
      let y := s.renew s.leaseTicks
      exec .leaseRenewalDue s = .next (State.settle { y with par := { y.par with
        renewAt := some s.now, openRenews := y.par.openRenews.drop (y.par.openRenews.length - 16) } })) ∧
    (s.hasWitness = true → s.domOn 4 = true → s.par.probeAt = none → s.isDriving = false → s.par.openRenews = [] →
      s.par.aloneAsked = false → ∃ x : State, exec .witnessProbe s = .next x.settle ∧ x.par.probeAt = some s.now ∧
        x.par.openRenews = [((s.par.nonce + 1) % 2 ^ 32, s.now, 0)] ∧ x.sent.length = s.sent.length + 1) ∧
    (s.hasWitness = true → s.isDriving = false → s.par.aloneAsked = false → (∀ t, s.par.probeAt = some t → t + 200000 ≤ s.now) →
      let y := s.toWitness 1 (s.get PAR.EPOCH.EPOCH) 0
      exec .witnessProbe s = .next (State.settle { y with par := { y.par with
        probeAt := some s.now, openRenews := y.par.openRenews.drop (y.par.openRenews.length - 16) } })) ∧
    (s.bit PAR.STATUS.LEASE_HELD = true → s.par.leaseEnd ≤ s.now →
      (s.isDriving = true → exec .leaseLapsed s = .next ((s.set PAR.STATUS.LEASE_HELD 0).post 163 s.par.ownEpoch).settle) ∧
      (s.isDriving = false → exec .leaseLapsed s = .next (s.set PAR.STATUS.LEASE_HELD 0).settle)) ∧
    (s.bit PAR.STATUS.WITNESS_REACHABLE = true →
      (s.par.answers = none → exec .witnessChange s = .next ((s.set PAR.STATUS.WITNESS_REACHABLE 0).post 162 0).settle) ∧
      (∀ t, s.par.answers = some t → t + 4 * s.leaseInterval ≤ s.now →
        exec .witnessChange s = .next ((s.set PAR.STATUS.WITNESS_REACHABLE 0).post 162 0).settle) ∧
      (∀ t, s.par.answers = some t → s.now < t + 4 * s.leaseInterval → exec .witnessChange s = .next s.settle)) ∧
    (s.pairState = 4 → s.bit PAR.CFG.UNTETHERED_TAKEOVER = true → s.mayRequest = true → s.domOn 4 = true →
      max (max s.par.evidenceTick s.par.lastMsg) s.par.refusedAt + max 100 (s.get PAR.UNTETHERED_SILENCE.US) * 200 ≤ s.now →
      ∃ x : State, exec .untetheredSilenceExpiry s = .next x.settle ∧
        x.par.openRequest = some ((s.par.nonce + 1) % 2 ^ 32) ∧ x.bit PAR.STATUS.REQUEST_PENDING = true))

/-- R375, R379, R381, R382. PAR.CMD of an ENGINEER: HANDOVER waits with PENDING set, or is refused with the reason of R379; GO_OUT
takes the unit OUT, and is refused to one that is OUT; REJOIN of an OUT unit beside a seated partner joins, of one alone in
its carrier starts it as ALONE, and is refused to any other; CLEAR_DIVERGENCE zeroes the count; a reserved operation is
refused with reason 5, any operation without privilege with reason 1. A write of STREAM_MAX clears it.

Completion is stated for PAR_HANDOVER, GO_OUT, REJOIN, CLEAR_DIVERGENCE, PAR_CMD_RESERVED and STREAM_MAX_CLEAR. -/
def Obligations.PairCommands : Prop :=
  ∀ (s : State) (init : Fin 22) (x : Fin 65536),
    (s.handoverReason = 0 → ∃ t : State, exec (.parHandover init 1 x) s = .next t.settle ∧
      t.bit PAR.CMD_STATUS.PENDING = true ∧ t.par.cmd = some (originOf init, 1, x.val) ∧
      t.par.handover.map (fun h => (h.due, h.epoch, h.cause)) = some (s.cycle + 1, s.par.ownEpoch + 1, 0)) ∧
    (s.handoverReason ≠ 0 → exec (.parHandover init 1 x) s = .next (s.parEnd 1 0x60 s.handoverReason (originOf init) 1 x).settle) ∧
    (s.pairState ≠ 5 → ∃ t : State, exec (.goOut init 1 x) s = .next t.settle ∧ t.pairState = 5 ∧
      t.get PAR.STATUS.TOKEN_RAISED = 0 ∧ t.get PAR.CMD_STATUS.STATUS = 0) ∧
    (s.pairState = 5 → exec (.goOut init 1 x) s = .next (s.parEnd 2 0x60 2 (originOf init) 1 x).settle) ∧
    (s.pairState = 5 → s.bit SYS.CARRIER_STATUS.SLOT_FAULT = false → s.partnerSeated = true →
      ∃ t : State, exec (.rejoin init 1 x) s = .next t.settle ∧ t.pairState = 1 ∧ t.get PAR.CMD_STATUS.STATUS = 0) ∧
    (s.pairState = 5 → s.bit SYS.CARRIER_STATUS.SLOT_FAULT = false → s.partnerSeated = false → s.hasWitness = false →
      ∃ t : State, exec (.rejoin init 1 x) s = .next t.settle ∧ t.pairState = 0 ∧ t.par.ownEpoch = s.nextEpoch ∧
        t.get PAR.CMD_STATUS.STATUS = 0) ∧
    (s.pairState ≠ 5 → exec (.rejoin init 1 x) s = .next (s.parEnd 3 0x60 2 (originOf init) 1 x).settle) ∧
    exec (.clearDivergence init 1 x) s = .next ((s.set PAR.DIVERGENCE.COUNT 0).parEnd 4 0 0 (originOf init) 1 x).settle ∧
    (∀ (op : Fin 11) (priv : Fin 8), exec (.parCmdReserved init priv x op) s = .next
      (s.parEnd (5 + op) 0x60 5 (originOf init) priv x).settle) ∧
    (∀ priv : Fin 8, priv ≠ 1 → ∀ p ∈ [(1, Instr.parHandover init priv x), (2, .goOut init priv x), (3, .rejoin init priv x),
      (4, .clearDivergence init priv x)], exec p.2 s = .next (s.parEnd p.1 0x60 1 (originOf init) priv x).settle) ∧
    exec .streamMaxClear s = .next (s.set PAR.STREAM_MAX.BYTES 0).settle

/-! ## Protection, arbiters, locks (spec/12) -/

/-- R392 to R395. A commit that passes its check makes the shadows of its level active, advances the level's epoch and starts the drain,
with BUSY set; one under a drain is refused with cause 3 and one with a misplaced region with cause 2, and the active table
stays; a drain that no old access holds ends and reports.

R85, R398 to R400, R403, R405. Arbiters: the transaction in service ends once it has had its time, gives its tag back, and the one
chosen before it is served; a window starts with every mask lifted; refresh takes an idle DRAM port for 70 ticks, and is the next
to be served at a busy one; a write of PEAK_WAIT clears it.

Completion is stated for COMMIT_L0, COMMIT_L1, PRT_CMD_RESERVED, PRT_DRAIN_COMPLETE, ENFORCE, ARBITER_GRANT,
QUOTA_WINDOW_START, PEAK_WAIT_CLEAR and DRAM_REFRESH. -/
def Obligations.ProtectionAndArbiters : Prop :=
  (∀ (s : State) (init : Fin 22),
    (s.bit PRT.CMD_STATUS.BUSY = false →
      (s.enabledRegions.find? (fun r => !s.regionFits r) = none → s.overlapPair = none →
        ∃ x : State, exec (.commitL0 init) s = .next x.settle ∧ x.prtActive = (s.swapIn isLevel0).prtActive ∧
          x.get PRT.RULE_EPOCH.L0 = (s.get PRT.RULE_EPOCH.L0 + 1) % 2 ^ PRT.RULE_EPOCH.L0.w ∧ x.bit PRT.CMD_STATUS.BUSY = true ∧
          x.fab.drain.map (fun d => (d.level, d.start)) = some (0, s.now) ∧ x.mem = s.mem) ∧
      (∀ r, s.enabledRegions.find? (fun r => !s.regionFits r) = some r →
        ∃ x : State, exec (.commitL0 init) s = .next x.settle ∧ x.prtActive = s.prtActive ∧ x.get PRT.CMD_STATUS.STATUS = 0x60 ∧
          x.get PRT.CMD_STATUS.CAUSE = 2) ∧
      (∀ a b, s.enabledRegions.find? (fun r => !s.regionFits r) = none → s.overlapPair = some (a, b) →
        exec (.commitL0 init) s = .next (((s.set PRT.OVERLAP.REGION_A a).set PRT.OVERLAP.REGION_B b).prtRefuse init 1 0 1).settle) ∧
      (∀ i < 22, (s.get PRT.CMD_MASK.INITIATORS).testBit i = true → s.rulesFit i = false →
        exec (.commitL1 init) s = .next (s.prtRefuse init 2 1 2).settle) ∧
      ((∀ i < 22, (s.get PRT.CMD_MASK.INITIATORS).testBit i = true → s.rulesFit i = true) →
        ∃ x : State, exec (.commitL1 init) s = .next x.settle ∧ x.bit PRT.CMD_STATUS.BUSY = true ∧
          x.get PRT.RULE_EPOCH.L1 = (s.get PRT.RULE_EPOCH.L1 + 1) % 2 ^ PRT.RULE_EPOCH.L1.w ∧
          x.fab.drain.map (fun d => (d.level, d.start)) = some (1, s.now) ∧ x.mem = s.mem) ∧
      exec (.prtCmdReserved init) s = .next (s.prtRefuse init 3 0 4).settle) ∧
    (s.bit PRT.CMD_STATUS.BUSY = true →
      exec (.commitL0 init) s = .next (s.prtRefuse init 1 0 3).settle ∧
      exec (.commitL1 init) s = .next (s.prtRefuse init 2 1 3).settle ∧
      exec (.prtCmdReserved init) s = .next (s.prtRefuse init 3 0 3).settle) ∧
    (∀ d, s.fab.drain = some d → s.oldInFlight d = false →
      ∃ x : State, exec .prtDrainComplete s = .next x.settle ∧ x.fab.drain = none ∧ x.bit PRT.CMD_STATUS.BUSY = false ∧
        x.get PRT.CMD_STATUS.STATUS = 0 ∧ x.rng.evq = s.rng.evq ++ [⟨209, d.level % 2 ^ 32, true⟩]) ∧
    ((∀ d, s.fab.drain = some d → s.oldInFlight d = true) → exec .prtDrainComplete s = .next s.settle) ∧
    exec .enforce s = .next (s.set PRT.CTRL.ENFORCE 1).settle) ∧
  (∀ s : State,
    (∀ (t : Fin 10) y f, s.arb t = { inService := some (y, f) } → f ≤ s.now →
      (y.ring = none → exec (.arbiterGrant t) s = .next (s.setArb t {}).settle) ∧
      (∀ n, y.ring = some n → exec (.arbiterGrant t) s = .next ((s.giveTag n).setArb t {}).settle)) ∧
    (∀ t : Fin 10, (∀ y f, (s.arb t).inService = some (y, f) → s.now < f) → exec (.arbiterGrant t) s = .next s.settle) ∧
    (∀ t : Fin 10, exec (.peakWaitClear t) s = .next (s.set (ARB.TARGET_PEAK_WAIT.TICKS t) 0).settle) ∧
    (∀ (t : Fin 10) (x y : Txn) (f : Nat), s.arb t = { inService := some (y, f), chosen := some x } → f ≤ s.now → x.init < 4 →
      ∃ z : State, exec (.arbiterGrant t) s = .next z.settle ∧
        z.arb t = { inService := some (x, s.now + occupancy t x) }) ∧
    (s.now % s.get ARB.WINDOW.TICKS = 0 → ∃ x : State, exec .quotaWindowStart s = .next x.settle ∧
      ∀ p ∈ x.fab.arbs, p.2.masked = [] ∧ p.2.grants = []) ∧
    (s.now % s.get ARB.WINDOW.TICKS ≠ 0 → exec .quotaWindowStart s = .next s.settle) ∧
    (∀ y f, (s.arb 9).inService = some (y, f) → ∃ x : State, exec .dramRefresh s = .next x.settle ∧
      (x.arb 9).inService = some (y, f) ∧ (x.arb 9).chosen.map (·.init) = some 32 ∧
      (x.arb 9).waiting = (s.arb 9).chosen.toList ++ (s.arb 9).waiting) ∧
    ((s.arb 9).inService = none → ∃ x : State, exec .dramRefresh s = .next x.settle ∧
      (x.arb 9).inService.map (fun p => (p.1.init, p.2)) = some (32, s.now + 70)))

/-- R399. The order in which an arbiter serves is strict and total on transactions that differ in deadline, initiator or presentation. -/
def Obligations.ServiceOrder : Prop :=
  (∀ x : Txn, x.before x = false) ∧
  (∀ x y z : Txn, x.before y = true → y.before z = true → x.before z = true) ∧
  (∀ x y : Txn, (x.deadline, x.init, x.arrival) ≠ (y.deadline, y.init, y.arrival) → x.before y = !y.before x) ∧
  (∀ (a : Arbiter) (x : Txn), a.masked = [] → a.pick = some x → x ∈ a.waiting ∧ ∀ y ∈ a.waiting, y.before x = false)

/-- R406 to R410. The lock unit: TRY and WAIT of a free lock acquire it; TRY of a held lock is refused; WAIT of one whose owner waits for
nothing joins its queue; RELEASE by the owner frees a lock that nobody waits for; CANCEL ends a wait; LOCK_BREAK frees it as
broken; LOCK_HOLD tells once that a hold is too long; a requester of ID 8 or more is only counted. A released lock passes to its
first waiter; a WAIT of a requester that waits already, and a CANCEL of one that does not wait, are refused; a WAIT for one's own
lock is a deadlock. R411: on a trail, initiator 0 takes what the lead's LOCK messages say.

R406, R409, R410. LCK.RESULT shows a reader its own result; LOCK_BREAK releases a lock as broken; LOCK_HOLD tells a hold past its limit.

Completion is stated for TRY, WAIT, LOCK_RELEASE, CANCEL, LOCK_RESULT_READ, LOCK_BREAK and LOCK_HOLD. -/
def Obligations.LockUnit : Prop :=
  (∀ (s : State) (l : Fin 64),
    (∀ i : Fin 22, i.val < 8 → (i.val = 0 → s.isTrail = false) →
      (s.lockHeld l = false → ∃ x : State, exec (.lckTry i l) s = .next x.settle ∧ x.lockOwner l = some i.val ∧
        (x.lockResult i).status = (if s.bit (LCK.LOCK_STATUS.BROKEN l) then 0x51 else 0)) ∧
      (s.lockHeld l = true → exec (.lckTry i l) s = .next (s.verdict i l 0x60 1).settle) ∧
      (s.lockHeld l = false → s.waitsFor i = none → ∃ x : State, exec (.lckWait i l) s = .next x.settle ∧
        x.lockOwner l = some i.val) ∧
      (∀ o, s.lockOwner l = some o → o ≠ i.val → s.waitsFor i = none → s.waitsFor o = none →
        ∃ x : State, exec (.lckWait i l) s = .next x.settle ∧ x.lockOwner l = some o ∧
          (x.lockRt l).waiters = (s.lockRt l).waiters ++ [i.val] ∧ (x.lockResult i).waiting = true) ∧
      (s.lockOwner l = some i.val → (s.lockRt l).waiters = [] → ∃ x : State, exec (.lockRelease i l) s = .next x.settle ∧
        x.lockHeld l = false ∧ x.bit (LCK.LOCK_STATUS.BROKEN l) = false ∧ (x.lockResult i).status = 0) ∧
      (s.lockOwner l ≠ some i.val → exec (.lockRelease i l) s = .next (s.verdict i l 0x60 3).settle) ∧
      (∀ k, s.waitsFor i = some k → ∃ x : State, exec (.cancel i l) s = .next x.settle ∧ x.waitsFor i = none ∧
        (x.lockResult i).status = 0) ∧
      (s.lockOwner l = some i.val → ∀ j js, (s.lockRt l).waiters = j :: js → j ≠ 0 → j < 8 → j ≠ i.val →
        ∃ x : State, exec (.lockRelease i l) s = .next x.settle ∧ x.lockOwner l = some j ∧ (x.lockResult j).status = 0 ∧
          (x.lockResult i).status = 0) ∧
      (∀ k, s.waitsFor i = some k → exec (.lckWait i l) s = .next (s.verdict i l 0x60 2).settle) ∧
      (s.waitsFor i = none → exec (.cancel i l) s = .next (s.verdict i l 0x60 4).settle) ∧
      (s.waitsFor i = none → s.lockOwner l = some i.val → exec (.lckWait i l) s = .next (s.deadlock i l).settle)) ∧
    (s.isTrail = true → ∀ p ∈ [(0, Instr.lckTry 0 l), (1, .lckWait 0 l), (2, .lockRelease 0 l), (3, .cancel 0 l)],
      exec p.2 s = .next (s.lockFollowed p.1 l).settle) ∧
    (∀ i : Fin 22, 8 ≤ i.val → ∀ c ∈ [Instr.lckTry i l, .lckWait i l, .lockRelease i l, .cancel i l],
      exec c s = .next (s.bump LCK.COUNTS.FOREIGN).settle)) ∧
  (∀ (s : State) (l : Fin 64),
    (∀ i : Fin 22, exec (.lockResultRead i) s = .next ((((s.set LCK.RESULT.STATUS (s.lockResult i).status).set LCK.RESULT.REASON
      (s.lockResult i).reason).set LCK.RESULT.LOCK (s.lockResult i).lock).setB LCK.RESULT.WAITING (s.lockResult i).waiting).settle) ∧
    (s.lockHeld l = false → exec (.lockBreak l) s = .next s.settle ∧ exec (.lockHold l) s = .next s.settle) ∧
    (∀ o, s.lockOwner l = some o → (s.lockRt l).waiters = [] → ∃ x : State, exec (.lockBreak l) s = .next x.settle ∧
      x.lockHeld l = false ∧ x.bit (LCK.LOCK_STATUS.BROKEN l) = true ∧
      x.rng.evq = s.rng.evq ++ [⟨218, (l + 256 * o) % 2 ^ 32, true⟩]) ∧
    (∀ o i is, s.lockOwner l = some o → (s.lockRt l).waiters = i :: is → i < 8 → (i = 0 → s.isTrail = false) →
      ∃ x : State, exec (.lockBreak l) s = .next x.settle ∧ x.lockOwner l = some i ∧ (x.lockResult i).status = 0x51) ∧
    (∀ o, s.lockOwner l = some o → s.get (LCK.LOCK_HOLD_LIMIT.US l) ≠ 0 → s.bit (LCK.LOCK_STATUS.HOLD_EXCEEDED l) = false →
      (s.lockRt l).since + s.get (LCK.LOCK_HOLD_LIMIT.US l) * 200 < s.now →
      exec (.lockHold l) s = .next ((s.set (LCK.LOCK_STATUS.HOLD_EXCEEDED l) 1).post 217 (l + 256 * o)).settle))

/-! ## Time and plant ports (spec/13) -/

/-- R416, R417, R419 to R421, R424, R429. Plant time: a commit of the increment is clamped and waits for the third boundary; SET and STEP of
an ENGINEER on a driving unit in STOP wait for it too; a read of PT_LO shows one sample; no commit for HOLDOVER_TIME tells;
a Delay_Req on a crossing that this clock masters is answered. SET and STEP are refused with reason 1 without privilege, 2 on a unit
that does not drive, 3 in RUN.

R432, R433, R437. Compare and capture units: a unit is armed, LATE where its target has passed; an armed one at its target fires and,
without a period, disarms; a capture latches tick and plant time under its next SEQ; a read of the low tick freezes the rest.

Completion is stated for INC_COMMIT, SET, STEP, TIM_CMD_RESERVED, PT_LO_READ, HOLDOVER, DELAY_REQ, COMPARE_ARM,
COMPARE_DISARM, TIME_COMPARE, TIME_CAPTURE and CAP_TICK_LO_READ. -/
def Obligations.TimeUnit : Prop :=
  (∀ s : State,
    (s.bit TIM.STATUS.PAIR_FOLLOW = true → exec .incCommit s = .next s.settle) ∧
    (s.bit TIM.STATUS.PAIR_FOLLOW = false → ∃ x : State, exec .incCommit s = .next x.settle ∧ x.bit TIM.INC_HI.PENDING = true ∧
      x.tim.pend = some (s.cycle + 3, clampInc (s.get TIM.INC_LO.FRAC + s.get TIM.INC_HI.NS * 2 ^ 32)) ∧
      x.tim.lastCommit = s.now ∧ x.bit TIM.STATUS.HOLDOVER = false ∧ x.plant = s.plant) ∧
    (∀ (init : Fin 22) (ss : Fin 65536),
      (s.isDriving = true → s.inRun = false →
        ∀ p ∈ [(1, Instr.timSet init 1 ss), (2, .timStep init 1 ss)], ∃ x : State, exec p.2 s = .next x.settle ∧
          x.tim.cmd = some ⟨s.cycle + 3, p.1, s.get2 TIM.SET_LO.VALUE TIM.SET_HI.VALUE, originOf init, ss⟩ ∧
          x.bit TIM.CMD_STATUS.PENDING = true ∧ x.plant = s.plant) ∧
      (∀ priv : Fin 8, ∀ p ∈ [(1, Instr.timSet init priv ss), (2, .timStep init priv ss)], ∀ r : Nat,
        r = (if priv ≠ 1 then 1 else if s.isDriving = false then 2 else if s.inRun = true then 3 else 0) → r ≠ 0 →
        exec p.2 s = .next ((s.timStatus 0x60 r s.tim.cmd.isSome).recordCommand 19 p.1 0 0x60 r (originOf init) priv ss).settle) ∧
      (init.val < 8 → ∃ x : State, exec (.ptLoRead init) s = .next x.settle ∧ Sparse.find x.tim.latches init = some s.ptSample) ∧
      (∀ priv : Fin 8, exec (.timCmdReserved init priv ss) s = .next
        ((s.timStatus 0x60 4 s.tim.cmd.isSome).recordCommand 19 3 0 0x60 4 (originOf init) priv ss).settle) ∧
      (∃ x : State, exec (.ptLoRead init) s = .next x.settle ∧ x.get TIM.PT_LO.NS = bitsOf s.plant 32 32 ∧
        x.get TIM.PT_HI.NS = bitsOf s.plant 64 32 ∧ x.get TIM.PT_FRAC.FRAC = bitsOf s.plant 0 32 ∧
        x.get TIM.SNAP_TICK_LO.TICK = bitsOf s.now 0 32 ∧ x.get TIM.SNAP_TICK_HI.TICK = bitsOf s.now 32 32)) ∧
    (s.bit TIM.STATUS.HOLDOVER = false → s.tim.lastCommit + s.get TIM.HOLDOVER_TIME.MS * 200000 ≤ s.now →
      exec .holdover s = .next ((s.set TIM.STATUS.HOLDOVER 1).post 179 1).settle) ∧
    (s.now < s.tim.lastCommit + s.get TIM.HOLDOVER_TIME.MS * 200000 → exec .holdover s = .next s.settle) ∧
    (∀ (c : Fin 4) (q : Fin 65536) (w : Nat), s.timedMaster c = true → s.crossOn c = true → exec (.delayReq c q w) s = .next
      (s.send (.ptp c 9 [s.car.carrierId, s.ptpPort c, s.get TIM.CFG.DOMAIN, q, s.plant / 2 ^ 32, w])).settle)) ∧
  (∀ s : State,
    (∀ u : Fin 8,
      (∃ x : State, exec (.compareArm u) s = .next x.settle ∧ x.bit (TIM.CMP_STATUS.ARMED u) = true ∧
        (0 < s.pastTarget u → x.bit (TIM.CMP_STATUS.LATE u) = true)) ∧
      exec (.compareDisarm u) s = .next (s.set (TIM.CMP_STATUS.ARMED u) 0).settle ∧
      (s.bit (TIM.CMP_STATUS.ARMED u) = false ∨ s.pastTarget u < 0 → exec (.timeCompare u) s = .next s.settle) ∧
      (s.bit (TIM.CMP_STATUS.ARMED u) = true → 0 ≤ s.pastTarget u →
        ∃ x : State, exec (.timeCompare u) s = .next x.settle ∧ x.get (TIM.CMP_FIRE_TICK.TICK u) = s.now % 2 ^ 32 ∧
          (s.get (TIM.CMP_PERIOD.TICKS u) = 0 → x.bit (TIM.CMP_STATUS.ARMED u) = false) ∧
          (s.get (TIM.CMP_PERIOD.TICKS u) ≠ 0 → x.bit (TIM.CMP_STATUS.ARMED u) = true ∧ x.get (TIM.CMP_TARGET.TICK u) =
            (s.get (TIM.CMP_TARGET.TICK u) + s.get (TIM.CMP_PERIOD.TICKS u)) % 2 ^ 32))) ∧
    (∀ u : Fin 4,
      (s.captureSignal (s.get (TIM.CAP_CFG.SELECT u)) (s.get2 (TIM.CAP_TICK_LO.TICK u) (TIM.CAP_TICK_HI.TICK u)) = true →
        ∃ x : State, exec (.timeCapture u) s = .next x.settle ∧
          x.get2 (TIM.CAP_TICK_LO.TICK u) (TIM.CAP_TICK_HI.TICK u) = s.now ∧
          x.get2 (TIM.CAP_PT_LO.NS u) (TIM.CAP_PT_HI.NS u) = s.plant / 2 ^ 32 % 2 ^ 64 ∧
          x.get (TIM.CAP_STATUS.SEQ u) = (s.get (TIM.CAP_STATUS.SEQ u) + 1) % 2 ^ (TIM.CAP_STATUS.SEQ u).w ∧
          u.val ∈ x.tim.unread) ∧
      (s.captureSignal (s.get (TIM.CAP_CFG.SELECT u)) (s.get2 (TIM.CAP_TICK_LO.TICK u) (TIM.CAP_TICK_HI.TICK u)) = false → exec (.timeCapture u) s = .next s.settle) ∧
      (∃ x : State, exec (.capTickLoRead u) s = .next x.settle ∧ ¬ u.val ∈ x.tim.unread ∧
        Sparse.find x.tim.frozen u = some [s.get (TIM.CAP_TICK_HI.TICK u), s.get (TIM.CAP_PT_LO.NS u), s.get (TIM.CAP_PT_HI.NS u)])))

/-- R433. A capture unit with a selected signal latches the 64-bit tick and the plant time in ns, raises its 8-bit SEQ and asserts
source 177; a latch that replaces one not yet read raises OVERWRITES. -/
def Obligations.CaptureUnits : Prop :=
  ∀ (s : State) (u : Fin 4),
    s.captureSignal (s.get (TIM.CAP_CFG.SELECT u)) (s.get2 (TIM.CAP_TICK_LO.TICK u) (TIM.CAP_TICK_HI.TICK u)) = true →
    ∃ x : State, exec (.timeCapture u) s = .next x.settle ∧
      x.get2 (TIM.CAP_TICK_LO.TICK u) (TIM.CAP_TICK_HI.TICK u) = s.now ∧
      x.get2 (TIM.CAP_PT_LO.NS u) (TIM.CAP_PT_HI.NS u) = s.plant / 2 ^ 32 % 2 ^ 64 ∧
      x.get (TIM.CAP_STATUS.SEQ u) = (s.get (TIM.CAP_STATUS.SEQ u) + 1) % 256 ∧
      x.rng.evq = s.rng.evq ++ [⟨177, u + 256 * ((s.get (TIM.CAP_STATUS.SEQ u) + 1) % 256), true⟩] ∧
      (u.val ∈ s.tim.unread → x.get (TIM.CAP_STATUS.OVERWRITES u) = satAdd (s.get (TIM.CAP_STATUS.OVERWRITES u)) 1
        (2 ^ (TIM.CAP_STATUS.OVERWRITES u).w - 1) % 2 ^ (TIM.CAP_STATUS.OVERWRITES u).w) ∧
      (¬ u.val ∈ s.tim.unread → x.get (TIM.CAP_STATUS.OVERWRITES u) = s.get (TIM.CAP_STATUS.OVERWRITES u)) ∧
      u.val ∈ x.tim.unread

/-- R434, R435. Plant ports: LINK follows the line and asserts source 181; TRANSMIT sends the frame of its buffer and completes with its
length; RECEIVE waits for a frame; a frame addressed to the port with no RECEIVE posted is dropped and counted, one with a
wrong FCS only counted. A TRANSMIT or RECEIVE of a length out of range is BAD_DESCRIPTOR; a port that is not enabled takes nothing.

Completion is stated for PLN_LINK, PLN_TRANSMIT, PLN_RECEIVE and PLANT_FRAME_RECEIVED. -/
def Obligations.PlantPorts : Prop :=
  ∀ s : State,
    (∀ (p : Fin 2) (b : Bool), s.bit (PLN.PORT_STATUS.LINK p) = !b →
      exec (.plnLink p b) s = .next ((s.setB (PLN.PORT_STATUS.LINK p) b).post 181 (p + 2 * b2n b)).settle) ∧
    (∀ (p : Fin 2) (b : Bool), s.bit (PLN.PORT_STATUS.LINK p) = b → exec (.plnLink p b) s = .next s.settle) ∧
    (∀ (n : Fin 64) (d : Started), (s.offered n [11] 1 = some d → d.d.w1 < 60 ∨ 9212 < d.d.w1 →
        exec (.plnTransmit n) s = .next (s.finish d 0x10).settle) ∧
      (s.offered n [11] 1 = some d → 60 ≤ d.d.w1 → d.d.w1 ≤ 9212 → d.d.w4 = 0 → d.d.w5 = 0 →
        s.bit (PLN.PORT_CFG.ENABLE d.d.plnPort) = false → exec (.plnTransmit n) s = .next s.settle) ∧
      (s.offered n [11] 2 = some d → d.d.w1 < 80 ∨ 9228 < d.d.w1 → exec (.plnReceive n) s = .next (s.finish d 0x10).settle)) ∧
    (∀ (n : Fin 64) (d : Started) (s' : State) (f : List Nat), s.offered n [11] 1 = some d → 60 ≤ d.d.w1 → d.d.w1 ≤ 9212 →
      d.d.timestamp = false → d.d.oneStep = false → d.d.w4 = 0 → d.d.w5 = 0 → s.bit (PLN.PORT_CFG.ENABLE d.d.plnPort) = true →
      s.isTrail = false →
      s.readBuf (s.via 21 d) d.d.primary d.d.w1 = (s', f, none) →
      exec (.plnTransmit n) s = .next ((s'.send (.frame (4 + d.d.plnPort) f)).finish d 0 d.d.w1).settle) ∧
    (∀ (n : Fin 64) (d : Started), s.offered n [11] 2 = some d → 80 ≤ d.d.w1 → d.d.w1 ≤ 9228 → d.d.w4 = 0 → d.d.w5 = 0 →
      d.d.eflags ≤ 1 → exec (.plnReceive n) s = .next (s.accept d).settle) ∧
    (∀ (p : Fin 2) (ok : Bool) (f : List Nat), s.domOn 4 = false ∨ s.bit (PLN.PORT_CFG.ENABLE p) = false →
      exec (.plantFrameReceived p ok f) s = .next s.settle) ∧
    (∀ (p : Fin 2) (f : List Nat), s.domOn 4 = true → s.bit (PLN.PORT_CFG.ENABLE p) = true →
      exec (.plantFrameReceived p false f) s = .next (s.bump (PLN.PORT_FCS_ERRORS.COUNT p)).settle ∧
      (60 ≤ f.length → f.length ≤ 9212 → beAt f 12 2 ≠ 0x8808 → beAt f 12 2 ≠ s.get FLD.ETHERTYPE.VALUE →
        s.bit (PLN.PORT_CFG.PROMISC p) = true → s.rng.started = [] →
        exec (.plantFrameReceived p true f) s = .next (s.plnDrop p).settle) ∧
      (∀ d, 60 ≤ f.length → f.length ≤ 9212 → beAt f 12 2 ≠ 0x8808 → beAt f 12 2 ≠ s.get FLD.ETHERTYPE.VALUE →
        s.bit (PLN.PORT_CFG.PROMISC p) = true → s.plnTaker p (ptpAt f).isSome = some d →
        exec (.plantFrameReceived p true f) s = .next (s.plnFill d f).settle))

/-! ## CAN (spec/14) -/

/-- R441, R446, R447, R450. A channel is enabled where its timing is in rule; a TRANSMIT that breaks no rule queues its frame in its
buffer, and here, with the bus busy, it waits; a RECEIVE waits for a frame; a matrix that passes waits for its basic cycle, and one that
fails ends BAD_DESCRIPTOR with the failing check. Timing out of rule leaves CFG_ERR.

Completion is stated for CAN_CHANNEL_ENABLE, CAN_TRANSMIT, CAN_RECEIVE and SCHEDULE_LOAD. -/
def Obligations.CanCommands : Prop :=
  ∀ s : State,
    (∀ c : Fin 2, s.bit (CAN.CH_CFG.ENABLE c) = false → s.targetFailed [13, 23] = false → 1 ≤ s.get (CAN.CH_NBT.NTSEG1 c) →
      1 ≤ s.get (CAN.CH_NBT.NTSEG2 c) → s.get (CAN.CH_NBT.NSJW c) ≤ s.get (CAN.CH_NBT.NTSEG2 c) →
      s.get (CAN.CH_DBT.DSJW c) ≤ s.get (CAN.CH_DBT.DTSEG2 c) →
      exec (.canChannelEnable c) s = .next ((s.setB (CAN.CH_CFG.ENABLE c) true).setB (CAN.CH_STATUS.CFG_ERR c) false).settle) ∧
    (∀ c : Fin 2, s.bit (CAN.CH_CFG.ENABLE c) = false → s.targetFailed [13, 23] = false → s.get (CAN.CH_NBT.NTSEG1 c) = 0 ∨
      s.get (CAN.CH_NBT.NTSEG2 c) < s.get (CAN.CH_NBT.NSJW c) →
      exec (.canChannelEnable c) s = .next ((s.setB (CAN.CH_CFG.ENABLE c) false).setB (CAN.CH_STATUS.CFG_ERR c) true).settle) ∧
    (∀ (n : Fin 64) (d : Started) (free : Bool),
      (s.offered n [5, 6] 1 = some d → s.txWordsBad (s.canOf d.ring) d.d = true →
        exec (.canTransmit n free) s = .next (s.finish d 0x10).settle) ∧
      (s.offered n [5, 6] 1 = some d → s.txWordsBad (s.canOf d.ring) d.d = false → s.isTrail = true →
        exec (.canTransmit n free) s = .next (s.finish d 0x60 0 1).settle) ∧
      (s.offered n [5, 6] 2 = some d → d.d.w1 ≠ 80 → exec (.canReceive n) s = .next (s.finish d 0x10).settle)) ∧
    (∀ (n : Fin 64) (d : Started) (s' : State) (bs : List Nat) (k : Nat), s.offered n [5, 6] 3 = some d → d.d.w4 = 0 → d.d.w5 = 0 →
      d.d.eflags = 0 → 16 ≤ d.d.w1 → d.d.primary % 4 = 0 → inSramDram d.d.primary d.d.w1 = true →
      s.readBuf (s.via 17 d) d.d.primary d.d.w1 = (s', bs, none) → s'.canMatrix (s.canOf d.ring) bs = .error k →
      exec (.scheduleLoad n) s = .next (s'.finish d 0x10 0 k).settle) ∧
    (∀ (n : Fin 64) (d : Started) (s' : State) (bs : List Nat), s.offered n [5, 6] 1 = some d → s.txWordsBad (s.canOf d.ring) d.d = false →
      s.isTrail = false → s.readBuf (s.via 17 d) d.d.primary d.d.w1 = (s', bs, none) → s'.recordBad (s.canOf d.ring) d.d bs = false →
      d.d.eflags = 0 → (s'.canCh (s.canOf d.ring)).inTx = none → (s'.canCh (s.canOf d.ring)).queue = [] →
      ∃ x : State, exec (.canTransmit n false) s = .next x.settle ∧ (x.canCh (s.canOf d.ring)).queue =
          [⟨d.ring, d.idx, bitsOf d.d.w5 24 6, leAt bs 0 4, leAt bs 4 4, bs.drop 8, none, false, false, 0, false⟩] ∧
        x.bit (CAN.MB_STAT.QUEUED (s.canOf d.ring) (bitsOf d.d.w5 24 6)) = true) ∧
    (∀ (n : Fin 64) (d : Started), s.offered n [5, 6] 2 = some d → d.d.w1 = 80 → d.d.w4 < 64 → d.d.w5 = 0 → d.d.eflags = 0 →
      s.get (CAN.MB_CFG.MODE (s.canOf d.ring) d.d.w4) = 2 → exec (.canReceive n) s = .next (s.accept d).settle) ∧
    (∀ (n : Fin 64) (d : Started) (s' : State) (bs : List Nat) (m : CanSched), s.offered n [5, 6] 3 = some d → d.d.w4 = 0 → d.d.w5 = 0 →
      d.d.eflags = 0 → 16 ≤ d.d.w1 → d.d.primary % 4 = 0 → inSramDram d.d.primary d.d.w1 = true →
      s.readBuf (s.via 17 d) d.d.primary d.d.w1 = (s', bs, none) → s'.canMatrix (s.canOf d.ring) bs = .ok m →
      (s'.canCh (s.canOf d.ring)).next = none →
      exec (.scheduleLoad n) s = .next (State.accept (s'.setCanCh (s.canOf d.ring)
        { s'.canCh (s.canOf d.ring) with next := some (d.ring, d.idx, m) }) d).settle)

/-- R442, R443, R447 to R449, R451 to R456. What the bus does: a frame for a receive buffer is stored there with its tick, and one that
nothing accepts is counted; a successful attempt sends the frame and empties its buffer; a reached target offers a frame; an
expired frame ends with 0x31, one that waits behind its buffer's attempt too; bus-off recovery (not before 1,408 nominal bits are over) and integration leave both counters 0 and the channel error-active; a receive
error counts. (Where the bus would be offered a frame, the unit here does not drive.) A frame sent ONCE that loses arbitration ends
with 0x30 and DETAIL 1; a window does not end before its end tick.

Completion is stated for CAN_FRAME_RECEIVED, CAN_ATTEMPT_END, AT_TIME_TARGET, TX_EXPIRED, BUS_OFF_RECOVERY, BUS_INTEGRATION,
CAN_RECEIVE_ERROR, TT_WINDOW_START and TT_WINDOW_MISSED. -/
def Obligations.CanBus : Prop :=
  ∀ (s : State) (c : Fin 2), s.canOn c = true →
    (∀ (ident b : Nat) (dlc : Fin 16) (esi : Bool) (data : List Nat), s.isDriving = false → s.get (CAN.CH_STATUS.STATE c) ≠ 2 →
      ident < 2 ^ 32 → idFdf ident = false → s.canAccepts c ident = some b → s.get (CAN.MB_CFG.MODE c b) = 1 →
      ∃ x : State, exec (.canFrameReceived c ident dlc esi false data) s = .next x.settle ∧ x.get (CAN.MB_ID.ID c b) = ident ∧
        x.get2 (CAN.MB_TICK_LO.TICK c b) (CAN.MB_TICK_HI.TICK c b) = s.now ∧ x.bit (CAN.MB_STAT.NEW c b) = true ∧
        x.get (CAN.MB_STAT.SEQ c b) = (s.get (CAN.MB_STAT.SEQ c b) + 1) % 2 ^ (CAN.MB_STAT.SEQ c b).w) ∧
    (∀ (ident : Nat) (dlc : Fin 16) (esi : Bool) (data : List Nat), s.isDriving = false → s.get (CAN.CH_STATUS.STATE c) ≠ 2 →
      ident < 2 ^ 32 → idFdf ident = false → s.canAccepts c ident = none →
      ∃ x : State, exec (.canFrameReceived c ident dlc esi false data) s = .next x.settle ∧
        x.get (CAN.CH_RX_DROP.UNMATCHED c) = satAdd (s.get (CAN.CH_RX_DROP.UNMATCHED c)) 1
          (2 ^ (CAN.CH_RX_DROP.UNMATCHED c).w - 1) % 2 ^ (CAN.CH_RX_DROP.UNMATCHED c).w) ∧
    (∀ (f : CanTx) (lec : Fin 7) (same : Bool), (s.canCh c).inTx = some f.buf → (s.canCh c).queue = [f] → (s.canCh c).behind = [] →
      (s.canCh c).window = none → f.kill = false →
      ∃ x : State, exec (.canAttemptEnd c 0 lec same) s = .next x.settle ∧ x.sent = s.sent ++
          [.can c [f.ident, f.dlc, b2n (s.get (CAN.CH_STATUS.STATE c) == 1)] f.data] ∧ (x.canCh c).inTx = none ∧
        (x.canCh c).queue = [] ∧ x.bit (CAN.MB_STAT.IN_TX c f.buf) = false ∧ x.bit (CAN.MB_STAT.QUEUED c f.buf) = false) ∧
    (∀ (f : CanTx) (lec : Fin 7) (same : Bool), (s.canCh c).inTx = some f.buf → (s.canCh c).queue = [f] → (s.canCh c).behind = [] →
      f.kill = false → f.once = true → exec (.canAttemptEnd c 1 lec same) s = .next ((((s.setCanCh c { s.canCh c with
        inTx := none, busy := true }).set (CAN.MB_STAT.IN_TX c f.buf) 0).canFinish c f 0x30 0 1)).settle) ∧
    ((s.canCh c).inTx = none → ∀ (k : Fin 3) (lec : Fin 7) (same : Bool), exec (.canAttemptEnd c k lec same) s = .next s.settle) ∧
    (∀ free, exec (.atTimeTarget c free) s = .next (s.canBus c free).settle) ∧
    (∀ (f : CanTx) (b : Fin 64), (s.canCh c).queue = [f] → f.buf = b.val → (s.canCh c).inTx = none → s.canLate f = true →
      exec (.txExpired c b) s = .next (((s.bump (CAN.CH_COUNTS.EXPIRED c)).post 188 (c + 256 * f.buf)).canFinish c f 0x31).settle) ∧
    (∀ (f : CanTx) (b : Fin 64), (s.canCh c).behind = [f] → f.buf = b.val → (s.canCh c).inTx = some b.val → s.canLate f = true →
      exec (.txExpired c b) s = .next ((((s.bump (CAN.CH_COUNTS.EXPIRED c)).post 188 (c + 256 * b)).setCanCh c
        { s.canCh c with behind := [] }).finishAt (some (f.ring, f.idx)) 0x31).settle) ∧
    (s.get (CAN.CH_STATUS.STATE c) = 2 → s.recoverFrom c ≤ s.now → ∃ x : State, exec (.busOffRecovery c) s = .next x.settle ∧
      x.get (CAN.CH_STATUS.STATE c) = 0 ∧ x.get (CAN.CH_STATUS.TEC c) = 0 ∧ x.get (CAN.CH_STATUS.REC c) = 0) ∧
    (s.now < s.recoverFrom c → exec (.busOffRecovery c) s = .next s.settle) ∧
    (s.isDriving = true → s.bit (CAN.CH_STATUS.LISTEN_ONLY c) = true →
      ∃ x : State, exec (.busIntegration c) s = .next x.settle ∧ x.bit (CAN.CH_STATUS.LISTEN_ONLY c) = false ∧
        x.get (CAN.CH_STATUS.STATE c) = 0 ∧ x.get (CAN.CH_STATUS.TEC c) = 0 ∧ x.get (CAN.CH_STATUS.REC c) = 0) ∧
    (∀ (lec : Fin 7) (eight : Bool), s.get (CAN.CH_STATUS.STATE c) ≠ 2 →
      ∃ x : State, exec (.canReceiveError c lec eight) s = .next x.settle ∧ x.get (CAN.CH_STATUS.LEC c) = lec ∧
        x.get (CAN.CH_STATUS.REC c) = min (s.get (CAN.CH_STATUS.REC c) + (if eight then 8 else 1)) 255) ∧
    (∀ (w : Fin 32) (m : CanSched), (s.canCh c).sched = some m → w.val < m.windows.length →
      (s.schedOn c = true → m.kind (s.get (CAN.CH_TT_STATUS.CYCLE c)) w ≠ 0 → (s.canCh c).inTx = none →
        (s.canCh c).start + (m.windows.getD w (0, 0)).1 ≤ s.now →
        s.now < (s.canCh c).start + (m.windows.getD w (0, 0)).1 + (m.windows.getD w (0, 0)).2 →
        ∃ x : State, exec (.ttWindowStart c w false) s = .next x.settle ∧ (x.canCh c).window = some (w.val, 0) ∧
          (x.canCh c).busy = true ∧ (x.canCh c).queue = (s.canCh c).queue ∧ x.regs = s.regs) ∧
      (∀ f, (s.canCh c).window = some (w.val, 0) → (s.canCh c).queue = [f] →
        f.buf = m.buffer (s.get (CAN.CH_TT_STATUS.CYCLE c)) w → s.bit (CAN.CH_STATUS.LISTEN_ONLY c) = false →
        s.get (CAN.CH_STATUS.STATE c) ≠ 2 → (s.canCh c).start + (m.windows.getD w (0, 0)).1 + (m.windows.getD w (0, 0)).2 ≤ s.now →
        exec (.ttWindowMissed c w) s = .next (((((s.setCanCh c { s.canCh c with window := none }).bump
          (CAN.CH_TT_STATUS.MISSED c)).post 190 (c + 256 * s.get (CAN.CH_TT_STATUS.CYCLE c) + 65536 * w + 2 ^ 24 * 1)).canOffer c)).settle) ∧
      (s.now < (s.canCh c).start + (m.windows.getD w (0, 0)).1 + (m.windows.getD w (0, 0)).2 →
        exec (.ttWindowMissed c w) s = .next s.settle))

/-! ## Change capture (spec/15) -/

/-- R463, R465, R467 to R470. A running CAPTURE: a changed sample becomes the next record; a gap ends once the queue has room; an ended
segment writes its summary and asserts source 201; POST_TIMEOUT ends the segment; the next segment starts empty.

R471 to R474. CAPTURE that passes its checks starts; FORCE_TRIGGER marks the running segment; ARCHIVE keeps the last capture in its
slot; RESTORE of a valid slot writes it back. A CAPTURE that fails a check is BAD_DESCRIPTOR with its number; without a capture to keep
ARCHIVE, and with an invalid slot RESTORE, is refused; without a CAPTURE no sample is taken. The peak and the longest dead time
are cleared by a write.

Completion is stated for ACQ_CHANGE_RECORD, GAP_END, SEGMENT_DONE, POST_TIMEOUT_EXPIRY, SEGMENT_START, CAPTURE, FORCE_TRIGGER,
ARCHIVE, RESTORE, ACQ_QUEUE_CLEAR and ACQ_MAX_DEAD_CLEAR. -/
def Obligations.ChangeCapture : Prop :=
  (∀ (s : State) (j : AcqJob), s.acq.job = some j → j.queue = [] →
    (s.domOn 7 = true → s.acq.sampled ≠ some s.now → j.ended = none → ∀ (pulses : Nat) (took : Fin 33),
      let x := s.sample pulses
      (j.gap = none → x ≠ s.acq.prev → s.fires s.acq.prev x = false → j.trig = none → j.force = false → j.late = false →
        ∃ t : State, exec (.acqChangeRecord pulses took) s = .next t.settle ∧ t.acq.prev = x ∧ t.acq.sampled = some s.now ∧
          t.acq.job = some { j with stored := j.stored + 1, queue := [(j.stored, s.now, x)], first := false }) ∧
      (j.gap.isSome = true → s.get ACQ.RESUME.FREE ≤ 512 →
        exec (.gapEnd pulses took) s = .next (State.gapClose ((s.acqLevel j).setAcq { (s.acqLevel j).acq with
          prev := x, sampled := some s.now }) j x (s.fires s.acq.prev x)).settle)) ∧
    (∀ t s', j.ended = some t → j.written = false → j.seg + 1 < j.segs →
      s.write (s.acqVia j) (j.summ + 64 * j.seg) (s.summary j false) = (s', .ok ()) →
      ∃ x : State, exec .segmentDone s = .next x.settle ∧ x.acq.job = some { j with written := true, done := j.done + 1 } ∧
        x.rng.evq = s'.rng.evq ++ [⟨201, (j.seg + 65536 * ((s.summary j false).getD 2 0 % 8)) % 2 ^ 32, true⟩]) ∧
    (∀ t, j.trig = some t → j.timeout ≠ 0 → j.ended = none → t.2 + j.timeout ≤ s.now →
      exec .postTimeoutExpiry s = .next (s.segmentDone { j with ended := some s.now, timed := true }).settle) ∧
    (∀ (t : Nat) (s' : State) (pulses : Nat) (took : Fin 33), j.ended = some t → j.written = true → s.domOn 7 = true →
      s.acq.sampled ≠ some s.now → s.get ACQ.RESUME.FREE ≤ 512 → min (s.now - t) 0xFFFFFFFF ≤ s.get ACQ.MAX_DEAD.TICKS →
      State.write (s.set ACQ.LAST_DEAD.TICKS (min (s.now - t) 0xFFFFFFFF)) (s.acqVia j) (j.summ + 64 * j.seg + 0x28)
        (leBytes 4 (min (s.now - t) 0xFFFFFFFF) ++ leBytes 4 j.missed) = (s', .ok ()) →
      let j' : AcqJob := { j with seg := j.seg + 1, stored := 0, queue := [], first := true, trig := none, forced := false, force := false, late := false, ended := none, timed := false, written := false, gapHere := false, segGaps := 0, segFirst := 0, segLost := 0, missed := 0 }
      exec (.segmentStart pulses took) s = .next ((s'.setJob j').takeSample j' (s'.sample pulses)).settle)) ∧
  (∀ (s : State) (pulses : Nat) (took : Fin 33),
    (s.acq.job = none → ∀ i ∈ [Instr.acqChangeRecord pulses took, .gapEnd pulses took, .segmentDone, .postTimeoutExpiry,
      .segmentStart pulses took], exec i s = .next s.settle) ∧
    (∀ j t, s.acq.job = some j → j.ended = some t → j.written = false → exec .segmentDone s = .next (s.segmentDone j).settle) ∧
    exec .acqQueueClear s = .next (s.set ACQ.QUEUE.PEAK (s.get ACQ.QUEUE.LEVEL)).settle ∧
    exec .acqMaxDeadClear s = .next (s.set ACQ.MAX_DEAD.TICKS 0).settle) ∧
  (∀ (s : State) (n : Fin 64) (d : Started),
    (∀ pulses, s.offered n [7] 1 = some d → s.captureCause d.d = 0 → d.d.eflags = 0 → bitsOf d.d.w5 8 24 = 0 → s.acq.job = none →
      ∃ x : State, exec (.capture n pulses) s = .next x.settle ∧ x.get ACQ.STATUS.STATE = 1 ∧
        x.acq.job.map (fun j => (j.ring, j.idx, j.base, j.len, j.summ, j.segs, j.stored)) =
          some (d.ring, d.idx, d.d.primary, d.d.w1, d.d.secondary, s.get ACQ.SEGMENTS.COUNT, 0)) ∧
    (∀ pulses, s.offered n [7] 1 = some d → d.d.eflags = 0 → bitsOf d.d.w5 8 24 = 0 → s.captureCause d.d ≠ 0 →
      exec (.capture n pulses) s = .next (s.finish d 0x10 0 (s.captureCause d.d)).settle) ∧
    (s.acq.job = none → d.d.w4 = 0 → d.d.w5 = 0 →
      (s.offered n [7] 2 = some d → d.d.eflags = 0 → d.d.w1 = 0 → d.d.primary = 0 →
        exec (.forceTrigger n) s = .next (s.finish d 0 0 1).settle) ∧
      (∀ stored, s.offered n [7] 3 = some d → d.d.w1 = 0 → d.d.primary = 0 → s.acq.last = none →
        exec (.archive n stored) s = .next (s.finish d 0x60 0 2).settle) ∧
      (s.offered n [7] 4 = some d → d.d.primary % 4096 = 0 → within .dram d.d.primary d.d.w1 = true →
        (Sparse.get {} s.acq.slots d.d.eflags : AcqSlot).valid = false →
        exec (.restore n) s = .next (s.finish d 0x60 0 4).settle)) ∧
    (∀ j, s.offered n [7] 2 = some d → d.d.eflags = 0 → d.d.w1 = 0 → d.d.primary = 0 → d.d.w4 = 0 → d.d.w5 = 0 →
      s.acq.job = some j → j.trig = none → j.ended = none →
      exec (.forceTrigger n) s = .next ((s.setJob { j with force := true }).finish d 0).settle) ∧
    (∀ l s1 s2 sm buf, s.offered n [7] 3 = some d → d.d.w1 = 0 → d.d.primary = 0 → d.d.w4 = 0 → d.d.w5 = 0 → s.acq.job = none →
      s.acq.last = some l → l.len ≤ 2047 * 2 ^ 20 →
      (s.setSlot d.d.eflags {}).readBuf ((s.setSlot d.d.eflags {}).via 13 d) l.summ l.sumLen = (s1, sm, none) →
      s1.readBuf (s1.via 13 d) l.base l.len = (s2, buf, none) →
      exec (.archive n true) s = .next (((s2.setSlot d.d.eflags ⟨l.header, sm, buf⟩).post 204 d.d.eflags).finish d 0).settle) ∧
    (∀ s1 s2 m k, s.offered n [7] 4 = some d → d.d.w4 = 0 → d.d.w5 = 0 → d.d.primary % 4096 = 0 →
      within .dram d.d.primary d.d.w1 = true → s.acq.job = none → let x : AcqSlot := Sparse.get {} s.acq.slots d.d.eflags
      x.valid = true → 0x100000 + leAt x.header 8 4 ≤ d.d.w1 →
      s.writeBuf (s.via 13 d) d.d.primary (x.header ++ x.summ) = (s1, m, none) →
      s1.writeBuf (s.via 13 d) (d.d.primary + 0x100000) x.buf = (s2, k, none) →
      exec (.restore n) s = .next ((s2.post 204 (d.d.eflags + 256)).finish d 0 (m + k)).settle))

/-! ## Power (spec/16) -/

/-- R482, R484 to R489. Requests and votes: a request for RETAIN or OFF of an idle domain that no vote holds starts an entry, and so does
the idle time of an automatic domain; a request that a rule of R484 refuses is refused with its first reason, one during another
becomes pending; a vote is one bit of its domain; it aborts an entry that quiesces, as does a quiesce that takes too long; the end
of quiesce sends the rail command; CLEAR.ACCOUNTS zeroes the counts; an unused current-loop channel is switched off.

Completion is stated for DOMAIN_REQUEST, VOTE_SET, VOTE_CLEAR, PWR_CLEAR_ACCOUNTS, IDLE_TIME_EXPIRY, D6_CHANNEL_OFF,
QUIESCE_END and QUIESCE_TIMEOUT. -/
def Obligations.PowerRequests : Prop :=
  ∀ (s : State) (d : Fin 8),
    (∀ st : Fin 4, d.val ≠ 0 → st.val = 1 ∨ st.val = 2 → s.domOn d = true → s.domBusy d = false → s.votes d = 0 → s.pairState = 5 →
      ∃ x : State, exec (.domainRequest d st 3) s = .next x.settle ∧ x.domState d = 4 ∧ x.get (PWR.D_STATUS.BUSY d) = 1 ∧
        (x.dom d).quiesce = true ∧ (x.dom d).req = some ⟨st, 3, false⟩) ∧
    (∀ st rail : Fin 4, let r : PwrReq := ⟨st, rail, false⟩
      (s.domBusy d = true → exec (.domainRequest d st rail) s = .next (s.reqPend d r).settle) ∧
      (s.domBusy d = false → s.reqReason d r = 0 → exec (.domainRequest d st rail) s = .next (s.reqRun d r).settle) ∧
      (s.domBusy d = false → s.reqReason d r ≠ 0 →
        exec (.domainRequest d st rail) s = .next (s.reqRefuse d r (s.reqReason d r)).settle)) ∧
    (∀ init : Fin 22, init.val < 8 →
      (s.domState d ≠ 4 → exec (.voteSet init d) s = .next
        (s.set (PWR.D_VOTE.VOTES d) (setBit (s.get (PWR.D_VOTE.VOTES d)) init)).settle) ∧
      exec (.voteClear init d) s = .next (s.set (PWR.D_VOTE.VOTES d) (clearBit (s.get (PWR.D_VOTE.VOTES d)) init)).settle) ∧
    (∃ x : State, exec (.pwrClearAccounts d) s = .next x.settle ∧ x.get (PWR.D_COUNTS.REFUSED d) = 0 ∧
      x.get (PWR.D_COUNTS.ABORTED d) = 0 ∧ ∀ j < 8, x.get (PWR.D_REFUSER.VALID d j) = 0 ∧ x.get (PWR.D_REFUSER.COUNT d j) = 0) ∧
    (s.bit (PWR.D_CFG.AUTO 2) = true → s.domOn 2 = true → s.domBusy 2 = false → (s.dom 2).pend = none → s.votes 2 = 0 →
      s.idleNow 2 = true → s.idleFrom 2 + s.get (PWR.D_CFG.IDLE_TIME 2) * 200 ≤ s.now →
      ∃ x : State, exec (.idleTimeExpiry 2) s = .next x.settle ∧ x.domState 2 = 4 ∧ (x.dom 2).req = some ⟨1, 3, true⟩) ∧
    (s.bit (PWR.D_CFG.AUTO d) = false ∨ s.now < s.idleFrom d + s.get (PWR.D_CFG.IDLE_TIME d) * 200 →
      exec (.idleTimeExpiry d) s = .next s.settle) ∧
    (s.bit (PWR.D_CFG.AUTO 6) = true → s.domOn 6 = true → s.get (CLP.CH_CFG.MODE d) = 0 → s.bit (CLP.CH_CFG.LOOP_POWER d) = false →
      max (s.dom 6).idleFrom (s.clch d).idleFrom + s.get (PWR.D_CFG.IDLE_TIME 6) * 200 ≤ s.now →
      exec (.d6ChannelOff d) s = .next (State.setClch (s.set PWR.D6_CHANNELS_OFF.CHANNELS
        (setBit (s.get PWR.D6_CHANNELS_OFF.CHANNELS) d)) d { s.clch d with front := 1 }).settle) ∧
    (s.domState d = 4 → (s.dom d).quiesce = true →
      (s.votes d = 0 → s.pwr.bus = [] → ∃ x : State, exec (.quiesceEnd d) s = .next x.settle ∧ (x.dom d).quiesce = false ∧
        x.pwr.bus = [if (s.dom d).req.map (·.state) = some 2 then { page := d, cmd := 0x01 }
          else { page := d, cmd := 0x21, mv := 600 }]) ∧
      (s.votes d ≠ 0 → exec (.quiesceEnd d) s = .next (s.abortEntry d (firstVoter (s.votes d))).settle) ∧
      (∀ init : Fin 22, s.now < (s.dom d).since + s.get PWR.QUIESCE_TIME.US * 200 →
        exec (.quiesceTimeout d init) s = .next s.settle) ∧
      ((s.dom d).pend = none → ∀ init : Fin 22, (s.dom d).since + s.get PWR.QUIESCE_TIME.US * 200 ≤ s.now →
        ∃ x : State, exec (.quiesceTimeout d init) s = .next x.settle ∧ x.domState d = 0 ∧ (x.dom d).req = none) ∧
      ((s.dom d).pend = none → ∀ init : Fin 22, init.val < 8 →
        ∃ x : State, exec (.voteSet init d) s = .next x.settle ∧ x.domState d = 0 ∧ (x.dom d).req = none))

/-- R488, R491, R494, R495. The regulator's answers and the stages: an entry whose rail has settled is complete; a wake goes through its
stages, and after the last the domain is ON; a stage that misses its timeout is retried once; a rail change ends, or misses its
power-good; power-good lost FAILs the domain.

R493. The regulator's bus: an acknowledged command leaves it and the next is sent; one that is not acknowledged is tried three times;
an alert reads STATUS_WORD of every page; a read of VOUT_MODE keeps the exponent.

Completion is stated for ENTRY_COMPLETE, DOMAIN_WAKE_STAGE_END, WAKE_STAGE_TIMEOUT, RAIL_CHANGE_COMPLETE, POWER_GOOD_LOST,
PMBUS_COMMAND_END and SMBALERT. -/
def Obligations.PowerStages : Prop :=
  (∀ (s : State) (d : Fin 8), s.railWaits d = false →
    (∀ r, (s.dom d).req = some r → s.domState d = 4 → (s.dom d).quiesce = false → (s.dom d).wakeAfter = false →
      exec (.entryComplete d) s = .next ((((s.enterLow d r.state).set (PWR.D_STATUS.RAIL d) (s.reqRail d r)).reqDone d 0)).settle) ∧
    (∀ seen : Fin 16, s.domState d = 5 → s.get (PWR.D_STATUS.STAGE d) < 4 →
      ∃ x : State, exec (.domainWakeStageEnd d seen) s = .next x.settle ∧ x.get (PWR.D_STATUS.STAGE d) = s.get (PWR.D_STATUS.STAGE d) + 1 ∧
        x.domState d = 5 ∧ (x.dom d).since = s.now ∧ (x.dom d).retried = false) ∧
    (∀ seen : Fin 16, s.domState d = 5 → s.get (PWR.D_STATUS.STAGE d) = 4 → (s.dom d).cold = false → (s.dom d).pend = none →
      ∃ x : State, exec (.domainWakeStageEnd d seen) s = .next x.settle ∧ x.domOn d = true ∧ x.get (PWR.D_STATUS.STAGE d) = 0 ∧
        x.get (PWR.D_STATUS.FAILED_STAGE d) = 0 ∧ (x.dom d).req = none) ∧
    (s.domState d = 5 → s.now < (s.dom d).since + s.stageLimit d → exec (.wakeStageTimeout d) s = .next s.settle) ∧
    (s.domState d = 5 → (s.dom d).since + s.stageLimit d ≤ s.now → (s.dom d).retried = false →
      ∃ x : State, exec (.wakeStageTimeout d) s = .next x.settle ∧ x.domState d = 5 ∧ (x.dom d).retried = true ∧
        (x.dom d).since = s.now) ∧
    (s.domState d = 5 → (s.dom d).since + s.stageLimit d ≤ s.now → (s.dom d).retried = true →
      exec (.wakeStageTimeout d) s = .next (s.domFail d (s.get (PWR.D_STATUS.STAGE d)) false).settle) ∧
    (∀ r, (s.dom d).railOnly = true → (s.dom d).req = some r → exec (.railChangeComplete d true) s = .next
      ((s.set (PWR.D_STATUS.RAIL d) (s.reqRail d r)).reqDone d 0).settle) ∧
    ((s.dom d).railOnly = true → (s.dom d).since + 40000 ≤ s.now → exec (.railChangeComplete d false) s = .next (s.missed d).settle) ∧
    ((s.dom d).railOnly = true → s.now < (s.dom d).since + 40000 → exec (.railChangeComplete d false) s = .next s.settle) ∧
    (∀ k : Fin 7, s.domOn (k + 1) = true → exec (.powerGoodLost k) s = .next (s.domFail (k + 1) 0 true).settle)) ∧
  (∀ s : State,
    (s.pwr.retryAt = none →
    (∀ c w, s.pwr.bus = [c] → ∃ x : State, exec (.pmbusCommandEnd 0 w false) s = .next x.settle ∧ x.pwr.bus = [] ∧ x.sent = s.sent) ∧
    (∀ c w f, s.pwr.bus = [c] → c.tries < 2 → ∃ x : State, exec (.pmbusCommandEnd 1 w f) s = .next x.settle ∧
      x.pwr.bus = [{ c with tries := c.tries + 1 }] ∧ x.pwr.retryAt = some (s.now + 2000) ∧ x.sent = s.sent) ∧
    (∀ c w f, s.pwr.bus = [c] → 2 ≤ c.tries → c.read = true → exec (.pmbusCommandEnd 1 w f) s = .next
      ((State.post { s.bump PWR.PMBUS_ERRORS.NACK with pwr := { s.pwr with bus := [] } } 13 c.page)).settle) ∧
    (∀ w p, s.pwr.bus = [{ page := p, cmd := 0x79, read := true }] → p < 8 → exec (.pmbusCommandEnd 0 w true) s = .next
      ((State.post { s with pwr := { s.pwr with bus := [] } } 13 (p + 65536 * w)).powerLost p).settle) ∧
    (∀ (w : Fin 65536) p f, s.pwr.bus = [{ page := p, cmd := 0x20, read := true }] → exec (.pmbusCommandEnd 0 w f) s = .next
      (State.settle { s with pwr := { s.pwr with bus := [], voutMode := w % 256 } }))) ∧
    (∀ k w f, s.pwr.bus = [] → exec (.pmbusCommandEnd k w f) s = .next s.settle) ∧
    (∃ x : State, exec .smbalert s = .next x.settle ∧
      x.pwr.bus = s.pwr.bus ++ (List.range 8).map fun d => { page := d, cmd := 0x79, read := true }))

/-! ## Resets, start-up, self-test (spec/17) -/

/-- R19, R500, R502, R504, R523, R525. RST.CMD of an ENGINEER: WARM and MODULE reset at once a unit that does not lead, and wait for a
hand-over on one that does; DOMAIN and SVC_CORE act at once; PARTNER_RESET pulses its pin for 20 us where the partner is silent; a
refusal has its reason: 1 no privilege, 2 a lead that cannot hand over, 3 a domain that may not be reset, 4 a partner that is not
silent, 5 a reserved operation.

R500, R505, R506. What the reset of first supply leaves: the tick counter, plant time, the active protection table, the started
descriptors, the force table and the recorder's queue are empty, DRAM is lost, the pair state is OUT, the controller in STOP and
the voter in VOTE3; the reset is held until its release.

Completion is stated for WARM, MODULE, DOMAIN, SVC_CORE, PARTNER_RESET, RST_CMD_RESERVED and SUPPLY_FIRST_APPLIED. -/
def Obligations.Resets : Prop :=
  (∀ (s : State) (init : Fin 22) (x : Fin 65536),
    (s.pairState ≠ 2 → exec (.rstWarm init 1 x) s = .next ((s.rstEnd 1 0 0 0 (originOf init) 1 x).resetHold 2 1).settle ∧
      exec (.rstModule init 1 x) s = .next ((s.rstEnd 2 0 0 0 (originOf init) 1 x).resetHold 1 1).settle) ∧
    (s.pairState = 2 → s.handoverReason = 0 → ∀ p ∈ [(2, Instr.rstWarm init 1 x), (1, .rstModule init 1 x)],
      ∃ t : State, exec p.2 s = .next t.settle ∧ t.bit RST.CMD_STATUS.PENDING = true ∧
        t.rst.waiting = some ⟨p.1, 0, originOf init, 1, x⟩ ∧ t.par.handover.map (·.cause) = some 3) ∧
    (s.pairState = 2 → s.handoverReason ≠ 0 → ∀ p ∈ [(1, Instr.rstWarm init 1 x), (2, .rstModule init 1 x)],
      exec p.2 s = .next (s.rstEnd p.1 0 0x60 2 (originOf init) 1 x).settle) ∧
    (∀ d : Fin 8, d.val ≠ 0 → (d.val = 1 ∨ d.val = 4 ∨ d.val = 5 → s.pairState = 5) →
      exec (.rstDomain init 1 x d) s = .next ((s.domainReset d).rstEnd 3 d 0 0 (originOf init) 1 x).settle) ∧
    (∀ d : Fin 8, d.val = 0 ∨ ((d.val = 1 ∨ d.val = 4 ∨ d.val = 5) ∧ s.pairState ≠ 5) →
      exec (.rstDomain init 1 x d) s = .next (s.rstEnd 3 d 0x60 3 (originOf init) 1 x).settle) ∧
    (∀ k : Fin 8, k.val < 4 → exec (.svcCore init 1 x k) s = .next ((s.svcRestart k).rstEnd 4 k 0 0 (originOf init) 1 x).settle) ∧
    (∀ k : Fin 8, 4 ≤ k.val → exec (.svcCore init 1 x k) s = .next (s.rstEnd 4 k 0 0 (originOf init) 1 x).settle) ∧
    (s.isDriving = true → s.partnerSeated = true → s.bit SYS.CARRIER_STATUS.TOKEN_PARTNER_LIVE = false → s.partnerSilent = true →
      exec (.partnerReset init 1 x) s = .next (((State.send { s with car := { s.car with resetOutUntil := some (s.now + 4000) } }
        (.pin "PARTNER_RESET_OUT" false)).post 3 0).rstEnd 5 0 0 0 (originOf init) 1 x).settle) ∧
    (s.isDriving = false ∨ s.partnerSilent = false → exec (.partnerReset init 1 x) s = .next
      (s.rstEnd 5 0 0x60 4 (originOf init) 1 x).settle) ∧
    (∀ (priv : Fin 8) (op : Fin 10), exec (.rstCmdReserved init priv x op) s = .next
      (s.rstEnd (6 + op) 0 0x60 5 (originOf init) priv x).settle) ∧
    (∀ priv d : Fin 8, priv ≠ 1 → exec (.rstDomain init priv x d) s = .next (s.rstEnd 3 d 0x60 1 (originOf init) priv x).settle ∧
      exec (.svcCore init priv x d) s = .next (s.rstEnd 4 d 0x60 1 (originOf init) priv x).settle) ∧
    (∀ priv : Fin 8, priv ≠ 1 → ∀ p ∈ [(1, Instr.rstWarm init priv x), (2, .rstModule init priv x), (5, .partnerReset init priv x)],
      exec p.2 s = .next (s.rstEnd p.1 0 0x60 1 (originOf init) priv x).settle)) ∧
  (∀ s : State, (∀ k src, s.rst.held = some (k, src) → k ≠ 0) →
    ∃ x : State, exec .supplyFirstApplied s = .next x.settle ∧ x.tick = 0 ∧ x.plant = 0 ∧ x.prtActive = [] ∧ x.rng.started = [] ∧
      x.cyc.forces = [] ∧ x.log.queue = [] ∧ x.rst.held = some (0, 0) ∧ x.dramLost = true ∧ x.pairState = 5 ∧ x.inRun = false ∧
      x.get VOT.STATUS.MODE = 0 ∧ x.car.converters = false) ∧
  (∀ (s : State) (src : Nat), s.rst.held = some (0, src) → exec .supplyFirstApplied s = .next s.settle)

/-- R19, R25, R28, R37, R502, R503, R507, R548. The watchdog, the partner's reset line and the start: a kick with the right key from the
feeder restarts the watchdog, any other is counted; half of TIMEOUT warns; expiry resets; a low of 5 us on PARTNER_RESET_IN resets
the module, a shorter one does nothing; after 20 ms of seat and supply the converters start, and only then is a POR released; a
released reset begins stage 4 or 1; a stage that is done passes to the next; an EEPROM read that has lost arbitration waits 1 ms.

Completion is stated for WDT_ENABLE, WDT_KICK, WDT_WARNING, WDT_EXPIRY, PARTNER_RESET_IN_LOW, POR_RELEASE, RESET_RELEASE,
START_UP, EEPROM_ARBITRATION_RETRY, START_LIMIT_EXPIRY and CONFIRM_TIME_EXPIRY. -/
def Obligations.WatchdogAndStart : Prop :=
  ∀ s : State,
    (s.bit RST.WDT_CFG.ENABLE = false → ∃ x : State, exec .wdtEnable s = .next x.settle ∧ x.bit RST.WDT_CFG.ENABLE = true ∧
      x.rst.wdtStart = some s.now ∧ x.rst.warned = false) ∧
    (s.bit RST.WDT_CFG.ENABLE = true → exec .wdtEnable s = .next s.settle) ∧
    (∀ (init : Fin 22) (key : Fin 256),
      (key = 0xA5 → init.val = s.get RST.WDT_CFG.FEEDER → s.rst.wdtStart.isSome = true →
        exec (.wdtKick init key) s = .next (State.settle { s with rst := { s.rst with wdtStart := some s.now, warned := false } })) ∧
      (key ≠ 0xA5 ∨ init.val ≠ s.get RST.WDT_CFG.FEEDER →
        exec (.wdtKick init key) s = .next (s.bump RST.WDT_STATUS.BAD_KICKS).settle)) ∧
    (∀ t, s.rst.wdtStart = some t →
      (s.rst.warned = false → t + s.wdtLimit / 2 ≤ s.now → exec .wdtWarning s = .next
        ((State.post { s with rst := { s.rst with warned := true } } 2 s.wdtRemaining)).settle) ∧
      (s.now < t + s.wdtLimit / 2 → exec .wdtWarning s = .next s.settle) ∧
      (t + s.wdtLimit ≤ s.now → exec .wdtExpiry s = .next
        (s.forcedReset 6 (if s.bit RST.WDT_CFG.ACTION then 4 else 3) 3).settle) ∧
      (t + s.wdtLimit ≤ s.now → s.isDriving = false → exec .wdtExpiry s = .next
        (s.resetHold (if s.bit RST.WDT_CFG.ACTION then 4 else 3) 3).settle) ∧
      (t + s.wdtLimit ≤ s.now → s.isDriving = true → ∃ x : State, exec .wdtExpiry s = .next x.settle ∧
        x.rst.due = some (if s.bit RST.WDT_CFG.ACTION then 4 else 3, 3, s.now + 2000) ∧ x.pairState = 5) ∧
      (s.now < t + s.wdtLimit → exec .wdtExpiry s = .next s.settle)) ∧
    (∀ t, 1000 ≤ t → exec (.partnerResetInLow t) s = .next (s.forcedReset 7 1 2).settle ∧
      (s.isDriving = false → exec (.partnerResetInLow t) s = .next (s.resetHold 1 2).settle)) ∧
    (∀ t < 1000, exec (.partnerResetInLow t) s = .next s.settle) ∧
    (∀ t, s.car.seatedAt = some t →
      (max t s.car.supplyAt + 4000000 ≤ s.now → s.car.supplyLow = false →
        exec .porRelease s = .next (State.settle { s with car := { s.car with converters := true } })) ∧
      (s.now < max t s.car.supplyAt + 4000000 ∨ s.car.supplyLow = true → exec .porRelease s = .next s.settle)) ∧
    (s.car.seatedAt = none → exec .porRelease s = .next s.settle) ∧
    (∀ k src ohms, s.rst.held = some (k, src) → k ≤ 4 → (k = 0 → s.car.converters = true) →
      ∃ x : State, exec (.resetRelease ohms) s = .next x.settle ∧ x.rst.held = none ∧ x.rst.starting = true ∧
        x.rst.startTick = s.now ∧ x.get RST.CAUSE.KIND = k ∧ x.get RST.START_STATUS.STAGE = (if k = 2 ∨ k = 3 then 4 else 1) ∧
        x.get SYS.CARRIER_STATUS.SLOT = (slotOf ohms).1) ∧
    (∀ src ohms, s.rst.held = some (0, src) → s.car.converters = false → exec (.resetRelease ohms) s = .next s.settle) ∧
    (∀ bad seen e ok, s.stageNow = 7 → exec (.startUp bad seen e ok) s = .next (s.set RST.START_STATUS.STAGE 8).settle) ∧
    (∀ (bad : Nat) (seen : Fin 256) e ok,
      (s.stageNow = 5 → exec (.startUp bad seen e ok) s = .next ((([4, 5, 6, 7].foldl (fun x d => x.startDomain d seen) s).stageTests
        [3, 4, 5, 6, 8, 9, 10, 11, 12, 13, 14, 15, 21, 22, 23, 24] bad).set RST.START_STATUS.STAGE 6).settle) ∧
      (s.stageNow = 6 → exec (.startUp bad seen e ok) s = .next (((s.startDomain 1 seen).stageTests [0, 1, 2, 20] bad).set
        RST.START_STATUS.STAGE 7).settle) ∧
      (s.stageNow = 1 → ok = true → anyBad [7, 17, 18] bad = false → exec (.startUp bad seen e ok) s = .next
        (((((s.zeroed .sram).zeroed .pair).stageTests [7, 17, 18] bad)).set RST.START_STATUS.STAGE 2).settle) ∧
      (s.stageNow = 1 → anyBad [7, 17, 18] bad = true → exec (.startUp bad seen e ok) s = .next
        ((((s.zeroed .sram).zeroed .pair).stageTests [7, 17, 18] bad)).startStops.settle)) ∧
    (∀ b, s.get RST.CAUSE.KIND = 1 → s.stageNow = 2 → s.car.attempts = 1 → s.car.retryAt ≤ s.now → eepromCause b = 0 →
      ∃ x : State, exec (.eepromArbitrationRetry (some b)) s = .next x.settle ∧ x.get RST.START_STATUS.STAGE = 3 ∧
        x.bit SYS.CARRIER_STATUS.EEPROM_VALID = true ∧ x.car.carrierId = leAt b 0x1C 8) ∧
    (s.get RST.CAUSE.KIND = 1 → s.stageNow = 2 → 0 < s.car.attempts → s.car.attempts < 7 → s.car.retryAt ≤ s.now →
      exec (.eepromArbitrationRetry none) s = .next (State.settle { s with car := { s.car with
        attempts := s.car.attempts + 1, retryAt := s.now + 200000 } })) ∧
    (∀ b, s.now < s.car.retryAt → exec (.eepromArbitrationRetry b) s = .next s.settle) ∧
    (s.rst.starting = true → s.rst.startTick + max 1 (s.get RST.START_LIMIT.SECONDS) * 200000000 ≤ s.now →
      ∃ x : State, exec .startLimitExpiry s = .next x.settle ∧ x.rst.starting = false ∧ x.rst.stopped = true ∧ x.pairState = 5) ∧
    (s.rst.starting = false → exec .startLimitExpiry s = .next s.settle) ∧
    (∀ t, s.upd.confirmBy = some t → t ≤ s.now → s.slotState s.activeSlot = 2 → s.pairState ≠ 2 →
      exec .confirmTimeExpiry s = .next (State.resetHold { s with upd := { s.upd with confirmBy := none, fall := true } } 2 1).settle) ∧
    (∀ t, s.upd.confirmBy = some t → s.now < t → exec .confirmTimeExpiry s = .next s.settle)

/-- R507, R510, R512, R514, R516, R519, R522. BST.CMD: a test of a target whose domain is ON and whose condition holds starts, with BUSY
set; one that may not start is refused with its reason; the end of an LBIST by its factory signature passes and asserts source
248; a service core sets its own release bit; REPORT reports, and in stage 8 completes the start; a rotation whose next target may
be tested starts it, and skips one that may not.

Completion is stated for BST_RUN, RUN_TRANSPARENT, BIST_DONE, SVC_RELEASE, REPORT and ROTATION_STEP. -/
def Obligations.SelfTest : Prop :=
  ∀ s : State,
    (∀ (init : Fin 22) (t : Fin 32), s.bst.running = none → s.bst.rotation = none →
      (t.val = 10 ∨ t.val = 11 ∨ t.val = 12 ∨ t.val = 14 → s.domOn (targetDomain t) = true → s.bistMay t false = true →
        exec (.bstRun init t) s = .next (State.bstEnd ((State.set { s with bst := { s.bst with running := some ⟨t, false, false⟩ } }
          BST.CMD_STATUS.BUSY 1)) init 1 t 0 0).settle) ∧
      (17 ≤ t.val → t.val ≤ 19 → s.domOn (targetDomain t) = true →
        exec (.runTransparent init t) s = .next (State.bstEnd ((State.set { s with bst := { s.bst with running := some ⟨t, true, false⟩ } }
          BST.CMD_STATUS.BUSY 1)) init 2 t 0 0).settle)) ∧
    (∀ (init : Fin 22) (t : Fin 32),
      (25 ≤ t.val → exec (.bstRun init t) s = .next (s.bstEnd init 1 t 0x60 1).settle ∧
        exec (.runTransparent init t) s = .next (s.bstEnd init 2 t 0x60 1).settle) ∧
      (t.val < 17 ∨ 20 ≤ t.val → t.val < 25 → exec (.runTransparent init t) s = .next (s.bstEnd init 2 t 0x60 4).settle) ∧
      (t.val < 25 → s.domOn (targetDomain t) = false → exec (.bstRun init t) s = .next (s.bstEnd init 1 t 0x60 2).settle) ∧
      (8 ≤ t.val → t.val < 17 → s.domOn (targetDomain t) = true → s.bistMay t false = true → s.bst.running.isSome = true →
        exec (.bstRun init t) s = .next (s.bstEnd init 1 t 0x60 3).settle)) ∧
    (∀ t exp rows addr bad, s.bst.running = some ⟨t, false, false⟩ → t = 8 →
      ∃ x : State, exec (.bistDone (Config.bistExpected t) exp rows addr bad) s = .next x.settle ∧ x.bst.running = none ∧
        x.bit BST.CMD_STATUS.BUSY = false ∧ x.bit BST.RESULT.PASS = true ∧ x.get BST.RESULT.TARGET = 8 ∧
        (x.get BST.PASSED.TARGETS).testBit 8 = true ∧ x.rng.evq = s.rng.evq ++ [⟨248, 8 + 256, true⟩]) ∧
    (∀ sig exp rows addr bad, s.bst.running = none → exec (.bistDone sig exp rows addr bad) s = .next s.settle) ∧
    (∀ (init : Fin 22) wfi, 4 ≤ init.val → init.val < 8 → s.bst.svcHeld = [] →
      ∃ x : State, exec (.svcRelease init wfi) s = .next x.settle ∧ (x.get BST.SVC_RELEASE.CORES).testBit (init - 4) = true) ∧
    (∀ init : Fin 22, (s.stageNow ≠ 8 → s.bit RST.START_STATUS.DONE = true →
        exec (.report init) s = .next (s.healthReport.bstEnd init 3 0 0 0).settle) ∧
      (s.stageNow = 8 → exec (.report init) s = .next (s.startComplete.bstEnd init 3 0 0 0).settle)) ∧
    (∀ t, s.bit BST.ROT_CFG.ENABLE = true → s.bit RST.START_STATUS.DONE = true → s.bst.running = none → s.bst.rotation = none →
      s.bst.stepAt + max 1 (s.get BST.ROT_CFG.INTERVAL) * 200000000 ≤ s.now → s.cyc.kendAt = some s.now → s.isDriving = false →
      nextTarget (s.get BST.ROT_TRAIL.MASK) s.bst.nextItem = some t →
      (3 ≤ t → t < 17 → s.stepCause t = 0 →
        ∃ x : State, exec .rotationStep s = .next x.settle ∧ x.bst.running = some ⟨t, false, true⟩ ∧ x.bst.rotation = some t ∧
          x.bit BST.CMD_STATUS.BUSY = true ∧ x.bst.nextItem = t + 1) ∧
      (s.stepCause t ≠ 0 → exec .rotationStep s = .next (State.rotationSkip { s with bst := { s.bst with
        stepAt := s.now, nextItem := t + 1 } } t (s.stepCause t)).settle)) ∧
    (s.now < s.bst.stepAt + max 1 (s.get BST.ROT_CFG.INTERVAL) * 200000000 ∨ s.cyc.kendAt ≠ some s.now →
      exec .rotationStep s = .next s.settle)

/-! ## Records, update, identity (spec/18) -/

/-- R526, R527, R529, R532, R549. The recorder: the record at the head of the queue is written at the offset of its log, under its next SEQ,
and leaves the queue; the change log's new records are archived, or ARCHIVE_FAULT is set; a read of a low SEQ word latches
the high one; APPEND queues a record; READ copies the whole records that fit.

Completion is stated for RECORDER_WRITE, CHANGE_LOG_ARCHIVE, REC_LO_READ, APPEND and REC_READ.

R527, R529. A record that is written takes the next SEQ of its log at its write offset, and the SEQ after it is the next; the other log stays. -/
def Obligations.Recorder : Prop :=
  (∀ s : State,
    (∀ r q, s.log.queue = r :: q → s.nextOff r.change + r.len ≤ logSize r.change → s.mustWait r.change (s.nextOff r.change) r.len = false →
      exec .recorderWrite s = .next (((State.set { s.putRecord r.change (s.recordBytes r r.len (s.nextSeq r.change)) with
        log := { (s.putRecord r.change (s.recordBytes r r.len (s.nextSeq r.change))).log with queue := q } }
        REC.STATUS.QUEUE q.length).finishAt r.append 0 r.len)).settle) ∧
    (s.log.queue = [] → exec .recorderWrite s = .next s.settle) ∧
    (∀ r q, s.log.queue = r :: q → s.nextOff r.change + r.len ≤ logSize r.change → s.mustWait r.change (s.nextOff r.change) r.len = true →
      exec .recorderWrite s = .next s.settle) ∧
    (∀ ok, s.log.changes = [] → exec (.changeLogArchive ok) s = .next s.settle) ∧
    (∀ k, s.log.changes = [k] → s.get2 REC.CHANGE_ARCHIVED_LO.SEQ REC.CHANGE_ARCHIVED_HI.SEQ < k.seq →
      exec (.changeLogArchive false) s = .next ((s.set REC.STATUS.ARCHIVE_FAULT 1).post 225 0).settle ∧
      (k.seq < 2 ^ 64 → s.log.archive = [] → k.bytes.length ≤ 2 ^ 33 → ∃ x : State, exec (.changeLogArchive true) s = .next x.settle ∧
        x.log.archive = [k] ∧ x.get2 REC.CHANGE_ARCHIVED_LO.SEQ REC.CHANGE_ARCHIVED_HI.SEQ = k.seq)) ∧
    (∀ w : Fin 5, ∃ x : State, exec (.recLoRead w) s = .next x.settle ∧ (Sparse.find x.log.latch w).map (·.1) = some
      (s.get ([REC.EVENT_OLDEST_HI.SEQ, REC.EVENT_NEXT_HI.SEQ, REC.CHANGE_OLDEST_HI.SEQ, REC.CHANGE_NEXT_HI.SEQ,
        REC.CHANGE_ARCHIVED_HI.SEQ].getD w REC.CHANGE_ARCHIVED_HI.SEQ))) ∧
    (∀ (n : Fin 64) (d : Started) (s' : State) (bs : List Nat), s.offered n [10] 1 = some d → d.d.w1 ≤ 976 → d.d.w1 % 8 = 0 →
      d.d.w5 = 0 → d.d.eflags = 0 → 0x4000 ≤ d.d.w4 → d.d.w4 ≤ 0x7FFF → s.log.queue.length < 112 →
      s.readBuf (s.via 15 d) d.d.primary d.d.w1 = (s', bs, none) →
      ∃ x : State, exec (.append n) s = .next x.settle ∧ x.log.queue.length = s'.log.queue.length + 1 ∧
        x.log.queue.getLast?.map (fun r => (r.code, r.change, r.data, r.append)) = some (d.d.w4, false, bs, some (d.ring, d.idx))) ∧
    (∀ (n : Fin 64) (d : Started) (s' : State) (k : Nat), s.offered n [10] 2 = some d → d.d.eflags ≤ 1 →
      let all := s.recordsFrom (d.d.eflags.testBit 0) (d.d.w4 + d.d.w5 * 2 ^ 32)
      s.copyRecords (s.via 15 d) (d.d.eflags.testBit 0) d.d.primary (wholeRecords d.d.w1 all) = (s', k, none) →
      exec (.recRead n) s = .next (s'.finish d (b2n (decide ((wholeRecords d.d.w1 all).length < all.length))) k).settle)) ∧
  (∀ (s : State) (bs : List Nat) (c : Bool), s.nextSeq c + 1 < 2 ^ 64 → s.upd.entries = [] → (∀ n, n < 64 → s.get (RNG.RING_STATUS.STATE n) = 0) →
    (s.putRecord c bs).nextSeq c = s.nextSeq c + 1 ∧ (s.putRecord c bs).nextSeq (!c) = s.nextSeq (!c) ∧
    (s.putRecord c bs).kept (!c) = s.kept (!c) ∧ (s.putRecord c bs).kept c =
      dropOver (s.nextOff c) bs.length (s.kept c) ++ [⟨s.nextSeq c, s.nextOff c, bs⟩])

/-- R534 to R539, R545, R546. The update engine's descriptors on a ring that the voted complex does not own: VERIFY of a container that
passes every check enters it; STAGE writes a firmware container to the other slot; ACTIVATE waits for its time; INSTALL of
keys replaces the set; without ENGINEER privilege they are refused with DETAIL 13, and on a ring of owner 0 with 14.

Completion is stated for VERIFY, UPD_STAGE, ACTIVATE, INSTALL, ATTEST and CERT_READ. -/
def Obligations.UpdateDescriptors : Prop :=
  ∀ (s : State) (n : Fin 64) (d : Started),
    (s.get (RNG.RING_CFG.OWNER d.ring) ≠ 0 →
      (∀ s1 s2 h body v, s.offered n [9] 1 = some d → d.d.w4 = 0 → d.d.w5 = 0 → d.d.eflags = 0 → d.d.primary % 8 = 0 →
        inSramDram d.d.primary (max 8192 d.d.w1) = true → s.readBuf (s.via 16 d) d.d.primary 8192 = (s1, h, none) →
        headerBad h d.d.w1 = false → s1.firstTrust h (s1.get (RNG.RING_CFG.OWNER d.ring)) = false →
        s1.headerCheck h s1.upd.plantKeys = none →
        s1.readBuf (s1.via 16 d) (d.d.primary + 8192) (cBodyLen h) = (s2, body, none) → shake256 body 64 = cHash h →
        tableBad (cKind h) (cSections h) body = false → s2.freeEntry = some v →
        exec (.verify n) s = .next (s2.enterVerified d h body v).settle) ∧
      (d.d.w2 = 0 → d.d.w3 = 0 → d.d.eflags = 0 → bitsOf d.d.w5 19 13 = 0 →
        (∀ e s1 bs, d.d.w1 = 0 → d.d.priv = 1 → s.entryOf d.d = some e →
          s.readBuf (s.via 16 d) e.addr e.len = (s1, bs, none) →
          (s.offered n [9] 2 = some d → e.kind = 1 → s.slotState s.activeSlot ≠ 2 →
            exec (.updStage n true) s = .next (State.finish (State.recordSlot (State.setSlotState (State.set { s1 with upd :=
              { s1.upd with slots := s1.upd.slots.set (1 - s.activeSlot) ⟨bs, cProto bs, cRollback bs, cHash bs⟩ } }
              (UPD.SLOT_VERSION.VERSION (1 - s.activeSlot)) (cVersion bs)) (1 - s.activeSlot) 1) 2 (1 - s.activeSlot) 0
              (originOf (s1.get (RNG.RING_CFG.OWNER d.ring))) 1 d.d.session) d 0 0 (1 - s.activeSlot)).settle) ∧
          (s.offered n [9] 4 = some d → e.kind = 4 → exec (.install n) s = .next
            ((((s1.installKeys d bs).raiseRollback 4 (cRollback bs)).recordUpdate 7 4 0 (cVersion bs) (cRollback bs) (cHash bs)
              ((((s1.installKeys d bs).raiseRollback 4 (cRollback bs)).ringOrigin d)) 1 d.d.session).finish d 0).settle)) ∧
        (s.offered n [9] 3 = some d → d.d.priv = 1 → s.slotState (1 - s.activeSlot) = 1 → s.partnerSeated = false →
          s.bit TIM.STATUS.SET = true → s.plantNs ≤ d.d.w1 + d.d.w4 * 2 ^ 32 → s.upd.activate = none →
          ∃ x : State, exec (.activate n) s = .next x.settle ∧ x.bit UPD.ACTIVE.ACTIVATE_PENDING = true ∧
            x.upd.activate = some ⟨d.ring, d.idx, d.d.w1 + d.d.w4 * 2 ^ 32, false, false⟩) ∧
        (s.offered n [9] 3 = some d → d.d.priv ≠ 1 → exec (.activate n) s = .next (s.finish d 0x60 0 13).settle)) ∧
      (∀ s1 s2 nonce k, s.offered n [9] 5 = some d → d.d.w1 = 0 → bitsOf d.d.w5 8 24 = 0 → d.d.eflags = 0 →
        s.readBuf (s.via 16 d) d.d.primary 32 = (s1, nonce, none) →
        s1.writeBuf (s1.via 16 d) d.d.secondary (s1.attestHead nonce ++ ((Config.mlDsaSign (ascii "UCM40 ATTEST")
          (s1.attestHead nonce)).map (· % 256) ++ List.replicate 3309 0).take 3309 ++ [0, 0, 0]) = (s2, k, none) →
        exec (.attest n) s = .next (s2.finish d 0 k).settle) ∧
      (∀ s1 k, s.offered n [9] 6 = some d → d.d.w2 = 0 → d.d.w3 = 0 → bitsOf d.d.w5 8 24 = 0 → d.d.eflags = 0 →
        (Config.certificate 0).length + (Config.certificate 1).length ≤ d.d.w1 →
        s.writeBuf (s.via 16 d) d.d.secondary ((Config.certificate 0).map (· % 256) ++ (Config.certificate 1).map (· % 256)) = (s1, k, none) →
        exec (.certRead n) s = .next (s1.finish d 0 k).settle)) ∧
    (s.get (RNG.RING_CFG.OWNER d.ring) = 0 → ∀ p ∈ [(1, Instr.verify n), (2, .updStage n true), (3, .activate n), (4, .install n),
      (5, .attest n), (6, .certRead n)], s.offered n [9] p.1 = some d → exec p.2 s = .next (s.finish d 0x60 0 14).settle)

/-- R538 to R540, R546, R548, R550, R551. UPD.CMD and SEC.CMD: CONFIRM of a trial image of a sound unit confirms its slot; RELEASE drops an
entry that no map uses; CANCEL_ACTIVATE ends a pending activation with 0x33; initiator 18 stages the lease key and commits
it; FACTORY_TRUST in OUT forgets keys and configuration; reserved operations are refused. CONFIRM is refused with 1 without a trial, 2
after a start that failed a test, 3 on a unit that neither drives nor tracks; RELEASE of an entry in use, and FACTORY_TRUST of
another initiator or outside OUT, are refused.

Completion is stated for CONFIRM, UPD_RELEASE, CANCEL_ACTIVATE, UPD_CMD_RESERVED, SEC_CMD_RESERVED, LEASE_KEY_WRITE,
COMMIT_LEASE_KEY and FACTORY_TRUST. -/
def Obligations.UpdateCommands : Prop :=
  ∀ s : State,
    (∀ (init : Fin 22) (ss : Fin 65536), s.slotState s.activeSlot = 2 → s.activeSlot < 2 → s.bit RST.START_STATUS.PASSED = true → s.isDriving = true →
      ∃ x : State, exec (.confirm init ss) s = .next x.settle ∧ x.slotState s.activeSlot = 3 ∧ x.upd.confirmBy = none ∧
        x.get UPD.CMD_STATUS.STATUS = 0) ∧
    (∀ (init : Fin 22) (ss : Fin 65536), (s.slotState s.activeSlot ≠ 2 → exec (.confirm init ss) s = .next (s.updStatus 0x60 1).settle) ∧
      (s.slotState s.activeSlot = 2 → s.bit RST.START_STATUS.PASSED = false →
        exec (.confirm init ss) s = .next (s.updStatus 0x60 2).settle) ∧
      (s.slotState s.activeSlot = 2 → s.bit RST.START_STATUS.PASSED = true → s.isDriving = false → s.pairState ≠ 3 →
        exec (.confirm init ss) s = .next (s.updStatus 0x60 3).settle)) ∧
    (∀ (v : Fin 8) m, s.fer.map = some m → m.entryId = v.val → exec (.updRelease v) s = .next (s.updStatus 0x60 2).settle) ∧
    (∀ v : Fin 8, s.fer.map = none → s.bit (UPD.VERIFIED.VALID v) = false →
      exec (.updRelease v) s = .next (s.updStatus 0 0).settle) ∧
    (s.upd.activate = none → exec .cancelActivate s = .next (s.updStatus 0 0).settle) ∧
    (∀ v : Fin 8, s.fer.map = none → s.bit (UPD.VERIFIED.VALID v) = true → ∃ x : State, exec (.updRelease v) s = .next x.settle ∧
      x.bit (UPD.VERIFIED.VALID v) = false ∧ Sparse.find x.upd.entries v = none ∧ x.get UPD.CMD_STATUS.STATUS = 0) ∧
    (∀ a, s.upd.activate = some a → ∃ x : State, exec .cancelActivate s = .next x.settle ∧ x.upd.activate = none ∧
      x.bit UPD.ACTIVE.ACTIVATE_PENDING = false ∧ x.get UPD.CMD_STATUS.STATUS = 0) ∧
    exec .updCmdReserved s = .next (s.updStatus 0x60 4).settle ∧ exec .secCmdReserved s = .next (s.secStatus 0x60 3).settle ∧
    (∀ (init : Fin 22) (w : Fin 8) v,
      (init.val = 18 → exec (.leaseKeyWrite init w v) s = .next (State.settle { s with upd := { s.upd with
        staged := Sparse.insert s.upd.staged w (v % 2 ^ 32) } })) ∧
      (init.val ≠ 18 → exec (.leaseKeyWrite init w v) s = .next s.settle)) ∧
    (∀ (init : Fin 22) (x : Fin 65536),
      (∃ t : State, exec (.commitLeaseKey init 1 x) s = .next t.settle ∧ t.upd.leaseKey = some
        ((List.range 8).flatMap fun w => leBytes 4 (Sparse.get 0 s.upd.staged w)) ∧ t.upd.staged = [] ∧
        t.bit SEC.STATUS.LEASE_KEY = true) ∧
      (∀ priv : Fin 8, priv ≠ 1 → exec (.commitLeaseKey init priv x) s = .next (s.secStatus 0x60 1).settle ∧
        exec (.factoryTrust init priv x) s = .next (s.secStatus 0x60 1).settle) ∧
      (init.val ≠ 18 → exec (.factoryTrust init 1 x) s = .next (s.secStatus 0x60 1).settle) ∧
      (init.val = 18 → s.pairState ≠ 5 → exec (.factoryTrust init 1 x) s = .next (s.secStatus 0x60 2).settle) ∧
      (init.val = 18 → s.pairState = 5 → ∃ t : State, exec (.factoryTrust init 1 x) s = .next t.settle ∧ t.upd.plantKeys = [] ∧
        t.upd.leaseKey = none ∧ t.upd.config = [] ∧ t.bit SEC.STATUS.TRUST_ESTABLISHED = false ∧ t.bit SEC.STATUS.LEASE_KEY = false))
end

