-- ==== Sys2Proof/Laws/Sparse.lean ====
section
/-! SUPPORT. Sparse maps: what a read after a write returns, and that writes keep the canonical form. -/

namespace Sys2Proof.Machine

variable {α : Type}

theorem Sparse.find_insert_self (l : List (Nat × α)) (k : Nat) (v : α) :
    Sparse.find (Sparse.insert l k v) k = some v := by
  induction l with
  | nil => simp [Sparse.insert, Sparse.find]
  | cons p r ih =>
    obtain ⟨a, b⟩ := p
    simp only [Sparse.insert]
    split
    · simp [Sparse.find]
    · split
      · simp [Sparse.find]
      · rename_i h; simp [Sparse.find, Ne.symm h, ih]

theorem Sparse.find_insert_ne (l : List (Nat × α)) {k j : Nat} (v : α) (h : j ≠ k) :
    Sparse.find (Sparse.insert l k v) j = Sparse.find l j := by
  induction l with
  | nil => simp [Sparse.insert, Sparse.find, Ne.symm h]
  | cons p r ih =>
    obtain ⟨a, b⟩ := p
    simp only [Sparse.insert]
    split
    · simp [Sparse.find, Ne.symm h]
    · split
      · rename_i e; subst e; simp [Sparse.find, Ne.symm h]
      · simp [Sparse.find, ih]

theorem Sparse.find_erase_self (l : List (Nat × α)) (k : Nat) : Sparse.find (Sparse.erase l k) k = none := by
  induction l with
  | nil => rfl
  | cons p r ih =>
    by_cases h : p.1 = k
    · simpa [Sparse.erase, List.filter, h] using ih
    · have : Sparse.erase (p :: r) k = p :: Sparse.erase r k := by
        simp [Sparse.erase, h]
      simp [this, Sparse.find, h, ih]

theorem Sparse.find_erase_ne (l : List (Nat × α)) {k j : Nat} (h : j ≠ k) :
    Sparse.find (Sparse.erase l k) j = Sparse.find l j := by
  induction l with
  | nil => rfl
  | cons p r ih =>
    by_cases e : p.1 = k
    · have : Sparse.erase (p :: r) k = Sparse.erase r k := by simp [Sparse.erase, List.filter, e]
      simp [this, Sparse.find, ih, e, Ne.symm h]
    · have : Sparse.erase (p :: r) k = p :: Sparse.erase r k := by
        simp [Sparse.erase, e]
      simp [this, Sparse.find, ih]

@[simp] theorem Sparse.get_put_self [DecidableEq α] (d : α) (l : List (Nat × α)) (k : Nat) (v : α) :
    Sparse.get d (Sparse.put d l k v) k = v := by
  unfold Sparse.get Sparse.put
  split
  · rename_i h; simp [find_erase_self, h]
  · simp [find_insert_self]

@[simp] theorem Sparse.get_put_ne [DecidableEq α] (d e : α) (l : List (Nat × α)) {k j : Nat} (v : α) (h : j ≠ k) :
    Sparse.get d (Sparse.put e l k v) j = Sparse.get d l j := by
  unfold Sparse.get Sparse.put
  split
  · simp [find_erase_ne _ h]
  · simp [find_insert_ne _ _ h]

/-! ## The canonical form -/

theorem Sparse.sorted_iff (l : List (Nat × α)) : Sparse.sorted l = true ↔ l.Pairwise (fun p q => p.1 < q.1) := by
  induction l with
  | nil => simp [Sparse.sorted]
  | cons p r ih =>
    cases r with
    | nil => simp [Sparse.sorted]
    | cons q r =>
      simp only [Sparse.sorted, Bool.and_eq_true, decide_eq_true_eq, ih]
      rw [List.pairwise_cons (a := p)]
      constructor
      · rintro ⟨h, hp⟩
        refine ⟨fun x hx => ?_, hp⟩
        rcases List.mem_cons.1 hx with rfl | hx
        · exact h
        · exact lt_trans h ((List.pairwise_cons.1 hp).1 x hx)
      · rintro ⟨h, hp⟩
        exact ⟨h q List.mem_cons_self, hp⟩

theorem Sparse.mem_insert {l : List (Nat × α)} {k : Nat} {v : α} {p : Nat × α} (h : p ∈ Sparse.insert l k v) :
    p = (k, v) ∨ p ∈ l := by
  induction l with
  | nil => simp_all [Sparse.insert]
  | cons q r ih =>
    obtain ⟨a, b⟩ := q
    simp only [Sparse.insert] at h
    split at h
    · simpa using h
    · split at h
      · rcases List.mem_cons.1 h with h | h
        · exact .inl h
        · exact .inr (List.mem_cons_of_mem _ h)
      · rcases List.mem_cons.1 h with h | h
        · exact .inr (h ▸ List.mem_cons_self)
        · exact (ih h).imp id (List.mem_cons_of_mem _)

theorem Sparse.pairwise_insert {l : List (Nat × α)} (k : Nat) (v : α)
    (h : l.Pairwise (fun p q => p.1 < q.1)) : (Sparse.insert l k v).Pairwise (fun p q => p.1 < q.1) := by
  induction l with
  | nil => simp [Sparse.insert]
  | cons q r ih =>
    obtain ⟨a, b⟩ := q
    obtain ⟨hq, hr⟩ := List.pairwise_cons.1 h
    simp only [Sparse.insert]
    split
    · rename_i hk
      refine List.pairwise_cons.2 ⟨fun x hx => ?_, h⟩
      rcases List.mem_cons.1 hx with rfl | hx
      · exact hk
      · exact lt_trans hk (hq x hx)
    · split
      · rename_i e; subst e; exact List.pairwise_cons.2 ⟨hq, hr⟩
      · rename_i h1 h2
        refine List.pairwise_cons.2 ⟨fun x hx => ?_, ih hr⟩
        rcases Sparse.mem_insert hx with rfl | hx
        · show a < k; omega
        · exact hq x hx

/-- A write of the value that suits its key keeps the canonical form. -/
theorem Sparse.wf_put [DecidableEq α] (d : Nat → α) (l : List (Nat × α)) (k : Nat) (v : α)
    (h : Sparse.wf d l = true) : Sparse.wf d (Sparse.put (d k) l k v) = true := by
  unfold Sparse.wf at *
  simp only [Bool.and_eq_true, sorted_iff, List.all_eq_true, decide_eq_true_eq] at *
  unfold Sparse.put
  split
  · refine ⟨h.1.filter _, fun p hp => h.2 p (List.mem_filter.1 hp).1⟩
  · rename_i hv
    refine ⟨pairwise_insert k v h.1, fun p hp => ?_⟩
    rcases mem_insert hp with rfl | hp
    · exact hv
    · exact h.2 p hp

theorem Sparse.wf_filter [DecidableEq α] (d : Nat → α) (l : List (Nat × α)) (f : Nat × α → Bool)
    (h : Sparse.wf d l = true) : Sparse.wf d (l.filter f) = true := by
  unfold Sparse.wf at *
  simp only [Bool.and_eq_true, sorted_iff, List.all_eq_true, decide_eq_true_eq] at *
  exact ⟨h.1.filter _, fun p hp => h.2 p (List.mem_filter.1 hp).1⟩

end Sys2Proof.Machine
end

