-- ==== Sys2Proof/Laws/State.lean ====
section
/-! SUPPORT. The state record: each update leaves each other field as it was, and what a register field reads
after a write. -/

namespace Sys2Proof.Machine

variable (s : State)

/-! ## set -/

@[simp] theorem State.set_tick (f : Fld) (v : Nat) : (s.set f v).tick = s.tick := rfl
@[simp] theorem State.set_plant (f : Fld) (v : Nat) : (s.set f v).plant = s.plant := rfl
@[simp] theorem State.set_prtActive (f : Fld) (v : Nat) : (s.set f v).prtActive = s.prtActive := rfl
@[simp] theorem State.set_mem (f : Fld) (v : Nat) : (s.set f v).mem = s.mem := rfl
@[simp] theorem State.set_poison (f : Fld) (v : Nat) : (s.set f v).poison = s.poison := rfl
@[simp] theorem State.set_dramLost (f : Fld) (v : Nat) : (s.set f v).dramLost = s.dramLost := rfl
@[simp] theorem State.set_dramLoss (f : Fld) (v : Nat) : (s.set f v).dramLoss = s.dramLoss := rfl
@[simp] theorem State.set_dramWritten (f : Fld) (v : Nat) : (s.set f v).dramWritten = s.dramWritten := rfl
@[simp] theorem State.set_free (f : Fld) (v : Nat) : (s.set f v).free = s.free := rfl
@[simp] theorem State.set_sent (f : Fld) (v : Nat) : (s.set f v).sent = s.sent := rfl
@[simp] theorem State.set_rng (f : Fld) (v : Nat) : (s.set f v).rng = s.rng := rfl
@[simp] theorem State.set_fab (f : Fld) (v : Nat) : (s.set f v).fab = s.fab := rfl
@[simp] theorem State.set_vot (f : Fld) (v : Nat) : (s.set f v).vot = s.vot := rfl
@[simp] theorem State.set_cyc (f : Fld) (v : Nat) : (s.set f v).cyc = s.cyc := rfl
@[simp] theorem State.set_fer (f : Fld) (v : Nat) : (s.set f v).fer = s.fer := rfl
@[simp] theorem State.set_fio (f : Fld) (v : Nat) : (s.set f v).fio = s.fio := rfl
@[simp] theorem State.set_crs (f : Fld) (v : Nat) : (s.set f v).crs = s.crs := rfl
@[simp] theorem State.set_mot (f : Fld) (v : Nat) : (s.set f v).mot = s.mot := rfl
@[simp] theorem State.set_lop (f : Fld) (v : Nat) : (s.set f v).lop = s.lop := rfl
@[simp] theorem State.set_clp (f : Fld) (v : Nat) : (s.set f v).clp = s.clp := rfl
@[simp] theorem State.set_can (f : Fld) (v : Nat) : (s.set f v).can = s.can := rfl
@[simp] theorem State.set_acq (f : Fld) (v : Nat) : (s.set f v).acq = s.acq := rfl
@[simp] theorem State.set_pwr (f : Fld) (v : Nat) : (s.set f v).pwr = s.pwr := rfl
@[simp] theorem State.set_rst (f : Fld) (v : Nat) : (s.set f v).rst = s.rst := rfl
@[simp] theorem State.set_bst (f : Fld) (v : Nat) : (s.set f v).bst = s.bst := rfl
@[simp] theorem State.set_log (f : Fld) (v : Nat) : (s.set f v).log = s.log := rfl
@[simp] theorem State.set_upd (f : Fld) (v : Nat) : (s.set f v).upd = s.upd := rfl
@[simp] theorem State.set_par (f : Fld) (v : Nat) : (s.set f v).par = s.par := rfl
@[simp] theorem State.set_car (f : Fld) (v : Nat) : (s.set f v).car = s.car := rfl
@[simp] theorem State.set_tim (f : Fld) (v : Nat) : (s.set f v).tim = s.tim := rfl
@[simp] theorem State.set_pending (f : Fld) (v : Nat) : (s.set f v).pending = s.pending := rfl

/-! ## post -/

@[simp] theorem State.post_tick (src data : Nat) : (s.post src data).tick = s.tick := rfl
@[simp] theorem State.post_regs (src data : Nat) : (s.post src data).regs = s.regs := rfl
@[simp] theorem State.post_plant (src data : Nat) : (s.post src data).plant = s.plant := rfl
@[simp] theorem State.post_prtActive (src data : Nat) : (s.post src data).prtActive = s.prtActive := rfl
@[simp] theorem State.post_mem (src data : Nat) : (s.post src data).mem = s.mem := rfl
@[simp] theorem State.post_poison (src data : Nat) : (s.post src data).poison = s.poison := rfl
@[simp] theorem State.post_dramLost (src data : Nat) : (s.post src data).dramLost = s.dramLost := rfl
@[simp] theorem State.post_dramLoss (src data : Nat) : (s.post src data).dramLoss = s.dramLoss := rfl
@[simp] theorem State.post_dramWritten (src data : Nat) : (s.post src data).dramWritten = s.dramWritten := rfl
@[simp] theorem State.post_free (src data : Nat) : (s.post src data).free = s.free := rfl
@[simp] theorem State.post_sent (src data : Nat) : (s.post src data).sent = s.sent := rfl
@[simp] theorem State.post_fab (src data : Nat) : (s.post src data).fab = s.fab := rfl
@[simp] theorem State.post_vot (src data : Nat) : (s.post src data).vot = s.vot := rfl
@[simp] theorem State.post_cyc (src data : Nat) : (s.post src data).cyc = s.cyc := rfl
@[simp] theorem State.post_fer (src data : Nat) : (s.post src data).fer = s.fer := rfl
@[simp] theorem State.post_fio (src data : Nat) : (s.post src data).fio = s.fio := rfl
@[simp] theorem State.post_crs (src data : Nat) : (s.post src data).crs = s.crs := rfl
@[simp] theorem State.post_mot (src data : Nat) : (s.post src data).mot = s.mot := rfl
@[simp] theorem State.post_lop (src data : Nat) : (s.post src data).lop = s.lop := rfl
@[simp] theorem State.post_clp (src data : Nat) : (s.post src data).clp = s.clp := rfl
@[simp] theorem State.post_can (src data : Nat) : (s.post src data).can = s.can := rfl
@[simp] theorem State.post_acq (src data : Nat) : (s.post src data).acq = s.acq := rfl
@[simp] theorem State.post_pwr (src data : Nat) : (s.post src data).pwr = s.pwr := rfl
@[simp] theorem State.post_rst (src data : Nat) : (s.post src data).rst = s.rst := rfl
@[simp] theorem State.post_bst (src data : Nat) : (s.post src data).bst = s.bst := rfl
@[simp] theorem State.post_log (src data : Nat) : (s.post src data).log = s.log := rfl
@[simp] theorem State.post_upd (src data : Nat) : (s.post src data).upd = s.upd := rfl
@[simp] theorem State.post_par (src data : Nat) : (s.post src data).par = s.par := rfl
@[simp] theorem State.post_car (src data : Nat) : (s.post src data).car = s.car := rfl
@[simp] theorem State.post_tim (src data : Nat) : (s.post src data).tim = s.tim := rfl
@[simp] theorem State.post_pending (src data : Nat) : (s.post src data).pending = s.pending := rfl

/-! ## send -/

@[simp] theorem State.send_tick (m : Sent) : (s.send m).tick = s.tick := rfl
@[simp] theorem State.send_regs (m : Sent) : (s.send m).regs = s.regs := rfl
@[simp] theorem State.send_plant (m : Sent) : (s.send m).plant = s.plant := rfl
@[simp] theorem State.send_prtActive (m : Sent) : (s.send m).prtActive = s.prtActive := rfl
@[simp] theorem State.send_mem (m : Sent) : (s.send m).mem = s.mem := rfl
@[simp] theorem State.send_poison (m : Sent) : (s.send m).poison = s.poison := rfl
@[simp] theorem State.send_dramLost (m : Sent) : (s.send m).dramLost = s.dramLost := rfl
@[simp] theorem State.send_dramLoss (m : Sent) : (s.send m).dramLoss = s.dramLoss := rfl
@[simp] theorem State.send_dramWritten (m : Sent) : (s.send m).dramWritten = s.dramWritten := rfl
@[simp] theorem State.send_free (m : Sent) : (s.send m).free = s.free := rfl
@[simp] theorem State.send_rng (m : Sent) : (s.send m).rng = s.rng := rfl
@[simp] theorem State.send_fab (m : Sent) : (s.send m).fab = s.fab := rfl
@[simp] theorem State.send_vot (m : Sent) : (s.send m).vot = s.vot := rfl
@[simp] theorem State.send_cyc (m : Sent) : (s.send m).cyc = s.cyc := rfl
@[simp] theorem State.send_fer (m : Sent) : (s.send m).fer = s.fer := rfl
@[simp] theorem State.send_fio (m : Sent) : (s.send m).fio = s.fio := rfl
@[simp] theorem State.send_crs (m : Sent) : (s.send m).crs = s.crs := rfl
@[simp] theorem State.send_mot (m : Sent) : (s.send m).mot = s.mot := rfl
@[simp] theorem State.send_lop (m : Sent) : (s.send m).lop = s.lop := rfl
@[simp] theorem State.send_clp (m : Sent) : (s.send m).clp = s.clp := rfl
@[simp] theorem State.send_can (m : Sent) : (s.send m).can = s.can := rfl
@[simp] theorem State.send_acq (m : Sent) : (s.send m).acq = s.acq := rfl
@[simp] theorem State.send_pwr (m : Sent) : (s.send m).pwr = s.pwr := rfl
@[simp] theorem State.send_rst (m : Sent) : (s.send m).rst = s.rst := rfl
@[simp] theorem State.send_bst (m : Sent) : (s.send m).bst = s.bst := rfl
@[simp] theorem State.send_log (m : Sent) : (s.send m).log = s.log := rfl
@[simp] theorem State.send_upd (m : Sent) : (s.send m).upd = s.upd := rfl
@[simp] theorem State.send_par (m : Sent) : (s.send m).par = s.par := rfl
@[simp] theorem State.send_car (m : Sent) : (s.send m).car = s.car := rfl
@[simp] theorem State.send_tim (m : Sent) : (s.send m).tim = s.tim := rfl
@[simp] theorem State.send_pending (m : Sent) : (s.send m).pending = s.pending := rfl

/-! ## ransel -/

@[simp] theorem State.ransel_tick (kind : Nat) (p : List Nat) : (s.ransel kind p).tick = s.tick := rfl
@[simp] theorem State.ransel_regs (kind : Nat) (p : List Nat) : (s.ransel kind p).regs = s.regs := rfl
@[simp] theorem State.ransel_plant (kind : Nat) (p : List Nat) : (s.ransel kind p).plant = s.plant := rfl
@[simp] theorem State.ransel_prtActive (kind : Nat) (p : List Nat) : (s.ransel kind p).prtActive = s.prtActive := rfl
@[simp] theorem State.ransel_mem (kind : Nat) (p : List Nat) : (s.ransel kind p).mem = s.mem := rfl
@[simp] theorem State.ransel_poison (kind : Nat) (p : List Nat) : (s.ransel kind p).poison = s.poison := rfl
@[simp] theorem State.ransel_dramLost (kind : Nat) (p : List Nat) : (s.ransel kind p).dramLost = s.dramLost := rfl
@[simp] theorem State.ransel_dramLoss (kind : Nat) (p : List Nat) : (s.ransel kind p).dramLoss = s.dramLoss := rfl
@[simp] theorem State.ransel_dramWritten (kind : Nat) (p : List Nat) : (s.ransel kind p).dramWritten = s.dramWritten := rfl
@[simp] theorem State.ransel_free (kind : Nat) (p : List Nat) : (s.ransel kind p).free = s.free := rfl
@[simp] theorem State.ransel_rng (kind : Nat) (p : List Nat) : (s.ransel kind p).rng = s.rng := rfl
@[simp] theorem State.ransel_fab (kind : Nat) (p : List Nat) : (s.ransel kind p).fab = s.fab := rfl
@[simp] theorem State.ransel_vot (kind : Nat) (p : List Nat) : (s.ransel kind p).vot = s.vot := rfl
@[simp] theorem State.ransel_cyc (kind : Nat) (p : List Nat) : (s.ransel kind p).cyc = s.cyc := rfl
@[simp] theorem State.ransel_fer (kind : Nat) (p : List Nat) : (s.ransel kind p).fer = s.fer := rfl
@[simp] theorem State.ransel_fio (kind : Nat) (p : List Nat) : (s.ransel kind p).fio = s.fio := rfl
@[simp] theorem State.ransel_crs (kind : Nat) (p : List Nat) : (s.ransel kind p).crs = s.crs := rfl
@[simp] theorem State.ransel_mot (kind : Nat) (p : List Nat) : (s.ransel kind p).mot = s.mot := rfl
@[simp] theorem State.ransel_lop (kind : Nat) (p : List Nat) : (s.ransel kind p).lop = s.lop := rfl
@[simp] theorem State.ransel_clp (kind : Nat) (p : List Nat) : (s.ransel kind p).clp = s.clp := rfl
@[simp] theorem State.ransel_can (kind : Nat) (p : List Nat) : (s.ransel kind p).can = s.can := rfl
@[simp] theorem State.ransel_acq (kind : Nat) (p : List Nat) : (s.ransel kind p).acq = s.acq := rfl
@[simp] theorem State.ransel_pwr (kind : Nat) (p : List Nat) : (s.ransel kind p).pwr = s.pwr := rfl
@[simp] theorem State.ransel_rst (kind : Nat) (p : List Nat) : (s.ransel kind p).rst = s.rst := rfl
@[simp] theorem State.ransel_bst (kind : Nat) (p : List Nat) : (s.ransel kind p).bst = s.bst := rfl
@[simp] theorem State.ransel_log (kind : Nat) (p : List Nat) : (s.ransel kind p).log = s.log := rfl
@[simp] theorem State.ransel_upd (kind : Nat) (p : List Nat) : (s.ransel kind p).upd = s.upd := rfl
@[simp] theorem State.ransel_car (kind : Nat) (p : List Nat) : (s.ransel kind p).car = s.car := rfl
@[simp] theorem State.ransel_tim (kind : Nat) (p : List Nat) : (s.ransel kind p).tim = s.tim := rfl
@[simp] theorem State.ransel_pending (kind : Nat) (p : List Nat) : (s.ransel kind p).pending = s.pending := rfl

/-! ## store -/

@[simp] theorem State.store_tick (a : Nat) (bs : List Nat) : (s.store a bs).tick = s.tick := rfl
@[simp] theorem State.store_regs (a : Nat) (bs : List Nat) : (s.store a bs).regs = s.regs := rfl
@[simp] theorem State.store_plant (a : Nat) (bs : List Nat) : (s.store a bs).plant = s.plant := rfl
@[simp] theorem State.store_prtActive (a : Nat) (bs : List Nat) : (s.store a bs).prtActive = s.prtActive := rfl
@[simp] theorem State.store_dramLost (a : Nat) (bs : List Nat) : (s.store a bs).dramLost = s.dramLost := rfl
@[simp] theorem State.store_dramLoss (a : Nat) (bs : List Nat) : (s.store a bs).dramLoss = s.dramLoss := rfl
@[simp] theorem State.store_free (a : Nat) (bs : List Nat) : (s.store a bs).free = s.free := rfl
@[simp] theorem State.store_sent (a : Nat) (bs : List Nat) : (s.store a bs).sent = s.sent := rfl
@[simp] theorem State.store_rng (a : Nat) (bs : List Nat) : (s.store a bs).rng = s.rng := rfl
@[simp] theorem State.store_fab (a : Nat) (bs : List Nat) : (s.store a bs).fab = s.fab := rfl
@[simp] theorem State.store_vot (a : Nat) (bs : List Nat) : (s.store a bs).vot = s.vot := rfl
@[simp] theorem State.store_cyc (a : Nat) (bs : List Nat) : (s.store a bs).cyc = s.cyc := rfl
@[simp] theorem State.store_fer (a : Nat) (bs : List Nat) : (s.store a bs).fer = s.fer := rfl
@[simp] theorem State.store_fio (a : Nat) (bs : List Nat) : (s.store a bs).fio = s.fio := rfl
@[simp] theorem State.store_crs (a : Nat) (bs : List Nat) : (s.store a bs).crs = s.crs := rfl
@[simp] theorem State.store_mot (a : Nat) (bs : List Nat) : (s.store a bs).mot = s.mot := rfl
@[simp] theorem State.store_lop (a : Nat) (bs : List Nat) : (s.store a bs).lop = s.lop := rfl
@[simp] theorem State.store_clp (a : Nat) (bs : List Nat) : (s.store a bs).clp = s.clp := rfl
@[simp] theorem State.store_can (a : Nat) (bs : List Nat) : (s.store a bs).can = s.can := rfl
@[simp] theorem State.store_acq (a : Nat) (bs : List Nat) : (s.store a bs).acq = s.acq := rfl
@[simp] theorem State.store_pwr (a : Nat) (bs : List Nat) : (s.store a bs).pwr = s.pwr := rfl
@[simp] theorem State.store_rst (a : Nat) (bs : List Nat) : (s.store a bs).rst = s.rst := rfl
@[simp] theorem State.store_bst (a : Nat) (bs : List Nat) : (s.store a bs).bst = s.bst := rfl
@[simp] theorem State.store_log (a : Nat) (bs : List Nat) : (s.store a bs).log = s.log := rfl
@[simp] theorem State.store_upd (a : Nat) (bs : List Nat) : (s.store a bs).upd = s.upd := rfl
@[simp] theorem State.store_par (a : Nat) (bs : List Nat) : (s.store a bs).par = s.par := rfl
@[simp] theorem State.store_car (a : Nat) (bs : List Nat) : (s.store a bs).car = s.car := rfl
@[simp] theorem State.store_tim (a : Nat) (bs : List Nat) : (s.store a bs).tim = s.tim := rfl
@[simp] theorem State.store_pending (a : Nat) (bs : List Nat) : (s.store a bs).pending = s.pending := rfl

/-! ## setDom -/

@[simp] theorem State.setDom_tick (d : Nat) (r : PwrRt) : (s.setDom d r).tick = s.tick := rfl
@[simp] theorem State.setDom_regs (d : Nat) (r : PwrRt) : (s.setDom d r).regs = s.regs := rfl
@[simp] theorem State.setDom_plant (d : Nat) (r : PwrRt) : (s.setDom d r).plant = s.plant := rfl
@[simp] theorem State.setDom_prtActive (d : Nat) (r : PwrRt) : (s.setDom d r).prtActive = s.prtActive := rfl
@[simp] theorem State.setDom_mem (d : Nat) (r : PwrRt) : (s.setDom d r).mem = s.mem := rfl
@[simp] theorem State.setDom_poison (d : Nat) (r : PwrRt) : (s.setDom d r).poison = s.poison := rfl
@[simp] theorem State.setDom_dramLost (d : Nat) (r : PwrRt) : (s.setDom d r).dramLost = s.dramLost := rfl
@[simp] theorem State.setDom_dramLoss (d : Nat) (r : PwrRt) : (s.setDom d r).dramLoss = s.dramLoss := rfl
@[simp] theorem State.setDom_dramWritten (d : Nat) (r : PwrRt) : (s.setDom d r).dramWritten = s.dramWritten := rfl
@[simp] theorem State.setDom_free (d : Nat) (r : PwrRt) : (s.setDom d r).free = s.free := rfl
@[simp] theorem State.setDom_sent (d : Nat) (r : PwrRt) : (s.setDom d r).sent = s.sent := rfl
@[simp] theorem State.setDom_rng (d : Nat) (r : PwrRt) : (s.setDom d r).rng = s.rng := rfl
@[simp] theorem State.setDom_fab (d : Nat) (r : PwrRt) : (s.setDom d r).fab = s.fab := rfl
@[simp] theorem State.setDom_vot (d : Nat) (r : PwrRt) : (s.setDom d r).vot = s.vot := rfl
@[simp] theorem State.setDom_cyc (d : Nat) (r : PwrRt) : (s.setDom d r).cyc = s.cyc := rfl
@[simp] theorem State.setDom_fer (d : Nat) (r : PwrRt) : (s.setDom d r).fer = s.fer := rfl
@[simp] theorem State.setDom_fio (d : Nat) (r : PwrRt) : (s.setDom d r).fio = s.fio := rfl
@[simp] theorem State.setDom_crs (d : Nat) (r : PwrRt) : (s.setDom d r).crs = s.crs := rfl
@[simp] theorem State.setDom_mot (d : Nat) (r : PwrRt) : (s.setDom d r).mot = s.mot := rfl
@[simp] theorem State.setDom_lop (d : Nat) (r : PwrRt) : (s.setDom d r).lop = s.lop := rfl
@[simp] theorem State.setDom_clp (d : Nat) (r : PwrRt) : (s.setDom d r).clp = s.clp := rfl
@[simp] theorem State.setDom_can (d : Nat) (r : PwrRt) : (s.setDom d r).can = s.can := rfl
@[simp] theorem State.setDom_acq (d : Nat) (r : PwrRt) : (s.setDom d r).acq = s.acq := rfl
@[simp] theorem State.setDom_rst (d : Nat) (r : PwrRt) : (s.setDom d r).rst = s.rst := rfl
@[simp] theorem State.setDom_bst (d : Nat) (r : PwrRt) : (s.setDom d r).bst = s.bst := rfl
@[simp] theorem State.setDom_log (d : Nat) (r : PwrRt) : (s.setDom d r).log = s.log := rfl
@[simp] theorem State.setDom_upd (d : Nat) (r : PwrRt) : (s.setDom d r).upd = s.upd := rfl
@[simp] theorem State.setDom_par (d : Nat) (r : PwrRt) : (s.setDom d r).par = s.par := rfl
@[simp] theorem State.setDom_car (d : Nat) (r : PwrRt) : (s.setDom d r).car = s.car := rfl
@[simp] theorem State.setDom_tim (d : Nat) (r : PwrRt) : (s.setDom d r).tim = s.tim := rfl
@[simp] theorem State.setDom_pending (d : Nat) (r : PwrRt) : (s.setDom d r).pending = s.pending := rfl

/-! ## setArb -/

@[simp] theorem State.setArb_tick (t : Nat) (a : Arbiter) : (s.setArb t a).tick = s.tick := rfl
@[simp] theorem State.setArb_regs (t : Nat) (a : Arbiter) : (s.setArb t a).regs = s.regs := rfl
@[simp] theorem State.setArb_plant (t : Nat) (a : Arbiter) : (s.setArb t a).plant = s.plant := rfl
@[simp] theorem State.setArb_prtActive (t : Nat) (a : Arbiter) : (s.setArb t a).prtActive = s.prtActive := rfl
@[simp] theorem State.setArb_mem (t : Nat) (a : Arbiter) : (s.setArb t a).mem = s.mem := rfl
@[simp] theorem State.setArb_poison (t : Nat) (a : Arbiter) : (s.setArb t a).poison = s.poison := rfl
@[simp] theorem State.setArb_dramLost (t : Nat) (a : Arbiter) : (s.setArb t a).dramLost = s.dramLost := rfl
@[simp] theorem State.setArb_dramLoss (t : Nat) (a : Arbiter) : (s.setArb t a).dramLoss = s.dramLoss := rfl
@[simp] theorem State.setArb_dramWritten (t : Nat) (a : Arbiter) : (s.setArb t a).dramWritten = s.dramWritten := rfl
@[simp] theorem State.setArb_free (t : Nat) (a : Arbiter) : (s.setArb t a).free = s.free := rfl
@[simp] theorem State.setArb_sent (t : Nat) (a : Arbiter) : (s.setArb t a).sent = s.sent := rfl
@[simp] theorem State.setArb_rng (t : Nat) (a : Arbiter) : (s.setArb t a).rng = s.rng := rfl
@[simp] theorem State.setArb_vot (t : Nat) (a : Arbiter) : (s.setArb t a).vot = s.vot := rfl
@[simp] theorem State.setArb_cyc (t : Nat) (a : Arbiter) : (s.setArb t a).cyc = s.cyc := rfl
@[simp] theorem State.setArb_fer (t : Nat) (a : Arbiter) : (s.setArb t a).fer = s.fer := rfl
@[simp] theorem State.setArb_fio (t : Nat) (a : Arbiter) : (s.setArb t a).fio = s.fio := rfl
@[simp] theorem State.setArb_crs (t : Nat) (a : Arbiter) : (s.setArb t a).crs = s.crs := rfl
@[simp] theorem State.setArb_mot (t : Nat) (a : Arbiter) : (s.setArb t a).mot = s.mot := rfl
@[simp] theorem State.setArb_lop (t : Nat) (a : Arbiter) : (s.setArb t a).lop = s.lop := rfl
@[simp] theorem State.setArb_clp (t : Nat) (a : Arbiter) : (s.setArb t a).clp = s.clp := rfl
@[simp] theorem State.setArb_can (t : Nat) (a : Arbiter) : (s.setArb t a).can = s.can := rfl
@[simp] theorem State.setArb_acq (t : Nat) (a : Arbiter) : (s.setArb t a).acq = s.acq := rfl
@[simp] theorem State.setArb_pwr (t : Nat) (a : Arbiter) : (s.setArb t a).pwr = s.pwr := rfl
@[simp] theorem State.setArb_rst (t : Nat) (a : Arbiter) : (s.setArb t a).rst = s.rst := rfl
@[simp] theorem State.setArb_bst (t : Nat) (a : Arbiter) : (s.setArb t a).bst = s.bst := rfl
@[simp] theorem State.setArb_log (t : Nat) (a : Arbiter) : (s.setArb t a).log = s.log := rfl
@[simp] theorem State.setArb_upd (t : Nat) (a : Arbiter) : (s.setArb t a).upd = s.upd := rfl
@[simp] theorem State.setArb_par (t : Nat) (a : Arbiter) : (s.setArb t a).par = s.par := rfl
@[simp] theorem State.setArb_car (t : Nat) (a : Arbiter) : (s.setArb t a).car = s.car := rfl
@[simp] theorem State.setArb_tim (t : Nat) (a : Arbiter) : (s.setArb t a).tim = s.tim := rfl
@[simp] theorem State.setArb_pending (t : Nat) (a : Arbiter) : (s.setArb t a).pending = s.pending := rfl

/-! ## setRing -/

@[simp] theorem State.setRing_tick (n : Nat) (r : RingRt) : (s.setRing n r).tick = s.tick := rfl
@[simp] theorem State.setRing_regs (n : Nat) (r : RingRt) : (s.setRing n r).regs = s.regs := rfl
@[simp] theorem State.setRing_plant (n : Nat) (r : RingRt) : (s.setRing n r).plant = s.plant := rfl
@[simp] theorem State.setRing_prtActive (n : Nat) (r : RingRt) : (s.setRing n r).prtActive = s.prtActive := rfl
@[simp] theorem State.setRing_mem (n : Nat) (r : RingRt) : (s.setRing n r).mem = s.mem := rfl
@[simp] theorem State.setRing_poison (n : Nat) (r : RingRt) : (s.setRing n r).poison = s.poison := rfl
@[simp] theorem State.setRing_dramLost (n : Nat) (r : RingRt) : (s.setRing n r).dramLost = s.dramLost := rfl
@[simp] theorem State.setRing_dramLoss (n : Nat) (r : RingRt) : (s.setRing n r).dramLoss = s.dramLoss := rfl
@[simp] theorem State.setRing_dramWritten (n : Nat) (r : RingRt) : (s.setRing n r).dramWritten = s.dramWritten := rfl
@[simp] theorem State.setRing_free (n : Nat) (r : RingRt) : (s.setRing n r).free = s.free := rfl
@[simp] theorem State.setRing_sent (n : Nat) (r : RingRt) : (s.setRing n r).sent = s.sent := rfl
@[simp] theorem State.setRing_fab (n : Nat) (r : RingRt) : (s.setRing n r).fab = s.fab := rfl
@[simp] theorem State.setRing_vot (n : Nat) (r : RingRt) : (s.setRing n r).vot = s.vot := rfl
@[simp] theorem State.setRing_cyc (n : Nat) (r : RingRt) : (s.setRing n r).cyc = s.cyc := rfl
@[simp] theorem State.setRing_fer (n : Nat) (r : RingRt) : (s.setRing n r).fer = s.fer := rfl
@[simp] theorem State.setRing_fio (n : Nat) (r : RingRt) : (s.setRing n r).fio = s.fio := rfl
@[simp] theorem State.setRing_crs (n : Nat) (r : RingRt) : (s.setRing n r).crs = s.crs := rfl
@[simp] theorem State.setRing_mot (n : Nat) (r : RingRt) : (s.setRing n r).mot = s.mot := rfl
@[simp] theorem State.setRing_lop (n : Nat) (r : RingRt) : (s.setRing n r).lop = s.lop := rfl
@[simp] theorem State.setRing_clp (n : Nat) (r : RingRt) : (s.setRing n r).clp = s.clp := rfl
@[simp] theorem State.setRing_can (n : Nat) (r : RingRt) : (s.setRing n r).can = s.can := rfl
@[simp] theorem State.setRing_acq (n : Nat) (r : RingRt) : (s.setRing n r).acq = s.acq := rfl
@[simp] theorem State.setRing_pwr (n : Nat) (r : RingRt) : (s.setRing n r).pwr = s.pwr := rfl
@[simp] theorem State.setRing_rst (n : Nat) (r : RingRt) : (s.setRing n r).rst = s.rst := rfl
@[simp] theorem State.setRing_bst (n : Nat) (r : RingRt) : (s.setRing n r).bst = s.bst := rfl
@[simp] theorem State.setRing_log (n : Nat) (r : RingRt) : (s.setRing n r).log = s.log := rfl
@[simp] theorem State.setRing_upd (n : Nat) (r : RingRt) : (s.setRing n r).upd = s.upd := rfl
@[simp] theorem State.setRing_par (n : Nat) (r : RingRt) : (s.setRing n r).par = s.par := rfl
@[simp] theorem State.setRing_car (n : Nat) (r : RingRt) : (s.setRing n r).car = s.car := rfl
@[simp] theorem State.setRing_tim (n : Nat) (r : RingRt) : (s.setRing n r).tim = s.tim := rfl
@[simp] theorem State.setRing_pending (n : Nat) (r : RingRt) : (s.setRing n r).pending = s.pending := rfl

/-! ## setERing -/

@[simp] theorem State.setERing_tick (n : Nat) (r : ERingRt) : (s.setERing n r).tick = s.tick := rfl
@[simp] theorem State.setERing_regs (n : Nat) (r : ERingRt) : (s.setERing n r).regs = s.regs := rfl
@[simp] theorem State.setERing_plant (n : Nat) (r : ERingRt) : (s.setERing n r).plant = s.plant := rfl
@[simp] theorem State.setERing_prtActive (n : Nat) (r : ERingRt) : (s.setERing n r).prtActive = s.prtActive := rfl
@[simp] theorem State.setERing_mem (n : Nat) (r : ERingRt) : (s.setERing n r).mem = s.mem := rfl
@[simp] theorem State.setERing_poison (n : Nat) (r : ERingRt) : (s.setERing n r).poison = s.poison := rfl
@[simp] theorem State.setERing_dramLost (n : Nat) (r : ERingRt) : (s.setERing n r).dramLost = s.dramLost := rfl
@[simp] theorem State.setERing_dramLoss (n : Nat) (r : ERingRt) : (s.setERing n r).dramLoss = s.dramLoss := rfl
@[simp] theorem State.setERing_dramWritten (n : Nat) (r : ERingRt) : (s.setERing n r).dramWritten = s.dramWritten := rfl
@[simp] theorem State.setERing_free (n : Nat) (r : ERingRt) : (s.setERing n r).free = s.free := rfl
@[simp] theorem State.setERing_sent (n : Nat) (r : ERingRt) : (s.setERing n r).sent = s.sent := rfl
@[simp] theorem State.setERing_fab (n : Nat) (r : ERingRt) : (s.setERing n r).fab = s.fab := rfl
@[simp] theorem State.setERing_vot (n : Nat) (r : ERingRt) : (s.setERing n r).vot = s.vot := rfl
@[simp] theorem State.setERing_cyc (n : Nat) (r : ERingRt) : (s.setERing n r).cyc = s.cyc := rfl
@[simp] theorem State.setERing_fer (n : Nat) (r : ERingRt) : (s.setERing n r).fer = s.fer := rfl
@[simp] theorem State.setERing_fio (n : Nat) (r : ERingRt) : (s.setERing n r).fio = s.fio := rfl
@[simp] theorem State.setERing_crs (n : Nat) (r : ERingRt) : (s.setERing n r).crs = s.crs := rfl
@[simp] theorem State.setERing_mot (n : Nat) (r : ERingRt) : (s.setERing n r).mot = s.mot := rfl
@[simp] theorem State.setERing_lop (n : Nat) (r : ERingRt) : (s.setERing n r).lop = s.lop := rfl
@[simp] theorem State.setERing_clp (n : Nat) (r : ERingRt) : (s.setERing n r).clp = s.clp := rfl
@[simp] theorem State.setERing_can (n : Nat) (r : ERingRt) : (s.setERing n r).can = s.can := rfl
@[simp] theorem State.setERing_acq (n : Nat) (r : ERingRt) : (s.setERing n r).acq = s.acq := rfl
@[simp] theorem State.setERing_pwr (n : Nat) (r : ERingRt) : (s.setERing n r).pwr = s.pwr := rfl
@[simp] theorem State.setERing_rst (n : Nat) (r : ERingRt) : (s.setERing n r).rst = s.rst := rfl
@[simp] theorem State.setERing_bst (n : Nat) (r : ERingRt) : (s.setERing n r).bst = s.bst := rfl
@[simp] theorem State.setERing_log (n : Nat) (r : ERingRt) : (s.setERing n r).log = s.log := rfl
@[simp] theorem State.setERing_upd (n : Nat) (r : ERingRt) : (s.setERing n r).upd = s.upd := rfl
@[simp] theorem State.setERing_par (n : Nat) (r : ERingRt) : (s.setERing n r).par = s.par := rfl
@[simp] theorem State.setERing_car (n : Nat) (r : ERingRt) : (s.setERing n r).car = s.car := rfl
@[simp] theorem State.setERing_tim (n : Nat) (r : ERingRt) : (s.setERing n r).tim = s.tim := rfl
@[simp] theorem State.setERing_pending (n : Nat) (r : ERingRt) : (s.setERing n r).pending = s.pending := rfl

/-! ## setCore -/

@[simp] theorem State.setCore_tick (c : Nat) (k : Core) : (s.setCore c k).tick = s.tick := rfl
@[simp] theorem State.setCore_regs (c : Nat) (k : Core) : (s.setCore c k).regs = s.regs := rfl
@[simp] theorem State.setCore_plant (c : Nat) (k : Core) : (s.setCore c k).plant = s.plant := rfl
@[simp] theorem State.setCore_prtActive (c : Nat) (k : Core) : (s.setCore c k).prtActive = s.prtActive := rfl
@[simp] theorem State.setCore_mem (c : Nat) (k : Core) : (s.setCore c k).mem = s.mem := rfl
@[simp] theorem State.setCore_poison (c : Nat) (k : Core) : (s.setCore c k).poison = s.poison := rfl
@[simp] theorem State.setCore_dramLost (c : Nat) (k : Core) : (s.setCore c k).dramLost = s.dramLost := rfl
@[simp] theorem State.setCore_dramLoss (c : Nat) (k : Core) : (s.setCore c k).dramLoss = s.dramLoss := rfl
@[simp] theorem State.setCore_dramWritten (c : Nat) (k : Core) : (s.setCore c k).dramWritten = s.dramWritten := rfl
@[simp] theorem State.setCore_free (c : Nat) (k : Core) : (s.setCore c k).free = s.free := rfl
@[simp] theorem State.setCore_sent (c : Nat) (k : Core) : (s.setCore c k).sent = s.sent := rfl
@[simp] theorem State.setCore_rng (c : Nat) (k : Core) : (s.setCore c k).rng = s.rng := rfl
@[simp] theorem State.setCore_fab (c : Nat) (k : Core) : (s.setCore c k).fab = s.fab := rfl
@[simp] theorem State.setCore_cyc (c : Nat) (k : Core) : (s.setCore c k).cyc = s.cyc := rfl
@[simp] theorem State.setCore_fer (c : Nat) (k : Core) : (s.setCore c k).fer = s.fer := rfl
@[simp] theorem State.setCore_fio (c : Nat) (k : Core) : (s.setCore c k).fio = s.fio := rfl
@[simp] theorem State.setCore_crs (c : Nat) (k : Core) : (s.setCore c k).crs = s.crs := rfl
@[simp] theorem State.setCore_mot (c : Nat) (k : Core) : (s.setCore c k).mot = s.mot := rfl
@[simp] theorem State.setCore_lop (c : Nat) (k : Core) : (s.setCore c k).lop = s.lop := rfl
@[simp] theorem State.setCore_clp (c : Nat) (k : Core) : (s.setCore c k).clp = s.clp := rfl
@[simp] theorem State.setCore_can (c : Nat) (k : Core) : (s.setCore c k).can = s.can := rfl
@[simp] theorem State.setCore_acq (c : Nat) (k : Core) : (s.setCore c k).acq = s.acq := rfl
@[simp] theorem State.setCore_pwr (c : Nat) (k : Core) : (s.setCore c k).pwr = s.pwr := rfl
@[simp] theorem State.setCore_rst (c : Nat) (k : Core) : (s.setCore c k).rst = s.rst := rfl
@[simp] theorem State.setCore_bst (c : Nat) (k : Core) : (s.setCore c k).bst = s.bst := rfl
@[simp] theorem State.setCore_log (c : Nat) (k : Core) : (s.setCore c k).log = s.log := rfl
@[simp] theorem State.setCore_upd (c : Nat) (k : Core) : (s.setCore c k).upd = s.upd := rfl
@[simp] theorem State.setCore_par (c : Nat) (k : Core) : (s.setCore c k).par = s.par := rfl
@[simp] theorem State.setCore_car (c : Nat) (k : Core) : (s.setCore c k).car = s.car := rfl
@[simp] theorem State.setCore_tim (c : Nat) (k : Core) : (s.setCore c k).tim = s.tim := rfl
@[simp] theorem State.setCore_pending (c : Nat) (k : Core) : (s.setCore c k).pending = s.pending := rfl

/-! ## Register fields -/

@[simp] theorem State.get_set_self (f : Fld) (v : Nat) : (s.set f v).get f = v % 2 ^ f.w := by
  simp [State.get, State.set]

@[simp] theorem State.get_set_ne {f g : Fld} (v : Nat) (h : g.id ≠ f.id) : (s.set f v).get g = s.get g := by
  simp [State.get, State.set, h]

/-- A field reads what was written to it, cut to its width; another field reads as before. -/
theorem State.get_set (f g : Fld) (v : Nat) (h : g.id = f.id → g = f) :
    (s.set f v).get g = if g.id = f.id then v % 2 ^ f.w else s.get g := by
  split
  · rename_i e; rw [h e]; simp
  · rename_i e; simp [e]

theorem State.get_setB_self (f : Fld) (b : Bool) (h : 1 ≤ f.w) : (s.setB f b).get f = b2n b := by
  simp only [State.setB, State.get_set_self]
  apply Nat.mod_eq_of_lt
  have : 2 ^ 1 ≤ 2 ^ f.w := Nat.pow_le_pow_right (by omega) h
  cases b <;> simp [b2n]
  omega

@[simp] theorem State.get_setB_ne {f g : Fld} (b : Bool) (h : g.id ≠ f.id) : (s.setB f b).get g = s.get g := by
  simp [State.setB, h]

@[simp] theorem State.get_bump_ne {f g : Fld} (k : Nat) (h : g.id ≠ f.id) : (s.bump f k).get g = s.get g := by
  simp [State.bump, h]

@[simp] theorem State.get_post (src data : Nat) (g : Fld) : (s.post src data).get g = s.get g := rfl
@[simp] theorem State.get_send (m : Sent) (g : Fld) : (s.send m).get g = s.get g := rfl
@[simp] theorem State.get_ransel (kind : Nat) (p : List Nat) (g : Fld) : (s.ransel kind p).get g = s.get g := rfl
@[simp] theorem State.get_store (a : Nat) (bs : List Nat) (g : Fld) : (s.store a bs).get g = s.get g := rfl
@[simp] theorem State.get_setDom (d : Nat) (r : PwrRt) (g : Fld) : (s.setDom d r).get g = s.get g := rfl
@[simp] theorem State.get_setArb (t : Nat) (a : Arbiter) (g : Fld) : (s.setArb t a).get g = s.get g := rfl
@[simp] theorem State.get_setRing (n : Nat) (r : RingRt) (g : Fld) : (s.setRing n r).get g = s.get g := rfl
@[simp] theorem State.get_setERing (n : Nat) (r : ERingRt) (g : Fld) : (s.setERing n r).get g = s.get g := rfl
@[simp] theorem State.get_setCore (c : Nat) (k : Core) (g : Fld) : (s.setCore c k).get g = s.get g := rfl
@[simp] theorem State.get_pending (l : List Instr) (g : Fld) : ({ s with pending := l }).get g = s.get g := rfl

end Sys2Proof.Machine
end

