-- ==== Sys2Proof/Laws/Access.lean ====
section
/-! SUPPORT. What reads of an engine or a service core answer: as many bytes as were asked for (R87, R90), zeros where
SRAM lists nothing; a transaction presented leaves memory as it is. -/

namespace Sys2Proof.Machine

theorem State.bytes_length (s : State) (a n : Nat) : (s.bytes a n).length = n := by simp [State.bytes]

theorem State.read_length {s t : State} {v : Via} {a n : Nat} {k : Kind} {bs : List Nat}
    (h : s.read v a n k = (t, .ok bs)) : bs.length = n := by
  unfold State.read at h
  split at h
  · simp at h
  · split at h
    · simp at h
    · dsimp only at h
      split at h
      · simp at h
      · split at h
        · simp at h
        · simp only [Prod.mk.injEq, Except.ok.injEq] at h
          rw [← h.2, State.bytes_length]

theorem span_le (a n : Nat) : span a n ≤ n := by unfold span; omega

theorem span_pos {a n : Nat} (h : n ≠ 0) : 0 < span a n := by unfold span; omega

theorem State.readAll_length {v : Via} : ∀ (fuel a n : Nat) (s t : State) (bs : List Nat),
    n < fuel → s.readAll v fuel a n = (t, bs, none) → bs.length = n := by
  intro fuel
  induction fuel with
  | zero => intro a n s t bs h; omega
  | succ fuel ih =>
    intro a n s t bs hf h
    unfold State.readAll at h
    split at h
    · simp only [Prod.mk.injEq] at h; rw [← h.2.1]; simp_all
    · rename_i hn
      split at h
      · simp at h
      · rename_i s1 b hr
        have h1 := State.read_length hr
        simp only [Prod.mk.injEq] at h
        have hp := span_pos (a := a) hn
        have hl := span_le a n
        have h2 := ih (a + span a n) (n - span a n) s1 t (s1.readAll v fuel (a + span a n) (n - span a n)).2.1 (by omega)
          (by rw [← h.1, ← h.2.2])
        rw [← h.2.1, List.length_append, h1, h2]; omega

theorem State.readBuf_length {v : Via} {a n : Nat} {s t : State} {bs : List Nat}
    (h : s.readBuf v a n = (t, bs, none)) : bs.length = n := State.readAll_length _ _ _ _ _ _ (Nat.lt_succ_self n) h

theorem Sparse.find_none {α : Type} : ∀ (l : List (Nat × α)) (k : Nat), (∀ c ∈ l, c.1 ≠ k) → Sparse.find l k = none
  | [], _, _ => rfl
  | (a, b) :: r, k, h => by
    have ha := h (a, b) (List.mem_cons_self ..)
    simp only [Sparse.find, if_neg ha]
    exact Sparse.find_none r k fun c hc => h c (List.mem_cons_of_mem _ hc)

theorem State.grant_mem (s : State) (t : Nat) (x : Txn) (b : Bool) :
    (s.grant t x b).mem = s.mem ∧ (s.grant t x b).dramLost = s.dramLost := by
  constructor
  · simp only [State.grant, State.bump, apply_ite State.mem, State.set_mem, State.post_mem, State.setArb_mem, ite_self]
  · simp only [State.grant, State.bump, apply_ite State.dramLost, State.set_dramLost, State.post_dramLost, State.setArb_dramLost, ite_self]

theorem State.serve_mem (s : State) (t : Nat) (x : Txn) (b : Bool) :
    (s.serve t x b).mem = s.mem ∧ (s.serve t x b).dramLost = s.dramLost := State.grant_mem s t x b

theorem State.arrive_mem (s : State) (t : Nat) (x : Txn) : (s.arrive t x).mem = s.mem ∧ (s.arrive t x).dramLost = s.dramLost := by
  unfold State.arrive
  rcases h : (s.arb t).inService with _ | ⟨y, f⟩
  · simp only [h]; exact State.serve_mem ..
  · rcases hc : (s.arb t).chosen with _ | c <;> simp only [h, hc] <;> constructor <;>
      simp only [apply_ite State.mem, apply_ite State.dramLost, (State.serve_mem _ _ _ _).1, (State.serve_mem _ _ _ _).2, State.bump,
        State.set_mem, State.post_mem, State.setArb_mem, State.set_dramLost, State.post_dramLost, State.setArb_dramLost, ite_self]

theorem State.takeTag_mem (s : State) (n : Nat) : (s.takeTag n).mem = s.mem ∧ (s.takeTag n).dramLost = s.dramLost := by
  constructor
  · simp only [State.takeTag, apply_ite State.mem, State.set_mem, ite_self]
  · simp only [State.takeTag, apply_ite State.dramLost, State.set_dramLost, ite_self]

theorem State.giveTag_mem (s : State) (n : Nat) : (s.giveTag n).mem = s.mem ∧ (s.giveTag n).dramLost = s.dramLost := by
  simp only [State.giveTag, State.set_mem, State.set_dramLost, and_self]

theorem State.tagged_mem (s : State) (n t : Nat) (x : Txn) :
    (s.tagged n t x).mem = s.mem ∧ (s.tagged n t x).dramLost = s.dramLost := by
  unfold State.tagged
  split
  · exact ⟨(State.arrive_mem ..).1.trans (State.takeTag_mem s n).1, (State.arrive_mem ..).2.trans (State.takeTag_mem s n).2⟩
  · exact ⟨rfl, rfl⟩

theorem State.present_mem (s : State) (v : Via) (a n : Nat) (w atomic bell : Bool) :
    (s.present v a n w atomic bell).mem = s.mem ∧ (s.present v a n w atomic bell).dramLost = s.dramLost := by
  unfold State.present; split
  · exact ⟨rfl, rfl⟩
  · exact ⟨(State.giveTag_mem ..).1.trans (State.takeTag_mem ..).1, (State.giveTag_mem ..).2.trans (State.takeTag_mem ..).2⟩
  · cases v.ring
    · exact State.arrive_mem ..
    · exact State.tagged_mem ..

theorem rangeOf_sram {a : Nat} (h : a < 0x1800000) : rangeOf a = .sram := by simp [rangeOf, h]

theorem State.readByte_zero {s : State} {a : Nat} (hd : s.dramLost = false) (h : a < 0x1800000) (hm : ∀ c ∈ s.mem, c.1 ≠ a) :
    s.readByte a = 0 := by
  simp [State.readByte, hd, State.byte, Sparse.get, Sparse.find_none s.mem a hm, memDefault, within, rangeOf_sram h]

theorem State.read_zero {s t : State} {v : Via} {a n : Nat} {k : Kind} {bs : List Nat} (hd : s.dramLost = false)
    (h : a + n ≤ 0x1800000) (hn : 0 < n) (hm : ∀ c ∈ s.mem, c.1 < a ∨ a + n ≤ c.1) (hr : s.read v a n k = (t, .ok bs)) :
    bs = List.replicate n 0 ∧ t.mem = s.mem ∧ t.dramLost = false := by
  have hw : within .dram a n = false := by simp [within, rangeOf_sram (a := a) (by omega)]
  unfold State.read at hr
  split at hr
  · simp at hr
  · split at hr
    · simp at hr
    · simp only [State.dramUp, hw] at hr
      have hp := State.present_mem s v a n false false false
      simp only [Bool.not_false, if_true, Bool.not_true, Bool.false_eq_true, if_false] at hr
      split at hr
      · simp at hr
      · simp only [Prod.mk.injEq, Except.ok.injEq] at hr
        obtain ⟨rfl, rfl⟩ := hr
        refine ⟨?_, hp.1, hp.2.trans hd⟩
        rw [List.eq_replicate_iff]
        refine ⟨State.bytes_length .., fun b hb => ?_⟩
        simp only [State.bytes, List.mem_map, List.mem_range] at hb
        obtain ⟨i, hi, rfl⟩ := hb
        refine State.readByte_zero (hp.2.trans hd) (by omega) fun c hc => ?_
        rw [hp.1] at hc
        have := hm c hc; omega

theorem State.readAll_zero {v : Via} : ∀ (fuel a n : Nat) (s t : State) (bs : List Nat), s.dramLost = false → a + n ≤ 0x1800000 →
    (∀ c ∈ s.mem, c.1 < a ∨ a + n ≤ c.1) → n < fuel → s.readAll v fuel a n = (t, bs, none) → bs = List.replicate n 0 := by
  intro fuel
  induction fuel with
  | zero => intro a n s t bs _ _ _ hf; omega
  | succ fuel ih =>
    intro a n s t bs hd h hm hf hr
    unfold State.readAll at hr
    split at hr
    · simp only [Prod.mk.injEq] at hr; rw [← hr.2.1]; simp_all
    · rename_i hn
      have hp := span_pos (a := a) hn
      have hl := span_le a n
      split at hr
      · simp at hr
      · rename_i s1 b hb
        obtain ⟨rfl, hm1, hd1⟩ := State.read_zero hd (by omega) hp (fun c hc => by have := hm c hc; omega) hb
        simp only [Prod.mk.injEq] at hr
        have h2 := ih (a + span a n) (n - span a n) s1 t (s1.readAll v fuel (a + span a n) (n - span a n)).2.1 hd1 (by omega)
          (fun c hc => by rw [hm1] at hc; have := hm c hc; omega) (by omega) (by rw [← hr.1, ← hr.2.2])
        rw [← hr.2.1, h2, List.replicate_append_replicate]
        congr 1; omega

theorem State.readAll_head {s t : State} {v : Via} {fuel a n : Nat} {bs : List Nat} (hn : n ≠ 0)
    (h : s.readAll v (fuel + 1) a n = (t, bs, none)) :
    ∃ s1 b r, s.read v a (span a n) = (s1, .ok b) ∧ bs = b ++ r ∧
      s1.readAll v fuel (a + span a n) (n - span a n) = (t, r, none) := by
  unfold State.readAll at h
  rw [if_neg hn] at h
  split at h
  · simp at h
  · rename_i s1 b hb
    simp only [Prod.mk.injEq] at h
    exact ⟨s1, b, _, hb, h.2.1.symm, Prod.ext h.1 (Prod.ext rfl h.2.2)⟩
end Sys2Proof.Machine
end

