-- ==== Sys2Proof/Laws/Memory.lean ====
section
/-! SUPPORT. Memory: every operation on it keeps the canonical form, and what a read after a store returns. -/

namespace Sys2Proof.Machine

theorem Memory.wf_putByte {m : List Host.Cell} (a b : Nat) (h : Memory.wf m = true) :
    Memory.wf (putByte m a b) = true := Sparse.wf_put memDefault m a _ h

theorem Memory.wf_putBytes {m : List Host.Cell} (a : Nat) (bs : List Nat) (h : Memory.wf m = true) :
    Memory.wf (putBytes m a bs) = true := by
  induction bs generalizing m a with
  | nil => exact h
  | cons b bs ih => exact ih _ (Memory.wf_putByte a b h)

theorem State.wf_lostFilled (s : State) (us : List Nat) (h : Memory.wf s.mem = true) :
    Memory.wf (s.lostFilled us) = true := by
  unfold State.lostFilled
  generalize s.mem = m at h
  induction us generalizing m with
  | nil => exact h
  | cons u us ih => exact ih _ (Memory.wf_putBytes _ _ h)

theorem State.wf_store (s : State) (a : Nat) (bs : List Nat) (h : Memory.wf s.mem = true) :
    Memory.wf (s.store a bs).mem = true := Memory.wf_putBytes _ _ (s.wf_lostFilled _ h)

theorem State.wf_loseDram (s : State) (h : Memory.wf s.mem = true) : Memory.wf s.loseDram.mem = true :=
  Sparse.wf_filter _ _ _ h

theorem State.reset_wf : Memory.wf State.reset.mem = true := rfl

/-! ## Reading what was stored -/

theorem Memory.get_putByte_self (m : List Host.Cell) (a b : Nat) :
    Sparse.get (memDefault a) (putByte m a b) a = BitVec.ofNat 8 b := by simp [putByte]

theorem Memory.get_putByte_ne (m : List Host.Cell) {a x : Nat} (b : Nat) (h : x ≠ a) :
    Sparse.get (memDefault x) (putByte m a b) x = Sparse.get (memDefault x) m x := by simp [putByte, h]

/-- Bytes outside those stored read as before. -/
theorem Memory.get_putBytes_outside (m : List Host.Cell) {a x : Nat} (bs : List Nat)
    (h : x < a ∨ a + bs.length ≤ x) :
    Sparse.get (memDefault x) (putBytes m a bs) x = Sparse.get (memDefault x) m x := by
  induction bs generalizing m a with
  | nil => rfl
  | cons b bs ih =>
    simp only [List.length_cons] at h
    rw [putBytes, ih _ (by omega), Memory.get_putByte_ne _ _ (by omega)]

/-- Byte `i` of those stored reads as it was stored. -/
theorem Memory.get_putBytes_inside (m : List Host.Cell) (a i : Nat) (bs : List Nat) (h : i < bs.length) :
    Sparse.get (memDefault (a + i)) (putBytes m a bs) (a + i) = BitVec.ofNat 8 bs[i] := by
  induction bs generalizing m a i with
  | nil => simp at h
  | cons b bs ih =>
    cases i with
    | zero =>
      rw [putBytes, Nat.add_zero, Memory.get_putBytes_outside _ _ (by omega), Memory.get_putByte_self]
      rfl
    | succ i =>
      have := ih (putByte m a b) (a + 1) i (by simpa using h)
      rw [putBytes]
      simpa [Nat.add_assoc, Nat.add_comm 1 i] using this

/-- Where no DRAM is lost a store changes memory only by the bytes stored. -/
theorem State.store_mem (s : State) (a : Nat) (bs : List Nat) (h : s.dramLost = false) :
    (s.store a bs).mem = putBytes s.mem a bs := by
  simp [State.store, State.lostUnits, h, State.lostFilled]

end Sys2Proof.Machine
end

