-- ==== Sys2Proof/Machine/Leds.lean ====
section
/-! DEFINITION. The six status LEDs (spec/01 R36): outputs that follow the state, so no step writes them.

Marks (notes/assumptions): DEDUCED 26, 130, 132. -/

namespace Sys2Proof.Machine

/-- R36. The LEDs. -/
inductive Led where
  | run | role | pair | force | field | fault
  deriving DecidableEq, Repr

/-- R36. What an LED shows; the number is the flash rate in Hz. -/
inductive LedShow where
  | off | green | greenDouble | green1 | green4 | yellow | yellow1 | red | red1 | red4
  deriving DecidableEq, Repr

/-- R36. The last of a list of indications whose meaning applies. -/
def lastShown (l : List (LedShow × Bool)) : LedShow := l.foldl (fun x p => if p.2 then p.1 else x) .off

def State.ledRun (s : State) : LedShow :=
  if s.rst.held.isSome then .off else
  let hold := s.get CYC.TASK_HOLD_LO.HOLD != 0 || s.get CYC.TASK_HOLD_HI.HOLD != 0
  lastShown [(.green, s.inRun), (.yellow, s.inRun && hold), (.green1, !s.inRun), (.green4, !s.bit RST.START_STATUS.DONE)]

def State.ledRole (s : State) : LedShow :=
  if !s.bit RST.START_STATUS.DONE && !s.rst.stopped then .off else
  lastShown [(.green, s.pairState == 2), (.greenDouble, s.pairState == 0), (.green1, s.pairState == 1),
    (.yellow, s.pairState == 3), (.yellow1, s.pairState == 4), (.red, s.pairState == 5),
    (.red4, decide (s.now < s.car.refusedUntil))]

def State.ledPair (s : State) : LedShow :=
  let a := s.par.linkA.up
  let b := s.par.linkB.up
  let w := s.bit PAR.STATUS.WITNESS_REACHABLE
  lastShown [(.green, a && b && w), (.yellow, a && b && !w), (.green1, a != b && s.bit SYS.CARRIER_STATUS.PARTNER_SEATED),
    (.red1, !a && !b && s.bit SYS.CARRIER_STATUS.PARTNER_SEATED)]

def State.ledForce (s : State) : LedShow := if s.bit SYS.STATUS.FORCED then .yellow else .off

/-- The states of the stations of an enabled crossing. -/
def State.stationStates (s : State) (c : Nat) : List Nat :=
  (s.crs.stations.filter fun p => p.1 / 512 == c).map fun p => p.2.st

def State.ledField (s : State) : LedShow :=
  let cs := (List.range 4).filter fun c => s.bit (FLD.CROSS_CFG.ENABLE c)
  let fio := s.bit FIO.CTRL.ENABLE
  let groups := (List.range 4).map s.groupState
  let lives (c : Nat) : Bool := (s.stationStates c).any fun t => t == 2 || t == 3
  let all := (cs.all fun c => (s.stationStates c).all (· == 2)) && (!fio || groups.all (· == 0))
  let yellow (c : Nat) : Bool := let l := s.stationStates c
    (l.any fun t => t == 1 || t == 4) && lives c
      || l.any (· == 3) && decide (2 ≤ (l.filter fun t => t == 2 || t == 3).length)
  let some_ := cs.any yellow
  let dead := cs.any fun c => !lives c
  let latched := (List.range 32).any fun n => s.bit (FIO.CH_STATUS.LATCHED_OFF n)
    && decide (1 ≤ s.get (FIO.CH_STATUS.DIAG n) ∧ s.get (FIO.CH_STATUS.DIAG n) ≤ 3)
  lastShown [(.green, all && (!cs.isEmpty || fio || s.bit CLP.CTRL.ENABLE)), (.yellow, some_ || (fio && groups.any (· == 1))),
    (.red, (fio && groups.any fun g => decide (2 ≤ g)) || dead), (.red1, latched)]

/-- FAULT. Until the EEPROM has been read it counts as invalid (the model's choice, notes/assumptions/132.md). A start that
stops shows red (R507). -/
def State.ledFault (s : State) : LedShow :=
  let barred := s.bit VOT.CMP_TEST.FAIL || s.get BST.FAILED.TARGETS != 0 || (List.range 8).any s.domFailed
    || s.bit SYS.CARRIER_STATUS.SLOT_FAULT || s.rst.stopped
  lastShown [(.yellow, s.car.fallback || !s.bit SYS.CARRIER_STATUS.EEPROM_VALID), (.red1, s.bit SYS.FAULT_LED.AWAIT),
    (.red, barred)]

/-- R36. What an LED shows; all six show yellow for 0.5 s at supply start. -/
def State.led (s : State) (l : Led) : LedShow :=
  if s.now < s.car.yellowUntil then .yellow else
  match l with
  | .run => s.ledRun
  | .role => s.ledRole
  | .pair => s.ledPair
  | .force => s.ledForce
  | .field => s.ledField
  | .fault => s.ledFault

/-- The colours of a bicolour LED. -/
inductive LedColour where
  | dark | green | yellow | red
  deriving DecidableEq, Repr

/-- R36. What an indication lights at tick `t` of the timebase: flashing is at 50 % duty, the first half lit; the double flash
has a period of 2 s. -/
def LedShow.colour (x : LedShow) (t : Nat) : LedColour :=
  let half (hz : Nat) (c : LedColour) : LedColour :=
    if t % (ticksPerSec / hz) < ticksPerSec / (2 * hz) then c else .dark
  match x with
  | .off => .dark
  | .green => .green
  | .greenDouble =>
    let p := t % (2 * ticksPerSec) / (ticksPerSec / 5)
    if p = 0 ∨ p = 2 then .green else .dark
  | .green1 => half 1 .green
  | .green4 => half 4 .green
  | .yellow => .yellow
  | .yellow1 => half 1 .yellow
  | .red => .red
  | .red1 => half 1 .red
  | .red4 => half 4 .red

/-- R36. The colour of an LED now. Both units flash in phase, so the phase is that of pair time (notes/assumptions/130.md). -/
def State.ledColour (s : State) (l : Led) : LedColour := (s.led l).colour s.pairTick

end Sys2Proof.Machine
end

