-- ==== Sys2Proof/Tests/Slice0.lean ====
section
/-! SUPPORT. Tests: states that meet the premises of the statements clause by clause (witness_…), single commands whose results the
spec fixes (test_…), and terms that WellFormed refuses (smoke_…). -/

namespace Sys2Proof.Tests

set_option Elab.async false

open Sys2Proof Sys2Proof.Machine

/-! ## Small states -/

/-- Reset with some fields set, no reset held. -/
def st (l : List (Fld × Nat)) : State :=
  l.foldl (fun s p => s.set p.1 p.2) { State.reset with rst := { State.reset.rst with held := none } }

/-- The state at a tick. -/
def tk (t : Nat) (s : State) : State := { s with tick := BitVec.ofNat 64 t }

/-- The descriptor at work on ring 0. -/
def work (d : Desc) : Started := { ring := 0, idx := 0, d := d, deadline := 0 }

/-- A state in which ring 0 of engine `e`, owned by initiator `o`, offers a descriptor. -/
def offer (e : Nat) (d : Desc) (l : List (Fld × Nat) := []) (o : Nat := 4) : State :=
  let s := st ((RNG.RING_CFG.ENGINE 0, e) :: (RNG.RING_CFG.OWNER 0, o) :: l)
  { s with rng := { s.rng with started := [work d] } }

/-- The state that a command answers. -/
def after (c : Instr) (s : State) : State :=
  match exec c s with
  | .next t => t
  | _ => s

/-- Privilege ENGINEER in word 5 (R165). -/
def eng : Nat := 1 * 2 ^ 8


/-- A ring of engine 0 whose set-up passes: 16 entries at 0x1000, completions at 0x2000, doorbell at 0x3000, owner 4. -/
def ringUp (l : List (Fld × Nat) := []) : State :=
  st ([(RNG.RING_DESC_BASE_LO.ADDR 0, 0x80), (RNG.RING_DESC_BASE_HI.ENTRIES_LOG2 0, 4), (RNG.RING_COMP_BASE_LO.ADDR 0, 0x200),
    (RNG.RING_DOORBELL_LO.ADDR 0, 0xC00), (RNG.RING_CFG.OWNER 0, 4)] ++ l)

/-! ## Witnesses: the step, registers, carrier, tokens -/

theorem witness_StepRunsFrontCommand : { st [] with pending := [.tagsClearPeak] }.pending = .tagsClearPeak :: [] := rfl

theorem witness_EmptyQueueIsOneTick :
    (let s := st []; s.pending = [] ∧ s.tickWaits = false) ∧
    (let s := st [];
     let s : State := { s with car := { s.car with resetOutUntil := some 1 } };
      s.pending = [] ∧ s.fio.chainDue = [] ∧ s.rst.due = none ∧ s.pwr.retryAt = none ∧ s.pwr.held = [] ∧ s.vot.presented = [] ∧
        s.fio.zeroDue = [] ∧ s.car.resetOutUntil = some 1 ∧ 1 ≤ (tk 1 s).now) ∧
    (let s := st [];
     let s : State := { s with fio := { s.fio with zeroDue := [7] } };
      s.pending = [] ∧ s.fio.chainDue = [] ∧ s.rst.due = none ∧ s.pwr.retryAt = none ∧ s.pwr.held = [] ∧ s.vot.presented = [] ∧
        s.car.resetOutUntil = none ∧ s.fio.zeroDue = [7]) := by decide +kernel

theorem witness_EligibilityKept : (st []).EligibilityTold ∧ ∃ t, step (st []) = .next t := by
  exact ⟨⟨by decide +kernel, by decide +kernel⟩, ⟨_, rfl⟩⟩

theorem witness_NoEventRing : (st []).NoEventRing := fun _ => Nat.zero_lt_succ 31

theorem witness_CommandFrames :
    let r : Rec := { code := 0x4000, change := false };
    let s : State := { st [] with log := { queue := [r] } };
    s.log.queue = r :: [] ∧ s.nextOff r.change + r.len ≤ logSize r.change ∧ s.dramLost = false := by decide +kernel

theorem witness_MemoryStores : (st []).dramLost = false ∧ (∀ b ∈ [1, 255], b < 256) ∧ Memory.wf (st []).mem = true := by
  decide +kernel

theorem witness_PairWord : let bs := pairBytes 0xFFFFFFFF;
    bs.length = 8 ∧ (∀ b ∈ bs, b < 256) ∧ pairOk bs = true := by decide +kernel

theorem witness_RegisterWrites :
    (let s := st []; s.domOn 4 = true ∧ s.bit FLD.SETUP_LOCK.CLOSED = false ∧ s.check { init := 0 } .write 0x100B0004 4 = none ∧
      s.check { init := 0 } .write 0x100D0000 4 = none ∧ s.domOn 5 = true ∧ s.domOn (blockDomain 13) = true ∧ blockHasLock 13 = true ∧
      blockHasLock 0 = false ∧ (st [(PWR.D_STATUS.STATE 5, 2)]).domOn (blockDomain 13) = false ∧
      (st [(PWR.D_STATUS.STATE 5, 2)]).quiesces (blockDomain 13) = false ∧
      (st [(PWR.D_STATUS.STATE 5, 2)]).check { init := 0 } .write (0x10000000 + 0xD0000) 4 = none) ∧
    (let s := (st [(PWR.D_STATUS.STATE 5, 4)]).setDom 5 { quiesce := true };
      s.check { init := 0 } .write (0x10000000 + 0xD0000) 4 = none ∧ s.quiesces (blockDomain (0xD0000 / 65536)) = true) ∧
    (let s := st [(PRT.CTRL.ENFORCE, 1)]; (s.check { init := 4 } .write 0x100B0004 4).isSome = true) ∧
    (let s := st [];
     let f := FLD.ETHERTYPE.VALUE;
      ownWrite 11 4 f.lo = false ∧ f.id ≠ FLD.SETUP_LOCK.CLOSED.id ∧ s.ignores 11 4 f.lo (bitsOf 5 f.lo f.w) = false ∧ s.locked 11 = false) ∧
    (st [(FLD.SETUP_LOCK.CLOSED, 1)]).locked 11 = true := by decide +kernel

theorem witness_CarrierEvents :
    let out := st [(PAR.STATUS.STATE, 5), (SYS.CARRIER_STATUS.PARTNER_SEATED, 1), (SYS.CARRIER_STATUS.LATCH_REQUEST, 1)];
    let trail := st [(PAR.STATUS.STATE, 3)];
    State.reset.rst.held.isSome = true ∧
    out.rst.held = none ∧ out.bit SYS.CARRIER_STATUS.PARTNER_SEATED = !false ∧ out.pairState = 5 ∧
    out.bit SYS.CARRIER_STATUS.LATCH_REQUEST = true ∧ trail.rst.held = none ∧
    trail.bit SYS.CARRIER_STATUS.LATCH_REQUEST = false ∧ trail.pairState = 3 ∧
    (let s := tk (20 * ticksPerMs + 7) (st []);
     let s : State := { s with car := { s.car with seatedAt := some 5, supplyAt := 7 } };
      s.car.seatedAt = some 5 ∧ max 5 s.car.supplyAt + 20 * ticksPerMs ≤ s.now ∧ s.car.supplyLow = false) ∧
    (st []).car.fallback = false ∧ { st [] with car := { fallback := true } }.car.fallback = true ∧
    (let s := tk 65536 (st [(SYS.SPEED_CTRL.ENABLE, 255)]);
     let t : State := { s with car := { s.car with speedFrom := [(7, 0)] } };
      Sparse.find ({ s with car := { s.car with speedFrom := [] } } : State).car.speedFrom 7 = none ∧
      Sparse.find t.car.speedFrom 7 = some 0 ∧ 0 + 65536 ≤ t.now) := by
  decide +kernel

theorem witness_TokensAndSupply :
    let lead := st [(PAR.STATUS.STATE, 2), (PAR.STATUS.TOKEN_RAISED, 1), (SYS.CARRIER_STATUS.TOKEN_PARTNER_LIVE, 1), (PAR.EPOCH.EPOCH, 1)];
    (st []).rst.held = none ∧ (st []).isDriving = false ∧ (st []).bit SYS.CARRIER_STATUS.TOKEN_PARTNER_LIVE = false ∧
    lead.rst.held = none ∧ lead.isDriving = true ∧ lead.par.claimUntil = none ∧ lead.bit PAR.STATUS.TOKEN_RAISED = true ∧
    lead.bit SYS.CARRIER_STATUS.TOKEN_PARTNER_LIVE = true ∧
    lead.par.selfDeadAt = none ∧ lead.par.ownEpoch < lead.get PAR.EPOCH.EPOCH ∧
    (let s : State := { lead with par := { lead.par with claimUntil := some 1 } };
      s.isDriving = true ∧ s.par.claimUntil = some 1 ∧ s.now < 1) ∧
    (let s := tk 400 { lead with par := { lead.par with selfDeadAt := some 0, claimUntil := some 400 } };
      s.par.selfDeadAt = some 0 ∧ s.isDriving = true ∧ s.bit PAR.STATUS.TOKEN_RAISED = true ∧ 0 + 400 ≤ s.now ∧
      s.par.claimUntil = some 400 ∧ 400 ≤ s.now ∧ s.bit SYS.CARRIER_STATUS.TOKEN_PARTNER_LIVE = true) := by decide +kernel

/-! ## Witnesses: rings -/

theorem witness_RingStates :
    (ringUp.ringCause 0 = 0 ∧ ringUp.get (RNG.RING_STATUS.STATE 0) = 0 ∧
      (ringUp.read { init := 8, owner := some (ringUp.get (RNG.RING_CFG.OWNER 0)) } (ringUp.bellAddr 0) 4).2.toOption = some [0, 0, 0, 0]) ∧
    (st []).ringCause 0 = 1 ∧
    (let s := st [(RNG.RING_STATUS.STATE 0, 1)];
      s.get (RNG.RING_STATUS.STATE 0) = 1 ∧ s.rng.started = [] ∧ s.rng.finished = [] ∧ s.get (RNG.RING_CFG.ENGINE 0) ≠ 8) ∧
    (∀ x ∈ [2, 3, 4], (st [(RNG.RING_STATUS.STATE 0, x)]).get (RNG.RING_STATUS.STATE 0) = x) := by decide +kernel

/-- A ring whose first descriptor is published, with a tag free. -/
def ringReady0 : State := ringUp [(RNG.RING_STATUS.STATE 0, 1), (RNG.RING_INDEX.PROD 0, 1), (RNG.RING_CFG.ENGINE 0, 1)]

/-- ... with waiters for a tag. -/
def ringWaits (l : List TagWait) : State := { ringReady0 with rng := { ringReady0.rng with tagWaits := l } }

theorem witness_DescriptorPath :
    (let s := ringUp [(RNG.RING_STATUS.STATE 0, 1), (RNG.RING_INDEX.CONS 0, 65535), (RNG.RING_INDEX.PROD 0, 65535)];
      15 < 65536 ∧ (14 + 65536 - s.get (RNG.RING_INDEX.CONS 0)) % 65536 ≤ s.ringSize 0 ∧
      (s.get (RNG.RING_INDEX.PROD 0) + 65536 - s.get (RNG.RING_INDEX.CONS 0)) % 65536 < (14 + 65536 - s.get (RNG.RING_INDEX.CONS 0)) % 65536 ∧
      s.get (RNG.RING_CFG.ENGINE 0) ≠ 7) ∧
    (let s := ringReady0;
      s.ringReady 0 = true ∧ s.outrun 0 = false ∧ s.rng.tagWaits = [] ∧ s.tagFree 0 (s.nextDeadline 0) = true) ∧
    (let t := ringReady0;
     let d := work { w0 := 1 };
      d.ring = 0 ∧ d.d.fence = false ∧ d.d.crit = false ∧ d.d.expire = false ∧ (t.ring 0).chainAbort = false ∧ t.follows 0 = false ∧
      t.engineRoom 0 d.d = true ∧ t.bit (RNG.RING_CFG.CRIT_ONLY 0) = false ∧ bitsOf d.d.w3 8 24 = 0 ∧
      (engineOps (t.get (RNG.RING_CFG.ENGINE 0))).contains d.d.opcode = true) ∧
    (let s := ringReady0.set RNG.TAGS.IN_FLIGHT 128;
      s.ringReady 0 = true ∧ s.outrun 0 = false ∧ s.rng.tagWaits.any (fun w => w.ring == 0 && w.use == .fetch) = false ∧
      s.tagFree 0 (s.nextDeadline 0) = false) ∧
    (let w : TagWait := ⟨0, 0, .fetch⟩;
      (ringWaits [w]).nextWaiter = some w ∧ w.use = .fetch ∧ (ringWaits []).ringReady w.ring = true) ∧
    (let w : TagWait := ⟨0, 0, .record⟩; (ringWaits [w]).nextWaiter = some w ∧ w.use = .record) ∧
    (let x : Txn := { init := 8, addr := 0x1000, len := 4, write := false, deadline := 0, arrival := 0, epoch0 := 0, epoch1 := 0, ring := some 0 };
     let w : TagWait := ⟨0, 0, .data 0 x⟩; (ringWaits [w]).nextWaiter = some w ∧ w.use = .data 0 x) ∧
    (let f : Finished := ⟨work {}, ⟨0, 0, 0, 0⟩⟩;
     let s := { ringReady0 with rng := { ringReady0.rng with finished := [f] } };
     let u := s.set RNG.TAGS.IN_FLIGHT 128;
     let w := State.write { s with rng := { s.rng with finished := [] } }
        { init := 8, owner := some (s.get (RNG.RING_CFG.OWNER 0)), due := some f.st.deadline, ring := some 0 }
        (s.compBase 0 + 16 * ((s.ring 0).comps % s.ringSize 0)) (compBytes 0 (s.ringSize 0) (s.ring 0).comps f);
      s.rng.finished.find? (fun f => f.st.ring == 0) = some f ∧ s.tagFree 0 f.st.deadline = true ∧
      u.rng.finished.find? (fun f => f.st.ring == 0) = some f ∧ u.tagFree 0 f.st.deadline = false ∧
      u.rng.tagWaits.any (fun w => w.ring == 0 && w.use == .record) = false ∧
      s.rng.finished = [f] ∧ f.st.ring = 0 ∧ f.st.d.notify = false ∧ f.res.status = 0 ∧ w.2.toOption = some () ∧ w.1.streams = false) := by
  decide +kernel

theorem witness_DoorbellRule : let s := ringUp [(RNG.RING_INDEX.CONS 0, 0xFFFF), (RNG.RING_INDEX.PROD 0, 3)];
    let new (p : Nat) := (p + 65536 - s.get (RNG.RING_INDEX.CONS 0)) % 65536;
    s.ringSize 0 = 16 ∧ new 15 = 16 ∧ new 3 = 4 ∧ new 2 < new 3 ∧ s.ringSize 0 < new 16 ∧ s.get (RNG.RING_STATUS.STATE 0) ≠ 4 ∧
    s.get (RNG.RING_FAULT.REASON 0) = 0 := by decide +kernel

theorem witness_CopyEngine :
    (offer 0 { w0 := 0 }).offered 0 [0] 0 = some (work { w0 := 0 }) ∧
    (let d : Desc := { w0 := 1, w1 := 8, w2 := 0x1000, w4 := 0x2000 };
      (offer 0 d).offered 0 [0] 1 = some (work d) ∧ copyBad d = false) ∧
    (let d : Desc := { w0 := 1, w1 := 8, w2 := 0x1000, w4 := 0x2000, w5 := 2 ^ 20 };
      (offer 0 d).offered 0 [0] 1 = some (work d) ∧ copyBad d = true) ∧
    (let d : Desc := { w0 := 2, w1 := 8, w2 := 0x1000, w4 := 7 };
      (offer 0 d).offered 0 [0] 2 = some (work d) ∧ d.eflags = 0 ∧ d.w5 = 0 ∧ d.primary % 4 = 0 ∧ d.w1 % 4 = 0 ∧
      touchesPair d.primary d.w1 = false) ∧
    (let d : Desc := { w0 := 2, w1 := 6, w2 := 0x1000 }; (offer 0 d).offered 0 [0] 2 = some (work d) ∧ d.w1 % 4 ≠ 0) := by decide +kernel

theorem witness_EventCommands :
    let s := st [(EVT.ERING_BASE_HI.ENTRIES_LOG2 3, 14), (EVT.ERING_BASE_LO.ADDR 3, 0x100), (EVT.ERING_HEAD_LO.ADDR 3, 4)];
    s.get (EVT.PEND.BITS 0 0) < 2 ^ 32 ∧ (after (.evtPendClear 0 0 (2 ^ 32 - 1)) s).irq0 = false ∧
    s.bit (EVT.ERING_BASE_HI.ENABLE 3) = false ∧ 4 ≤ s.get (EVT.ERING_BASE_HI.ENTRIES_LOG2 3) ∧
    s.get (EVT.ERING_BASE_HI.ENTRIES_LOG2 3) ≤ 14 ∧
    inSramDram (s.get (EVT.ERING_BASE_LO.ADDR 3) * 16 + s.get (EVT.ERING_BASE_HI.ADDR 3) * 2 ^ 32)
      (16 * 2 ^ s.get (EVT.ERING_BASE_HI.ENTRIES_LOG2 3)) = true ∧
    inSramDram (s.get (EVT.ERING_HEAD_LO.ADDR 3) * 4 + s.get (EVT.ERING_HEAD_HI.ADDR 3) * 2 ^ 32) 4 = true := by decide +kernel

/-! ## Witnesses: the voted complex -/

/-- A state with the voter's part replaced. -/
def votSt (l : List (Fld × Nat)) (f : Vot → Vot) : State :=
  let s := st l
  { s with vot := f s.vot }

theorem witness_EgressVote :
    (let s := st [];
     let r : Req := { kind := .fence, run := 1 };
      0 < r.run ∧ s.voting = true ∧ (st [(VOT.STATUS.MODE, 2)]).get VOT.STATUS.MODE = 2) ∧
    (let s := (st []).store 0 [0x33, 0x83, 0x52, 0x00];
      s.domOn 1 = true ∧ s.bit VOT.STATUS.FAILSTOP = false ∧ (s.core 2).running = true ∧ (s.core 2).wfi = false ∧
      s.vot.presented.any (·.core == 2) = false ∧ (∀ i < 4, (s.core 2).triggers i [2] (s.core 2).pc = false) ∧
      (match s.instruction 2 with
        | (t, .ok (bits, 4)) => t.core 2 == s.core 2 && bits == 0x00528333 &&
            (match (s.core 2).exec (t.hartId 2) (t.bit VOT.KEAFY_CTRL.U_TICK) bits 4 bits with | .done _ => true | _ => false)
        | _ => false) = true) ∧
    (∀ d ∈ [Dest.x 1 1 true, .x 31 4 false, .f 31, .both 30], let r : Req := { kind := .load, dest := d }; r.len = 4) ∧
    (let s := st [];
      s.domOn 1 = true ∧ s.voting = true ∧ (s.core 2).running = true ∧ s.vot.released = [] ∧ 2 ≤ s.running.length ∧
      s.ownFault 2 { kind := .fence } = none ∧ s.vot.presented = [] ∧ s.running = [0, 1, 2] ∧ s.vot.cores.length = 3 ∧
      { s.vot with presented := [⟨0, s.vot.count.getD 2 0, { kind := .fence }, 0⟩] }.presented =
        [⟨0, s.vot.count.getD 2 0, { kind := .fence }, 0⟩]) := by decide +kernel

theorem witness_VoterFaults :
    (let r : Released := ⟨0, { kind := .fence }, .done, 0, [2]⟩;
     let s := tk 64 (votSt [] fun v => { v with released := [r] });
      s.voting = true ∧ s.vot.released = [r] ∧ r.owed.contains 2 = true ∧ r.tick + 64 ≤ s.now ∧ s.get VOT.STATUS.MODE = 0 ∧
      s.vot.rejoin = none) ∧
    (let p : Presented := ⟨0, 0, { kind := .fence }, 0⟩;
     let s := tk 64 (votSt [(VOT.STATUS.MODE, 1)] fun v => { v with presented := [p] });
      s.voting = true ∧ s.vot.presented = [p] ∧ s.get VOT.STATUS.MODE = 1 ∧ p.tick + 64 ≤ s.now ∧ s.vot.vote2Since + 64 ≤ s.now) ∧
    (let p : Presented := ⟨0, 0, { kind := .fence }, 0⟩;
     let s := tk 4096 (votSt [] fun v => { v with presented := [p] });
      s.voting = true ∧ s.vot.presented = [p] ∧ p.tick + 4096 ≤ s.now ∧ s.accessHeld p.req = false) ∧
    (let s := st [(VOT.STATUS.FAILSTOP, 1)];
      s.bit VOT.STATUS.FAILSTOP = true ∧ s.rst.held = none ∧ (s.dom 1).resetting = false) ∧
    (let s := tk (3600 * ticksPerSec) (votSt [] fun v => { v with latent := [(2, 0)] });
      ∀ l ∈ s.vot.latent, l.1 = 2 ∧ l.2 + 3600 * ticksPerSec ≤ s.now) := by decide +kernel

/-- Three cores in step, with x5 at a pair-word. -/
def pairCores : Core := { x := [(5, 0x2100008)] }

theorem witness_PairInstructions :
    let k := pairCores;
    let s := (st []).store 0x2100008 (pairBytes 7);
    let s : State := { s with vot := { s.vot with cores := [k, k, k] } };
    s.voting = true ∧ s.vot.cores = [k, k, k] ∧ k.running = true ∧
    (∀ m < 3, k.pairIntent m 5 (keafyBits m 0x0B 6 5 0) 6 = .req { kind := .load, addr := 0x2100008, size := 8, be := 0xFF }) ∧
    (match (s.pairLoad 0 0x2100008 8).2 with | .words v w => v == 7 && w == compl32 7 | _ => false) = true ∧
    (match ((s.store 0x2100008 [0]).pairLoad 0 0x2100008 8).2 with | .words v w => !(w == compl32 v) | _ => false) = true ∧
    k.mmode = true ∧ ({ st [(PAR.STATUS.STATE, 0)] with vot := s.vot }).pairState = 0 ∧
    ({ st [(PAR.STATUS.STATE, 0)] with vot := s.vot }).streams = false ∧ s.nextRead = none := by decide +kernel

theorem witness_InterruptsAndRejoin :
    (∀ k ∈ [({ wfi := true } : Core), { minstret := 64 }],
     let s := votSt [(EVT.PEND.BITS 0 7, 1)] fun v => { v with delivery := some 64, cores := [k, k, k] };
      s.voting = true ∧ s.isTrail = false ∧ s.vot.delivery = some 64 ∧ s.vot.cores = [k, k, k] ∧ k.running = true ∧
      s.par.follow.deliveries = [] ∧ s.irq0 = true ∧ (k.wfi = true ∨ 64 ≤ k.minstret)) ∧
    (let r : Rejoin := { cores := [2], src := 0, kendTick := 0, transfer := true };
     let s := votSt [] fun v => { v with rejoin := some r };
      s.vot.rejoin = some r ∧ r.transfer = true ∧ r.debug = false ∧ r.cores = [2] ∧ s.vot.cores.length = 3) ∧
    (let r : Rejoin := { cores := [1, 2], src := 0, kendTick := 0, transfer := true, debug := true };
     let s := votSt [] fun v => { v with rejoin := some r };
      s.vot.rejoin = some r ∧ r.transfer = true ∧ r.debug = true ∧ r.cores = [1, 2] ∧ r.src = 0 ∧ s.vot.cores.length = 3) := by
  decide +kernel

theorem witness_VoterAndDebugCommands :
    (let s := st []; s.vot.cmd = none ∧ s.get VOT.STATUS.MODE = 0 ∧ s.bit VOT.STATUS.FAILSTOP = false ∧ s.inRun = false) ∧
    (votSt [(VOT.STATUS.MODE, 1), (VOT.STATUS.OUT_CORE, 2), (VOT.STATUS.VOTE2_REASON, 2)] fun v =>
      { v with passed := [2, 20] }).mayReturn 2 = true ∧
    (st [(PAR.STATUS.STATE, 5), (VOT.DEBUG_CTRL.ALLOW, 1)]).maySplit = true ∧ (st [(VOT.STATUS.MODE, 2)]).get VOT.STATUS.MODE = 2 ∧
    (let k : Core := { wfi := true };
     let s := votSt [(VOT.DEBUG_CTRL.ALLOW, 1)] fun v => { v with cores := [k, k, k] };
      s.voting = true ∧ s.bit VOT.DEBUG_CTRL.ALLOW = true ∧ s.pairState ≠ 2 ∧ ∀ k ∈ s.vot.cores, k.running = true → k.wfi = true) ∧
    (let s := st [(VOT.DEBUG_CTRL.ALLOW, 1)]; s.mayHalt = true ∧ (s.runTo s.deliveryPoint).abreast = true) ∧
    (st []).mayHalt = false ∧
    (let s := votSt [(VOT.STATUS.MODE, 3)] fun v => { v with halted := true };
     let t := (s.stepCore s 0).1;
     let u := (t.stepCore t 1).1;
      s.get VOT.STATUS.MODE = 3 ∧ s.vot.halted = true ∧ s.vot.rejoin = none ∧ s.get VOT.DEBUG_CTRL.REF = 0 ∧ s.running = [0, 1, 2] ∧
      (s.stepCore s 0).2 = none ∧ (s.stepCore t 1).2 = none ∧ (s.stepCore u 2).2 = none ∧
      s.domOn 1 = true ∧ (s.core 2).running = true) := by decide +kernel

/-! ## Witnesses: cyclic execution, forces, the ferry -/

theorem witness_CycleEnds :
    (∀ a ∈ [true, false], let k : Core := { x := [(5, 7)] };
     let s := st [(CYC.CLASS_STATUS.PHASE 7, 2)];
     let s : State := { s with vot := { s.vot with cores := [k, k, k] } };
     let s := s.setCls 7 { s.cls 7 with abandoned := a };
      s.voting = true ∧ s.vot.cores = [k, k, k] ∧ k.running = true ∧ k.mmode = true ∧ s.runClass = some 7 ∧ k.reg 5 = 7 ∧
      (s.cls 7).abandoned = a) ∧
    (let k : Core := { mmode := false };
     let s := st [];
     let s : State := { s with vot := { s.vot with cores := [k, k, k] } };
      s.voting = true ∧ s.vot.cores = [k, k, k] ∧ k.running = true ∧ k.mmode = false) ∧
    (∀ k ∈ [(0 : Fin 8), 7], let s := st [(CYC.CLASS_STATUS.PHASE k, 3)]; s.phase k = 3 ∧ s.vot.halted = false ∧
      (k.val = 0 → s.motBusy = false) ∧ s.get VOT.STATUS.MODE ≠ 2 ∧ s.pairState = 5 ∧ s.par.handover = none) ∧
    (let s := st [(CYC.CLASS_STATUS.PHASE 1, 3), (VOT.STATUS.MODE, 2)]; s.phase 1 = 3 ∧ s.vot.halted = false ∧ s.get VOT.STATUS.MODE = 2) ∧
    (let s := st [(SYS.STATUS.RUN, 1)];
     let s : State := { s with cyc := { s.cyc with stopDue := some 0 } };
      s.cyc.stopDue = some 0 ∧ 0 ≤ s.cycle ∧ s.inRun = true) ∧
    (st []).now < (st []).cyc.boundary + (st []).p0 := by decide +kernel

theorem witness_BoundaryCounts :
    let s := tk 25000 (st [(PAR.STATUS.STATE, 5), (PWR.D_STATUS.STATE 5, 2)]);
    let s : State := { s with par := {}, rst := { s.rst with held := none } };
    s.cyc.boundary + s.p0 ≤ s.now ∧ (after .baseCycleBoundary s).rst.held = none ∧
    s.pairState = 5 ∧ s.inRun = false ∧ (∀ k < 8, s.get (CYC.CLASS_CFG.ENABLE k) = 0) ∧ (∀ k < 8, s.get (CYC.CLASS_STATUS.PHASE k) = 0) ∧
    s.cyc.stopDue = none ∧ s.cyc.cmd = none ∧ s.cyc.announced = [] ∧ s.cyc.waits = [] ∧ s.cyc.auto = false ∧ s.tim.cmd = none ∧
    s.tim.pend = none ∧ s.tim.follow = [] ∧ s.can = [] ∧ s.crs = {} ∧ s.fer = {} ∧ s.par = {} ∧ s.rst.waiting = none ∧
    s.rst.held = none ∧ s.upd.activate = none ∧ s.domOn 5 = false ∧ s.get FIO.CTRL.ENABLE = 0 ∧ s.get CLP.CTRL.ENABLE = 0 ∧
    s.cyc.forces = [] := by decide +kernel

theorem witness_SysCommands :
    (let s := st [(CYC.CLASS_CFG.ENABLE 0, 1), (CYC.BASE.N, 128), (CYC.PROGRAM_GEN.GEN, 1), (PAR.STATUS.STATE, 0)];
     let m : SysCmd := ⟨1, 0, 0, 0, 1, none⟩;
      s.cyc.cmd = none ∧ s.sysReason 1 0 1 = 0 ∧ s.sysReason 4 63 1 = 0 ∧ s.sysReason 5 0 1 = 0 ∧ s.sysReason 1 0 2 ≠ 0 ∧
      { s.cyc with cmd := some m }.cmd = some m) ∧
    (let s := st [(SYS.STATUS.RUN, 1), (PAR.STATUS.STATE, 2), (CYC.TASK_DEBUG_HI.ENABLE, 2 ^ 31)];
      s.cyc.cmd = none ∧ s.sysReason 2 0 1 = 0 ∧ s.sysReason 3 63 1 = 0) := by decide +kernel

theorem witness_Forces :
    (let d : Desc := { w0 := 0x10, w2 := 0x2100000, w1 := 1, w4 := 1, w5 := 2 ^ 16 };
      (offer 8 d [(PAR.STATUS.STATE, 2)]).offered 0 [8] 0x10 = some (work d) ∧ forceBad d = false ∧ d.priv = 1 ∧
      (offer 8 d [(PAR.STATUS.STATE, 2)]).isDriving = true ∧ (offer 8 d).isDriving = false ∧
      forceBad { d with w4 := 0 } = true ∧ forceBad { d with w5 := 2 ^ 17 } = false ∧ ({ d with w5 := 2 ^ 17 } : Desc).priv ≠ 1) ∧
    (let d : Desc := { w0 := 0x11, w2 := 0x2100000, w5 := 2 ^ 16 };
      (offer 8 d).offered 0 [8] 0x11 = some (work d) ∧ forceBad d = false ∧ d.priv = 1) ∧
    (let d : Desc := { w0 := 0x12, w5 := 2 ^ 16 };
      (offer 8 d).offered 0 [8] 0x12 = some (work d) ∧ forceBad d = false ∧ d.priv = 1) ∧
    (let d : Desc := { w0 := 0x13, w1 := 16, w2 := 0x1000, w5 := 2 ^ 16 };
     let s := offer 8 d;
     let e : Desc := { d with w5 := 0 };
      s.offered 0 [8] 0x13 = some (work d) ∧ bitsOf d.w5 19 13 = 0 ∧ d.eflags = 0 ∧ d.w4 = 0 ∧ d.priv = 1 ∧
      (offer 8 e).offered 0 [8] 0x13 = some (work e) ∧ bitsOf e.w5 19 13 = 0 ∧ e.priv ≠ 1 ∧
      (s.writeBuf (s.via 20 (work d)) d.primary
        ((s.cyc.forces.take (min s.cyc.forces.length (d.w1 / 16))).flatMap Force.bytes)).2.2 = none) ∧
    (let d : Desc := { w0 := 0x13, w4 := 1 }; (offer 8 d).offered 0 [8] 0x13 = some (work d) ∧ d.w4 ≠ 0) := by decide +kernel

/-- A ferry map of one COPY32 entry, its body and its image. -/
def mapBody : List Nat := [1, 0, 1, 0] ++ leBytes 4 0 ++ leBytes 8 0x8000 ++ leBytes 8 0x9000 ++ leBytes 8 0
def mapImage : List Nat := [1, 2, 3, 4]
def mapHead : List Nat :=
  let h := [0x55, 0x46, 0x52, 0x59, 1, 1, 0, 0] ++ leBytes 4 0 ++ leBytes 4 1 ++ leBytes 4 1 ++ leBytes 4 0 ++ leBytes 8 0x7000 ++ leBytes 4 4
    ++ leBytes 4 0 ++ shake256 mapImage 32 ++ leBytes 4 (crc32c mapBody)
  h ++ leBytes 4 (crc32c h)

theorem witness_FerryStage :
    let d : Desc := { w0 := 1, w1 := 112, w2 := 0x6000, w5 := 2 ^ 16 };
    let s := ((offer 8 d).store 0x6000 (mapHead ++ mapBody)).store 0x7000 mapImage;
    let s : State := { s with upd := { s.upd with entries := [(0, ⟨0x5000, 0x3000, 2, 0, [(0x11, 0x6000, 112), (0x10, 0x7000, 4)]⟩)] } };
    let s1 := (s.readBuf (s.via 20 (work d)) d.primary 80).1;
    let s2 := (s1.readBuf (s1.via 20 (work d)) (d.primary + 80) 32).1;
    let s3 := (s2.readBuf (s2.via 20 (work d)) 0x7000 4).1;
    s.offered 0 [8] 1 = some (work d) ∧ bitsOf d.w5 19 13 = 0 ∧ d.eflags = 0 ∧ d.w4 = 0 ∧ d.primary % 8 = 0 ∧
    inSramDram d.primary (max 80 d.w1) = true ∧ (s.readBuf (s.via 20 (work d)) d.primary 80).2 = (mapHead, none) ∧
    mapHeaderBad mapHead = false ∧ crc32c (mapHead.take 0x4C) = leAt mapHead 0x4C 4 ∧ leAt mapHead 0x10 4 = 1 ∧
    d.w1 = 80 + 32 * 1 ∧ (s1.readBuf (s1.via 20 (work d)) (d.primary + 80) 32).2 = (mapBody, none) ∧
    crc32c mapBody = leAt mapHead 0x48 4 ∧ leAt mapHead 0x18 5 = 0x7000 ∧ leAt mapHead 0x20 4 = 4 ∧
    (s2.readBuf (s2.via 20 (work d)) 0x7000 4).2 = (mapImage, none) ∧
    s3.mapCheck d mapHead mapBody mapImage [ferryEntry mapBody] = none := by decide +kernel

/-- A staged map of one COPY32 entry whose one granule is dirty. -/
def stagedMap : FerryMap := ⟨0x6000, 112, 1, 0, 1, 0, 0x7000, 4, [⟨1, 0, 1, 0, 0x8000, 0x9000, 0, 0⟩], 0, 4⟩

/-- A state with a part of the ferry. -/
def ferSt (f : Ferry) (l : List (Fld × Nat) := []) : State := { st l with fer := f }

theorem witness_FerryCrossing :
    (let d : Desc := { w0 := 1, w4 := 1 }; (offer 8 d).offered 0 [8] 1 = some (work d) ∧ d.w4 ≠ 0) ∧
    (let d : Desc := { w0 := 1, w2 := 0x6001 };
      (offer 8 d).offered 0 [8] 1 = some (work d) ∧ bitsOf d.w5 19 13 = 0 ∧ d.eflags = 0 ∧ d.w4 = 0 ∧ d.primary % 8 ≠ 0) ∧
    (let s := ferSt { map := some stagedMap, staging := true };
      s.fer.map = some stagedMap ∧ s.fer.staging = true ∧ s.isTrail = false) ∧
    (let s := ferSt { map := some stagedMap, dirty := [0x200] };
      s.fer.map = some stagedMap ∧ s.fer.staging = false ∧ s.fer.dirty ≠ [] ∧ s.crossLate = false ∧ (s.cleanOne stagedMap).2.2 = none ∧
      (s.cleanOne stagedMap).1.fer.crossing = none) ∧
    (let m : FerryMap := { stagedMap with entries := [⟨1, 0, 1, 0, 0x8000, 0x0F000000, 0, 0⟩] };
     let s := ferSt { map := some m, dirty := [0x200] };
      s.fer.map = some m ∧ s.fer.staging = false ∧ s.fer.dirty ≠ [] ∧ s.crossLate = false ∧ (s.cleanOne m).2.2.isSome = true) ∧
    (let d : Desc := { w0 := 2, w5 := 2 ^ 16 };
     let s := offer 8 d;
     let t : State := { s with fer := { map := some stagedMap } };
      t.offered 0 [8] 2 = some (work d) ∧ d.priv = 1 ∧ d.eflags = 0 ∧ t.fer.map.isSome = true ∧ t.fer.staging = false ∧ t.fer.crosser = none ∧
      s.offered 0 [8] 2 = some (work d) ∧ s.fer.map = none) ∧
    (∀ op ∈ [2, 3], let d : Desc := { w0 := op };
      (offer 8 d).offered 0 [8] op = some (work d) ∧ bitsOf d.w5 19 13 = 0 ∧ d.eflags = 0 ∧ d.priv ≠ 1 ∧
      (offer 8 { d with w1 := 1 }).offered 0 [8] op = some (work { d with w1 := 1 })) ∧
    (let d : Desc := { w0 := 3, w5 := 2 ^ 16 }; (offer 8 d).offered 0 [8] 3 = some (work d) ∧ d.priv = 1) := by decide +kernel

theorem witness_FerryCrossed :
    (let m := { stagedMap with entries := [] };
     let f : Ferry := { map := some m, crossing := some (1, []), crosser := some (0, 0) };
      f.map = some m ∧ f.crossing = some (1, []) ∧ f.dirty = [] ∧ m.entries = []) ∧
    (let s := ferSt { map := some stagedMap, crossing := some (0, []) } [(CYC.CROSS_BUDGET.TICKS, 9)];
      s.fer.map = some stagedMap ∧ s.fer.crossing = some (0, []) ∧ s.crossLate = false ∧
      (s.cleanAll stagedMap (s.fer.dirty.length + 1)).2.2 = none) ∧
    (let s := tk 9 (ferSt { map := some stagedMap, crossing := some (0, []), dirty := [0x200] } [(CYC.CROSS_BUDGET.TICKS, 9)]);
      s.fer.map = some stagedMap ∧ s.fer.crossing = some (0, []) ∧ s.crossLate = true ∧ s.fer.dirty ≠ [] ∧
      (State.startAllHeld { s with fer := { s.fer with crossing := none } } false []).fer.map.isSome = true) ∧
    (let s := ferSt { crosser := some (0, 0) } [(CYC.FERRY_STATUS.DEFERRALS, 1), (CYC.CROSS_MAX_DEFER.CYCLES, 1)];
      s.fer.crosser.isSome = true ∧ s.fer.crossing = none ∧ max 1 (s.get CYC.CROSS_MAX_DEFER.CYCLES) ≤ s.get CYC.FERRY_STATUS.DEFERRALS) := by
  decide +kernel

theorem witness_DirtyMarks :
    let s := ferSt { map := some stagedMap };
    s.fer.map = some stagedMap ∧ (s.written 4 0x8003 [1]).fer.map = some stagedMap ∧
    (∃ e ∈ stagedMap.entries, e.src ≤ 0x8003 ∧ 0x8003 < e.src + e.srcLen) ∧ (s.written 4 0x8003 [1]).fer.dirty = [0x200] := by
  decide +kernel

/-! ## Witnesses: crossings -/

/-- A frame of `kind` from `src` for 60 bytes, with its body. -/
def ucp (kind src seq : Nat) (body : List Nat) : List Nat :=
  etherFrame 1 0x020000000005 0x88B5 (ucpHeader kind 0 0 src body.length seq ++ body)

/-- Crossing 3 enabled. -/
def crossUp (l : List (Fld × Nat) := []) : State := st ([(FLD.CROSS_CFG.ENABLE 3, 1), (FLD.ETHERTYPE.VALUE, 0x88B5)] ++ l)

/-- ... with station 1536. -/
def stationUp (e : Station) (l : List (Fld × Nat) := []) : State :=
  let s := crossUp l
  { s with crs := { s.crs with stations := [(1536, e)] } }

theorem witness_StationFrames :
    let e : Station := { entry := List.replicate 32 0, st := 2, mac := some 0x020000000005, sure := true };
    let f := ucp 2 1536 9 (List.replicate 16 0);
    (let s := stationUp e;
      s.frameGood 3 f 2 = true ∧ s.bit (FLD.CROSS_STATUS.RELAY 3) = false ∧ s.station (ucpSource f) = some e ∧ ucpSource f / 512 = 3 ∧
      slowPort ((ucpBody f).getD 1 0) = false ∧
      ((s.heard 3 (ucpSource f) e f).station (ucpSource f)).any (fun e' => e'.mac == some (ucpMac f) && e'.st == 2
        && ucpLength f == e'.upBytes && (upValues e' (ucpBody f)).1 && beAt (ucpBody f) 12 4 == e'.crc) = true ∧
      s.crossOn 3 = true ∧ beAt f 12 2 ≠ 0x88F7) ∧
    (let s := crossUp; s.frameGood 3 f 2 = true ∧ s.bit (FLD.CROSS_STATUS.RELAY 3) = false ∧ s.station (ucpSource f) = none) ∧
    (let g := ucp 2 5 9 (List.replicate 16 0);
     let s := crossUp;
     let s : State := { s with crs := { s.crs with stations := [(5, e)] } };
      s.frameGood 3 g 2 = true ∧ s.station (ucpSource g) = some e ∧ ucpSource g / 512 ≠ 3) ∧
    (let e1 : Station := { e with entry := (List.replicate 32 0).set 0x14 1, mac := some 6 };
     let s := stationUp e1;
     let u := s.heard 3 1536 e1 f;
      s.frameGood 3 f 2 = true ∧ s.station (ucpSource f) = some e1 ∧
      (u.station 1536).any (fun e' => e'.device != 0 && e'.mac.isSome && e'.mac != some (ucpMac f) && e'.st != 4) = true) ∧
    (∀ x ∈ [({ e with st := 1, mac := none, entry := (List.replicate 32 0).set 6 1 }, fun (e' : Station) (f : List Nat) => ucpLength f != e'.upBytes),
        ({ e with entry := (List.replicate 32 0).set 0x10 1 }, fun e' f => ucpLength f == e'.upBytes && (upValues e' (ucpBody f)).1
          && beAt (ucpBody f) 12 4 != e'.crc),
        ({ e with st := 1, mac := none }, fun e' f => ucpLength f == e'.upBytes && (upValues e' (ucpBody f)).1 && beAt (ucpBody f) 12 4 == e'.crc)],
     let s := stationUp x.1;
     let u := s.heard 3 1536 x.1 f;
      s.frameGood 3 f 2 = true ∧ s.station (ucpSource f) = some x.1 ∧
      (u.station 1536).any (fun e' => e'.device == 0 && e'.st != 4 && x.2 e' f) = true) ∧
    (let e1 : Station := { e with entry := (List.replicate 32 0).set 7 1 };
     let g := ucp 2 1536 9 (List.replicate 24 0);
     let s := stationUp e1;
     let u := s.heard 3 1536 e1 g;
      s.frameGood 3 g 2 = true ∧ s.station (ucpSource g) = some e1 ∧
      (u.station 1536).any (fun e' => e'.device == 0 && e'.st != 4 && ucpLength g == e'.upBytes && !(upValues e' (ucpBody g)).1) = true) ∧
    (let g := ucp 1 0xF000 1 (List.replicate 16 0); crossUp.frameGood 3 g 1 = true ∧ ucpEpoch g < 2 ^ 32) := by decide +kernel

theorem witness_CrossingManagement :
    (let e : Station := { entry := List.replicate 32 0, mac := some 0x020000000005, asked := some 7 };
     let s := stationUp e;
     let s : State := { s with crs := { s.crs with checks := [(7, 1536, 0)] } };
     let f := ucp 4 1536 9 ([2, 0, 0, 0] ++ beBytes 4 7 ++ List.replicate 24 0);
      s.frameGood 3 f 4 = true ∧ (ucpBody f).getD 0 0 = 2 ∧ s.crs.checks = [(7, 1536, 0)] ∧ 7 = beAt (ucpBody f) 4 4 ∧
      s.station 1536 = some e ∧ e.asked = some 7 ∧ e.mac = some (ucpMac f) ∧ beAt (ucpBody f) 16 4 = e.device) ∧
    (let d : Desc := { w0 := 1 + 3 * 2 ^ 13, w1 := 16, w4 := 0x1000 };
     let w : MgmtWait := ⟨0, 0, 7, 3, 0, 0, false⟩;
     let s := offer 1 d [(FLD.CROSS_CFG.ENABLE 3, 1), (FLD.ETHERTYPE.VALUE, 0x88B5)];
     let s : State := { s with crs := { s.crs with waits := [w] } };
     let f := ucp 4 1536 9 ([5, 0, 0, 0] ++ beBytes 4 7 ++ List.replicate 8 0);
      s.frameGood 3 f 4 = true ∧ (ucpBody f).getD 0 0 = 5 ∧ s.crs.waits = [w] ∧ w.id = beAt (ucpBody f) 4 4 ∧ w.cross = 3 ∧
      s.startedAt 0 0 = some (work d) ∧ d.opcode = 1 ∧ (ucpBody f).getD 1 0 ≤ 5 ∧ s.crs.checks = [] ∧ w.due ≤ s.now ∧
      ((s.dropWait w).writeBuf ((s.dropWait w).via 9 (work d)) d.secondary ((ucpBody f).take (min (ucpLength f) 1040))).2.2 = none) ∧
    (∀ m ∈ [0, 1, 2], let s := st [(FLD.CROSS_CFG.RATE_MODE 3, m)];
      s.domOn 4 = true ∧ s.crossOn 3 = false ∧ s.bit (FLD.CROSS_STATUS.LINK 3) = false ∧ s.bit (FLD.CROSS_STATUS.LINK 3) ≠ true ∧
      s.get (FLD.CROSS_CFG.RATE_MODE 3) = m ∧ s.crs.slow = []) ∧
    (let s := st [(FLD.CROSS_STATUS.LINK 3, 1)]; s.domOn 4 = true ∧ s.crossOn 3 = false ∧ s.bit (FLD.CROSS_STATUS.LINK 3) ≠ false) ∧
    (let s := st []; s.bit (FLD.CROSS_CFG.ENABLE 3) = false ∧ s.targetFailed [8, 22] = false ∧ s.cause1 3 = true) ∧
    (let s := stationUp { entry := [] }; s.bit (FLD.CROSS_CFG.ENABLE 3) = true ∧ (1536, { entry := [] }) ∈ s.crs.stations ∧ 1536 / 512 = 3) ∧
    crossUp.bit (FLD.CROSS_CFG.ENABLE 3) = true ∧ crossUp.crs.stations = [] := by decide +kernel

theorem witness_ManagementDescriptors :
    (let d : Desc := { w0 := 1 + 3 * 2 ^ 13, w1 := 16, w2 := 0x1000, w4 := 0x2000 };
     let s := (offer 1 d [(FLD.CROSS_CFG.ENABLE 3, 1), (PAR.STATUS.STATE, 2)]).store 0x1000 [3];
      s.offered 0 [1] 1 = some (work d) ∧ crossBad d = false ∧ 16 ≤ d.w1 ∧ d.w1 ≤ 1040 ∧ s.isTrail = false ∧
      (s.readBuf (s.via 9 (work d)) d.primary d.w1).2 = (3 :: List.replicate 15 0, none) ∧
      (s.readBuf (s.via 9 (work d)) d.primary d.w1).1.crossOn d.crossing = true) ∧
    (let d : Desc := { w0 := 2 + 3 * 2 ^ 13, w1 := 96, w4 := 0x2000 };
     let s := offer 1 d [(FLD.CROSS_CFG.ENABLE 3, 1), (PAR.STATUS.STATE, 2)];
      s.offered 0 [1] 2 = some (work d) ∧ crossBad d = false ∧ d.w2 ≤ 1 ∧ d.w3 = 0 ∧ s.isTrail = false ∧ s.crossOn d.crossing = true ∧ d.w2 = s.unit) ∧
    (let d : Desc := { w0 := 3, w1 := 1, w2 := 2047, w4 := 0x2000 };
     let s := offer 1 d;
      s.offered 0 [1] 3 = some (work d) ∧ rangeBad d = false ∧
      (s.writeBuf (s.via 9 (work d)) d.secondary ((List.range d.w1).flatMap fun i => s.stationRecord (d.w2 + i))).2.2 = none) ∧
    (∀ op ∈ [1, 2, 3, 4], let d : Desc := { w0 := op + 4 * 2 ^ 13 }; (offer 1 d).offered 0 [1] op = some (work d) ∧ crossBad d = true) ∧
    (∀ op ∈ [1, 2], let d : Desc := { w0 := op, w1 := 1040 };
     let s := offer 1 d [(PAR.STATUS.STATE, 3)];
      s.offered 0 [1] op = some (work d) ∧ crossBad d = false ∧ s.isTrail = true ∧ 16 ≤ d.w1 ∧ d.w1 ≤ 1040 ∧ d.w2 ≤ 1 ∧ d.w3 = 0) ∧
    (let d : Desc := { w0 := 4, w1 := 1, w2 := 2047 };
      (offer 1 d).offered 0 [1] 4 = some (work d) ∧ rangeBad d = false ∧ d.w4 = 0 ∧ d.w5 = 0) := by decide +kernel

/-! ## Witnesses: fast channels and spur units -/

/-- All four groups NORMAL. -/
def fioUp (l : List (Fld × Nat) := []) : State := st ((List.range 4).map (fun g => (FIO.GROUP_STATUS.STATE g, 0)) ++ l)

/-- ... with a part of FIO's own state. -/
def fioSt (l : List (Fld × Nat)) (f : Fio → Fio) : State :=
  let s := fioUp l
  { s with fio := f s.fio }

theorem witness_Inputs :
    (∀ b < 2, (fioUp [(FIO.CH_CFG.TYPE 31, b)]).bit (FIO.CH_CFG.TYPE 31) = (b == 1)) ∧
    (let s := tk 3 (fioUp [(FIO.CH_STATUS.RAW 31, 1), (FIO.CH_DEBOUNCE.US 31, 0)]);
      s.domOn 5 = true ∧ isOutput s 31 = false ∧ s.inputOn 31 901 = true ∧ s.bit (FIO.CH_STATUS.RAW 31) = s.inputOn 31 901 ∧
      s.groupUp 31 = true ∧ s.bit (FIO.CH_STATUS.STATE 31) = !s.inputOn 31 901 ∧ s.filterDone 31 s.now = true ∧
      (tk 2 s).filterDone 31 (tk 2 s).now = false) ∧
    (let s := fioUp [(FIO.CH_CFG.DIR 31, 1)]; isOutput s 31 = true) ∧
    (let s := fioSt [(FIO.CH_CFG.WB_ENABLE 31, 1), (FIO.CH_CFG.FILTER_KIND 31, 1), (FIO.CH_CFG.INT_LIMIT 31, 2), (FIO.CH_CFG.INT_SHIFT 31, 3)]
        fun f => { f with recovered := [(3, 5)] };
      s.domOn 5 = true ∧ s.groupUp 31 = true ∧ s.get (FIO.CH_CFG.DIR 31) = 0 ∧ s.bit (FIO.CH_CFG.WB_ENABLE 31) = true ∧
      s.bit (FIO.CH_STATUS.WIRE_BREAK 31) = !true ∧ Sparse.get s.fio.start s.fio.recovered 3 + s.settleTicks 31 = 21 ∧
      21 ≤ (tk 21 s).now ∧ (tk 20 s).now < 21) := by decide +kernel

theorem witness_FastChannels :
    (let s := fioUp [(FIO.CH_CFG.DIR 30, 1), (FIO.CH_CFG.DIR 31, 1), (SYS.CARRIER_STATUS.DRIVERS_ENABLED, 1), (FIO.CH_CFG.STOP_VALUE 30, 1)];
      s.diagnosed 30 = true ∧ s.diagnosed 31 = true ∧ s.get (FIO.CH_CFG.DIR 31) = 1 ∧ s.command 31 = false ∧ s.command 30 = true ∧
      s.paired 31 (3 * 2 ^ 30) = some 30 ∧ s.paired 31 (2 ^ 31) = none ∧ s.diagnosed 29 = false) ∧
    (let s := tk 20000000 (fioUp [(FIO.CH_STATUS.LATCHED_OFF 31, 1), (FIO.CH_STATUS.DIAG 31, 2), (FIO.GROUP_CFG.AUTO_RETRY 3, 1)]);
      s.bit (FIO.CH_STATUS.LATCHED_OFF 31) = true ∧ s.get (FIO.CH_STATUS.DIAG 31) ≠ 4 ∧ s.get (FIO.CH_STATUS.DIAG 31) ≠ 3 ∧ s.domOn 5 = true ∧
      s.isTrail = false ∧ s.bit (FIO.GROUP_CFG.AUTO_RETRY (31 / 8)) = true ∧ Sparse.get 0 s.fio.latched 31 + 20000000 ≤ s.now ∧
      s.bit (FIO.CH_STATUS.LATCHED_OFF 30) = false) ∧
    (let s := fioUp [(FIO.CH_STATUS.LATCHED_OFF 31, 1), (FIO.CH_STATUS.DIAG 31, 3), (FIO.CH_STATUS.DIAG 0, 3), (FIO.CH_STATUS.PARTNER 0, 31)];
      s.bit (FIO.CH_STATUS.LATCHED_OFF 31) = true ∧ s.isTrail = false ∧ s.get (FIO.CH_STATUS.DIAG 31) = 3 ∧
      s.get (FIO.CH_STATUS.PARTNER 31) = 0 ∧ s.get (FIO.CH_STATUS.DIAG 0) = 3 ∧ s.get (FIO.CH_STATUS.PARTNER 0) = 31) ∧
    (let s := fioUp [(FIO.GROUP_STATUS.AWAIT_ACK 3, 1)];
      s.domOn 5 = true ∧ s.groupState 3 ≤ 1 ∧ s.bit (FIO.GROUP_STATUS.AWAIT_ACK 3) = true ∧ s.isTrail = false ∧
      s.bit (FIO.GROUP_STATUS.AWAIT_ACK 2) = false) ∧
    (let s := tk 2000000 (fioUp [(FIO.GROUP_STATUS.STATE 3, 3)]);
      s.domOn 5 = true ∧ s.groupState 3 = 3 ∧ s.fio.start + 2000000 ≤ s.now ∧ s.isTrail = false ∧ s.bit (FIO.GROUP_CFG.RESUME 3) = false) ∧
    (let s := fioUp [(FIO.IMAGE.IN_BASE, 128)];
      s.bit FIO.CTRL.ENABLE = false ∧ s.targetFailed [12] = false ∧ s.fioCause = 0) ∧
    (fioUp [(FIO.IMAGE.IN_BASE, 127)]).fioCause = 1 := by decide +kernel

theorem witness_Counters :
    (∀ m ∈ [1, 2], let s := fioUp [(FIO.CNT_CFG.MODE 3, m), (FIO.CNT_CFG.GLITCH 3, 0)];
     let t := (s.sense 24 1000 0).sense 25 0 0;
      s.domOn 5 = true ∧ t.glitchReady 3 24 = true ∧ t.glitchReady 3 25 = false ∧ t.groupState 3 ≤ 1 ∧
      countStep (t.get (FIO.CNT_CFG.MODE 3)) (t.chIn 24).glitch (!(t.chIn 24).glitch) (t.chIn 25).glitch (t.chIn 25).glitch = some 1 ∧
      (t.chIn 24).glitch = false ∧ (t.chIn 25).glitch = false ∧ t.get (FIO.CNT_CFG.MODE 3) = m ∧ t.bit (FIO.CNT_CFG.INVERT_DIR 3) = false ∧
      t.fio.queues = [] ∧ (∀ u < 16, t.get (SPR.UNIT_TRIG.KIND u) = 0)) ∧
    (let s := fioUp [(FIO.CNT_CFG.MODE 3, 1), (FIO.CNT_CFG.GLITCH 3, 0)];
     let t := (s.sense 24 1000 0).sense 25 1000 0;
      s.domOn 5 = true ∧ t.glitchReady 3 24 = true ∧ t.glitchReady 3 25 = true ∧ (t.chIn 24).since = (t.chIn 25).since ∧
      t.groupState 3 ≤ 1 ∧ t.get (FIO.CNT_CFG.MODE 3) = 1) ∧
    (let s := fioUp [(FIO.CNT_CFG.GLITCH 3, 1)];
     let t := (s.sense 24 1000 0).sense 25 0 0; t.glitchReady 3 24 = false ∧ t.glitchReady 3 25 = false) ∧
    (∀ r < 2, let s := fioUp [(FIO.CNT_CFG.INDEX_ENABLE 3, 1), (FIO.CNT_CFG.INDEX_RESET 3, r), (FIO.CNT_CFG.GLITCH 3, 0)];
     let t := s.sense 26 1000 0;
      s.domOn 5 = true ∧ t.glitchReady 3 26 = true ∧ t.groupState 3 ≤ 1 ∧ t.bit (FIO.CNT_CFG.INDEX_ENABLE 3) = true ∧
      t.bit (FIO.CNT_CFG.INDEX_EDGE 3) = (!t.bit (FIO.CH_STATUS.RAW 26)) ∧ t.bit (FIO.CNT_CFG.INDEX_RESET 3) = (r == 1) ∧
      (s.sense 26 0 0).glitchReady 3 26 = false) := by decide +kernel

theorem witness_Probes :
    (let s := tk 9 (fioUp [(FIO.PRB_STATUS.ARMED 15, 1), (FIO.PRB_CFG.CHANNEL 15, 31), (FIO.PRB_CFG.SOURCE 15, 1)]);
     let t := ((s.sense 31 900 4).sense 31 1000 3).filterLook 31 s.now;
     let u := ((s.sense 31 900 4).sense 31 900 3).filterLook 31 s.now;
      s.domOn 5 = true ∧ t.fio.probeDue = [(15, 6)] ∧ t.bit (FIO.PRB_STATUS.ARMED 15) = true ∧ (∀ e ∈ u.fio.probeDue, e.1 ≠ 15) ∧
      s.bit (FIO.PRB_STATUS.ARMED 15) = true ∧ s.groupUp (s.get (FIO.PRB_CFG.CHANNEL 15)) = true ∧ isOutput s 31 = false ∧
      s.get (FIO.PRB_CFG.EDGE 15) = 0 ∧ s.bit (FIO.PRB_CFG.SOURCE 15) = true ∧ s.get (FIO.PRB_CFG.QUANTITY 15) = 0 ∧
      s.bit (FIO.PRB_CFG.CONTINUOUS 15) = false ∧ s.fio.probeDue = [] ∧ s.bit (FIO.CH_STATUS.RAW 31) = false ∧
      s.inputOn 31 900 = false ∧ s.inputOn 31 1000 = true) ∧
    (∀ b < 2, (fioUp [(FIO.PRB_CFG.ARM_SRC 15, b)]).bit (FIO.PRB_CFG.ARM_SRC 15) = (b == 1)) := by decide +kernel

/-- Unit 15 armed in RUN, to set its channel. -/
def spurUp (l : List (Fld × Nat)) (f : Fio → Fio) : State :=
  fioSt ([(SPR.UNIT_STATUS.ARMED 15, 1), (SYS.STATUS.RUN, 1), (SPR.UNIT_ACTION.KIND 15, 1)] ++ l) f

theorem witness_SpurTriggers :
    (let s := spurUp [(SPR.UNIT_ACTION.ONCE 15, 1), (SPR.UNIT_TRIG.KIND 15, 1), (SPR.UNIT_TRIG.CHANNEL 15, 31)] fun f =>
        { f with spurDue := [(15, 4)] };
      s.domOn 5 = true ∧ s.bit (SPR.UNIT_STATUS.ARMED 15) = true ∧ s.inRun = true ∧ s.get (SPR.UNIT_ACTION.KIND 15) = 1 ∧
      s.fio.pulses = [] ∧ s.fio.acted = [] ∧ s.get (SPR.UNIT_ACTION.TIMING 15) = 0 ∧ s.queue 15 = [] ∧
      s.bit (SPR.UNIT_ACTION.ONCE 15) = true ∧ s.fio.spurDue = [(15, 4)] ∧ s.get (SPR.UNIT_TRIG.KIND 15) = 1 ∧
      s.groupUp (s.get (SPR.UNIT_TRIG.CHANNEL 15)) = true) ∧
    (let s := spurUp [(SPR.UNIT_ACTION.ONCE 15, 1), (SPR.UNIT_TRIG.KIND 15, 3)] id;
      s.get (SPR.UNIT_TRIG.KIND 15) = 3 ∧ s.fio.timeDone = [] ∧ 0 ≤ diff32 s.now (s.get (SPR.UNIT_PARAM.PARAM 15)) ∧
      diff32 s.now ((s.set (SPR.UNIT_PARAM.PARAM 15) 1).get (SPR.UNIT_PARAM.PARAM 15)) < 0) ∧
    (let s := spurUp [(SPR.UNIT_TRIG.KIND 3, 6), (SPR.UNIT_TRIG.CHAIN_UNIT 3, 15)] fun f => { f with queues := [(15, [⟨0, .tick 0, 1⟩])] };
      s.queue 15 = [⟨0, .tick 0, 1⟩] ∧ 0 ≤ diff32 s.now 0 ∧ diff32 s.now 1 < 0 ∧ s.get (SPR.UNIT_TRIG.KIND 3) = 6 ∧
      s.get (SPR.UNIT_TRIG.CHAIN_UNIT 3) = 15) := by decide +kernel

theorem witness_SpurUnits :
    (let s := fioSt [] fun f => { f with spurDue := [(15, 4)] };
      s.fio.spurDue = [(15, 4)] ∧ s.bit (SPR.UNIT_STATUS.ARMED 15) = false ∧ s.queue 15 = [] ∧ ∀ e ∈ s.fio.spurDue, e.1 ≠ 14) ∧
    (let p : SpurPulse := ⟨15, 31, 2, true⟩;
     let s := fioSt [] fun f => { f with pulses := [p] };
      s.fio.pulses = [p] ∧ p.unit = 15 ∧ p.stop ≤ (tk 2 s).now ∧ s.now < p.stop) ∧
    (let s := fioUp; s.spurUsed 15 = false ∧ bitsOf 1 0 4 ≠ 0 ∧ s.spurCause 15 1 = 0 ∧ s.spurCause 15 7 = 1 ∧
      s.bit (SPR.UNIT_ACTION.ARM_SRC 15) = false) ∧
    (fioUp [(SPR.UNIT_ACTION.ARM_SRC 15, 1)]).bit (SPR.UNIT_ACTION.ARM_SRC 15) = true ∧
    (fioUp [(SPR.UNIT_TRIG.KIND 15, 1)]).spurUsed 15 = true ∧ bitsOf 0x10 0 4 = 0 := by decide +kernel

/-- 512 positions on crossing 3, whose part of the station table is zero. -/
def tableUp : State := st [(FLD.CROSS_CFG.POSITIONS 3, 512), (FLD.ETHERTYPE.VALUE, 0x88B5)]
def tableUpRead : State × List Nat × Option Err := tableUp.readBuf { init := 9 } (tableUp.stationTable + 32 * (512 * 3 + 0)) (32 * 512)

theorem tableUp_zero : tableUpRead.2.2 = none ∧ tableUpRead.2.1.all (· == 0) = true := by decide +kernel

theorem tableUp_cause : tableUpRead.1.tableCause 3 ((List.range 512).map fun _ => { entry := List.replicate 32 0 }) = 0 := by
  decide +kernel

theorem read_parts {x : State × List Nat × Option Err} {s : State} {v : Via} {a n : Nat} (hx : x = s.readBuf v a n) (he : x.2.2 = none)
    (hz : x.2.1.all (· == 0) = true) : s.readBuf v a n = (x.1, List.replicate n 0, none) := by
  obtain ⟨t, bs, e⟩ := x
  simp only at he hz
  subst he
  have hl := State.readBuf_length hx.symm
  rw [← hx]
  have : bs = List.replicate n 0 := List.eq_replicate_iff.2 ⟨hl, fun b hb => by simpa using List.all_eq_true.1 hz b hb⟩
  rw [this]

theorem zero_entries {s t : State} {c k : Nat}
    (h : s.readBuf { init := 9 } (s.stationTable + 32 * (512 * c + 0)) (32 * k) = (t, List.replicate (32 * k) 0, none)) :
    s.entriesRead c 0 k = (t, some ((List.range k).map fun _ => { entry := List.replicate 32 0 })) := by
  unfold State.entriesRead
  rw [h]
  simp only [Prod.mk.injEq, Option.some.injEq, true_and]
  refine List.map_congr_left fun i hi => ?_
  have : i < k := List.mem_range.1 hi
  simp only [List.drop_replicate, List.take_replicate]
  congr 2
  omega

theorem witness_CrossingEnable :
    tableUp.cause1 3 = false ∧ inSramDram tableUp.stationTable 65536 = true ∧
    ∃ s' es, tableUp.entriesRead 3 0 512 = (s', some es) ∧ s'.tableCause 3 es = 0 :=
  ⟨by decide +kernel, by decide +kernel, _, _, zero_entries (read_parts (x := tableUpRead) rfl tableUp_zero.1 tableUp_zero.2), tableUp_cause⟩

/-! ## Witnesses: motion, loops, current loops -/

/-- Axis 511 present, in a state. -/
def axisIn (x : Nat) (s : State) : State := s.setAxis 511 { entry := [1, 0, 255, 255] ++ List.replicate 60 0, st := x }

theorem witness_MotionCommands :
    (∀ p ∈ [(1, 1 * 2 ^ 16, 0), (2, 0, 0), (3, 0, 0), (4, 0, 0), (5, 0, 1), (6, 0, 0), (7, 0, 0), (8, 0, 0)],
      let d : Desc := { w0 := p.1, w1 := 511 + p.2.1, w5 := p.2.2 };
      let w : Started := { work d with cls := some (0, 0) };
      let s := offer 2 d [(SYS.STATUS.RUN, 1)] 0;
      let s : State := { s with rng := { s.rng with started := [w] } };
      s.motMalformed d = false ∧ s.offered 0 [2] p.1 = some w ∧ s.inRun = true ∧ s.mot.due = none) ∧
    (∀ op ∈ [1, 2, 3, 4, 5, 6, 7, 8], let d : Desc := { w0 := op, w1 := 2 ^ 15 };
      (offer 2 d).offered 0 [2] op = some (work d) ∧ (offer 2 d).motMalformed d = true) ∧
    (let d : Desc := { w0 := 2, w1 := 511 };
     let s := offer 2 d;
      s.offered 0 [2] 2 = some (work d) ∧ s.motMalformed d = false ∧ s.inRun = false ∧ s.mot.due = none ∧ s.motDetail (work d) ≠ 0) ∧
    (let d : Desc := { w0 := 8, w1 := 511 };
     let s := axisIn 6 (offer 2 d [] 0);
      s.motMalformed d = false ∧ s.motEarly (work d) = 0 ∧ s.offered 0 [2] 8 = some (work d) ∧ s.inRun = false ∧ s.motRefusal (work d) = 0) ∧
    (∀ b ∈ [0, 4], let d : Desc := { w0 := 1, w1 := 511 + 2 ^ 16 };
     let s := offer 2 d [(MOT.AXIS_TABLE_LO.ADDR, 0x40)] 0;
     let s := s.store (0x1000 + 64 * 511) [b];
      s.inRun = false ∧ s.motMalformed d = false ∧ s.motEarly (work d) = 0 ∧ s.offered 0 [2] 1 = some (work d) ∧ d.opcode = 1 ∧
      (match s.axesRead (s.via 11 (work d)) d.motIndex d.motCount with
        | (s', .ok es) => es.any s'.axisRefused == (b == 4) | _ => false) = true) := by decide +kernel

/-- Two points of a cam, rising from 0, and the directory entry of table 255. -/
def camBytes : List Nat := List.replicate 24 0 ++ leBytes 8 1 ++ List.replicate 16 0
def camEntry (n : Nat) : List Nat := leBytes 8 0x800010000 ++ leBytes 2 n ++ [0, 0] ++ leBytes 4 (crc32c camBytes)

theorem witness_MotionEngine :
    (let m : Mot := { running := some 0 }; m.due = none ∧ m.running = some 0 ∧ m.held = none) ∧
    (∀ f ∈ [(0, false), (1, true)], let d : Desc := { w0 := 9 + f.1 * 2 ^ 13, w4 := 255 };
      d.motBad = false ∧ (offer 2 d).offered 0 [2] 9 = some (work d) ∧ d.eflags.testBit 0 = f.2 ∧ (offer 2 d).camUsed d.w4 = false) ∧
    (let d : Desc := { w0 := 9 + 1 * 2 ^ 13, w4 := 255 };
     let s := (offer 2 d).setAxis 0 { entry := [], switch := some (255, 0) };
      s.offered 0 [2] 9 = some (work d) ∧ s.camUsed d.w4 = true) ∧
    (∀ n ∈ [1, 2], let d : Desc := { w0 := 9, w4 := 255 };
     let s := ((offer 2 d [(MOT.CAM_DIR_HI.ADDR, 8)]).store (0x800000000 + 16 * 255) (camEntry n)).store 0x800010000 camBytes;
     let s0 : State := { s with mot := { s.mot with valid := s.mot.valid.filter (· != d.w4) } };
     let r := s0.readBuf (s0.via 11 (work d)) (s0.camDir d.w4) 16;
      s.offered 0 [2] 9 = some (work d) ∧ d.eflags.testBit 0 = false ∧ r.2 = (camEntry n, none) ∧ leAt (camEntry n) 8 2 = n ∧
      leAt (camEntry n) 0 8 = 0x800010000 ∧ within .dram 0x800010000 48 = true ∧ (camEntry n).getD 0xA 0 < 2 ∧ (camEntry n).getD 0xB 0 = 0 ∧
      (r.1.readBuf (r.1.via 11 (work d)) 0x800010000 48).2 = (camBytes, none) ∧ crc32c camBytes = leAt (camEntry n) 0xC 4 ∧
      ((camPoints camBytes 2).head?.map (·.x)) = some 0 ∧ camRising (camPoints camBytes 2) = true) ∧
    (∀ n ∈ [1, 2], let d : Desc := { w0 := 10, w1 := 519 + n * 2 ^ 16, w4 := 0x1000 };
     let s := offer 2 d;
      d.motBad = false ∧ s.offered 0 [2] 10 = some (work d) ∧ (s.motEarly (work d) = 0 ↔ n = 1) ∧
      (n = 1 → (s.putRecords (s.via 11 (work d)) d.secondary ((List.range d.motCount).map fun j => s.statusRecord (d.motIndex + j))).2.2 = none)) := by
  decide +kernel

theorem witness_MotionEffects :
    (∀ op ∈ [2, 3, 4, 5, 6, 7, 8], (work { w0 := op }).d.opcode = op) ∧
    ({ w0 := 5 + 4 * 2 ^ 13 } : Desc).eflags.testBit 2 = true ∧ ({ w0 := 6 } : Desc).eflags.testBit 2 = false ∧ (511 ≠ ({ w1 := 510 } : Desc).motIndex) := by
  decide +kernel

theorem witness_MotionEnable :
    let s := st [(MOT.CAM_DIR_HI.ADDR, 8), (CYC.BASE.N, 1)];
    s.bit MOT.CTRL.ENABLE = false ∧ s.targetFailed [10, 23] = false ∧ inSramDram s.motTable (520 * 64) = true ∧
    within .dram (s.camDir 0) 4096 = true ∧
    (match s.axesRead { init := 11 } 0 520 with | (s', .ok es) => s'.motCause es == 0 | _ => false) = true := by decide +kernel

theorem witness_MotionEnable_causes :
    (let s := st [(MOT.AXIS_TABLE_HI.ADDR, 7)]; s.bit MOT.CTRL.ENABLE = false ∧ s.targetFailed [10, 23] = false ∧
      inSramDram s.motTable (520 * 64) = false) ∧
    (let s := st [(MOT.CAM_DIR_LO.ADDR, 1)]; inSramDram s.motTable (520 * 64) = true ∧ within .dram (s.camDir 0) 4096 = false) ∧
    (let s := (st [(MOT.CAM_DIR_HI.ADDR, 8), (CYC.BASE.N, 1)]).store 0 [4];
      (match s.axesRead { init := 11 } 0 520 with | (s', .ok es) => s'.motCause es == 3 | _ => false) = true) := by decide +kernel

/-- Instance 511 present, with its manual word at pair-word 1, in a mode. -/
def loopIn (m f : Nat) (s : State) : State :=
  s.setLoop 511 { entry := [1, 0, 0, 0, 0, 0, 0, 0, 0, 0, 1, 0] ++ List.replicate 68 0, mode := m, fault := f }

theorem witness_LoopEngine :
    (let e : LoopSample := ⟨0, 511, 0, 0⟩;
     let s := loopIn 2 0 (st [(SYS.STATUS.RUN, 1)]);
     let s : State := { s with lop := { s.lop with queue := [e] } };
      s.lop.queue = e :: [] ∧ s.domOn 5 = true ∧ s.inRun = true ∧ s.isTrail = false) ∧
    (st []).inRun = false ∧
    (∀ p ∈ [(1, 1 * 2 ^ 16), (2, 0), (3, 0)],
      let d : Desc := { w0 := p.1, w1 := 511 + p.2 };
      let w : Started := { work d with cls := some (0, 0) };
      let s := loopIn 0 1 (offer 3 d [(CYC.CLASS_STATUS.PHASE 0, 2)] 0);
      let s : State := { s with rng := { s.rng with started := [w] } };
      d.loopBad = false ∧ d.loopRange = false ∧ s.loopRefusal w = 0 ∧ s.offered 0 [3] p.1 = some w ∧
      w.cls.map s.loopsCommitted = some false ∧ w.cls.map ({ s with regs := [] } : State).loopsCommitted = some true ∧
      (s.loop 511).present = true ∧ (s.loop 510).present = false ∧ (s.loop 511).mode ≠ 3 ∧ (s.loop 511).manIndex ≠ 0 ∧ (s.loop 511).fault ≠ 0) ∧
    (let s := (st []).setLoop 511 { entry := [1], mode := 3, reason := 2 };
      (s.loop 511).present = true ∧ (s.loop 511).mode = 3 ∧ (s.loop 511).reason = 2 ∧ (s.loop 511).manIndex = 0 ∧ (s.loop 511).fault = 0) ∧
    (∀ op ∈ [1, 2, 3, 4, 5], let d : Desc := { w0 := op, w1 := 2 ^ 15 }; (offer 3 d).offered 0 [3] op = some (work d) ∧ d.loopBad = true) ∧
    (∀ op ∈ [1, 2, 3, 4, 5], let d : Desc := { w0 := op, w1 := 511 };
      (offer 3 d).offered 0 [3] op = some (work d) ∧ d.loopBad = false ∧ (offer 3 d).loopRefusal (work d) ≠ 0) ∧
    (let d : Desc := { w0 := 1, w1 := 511 + 2 * 2 ^ 16 };
     let w : Started := { work d with cls := some (0, 0) };
     let s := offer 3 d [] 0;
      d.loopBad = false ∧ s.loopRefusal w = 0 ∧ d.loopRange = true) ∧
    (∀ op ∈ [4, 5], let d : Desc := { w0 := op, w1 := 511 + 2 ^ 16, w2 := if op = 4 then 0x1000 else 0 };
      let s := offer 3 d;
      d.loopBad = false ∧ s.loopRefusal (work d) = 0 ∧ s.offered 0 [3] op = some (work d)) := by decide +kernel

theorem witness_LoopLoad :
    ∀ b ∈ [0, 1], let d : Desc := { w0 := 1, w1 := 511 + 2 ^ 16 };
    let w : Started := { work d with cls := some (0, 0) };
    let s := (offer 3 d [(LOP.TABLE_LO.ADDR, 0x40)] 0).store (0x1000 + 80 * 511) [b];
    let s : State := { s with rng := { s.rng with started := [w] } };
    d.loopBad = false ∧ s.loopRefusal w = 0 ∧ s.offered 0 [3] 1 = some w ∧ w.cls.map s.loopsCommitted = some true ∧ d.loopRange = false ∧
    (match s.loopRead (s.via 12 w) d.loopInst d.loopCount with
      | (s', .ok es) => (es.all (fun e => !e.2.present || (e.2.fieldsOk && s'.loopIndexOk e.2 && s'.loopChannelOk e.2)) == (b == 0))
        && !loopsShare (es.foldl (fun l e => Sparse.insert l e.1 e.2) s'.lop.insts) && loopsLower es
        && es.all fun e => (s'.loop e.1).mode == 0
      | _ => false) = true := by decide +kernel

theorem witness_LoopEnables :
    (let s := st [];
      s.bit LOP.CTRL.ENABLE = false ∧ s.targetFailed [11, 23] = false ∧ inSramDram s.loopTable (512 * 80) = true ∧
      (match s.loopRead { init := 12 } 0 512 with | (s', .ok es) => s'.loopCause es == 0 | _ => false) = true) ∧
    (let s := (st []).store 0 [1]; (match s.loopRead { init := 12 } 0 512 with | (s', .ok es) => s'.loopCause es == 2 | _ => false) = true) ∧
    (let s := st [(LOP.TABLE_HI.ADDR, 7)]; inSramDram s.loopTable (512 * 80) = false) ∧
    (let s := st [(CLP.IMAGE.IN_BASE, 128)]; s.bit CLP.CTRL.ENABLE = false ∧ s.targetFailed [14] = false ∧ s.clpCause = 0) ∧
    (st [(CLP.IMAGE.IN_BASE, 127)]).clpCause = 1 := by decide +kernel

/-- Channel 7 of the current loops, enabled in a mode, at the end of its first period. -/
def clpUp (m : Nat) (l : List (Fld × Nat)) (c : ClCh) : State :=
  let s := tk 200000 (st ([(CLP.CTRL.ENABLE, 1), (CLP.CH_CFG.MODE 7, m)] ++ l))
  (State.setClch { s with car := { s.car with clReady := true, seatedAt := some 0 } } 7 c)

theorem witness_CurrentInputs :
    (let s := clpUp 1 [(CLP.CH_CFG.HART_MODE 7, 2), (CLP.CH_CFG.LOOP_POWER 7, 1)] {};
      s.domOn 6 = true ∧ s.bit CLP.CTRL.ENABLE = true ∧ s.get (CLP.CH_CFG.MODE 7) = 1 ∧ s.car.clReady = true ∧
      s.bit (CLP.CH_STATUS.FAILED 7) = false ∧ (s.clch 7).front = 0 ∧ s.periodEnd 7 = some 200000 ∧ s.get (CLP.CH_CFG.HART_MODE 7) = 2 ∧
      s.bit (CLP.CH_CFG.LOOP_POWER 7) = true ∧ s.bit (CLP.CH_STATUS.LOOP_SHORT 7) = !true) ∧
    (let s := clpUp 1 [] {};
      s.get (CLP.CH_CFG.HART_MODE 7) ≠ 2 ∧ (s.clch 7).state = 0 ∧ classify (s.trimmed 7 12000000) = 0 ∧ (tk 200401 s).periodEnd 7 = none) ∧
    (let s := clpUp 1 [(CLP.CH_CFG.ALARM_TIME 7, 4)] { cand := 2, run := 3 };
      s.periodEnd 7 = some 200000 ∧ s.get (CLP.CH_CFG.HART_MODE 7) ≠ 2 ∧ (s.clch 7).state = 0 ∧ classify (s.trimmed 7 3600000) = 3 ∧
      (s.clch 7).cand = 2 ∧ s.get (CLP.CH_CFG.ALARM_TIME 7) ≤ (s.clch 7).run + 1) ∧
    (let s := tk 10000000 (st [(SYS.CARRIER_STATUS.SEATED, 1)]);
     let s : State := { s with car := { s.car with seatedAt := some 0 } };
      s.domOn 6 = true ∧ s.car.seatedAt = some 0 ∧ s.bit SYS.CARRIER_STATUS.SEATED = true ∧ 0 + 10000000 ≤ s.now ∧ (tk 9999999 s).now < 10000000) ∧
    (∀ f ∈ [1, 2], let s := (st []).setClch 7 { front := f }; s.domOn 6 = true ∧ (s.clch 7).front = f) := by decide +kernel

theorem witness_CurrentOutputs :
    (let s := clpUp 2 [] {};
      s.get (CLP.CH_CFG.MODE 7) = 2 ∧ s.bit SYS.CARRIER_STATUS.DRIVERS_ENABLED = false) ∧
    (let s := clpUp 2 [(SYS.CARRIER_STATUS.DRIVERS_ENABLED, 1)] { goodFrom := some 0 };
      s.bit SYS.CARRIER_STATUS.DRIVERS_ENABLED = true ∧ s.bit (CLP.CH_STATUS.FAILED 7) = false ∧ (s.clch 7).goodFrom = some 0 ∧
      0 + 200000 ≤ s.now) := by decide +kernel

/-- A short HART request without data for polling address `poll`, in a state that drives. -/
def hartUp (poll : Nat) (l : List (Fld × Nat)) : State × Desc :=
  let d : Desc := { w0 := 1 + 7 * 2 ^ 13, w1 := 16, w2 := 0x1000 }
  ((offer 4 d ((CLP.CH_CFG.MODE 7, 1) :: l)).store 0x1000 [0, poll, 0], d)

theorem witness_HartRequest :
    ∀ p ∈ [(0, [(PAR.STATUS.STATE, 0), (CLP.CH_CFG.HART_MODE 7, 1)], false, 1), (15, [(PAR.STATUS.STATE, 0), (CLP.CH_CFG.HART_MODE 7, 2)], false, 2),
        (0, [], true, 0), (0, [(PAR.STATUS.STATE, 0)], false, 0)],
     let s := (hartUp p.1 p.2.1).1;
     let d := (hartUp p.1 p.2.1).2;
     let r := s.readBuf (s.via 8 (work d)) d.primary d.w1;
      s.offered 0 [4] 1 = some (work d) ∧ s.hartJob d.eflags = none ∧ 16 ≤ d.w1 ∧ d.w1 ≤ 266 ∧ bitsOf d.w5 8 24 = 0 ∧ r.2.2 = none ∧
      hartBad r.2.1 = false ∧ r.1.hartBarred (work d) = p.2.2.1 ∧ r.1.get (CLP.CH_CFG.HART_MODE d.eflags) = p.2.2.2 ∧
      r.1.get (CLP.CH_CFG.MODE d.eflags) ≠ 2 ∧ r.2.1.getD 1 0 = p.1 := by decide +kernel

theorem witness_HartExchanges :
    (let d : Desc := { w0 := 1 + 7 * 2 ^ 13, w1 := 267 }; (offer 4 d).offered 0 [4] 1 = some (work d) ∧ (offer 4 d).hartJob d.eflags = none ∧ 266 < d.w1) ∧
    (∀ p ∈ [([(PAR.STATUS.STATE, 0), (CLP.CH_CFG.HART_MODE 7, 1)], false, 1), ([], true, 0), ([(PAR.STATUS.STATE, 0)], false, 0)],
     let d : Desc := { w0 := 2 + 7 * 2 ^ 13, w1 := 60000 };
     let s := offer 4 d p.1;
      s.offered 0 [4] 2 = some (work d) ∧ s.hartJob d.eflags = none ∧ 1 ≤ d.w1 ∧ d.w1 ≤ 60000 ∧ d.primary = 0 ∧ bitsOf d.w5 8 24 = 0 ∧
      s.hartBarred (work d) = p.2.1 ∧ s.get (CLP.CH_CFG.HART_MODE d.eflags) = p.2.2) ∧
    (∀ b ∈ [true, false], let j : HartJob := { ring := 0, idx := 0, listen := b, sent := 1 };
     let s := (st [(CLP.CH_CFG.HART_MODE 7, 1)]).setHart 7 (some j);
      s.domOn 6 = true ∧ s.get (CLP.CH_CFG.HART_MODE 7) ≠ 0 ∧ s.hartJob 7 = some j ∧ j.listen = b ∧ j.due ≤ s.now ∧ j.allow ≤ j.sent ∧
      s.hartJob 6 = none) ∧
    (let j : HartJob := { ring := 0, idx := 0, listen := false, sent := 1, allow := 2 };
     let d : Desc := { w0 := 1 + 7 * 2 ^ 13 };
     let s := (offer 4 d [(PAR.STATUS.STATE, 0)]).setHart 7 (some j);
      s.hartJob 7 = some j ∧ j.listen = false ∧ j.sent < j.allow ∧ s.startedAt j.ring j.idx = some (work d) ∧ s.hartShut (work d) = 0) := by
  decide +kernel

/-! ## Witnesses: the interconnect, the witness, the pair -/

/-- A state with the pair's own part replaced. -/
def parSt (l : List (Fld × Nat)) (f : Par → Par) : State :=
  let s := st l
  { s with par := f s.par }

theorem witness_RanselMessages :
    let h : RanselHead := ⟨1, 2 ^ 32 - 1, true⟩;
    let s := parSt [] fun p => { p with synced := true, recvSeq := 2 ^ 32 - 1 };
    let t := parSt [] fun p => { p with synced := true, recvSeq := 0, linkA := { trained := true, up := true } };
    let u := parSt [] fun p => { p with synced := true, recvSeq := 2 ^ 32 - 2 };
    let ahead (s : State) := toSigned 32 ((h.seq % 2 ^ 32 + 2 ^ 32 - s.par.recvSeq) % 2 ^ 32);
    s.inOrder h = true ∧ ({ h with good := false } : RanselHead).good = false ∧ h.good = true ∧ (st []).par.synced = false ∧
    s.par.synced = true ∧ ahead t < 0 ∧ t.linksDown = false ∧ 0 < ahead u ∧ u.par.ahead.any (fun a => a.1 == h.seq % 2 ^ 32) = false ∧
    ({ u with par := { u.par with ahead := [(2 ^ 32 - 1, .nak 0)] } }).par.ahead.any (fun a => a.1 == h.seq % 2 ^ 32) = true := by
  decide +kernel


theorem witness_RanselTrailMessages :
    let s := parSt [(PAR.STATUS.STATE, 3)] fun p => { p with follow := { p.follow with commits := [(7, 1, 0, 0)] } };
    let e : Station := { entry := List.replicate 32 0 };
    let t : State := { s with crs := { s.crs with stations := [(2047, e)] }, fer := { map := some stagedMap } };
    let b := List.replicate 16 0;
    s.pairState = 3 ∧ s.par.tetherFrom = none ∧ s.par.ownDigests = [] ∧ s.vot.readIdx ≤ 0 ∧ s.vot.delivery = none ∧ s.par.follow.lockReqs = [] ∧
    s.vot.lockIdx ≤ 0 ∧ s.rng.started = [] ∧ s.par.follow.commits = [(7, 1, 0, 0)] ∧ s.par.follow.loops = [] ∧ s.fer.map = none ∧
    t.fer.map = some stagedMap ∧ stagedMap.newGen = 1 ∧ t.fer.staging = false ∧ (s.cls 0).cycle < 1 ∧ t.station 2047 = some e ∧
    b.length = e.upBytes ∧ (upValues e b).1 = true ∧ beAt b 12 4 = e.crc ∧ 0x10 ∈ [1, 2, 0x10, 0x11, 0x12] ∧ ¬ 3 ∈ [1, 2, 0x10, 0x11, 0x12, 0x20] := by
  decide +kernel

/-- A trail that meets every condition of eligibility. -/
def eligible (l : List (Fld × Nat) := []) : State :=
  parSt ([(PAR.STATUS.STATE, 3), (RST.START_STATUS.PASSED, 1), (SYS.CARRIER_STATUS.SEATED, 1)] ++ l) fun p =>
    { p with hello := some ⟨1, 1, 0, 0, 0, List.replicate 8 0⟩ }

/-- A lead whose trail may take over. -/
def handLead : State := parSt [(PAR.STATUS.STATE, 2), (PAR.STATUS.PARTNER_STATE, 3)] fun p => { p with partnerEligible := true }

theorem witness_RanselPairMessages :
    (let s := st [(PAR.STATUS.STATE, 3)]; 1 ≠ s.get SYS.CARRIER_STATUS.SLOT ∧ 0 = (s.slot s.activeSlot).proto ∧ 0 = s.car.carrierId ∧
      s.pairState ≠ 1 ∧ s.pairState = 3 ∧ s.isDriving = false ∧ s.pairState ≠ 5) ∧
    eligible.ineligible = 0 ∧
    (let m : Sent := .ransel 2 0 [1]; keptMessage 0 (2 ^ 20) (firstSent 0 ([m].drop 0)).reverse = some m) ∧
    (let s := st [];
     let e : Station := { entry := List.replicate 32 0, hist := [(9, [1])] };
     let s : State := { s with crs := { s.crs with stations := [(0, e)] } };
      s.cyc.classes = [] ∧ s.bodyOf 0 9 = some [1]) ∧
    (let s := st [(FLD.CROSS_CFG.ENABLE 3, 1)];
      s.crossOn 3 = true ∧ 3 < 4 ∧ (List.replicate 15 0 ++ [4]).getD 15 0 ≠ 1 ∧ (List.replicate 15 0 ++ [4]).getD 15 0 ≠ 2) ∧
    (st []).handoverReason = 2 ∧ handLead.handoverReason = 0 := by
  decide +kernel

theorem witness_TetherDigest (img : TetherImage) (data : List (Nat × List Nat)) :
    ∃ d e : Nat, Config.tetherDigest img data % 2 ^ 32 = d ∧ Config.tetherDigest img data % 2 ^ 32 ≠ e :=
  ⟨_, _, rfl, Nat.ne_of_lt (Nat.lt_succ_self _)⟩

theorem witness_LinksAndPairClocks :
    (let s := parSt [(SYS.CARRIER_STATUS.SEATED, 1), (SYS.CARRIER_STATUS.PARTNER_SEATED, 1)] id;
      (s.link 1).trained = false ∧ s.bit SYS.CARRIER_STATUS.SEATED = true ∧ s.partnerSeated = true) ∧
    (let s := tk 200000 (parSt [] fun p => { p with linkB := { trained := true, last := 200000, beatFrom := some 0 } });
      (s.link 1).trained = true ∧ (s.link 1).up = false ∧ s.linkSteady 1 = true) ∧
    (let s := tk 199999 (parSt [] fun p => { p with linkB := { trained := true, last := 199999, beatFrom := some 0 } });
      (s.link 1).trained = true ∧ (s.link 1).up = false ∧ s.linkSteady 1 = false) ∧
    (let s := st []; (s.link 1).trained = false ∧ s.now < (s.link 1).last + s.get PAR.TIMING.LINK_LOSS * 200 ∧ s.now < s.par.lastSent + 200) ∧
    (let s := tk (2 ^ 40) (parSt [(PAR.STATUS.STATE, 3)] fun p => { p with linkA := { up := true }, linkB := { up := true } });
      (s.link 1).up = true ∧ (s.link (1 - 1)).up = true ∧ (s.link 1).last + s.get PAR.TIMING.LINK_LOSS * 200 ≤ s.now) ∧
    (let s := parSt [(PAR.STATUS.STATE, 3)] fun p => { p with linkB := { up := true } };
      (s.link 1).up = true ∧ (s.link (1 - 1)).up = false ∧ s.pairState = 3 ∧ s.hasWitness = false) ∧
    (let s := tk 400 (parSt [] fun p => { p with gapAt := some 0, ahead := [(5, .nak 0)] });
      s.par.lastSent + 200 ≤ s.now ∧ s.par.gapAt = some 0 ∧ s.par.ahead = (5, .nak 0) :: [] ∧ 0 + 400 ≤ s.now ∧ s.par.nakAt = none ∧
      s.vot.presented = []) ∧
    (let s := tk 1400 (parSt [] fun p => { p with gapAt := some 0, ahead := [(5, .nak 0)], nakAt := some (4, 400) });
      s.par.gapAt = some 0 ∧ s.par.ahead = (5, .nak 0) :: [] ∧ 0 + 400 ≤ s.now ∧ s.par.nakAt = some (4, 400) ∧ 400 + 1000 ≤ s.now) ∧
    (let s := tk 12000000000 (parSt [] fun p => { p with eligibleSince := some 0 });
      s.par.takebackAsked = none ∧ s.par.eligibleSince = some 0 ∧ 0 + max 1 (s.get PAR.TAKEBACK_HOLDOFF.SECONDS) * 200000000 ≤ s.now) ∧
    (let s := tk (18 * 25000) (parSt [] fun p => { p with takebackAsked := some 0 }); s.par.takebackAsked = some 0 ∧ 0 + 18 * s.p0 ≤ s.now) ∧
    (let s := tk 1000000000 (st [(PAR.STATUS.STATE, 1)]);
      s.pairState = 1 ∧ s.par.linkLostAt = some 0 ∧ 0 + 1000000000 ≤ s.now ∧ s.hasWitness = false ∧ s.isHome = true ∧
      s.bit SYS.CARRIER_STATUS.TOKEN_PARTNER_LIVE = false ∧ s.bit SYS.CARRIER_STATUS.SLOT_FAULT = false) ∧
    (let s := tk (3600 * 200000000) (parSt [] fun p => { p with divs := [(0, 0)] }); ∀ d ∈ s.par.divs, d.2 + 3600 * 200000000 ≤ s.now) := by
  decide +kernel

def authAck : List Nat := [1, 180, 82, 57, 201, 126, 111, 37, 171, 5, 59, 28, 38, 56, 235, 247]
def authGrant : List Nat := [73, 86, 62, 170, 188, 13, 48, 176, 6, 196, 80, 22, 137, 157, 7, 53]
def authRefuse : List Nat := [113, 192, 245, 218, 103, 219, 9, 99, 125, 6, 22, 18, 239, 26, 70, 155]
def authRenew : List Nat := [91, 242, 55, 240, 216, 14, 149, 184, 144, 107, 144, 199, 107, 103, 68, 239]
def authRequest : List Nat := [37, 83, 118, 39, 17, 129, 210, 90, 137, 57, 102, 123, 232, 32, 108, 78]

/-- A LEASE frame, with its AUTH under the key of zeros. -/
def leaseFrame (op src unit ticks nonce : Nat) (auth : List Nat) : List Nat :=
  let head := leaseHead op unit 0 0 ticks nonce
  let hdr := ucpHeader 3 0 0 src 40 9
  etherFrame 1 0x020000000005 0x88B5 (hdr ++ head ++ auth)

def keyed (l : List (Fld × Nat)) (f : Par → Par) : State :=
  let s := parSt ([(FLD.ETHERTYPE.VALUE, 0x88B5), (PAR.WITNESS_CFG.ENABLE, 1), (PAR.WITNESS_CFG.PORT, 4)] ++ l) f
  { s with upd := { s.upd with leaseKey := some (List.replicate 32 0) } }

theorem witness_JoiningAsks :
    let s := tk 1000000000 (keyed [(PAR.STATUS.STATE, 1)] id);
    s.pairState = 1 ∧ s.par.linkLostAt = some 0 ∧ 0 + 1000000000 ≤ s.now ∧ s.hasWitness = true ∧
    s.bit SYS.CARRIER_STATUS.TOKEN_PARTNER_LIVE = false := by decide +kernel

theorem witness_WitnessAnswers_ack :
    let f := leaseFrame 2 0xF0FF 0 100 7 authAck;
    (let s := keyed [(PAR.STATUS.STATE, 0)] fun p => { p with openRenews := [(7, 0, 100)] };
      s.answerGood 4 f = true ∧ leaseOp f = 2 ∧ s.par.openRequest = none ∧ s.par.openRequest ≠ some (leaseNonce f) ∧
      s.par.openRenews = [(leaseNonce f, 0, 100)] ∧ s.isDriving = true ∧
      s.par.openRenews.find? (fun r => r.1 == leaseNonce f) = some (7, 0, 100) ∧
      s.par.leaseEnd ≤ 0 + 100 ∧ s.now < 0 + 100 ∧ leaseEpoch f ≤ s.par.ownEpoch ∧ s.domOn 4 = true) ∧
    (let s := keyed [] fun p => { p with openRequest := some 7 };
      s.answerGood 4 f = true ∧ leaseOp f = 2 ∧ s.par.openRequest = some (leaseNonce f)) ∧
    headerOk [] = false ∧ (keyed [] id).crossOn 3 = false ∧
    (let g := leaseFrame 2 0xF0FF 0 100 7 (List.replicate 16 0);
     let s := keyed [] id;
      s.domOn 4 = true ∧ beAt g 12 2 = s.get FLD.ETHERTYPE.VALUE ∧ g.getD 15 0 = 3 ∧ headerOk g = true ∧ ucpLength g = 40 ∧
      leaseOp g = 2 ∧ s.leaseAuthOk g = false) := by decide +kernel

theorem witness_WitnessAnswers_grant :
    let f := leaseFrame 4 0xF0FF 0 100 7 authGrant;
    let s := keyed [(PAR.STATUS.STATE, 5)] fun p => { p with openRequest := some 7, aloneAsked := true };
    s.answerGood 4 f = true ∧ s.par.openRequest = some (leaseNonce f) ∧ leaseOp f = 4 ∧ s.par.aloneAsked = true ∧ s.isDriving = false ∧
    s.bit SYS.CARRIER_STATUS.SLOT_FAULT = false := by
  decide +kernel

theorem witness_WitnessAnswers_refuse :
    let f := leaseFrame 5 0xF0FF 0 0 7 authRefuse;
    let s := keyed [(PAR.STATUS.STATE, 3)] fun p => { p with openRequest := some 7 };
    s.answerGood 4 f = true ∧ s.par.openRequest = some (leaseNonce f) ∧ leaseOp f = 5 ∧ s.pairState = 3 := by decide +kernel

theorem witness_WitnessServes_renew :
    let w : WitnessEntry := { carrier := 0, holder := some 1, pend := [] };
    let s := keyed [(PAR.STATUS.STATE, 0)] fun p => { p with witnessFor := [w] };
    let f := leaseFrame 1 0xF001 1 100 7 authRenew;
    s.par.witnessFor = [w] ∧ s.requestGood f w = true ∧ s.par.witnessFor.find? (fun x => x.carrier == leaseCarrier f) = some w ∧
    leaseOp f = 1 ∧ 0 < leaseTicksOf f ∧ leaseEpoch f = w.epoch ∧
    w.holder = some (leaseUnit f) ∧ w.pend = [] := by decide +kernel

theorem witness_WitnessServes_request :
    let g := leaseFrame 3 0xF001 1 100 7 authRequest;
    let w : WitnessEntry := { carrier := 0, holder := some 0, expiry := 5, pend := [] };
    let s := keyed [(PAR.STATUS.STATE, 0)] fun p => { p with witnessFor := [w] };
    s.requestGood g w = true ∧ s.par.witnessFor.find? (fun x => x.carrier == leaseCarrier g) = some w ∧
    leaseOp g = 3 ∧ s.now < w.expiry ∧ w.holder ≠ some (leaseUnit g) ∧ w.pend = [] ∧
    s.requestGood g { w with expiry := 0 } = true ∧ 0 ≤ s.now := by decide +kernel

theorem witness_WitnessServes_expiry :
    let r : WitnessReq := ⟨0, 0, 1, 0, 4, 0⟩;
    let w : WitnessEntry := { carrier := 0, pend := [r], expiry := 3 };
    let s := keyed [(PAR.STATUS.STATE, 0)] fun p => { p with witnessFor := List.replicate 8 w };
    w.pend = r :: [] ∧ s.isDriving = true ∧ w.expiry ≤ (tk 3 s).now ∧ s.now < w.expiry ∧ s.par.witnessFor[7]? = some w := by decide +kernel

theorem witness_LeaseClocks :
    (let s := keyed [(PAR.STATUS.STATE, 0), (PAR.STATUS.LEASE_HELD, 1), (PAR.STATUS.WITNESS_REACHABLE, 1)] id;
      s.hasWitness = true ∧ s.domOn 4 = true ∧ s.par.renewAt = none ∧ s.isDriving = true ∧ s.par.openRenews = [] ∧
      s.bit PAR.STATUS.LEASE_HELD = true ∧ s.par.leaseEnd ≤ s.now ∧ s.bit PAR.STATUS.WITNESS_REACHABLE = true ∧ s.par.answers = none) ∧
    (let s := tk (2 ^ 40) (keyed [(PAR.STATUS.STATE, 0)] fun p => { p with renewAt := some 5 });
      s.hasWitness = true ∧ s.isDriving = true ∧ ∀ t ∈ s.par.renewAt, t + s.get PAR.LEASE.TICKS / 4 ≤ s.now) ∧
    (let s := tk 200005 (keyed [(PAR.STATUS.STATE, 5)] fun p => { p with probeAt := some 5 });
      s.hasWitness = true ∧ s.isDriving = false ∧ s.par.aloneAsked = false ∧ ∀ t ∈ s.par.probeAt, t + 200000 ≤ s.now) ∧
    (let s := keyed [(PAR.STATUS.STATE, 5), (PAR.STATUS.LEASE_HELD, 1), (PAR.STATUS.WITNESS_REACHABLE, 1)] fun p => { p with answers := some 0 };
      s.par.probeAt = none ∧ s.isDriving = false ∧ s.par.aloneAsked = false ∧ s.par.openRenews = [] ∧ s.bit PAR.STATUS.LEASE_HELD = true ∧
      s.par.leaseEnd ≤ s.now ∧ s.par.answers = some 0 ∧ s.now < 0 + 4 * s.leaseInterval ∧
      0 + 4 * (tk (2 ^ 40) s).leaseInterval ≤ (tk (2 ^ 40) s).now) ∧
    (let s := eligible [(PAR.STATUS.STATE, 4), (PAR.STATUS.UNTETHER_REASON, 1), (PAR.CFG.UNTETHERED_TAKEOVER, 1), (PAR.WITNESS_CFG.ENABLE, 1),
        (PAR.STATUS.WITNESS_REACHABLE, 1)];
     let s := tk 2000000000 s;
      s.pairState = 4 ∧ s.bit PAR.CFG.UNTETHERED_TAKEOVER = true ∧ s.mayRequest = true ∧ s.domOn 4 = true ∧
      max (max s.par.evidenceTick s.par.lastMsg) s.par.refusedAt + max 100 (s.get PAR.UNTETHERED_SILENCE.US) * 200 ≤ s.now) := by
  decide +kernel

theorem witness_PairCommands :
    handLead.handoverReason = 0 ∧ (st []).handoverReason ≠ 0 ∧ (st [(PAR.STATUS.STATE, 2)]).pairState ≠ 5 ∧
    (∀ b < 2, let s := st [(PAR.STATUS.STATE, 5), (SYS.CARRIER_STATUS.PARTNER_SEATED, b)];
      s.pairState = 5 ∧ s.bit SYS.CARRIER_STATUS.SLOT_FAULT = false ∧ s.partnerSeated = (b == 1) ∧ s.hasWitness = false) ∧
    (0 : Fin 8) ≠ 1 := by decide +kernel

/-! ## Witnesses: protection, arbiters, locks -/

/-- Regions 46 and 47, both the first 4 KiB. -/
def twoRegions : State :=
  st [(PRT.REGION_BASE_HI.ENABLE 46, 1), (PRT.REGION_BASE_HI.ENABLE 47, 1)]

theorem witness_ProtectionCommits :
    (let s := st [];
      s.bit PRT.CMD_STATUS.BUSY = false ∧ s.enabledRegions.find? (fun r => !s.regionFits r) = none ∧ s.overlapPair = none ∧
      (∀ i < 22, (s.get PRT.CMD_MASK.INITIATORS).testBit i = true → s.rulesFit i = true)) ∧
    (let s := st [(PRT.REGION_BASE_HI.ENABLE 47, 1), (PRT.REGION_BASE_LO.ADDR 47, 9)];
      s.enabledRegions.find? (fun r => !s.regionFits r) = some 47) ∧
    twoRegions.enabledRegions.find? (fun r => !twoRegions.regionFits r) = none ∧ twoRegions.overlapPair = some (46, 47) ∧
    (let s := st [(PRT.CMD_MASK.INITIATORS, 2 ^ 21), (PRT.INIT_RULE_BASE_HI.ENABLE 21 15, 1), (PRT.INIT_RULE_BASE_LO.ADDR 21 15, 1)];
      (s.get PRT.CMD_MASK.INITIATORS).testBit 21 = true ∧ s.rulesFit 21 = false) ∧
    (st [(PRT.CMD_STATUS.BUSY, 1)]).bit PRT.CMD_STATUS.BUSY = true ∧
    (let d : Drain := ⟨1, 0, 255⟩;
     let x : Txn := { init := 3, addr := 0x1000, len := 4, write := false, deadline := 5, arrival := 0, epoch0 := 0, epoch1 := 254 };
     let s := st [];
     let s : State := { s with fab := { s.fab with drain := some d } };
     let t := s.setArb 9 { waiting := [x] };
      s.fab.drain = some d ∧ s.oldInFlight d = false ∧ t.fab.drain = some d ∧ t.oldInFlight d = true) := by decide +kernel

theorem witness_Arbiters :
    let x : Txn := { init := 3, addr := 0x1000, len := 4, write := false, deadline := 5, arrival := 1, epoch0 := 0, epoch1 := 0 };
    (∀ n ∈ [none, some 63], let y := { x with ring := n };
     let s := tk 7 ((st []).setArb 9 { inService := some (y, 7) });
      s.arb 9 = { inService := some (y, 7) } ∧ 7 ≤ s.now ∧ y.ring = n ∧ (tk 6 s).now < 7) ∧
    (let s := tk 7 ((st []).setArb 9 { inService := some (x, 7), chosen := some x });
      s.arb 9 = { inService := some (x, 7), chosen := some x } ∧ 7 ≤ s.now ∧ x.init < 4) ∧
    (let s := st []; (s.arb 9).inService = none ∧ s.now % s.get ARB.WINDOW.TICKS = 0 ∧ (tk 1 s).now % s.get ARB.WINDOW.TICKS ≠ 0) := by
  decide +kernel

theorem witness_ServiceOrder :
    let x : Txn := { init := 3, addr := 0x1000, len := 4, write := false, deadline := 5, arrival := 1, epoch0 := 0, epoch1 := 0 };
    let y : Txn := { x with init := 4 };
    let z : Txn := { x with deadline := 9, init := 0 };
    let a : Arbiter := { waiting := [z, y, x] };
    x.before y = true ∧ y.before z = true ∧ a.masked = [] ∧ a.pick = some x ∧
    (x.deadline, x.init, x.arrival) ≠ (y.deadline, y.init, y.arrival) := by decide +kernel

/-- Lock 63 held by initiator 7, with waiters. -/
def lockUp (w : List Nat) (l : List (Fld × Nat) := []) : State :=
  (st ([(LCK.LOCK_STATUS.HELD 63, 1), (LCK.LOCK_STATUS.OWNER 63, 7)] ++ l)).setLockRt 63 { waiters := w }

theorem witness_LockUnit :
    (let s := st []; s.isTrail = false ∧ s.lockHeld 63 = false ∧ s.waitsFor 7 = none ∧ s.lockOwner 63 ≠ some 7) ∧
    (let s := lockUp [] [(LCK.LOCK_HOLD_LIMIT.US 63, 1)];
      s.lockHeld 63 = true ∧ s.lockOwner 63 = some 7 ∧ (s.lockRt 63).waiters = [] ∧ 7 ≠ 0 ∧ s.waitsFor 0 = none ∧ s.waitsFor 7 = none ∧
      s.get (LCK.LOCK_HOLD_LIMIT.US 63) ≠ 0 ∧ s.bit (LCK.LOCK_STATUS.HOLD_EXCEEDED 63) = false ∧
      (s.lockRt 63).since + s.get (LCK.LOCK_HOLD_LIMIT.US 63) * 200 < (tk 201 s).now ∧ (tk 201 s).lockOwner 63 = some 7) ∧
    (∀ w ∈ [0, 4], let s := lockUp [w];
      s.lockOwner 63 = some 7 ∧ (s.lockRt 63).waiters = w :: [] ∧ w < 8 ∧ w ≠ 7 ∧ s.isTrail = false) ∧
    (st [(PAR.STATUS.STATE, 3)]).isTrail = true ∧
    (st [(LCK.WAIT.VALID 7, 1), (LCK.WAIT.LOCK 7, 63)]).waitsFor 7 = some 63 := by decide +kernel

/-! ## Witnesses: time and plant ports -/

theorem witness_TimeUnit :
    (st [(TIM.STATUS.PAIR_FOLLOW, 1)]).bit TIM.STATUS.PAIR_FOLLOW = true ∧ (st []).bit TIM.STATUS.PAIR_FOLLOW = false ∧
    (let s := st [(PAR.STATUS.STATE, 2)]; s.isDriving = true ∧ s.inRun = false) ∧
    (let s := st []; s.isDriving = false ∧ s.now < s.tim.lastCommit + s.get TIM.HOLDOVER_TIME.MS * 200000) ∧
    (st [(PAR.STATUS.STATE, 2), (SYS.STATUS.RUN, 1)]).inRun = true ∧
    (let s := tk 200000 (st [(TIM.HOLDOVER_TIME.MS, 1), (TIM.STATUS.HOLDOVER, 0)]);
      s.bit TIM.STATUS.HOLDOVER = false ∧ s.tim.lastCommit + s.get TIM.HOLDOVER_TIME.MS * 200000 ≤ s.now) ∧
    (let s := st [(TIM.CFG.CROSSING_TIME, 8), (TIM.CFG.ROLE, 2), (PAR.STATUS.STATE, 2), (FLD.CROSS_CFG.ENABLE 3, 1)];
      s.timedMaster 3 = true ∧ s.crossOn 3 = true) := by decide +kernel

theorem witness_CompareUnits :
    (0 < (tk 1 (st [])).pastTarget 7) ∧ ((st [(TIM.CMP_TARGET.TICK 7, 1)]).pastTarget 7 < 0) ∧
    (∀ p < 2, let s := st [(TIM.CMP_STATUS.ARMED 7, 1), (TIM.CMP_PERIOD.TICKS 7, p)];
      s.bit (TIM.CMP_STATUS.ARMED 7) = true ∧ 0 ≤ s.pastTarget 7 ∧ s.get (TIM.CMP_PERIOD.TICKS 7) = p) := by decide +kernel

theorem witness_CaptureUnits :
    let met (s : State) : Bool := s.captureSignal (s.get (TIM.CAP_CFG.SELECT 3)) (s.get2 (TIM.CAP_TICK_LO.TICK 3) (TIM.CAP_TICK_HI.TICK 3));
    let with' (k : Nat) (f : Tim → Tim) : State := (fun s => { s with tim := f s.tim }) (st [(TIM.CAP_CFG.SELECT 3, k)]);
    met (st [(TIM.CAP_CFG.SELECT 3, 1)]) = true ∧ met (with' 6 fun t => { t with downAt := [(3, 0)] }) = true ∧
    met (with' 8 fun t => { t with syncAt := [(1, 0)] }) = true ∧ met (with' 8 fun t => { t with unread := [3], syncAt := [(1, 0)] }) = true ∧
    met (st [(TIM.CAP_CFG.SELECT 3, 0)]) = false ∧ met (st [(TIM.CAP_CFG.SELECT 3, 6)]) = false ∧ met (st [(TIM.CAP_CFG.SELECT 3, 9)]) = false ∧
    ¬ 3 ∈ (st []).tim.unread ∧ 3 ∈ (with' 8 fun t => { t with unread := [3] }).tim.unread := by
  decide +kernel

theorem witness_PlantPorts :
    (st []).bit (PLN.PORT_STATUS.LINK 1) = !true ∧ (st []).bit (PLN.PORT_CFG.ENABLE 1) = false ∧
    (∀ op ∈ [1, 2], let d : Desc := { w0 := op + 2 ^ 13, w1 := 9229 }; (offer 11 d).offered 0 [11] op = some (work d) ∧ 9228 < d.w1) ∧
    (∀ n ∈ [60, 9212], let d : Desc := { w0 := 1 + 2 ^ 13, w1 := n, w2 := 0x1000 };
     let s := offer 11 d [(PLN.PORT_CFG.ENABLE d.plnPort, 1)];
      (offer 11 d).offered 0 [11] 1 = some (work d) ∧ (offer 11 d).bit (PLN.PORT_CFG.ENABLE d.plnPort) = false ∧
      s.bit (PLN.PORT_CFG.ENABLE d.plnPort) = true ∧ s.isTrail = false ∧
      s.offered 0 [11] 1 = some (work d) ∧ d.timestamp = false ∧ d.oneStep = false ∧ d.w4 = 0 ∧ d.w5 = 0 ∧ d.w1 = n ∧
      ((s.readBuf (s.via 21 (work d)) d.primary 60).2.2 = none)) ∧
    (let d : Desc := { w0 := 2 + 2 ^ 13, w1 := 80, w4 := 0 };
      (offer 11 d).offered 0 [11] 2 = some (work d) ∧ d.w5 = 0 ∧ d.eflags ≤ 1) ∧
    (let f := etherFrame 1 2 0x0800 (List.replicate 46 0);
     let s := st [(PLN.PORT_CFG.ENABLE 1, 1), (PLN.PORT_CFG.PROMISC 1, 1), (FLD.ETHERTYPE.VALUE, 0x88B5)];
     let d : Desc := { w0 := 2 + 2 ^ 13, w1 := 80 };
     let w : Started := { work d with accepted := true };
     let r := offer 11 d [(PLN.PORT_CFG.PTP_RING 1, 5)];
     let r : State := { r with rng := { r.rng with started := [w] } };
      s.domOn 4 = true ∧ s.bit (PLN.PORT_CFG.ENABLE 1) = true ∧ 60 ≤ f.length ∧ f.length ≤ 9212 ∧ beAt f 12 2 ≠ 0x8808 ∧
      beAt f 12 2 ≠ s.get FLD.ETHERTYPE.VALUE ∧ s.bit (PLN.PORT_CFG.PROMISC 1) = true ∧ s.rng.started = [] ∧
      r.plnTaker 1 (ptpAt f).isSome = some w) := by decide +kernel

/-! ## Witnesses: CAN -/

/-- A record of a classic frame of no data, identifier 291. -/
def canRecord : List Nat := leBytes 4 (291) ++ [0, 0, 0, 0]

/-- A matrix of one cycle and one window that is not FREE, of buffer 63. -/
def canMatrixBytes : List Nat :=
  let t := [0, 0, 0, 0, 0, 0, 0, 0] ++ leBytes 4 0 ++ leBytes 4 1000 ++ leBytes 2 (1 + 63 * 256)
  [1, 1, 0, 0] ++ leBytes 4 (crc32c t) ++ t

theorem witness_CanCommandsRefused :
    (let s := st [(CAN.CH_NBT.NTSEG1 1, 0)];
      s.bit (CAN.CH_CFG.ENABLE 1) = false ∧ s.targetFailed [13, 23] = false ∧ s.get (CAN.CH_NBT.NTSEG1 1) = 0) ∧
    (let s := st [(CAN.CH_NBT.NTSEG1 1, 1), (CAN.CH_NBT.NTSEG2 1, 1), (CAN.CH_NBT.NSJW 1, 2)];
      s.bit (CAN.CH_CFG.ENABLE 1) = false ∧ s.targetFailed [13, 23] = false ∧ s.get (CAN.CH_NBT.NTSEG2 1) < s.get (CAN.CH_NBT.NSJW 1)) ∧
    (let d : Desc := { w0 := 1, w1 := 7, w2 := 0x1000, w5 := 63 * 2 ^ 24 };
     let s := offer 6 d [(CAN.MB_CFG.MODE 1 63, 3)];
      s.offered 0 [5, 6] 1 = some (work d) ∧ s.txWordsBad (s.canOf 0) d = true) ∧
    (let d : Desc := { w0 := 1, w1 := 8, w2 := 0x1000, w5 := 63 * 2 ^ 24 };
     let s := offer 6 d [(CAN.MB_CFG.MODE 1 63, 3), (PAR.STATUS.STATE, 3)];
      s.offered 0 [5, 6] 1 = some (work d) ∧ s.txWordsBad (s.canOf 0) d = false ∧ s.isTrail = true) ∧
    (let d : Desc := { w0 := 2, w1 := 79, w4 := 63 };
     let s := offer 6 d [(CAN.MB_CFG.MODE 1 63, 2)];
      s.offered 0 [5, 6] 2 = some (work d) ∧ d.w1 ≠ 80) ∧
    (let d : Desc := { w0 := 3, w1 := 26, w2 := 0x1000 };
     let s := (offer 6 d [(CAN.MB_CFG.MODE 1 63, 3)]).store 0x1000 canMatrixBytes;
     let r := s.readBuf (s.via 17 (work d)) d.primary d.w1;
      s.offered 0 [5, 6] 3 = some (work d) ∧ d.w4 = 0 ∧ d.w5 = 0 ∧ d.eflags = 0 ∧ 16 ≤ d.w1 ∧ d.primary % 4 = 0 ∧
      inSramDram d.primary d.w1 = true ∧ r.2 = (canMatrixBytes, none) ∧
      (match r.1.canMatrix 1 canMatrixBytes with | .error k => k == 5 | _ => false) = true) := by
  decide +kernel

theorem witness_CanCommands :
    (let s := st [];
      s.bit (CAN.CH_CFG.ENABLE 1) = false ∧ s.targetFailed [13, 23] = false ∧ 1 ≤ s.get (CAN.CH_NBT.NTSEG1 1) ∧
      1 ≤ s.get (CAN.CH_NBT.NTSEG2 1) ∧ s.get (CAN.CH_NBT.NSJW 1) ≤ s.get (CAN.CH_NBT.NTSEG2 1) ∧
      s.get (CAN.CH_DBT.DSJW 1) ≤ s.get (CAN.CH_DBT.DTSEG2 1)) ∧
    (let d : Desc := { w0 := 1, w1 := 8, w2 := 0x1000, w5 := 63 * 2 ^ 24 };
     let s := (offer 6 d [(CAN.MB_CFG.MODE 1 63, 3), (PAR.STATUS.STATE, 2)]).store 0x1000 canRecord;
     let r := s.readBuf (s.via 17 (work d)) d.primary d.w1;
      s.offered 0 [5, 6] 1 = some (work d) ∧ s.canOf 0 = 1 ∧ s.txWordsBad 1 d = false ∧ s.isTrail = false ∧ r.2 = (canRecord, none) ∧
      r.1.recordBad 1 d canRecord = false ∧ d.eflags = 0 ∧ (r.1.canCh 1).inTx = none ∧ (r.1.canCh 1).queue = []) ∧
    (let d : Desc := { w0 := 2, w1 := 80, w4 := 63 };
     let s := offer 6 d [(CAN.MB_CFG.MODE 1 63, 2)];
      s.offered 0 [5, 6] 2 = some (work d) ∧ d.w1 = 80 ∧ d.w4 < 64 ∧ d.w5 = 0 ∧ d.eflags = 0 ∧
      s.get (CAN.MB_CFG.MODE (s.canOf 0) d.w4) = 2) ∧
    (let d : Desc := { w0 := 3, w1 := 26, w2 := 0x1000 };
     let s := (offer 6 d [(CAN.MB_CFG.MODE 1 63, 3), (CAN.MB_CFG.TT 1 63, 1)]).store 0x1000 canMatrixBytes;
     let r := s.readBuf (s.via 17 (work d)) d.primary d.w1;
      s.offered 0 [5, 6] 3 = some (work d) ∧ d.w4 = 0 ∧ d.w5 = 0 ∧ d.eflags = 0 ∧ 16 ≤ d.w1 ∧ d.primary % 4 = 0 ∧
      inSramDram d.primary d.w1 = true ∧ r.2 = (canMatrixBytes, none) ∧ (r.1.canCh 1).next = none ∧
      (match r.1.canMatrix 1 canMatrixBytes with | .ok m => m.cycles == 1 && m.buffer 0 0 == 63 | _ => false) = true) := by
  decide +kernel

theorem witness_CanBusEnds :
    let on : List (Fld × Nat) := [(CAN.CH_CFG.ENABLE 1, 1), (PAR.STATUS.STATE, 3)];
    let f : CanTx := ⟨0, 0, 63, 291, 0, [], none, true, false, 0, false⟩;
    (let s := (st on).setCanCh 1 { inTx := some 63, queue := [f] };
      s.canOn 1 = true ∧ (s.canCh 1).inTx = some f.buf ∧ (s.canCh 1).queue = [f] ∧ (s.canCh 1).behind = [] ∧ f.kill = false ∧ f.once = true) ∧
    (let s := st on; s.canOn 1 = true ∧ (s.canCh 1).inTx = none) ∧
    (let m : CanSched := ⟨1, [(0, 1000)], [1 + 63 * 256]⟩;
     let s := (st (on ++ [(CAN.CH_STATUS.LISTEN_ONLY 1, 0)])).setCanCh 1 { sched := some m, window := some (0, 0), queue := [f] };
      s.canOn 1 = true ∧ (s.canCh 1).sched = some m ∧ 0 < m.windows.length ∧
      s.now < (s.canCh 1).start + (m.windows.getD 0 (0, 0)).1 + (m.windows.getD 0 (0, 0)).2 ∧
      (tk 1000 s).canOn 1 = true ∧ ((tk 1000 s).canCh 1).sched = some m ∧ ((tk 1000 s).canCh 1).window = some (0, 0) ∧
      ((tk 1000 s).canCh 1).queue = [f] ∧ f.buf = m.buffer ((tk 1000 s).get (CAN.CH_TT_STATUS.CYCLE 1)) 0 ∧
      (tk 1000 s).bit (CAN.CH_STATUS.LISTEN_ONLY 1) = false ∧ (tk 1000 s).get (CAN.CH_STATUS.STATE 1) ≠ 2 ∧
      ((tk 1000 s).canCh 1).start + (m.windows.getD 0 (0, 0)).1 + (m.windows.getD 0 (0, 0)).2 ≤ (tk 1000 s).now) := by decide +kernel

theorem witness_CanBus :
    let on : List (Fld × Nat) := [(CAN.CH_CFG.ENABLE 1, 1), (PAR.STATUS.STATE, 3)];
    let f : CanTx := ⟨0, 0, 63, 291, 0, [], none, false, false, 0, false⟩;
    (let s := st on; s.canOn 1 = true ∧ s.isDriving = false ∧ s.get (CAN.CH_STATUS.STATE 1) ≠ 2 ∧ f.ident < 2 ^ 32 ∧
      idFdf f.ident = false ∧ s.canAccepts 1 f.ident = none) ∧
    (let s := st (on ++ [(CAN.MB_CFG.MODE 1 63, 1)]);
      s.canOn 1 = true ∧ s.isDriving = false ∧ s.canAccepts 1 f.ident = some 63 ∧ s.get (CAN.MB_CFG.MODE 1 63) = 1) ∧
    (let s := (st on).setCanCh 1 { inTx := some 63, queue := [f] };
      s.canOn 1 = true ∧ (s.canCh 1).inTx = some f.buf ∧ (s.canCh 1).queue = [f] ∧ (s.canCh 1).behind = [] ∧ (s.canCh 1).window = none ∧
      f.kill = false) ∧
    (let g : CanTx := { f with due := some (0, 0) };
     let s := (st on).setCanCh 1 { queue := [g] };
      s.canOn 1 = true ∧ (s.canCh 1).queue = [g] ∧ g.buf = 63 ∧ (s.canCh 1).inTx = none ∧ s.canLate g = true) ∧
    (let g : CanTx := { f with due := some (0, 0) };
     let s := (st on).setCanCh 1 { queue := [f], behind := [g], inTx := some 63 };
      (s.canCh 1).behind = [g] ∧ g.buf = 63 ∧ (s.canCh 1).inTx = some 63 ∧ s.canLate g = true) ∧
    (let s := st (on ++ [(CAN.CH_STATUS.STATE 1, 2)]); s.canOn 1 = true ∧ s.now < s.recoverFrom 1 ∧
      (tk 563200 s).get (CAN.CH_STATUS.STATE 1) = 2 ∧ (tk 563200 s).recoverFrom 1 = 563200) ∧
    (let s := st [(CAN.CH_CFG.ENABLE 1, 1), (PAR.STATUS.STATE, 2), (CAN.CH_STATUS.LISTEN_ONLY 1, 1)];
      s.canOn 1 = true ∧ s.isDriving = true ∧ s.bit (CAN.CH_STATUS.LISTEN_ONLY 1) = true) ∧
    (let m : CanSched := ⟨1, [(0, 1000)], [1 + 63 * 256]⟩;
     let s := (st (on ++ [(CAN.CH_TT_CFG.ENABLE 1, 1), (CAN.CH_TT_STATUS.LOADED 1, 1)])).setCanCh 1 { sched := some m };
      s.canOn 1 = true ∧ (s.canCh 1).sched = some m ∧ 0 < m.windows.length ∧ s.schedOn 1 = true ∧
      m.kind (s.get (CAN.CH_TT_STATUS.CYCLE 1)) 0 ≠ 0 ∧ (s.canCh 1).inTx = none ∧
      (s.canCh 1).start + (m.windows.getD 0 (0, 0)).1 ≤ s.now ∧ s.now < (s.canCh 1).start + (m.windows.getD 0 (0, 0)).1 + (m.windows.getD 0 (0, 0)).2) := by decide +kernel

/-! ## Witnesses: change capture -/

/-- A capture of two segments at the start of DRAM. -/
def acqJob : AcqJob :=
  { ring := 0, idx := 0, base := 0x800000000, len := 131072, summ := 0x1000, segs := 2, recs := 4096, post := 1, timeout := 0, gapMax := 1, head := [] }

def acqState (j : AcqJob) (l : List (Fld × Nat) := []) : State := (st l).setJob j

theorem witness_ChangeCapture :
    (let s := acqState acqJob;
     let s : State := { s with acq := { s.acq with prev := 2 } };
      s.acq.job = some acqJob ∧ acqJob.queue = [] ∧ s.domOn 7 = true ∧ s.acq.sampled ≠ some s.now ∧ acqJob.ended = none ∧
      acqJob.gap = none ∧ s.sample 0 ≠ s.acq.prev ∧ s.fires s.acq.prev (s.sample 0) = false ∧ acqJob.trig = none ∧ acqJob.force = false ∧
      acqJob.late = false) ∧
    (let j : AcqJob := { acqJob with gap := some (1, 1) };
     let s := acqState j [(ACQ.RESUME.FREE, 512)];
      j.queue = [] ∧ j.ended = none ∧ j.gap.isSome = true ∧ s.get ACQ.RESUME.FREE ≤ 512 ∧ s.acq.job = some j) ∧
    (let j : AcqJob := { acqJob with ended := some 0 };
     let s := acqState j;
      s.acq.job = some j ∧ j.ended = some 0 ∧ j.written = false ∧ j.seg + 1 < j.segs ∧
      (s.write (s.acqVia j) (j.summ + 64 * j.seg) (s.summary j false)).2.isOk = true) ∧
    (let j : AcqJob := { acqJob with trig := some (0, 0), timeout := 1 };
     let s := tk 1 (acqState j);
      s.acq.job = some j ∧ j.trig = some (0, 0) ∧ j.timeout ≠ 0 ∧ j.ended = none ∧ 0 + j.timeout ≤ s.now) ∧
    (let j : AcqJob := { acqJob with ended := some 0, written := true };
     let s := tk 5 (acqState j [(ACQ.RESUME.FREE, 512), (ACQ.MAX_DEAD.TICKS, 9)]);
      s.acq.job = some j ∧ j.queue = [] ∧ j.ended = some 0 ∧ j.written = true ∧ s.domOn 7 = true ∧ s.acq.sampled ≠ some s.now ∧
      s.get ACQ.RESUME.FREE ≤ 512 ∧ min (s.now - 0) 0xFFFFFFFF ≤ s.get ACQ.MAX_DEAD.TICKS ∧
      (State.write (s.set ACQ.LAST_DEAD.TICKS (min (s.now - 0) 0xFFFFFFFF)) (s.acqVia j) (j.summ + 64 * j.seg + 0x28)
        (leBytes 4 (min (s.now - 0) 0xFFFFFFFF) ++ leBytes 4 j.missed)).2.isOk = true) := by decide +kernel

theorem witness_CaptureRefused :
    (st []).acq.job = none ∧
    (let j : AcqJob := { acqJob with ended := some 0 };
      (acqState j).acq.job = some j ∧ j.ended = some 0 ∧ j.written = false) ∧
    (let d : Desc := { w0 := 1, w1 := 65535, w2 := 0, w3 := 8, w4 := 0x1000 };
     let s := offer 7 d;
      s.offered 0 [7] 1 = some (work d) ∧ d.eflags = 0 ∧ bitsOf d.w5 8 24 = 0 ∧ s.captureCause d ≠ 0) ∧
    (let d : Desc := { w0 := 2 };
     let s := offer 7 d;
      s.acq.job = none ∧ d.w4 = 0 ∧ d.w5 = 0 ∧ s.offered 0 [7] 2 = some (work d) ∧ d.eflags = 0 ∧ d.w1 = 0 ∧ d.primary = 0) ∧
    (let d : Desc := { w0 := 3 };
     let s := offer 7 d;
      s.acq.job = none ∧ d.w4 = 0 ∧ d.w5 = 0 ∧ s.offered 0 [7] 3 = some (work d) ∧ d.w1 = 0 ∧ d.primary = 0 ∧ s.acq.last = none) ∧
    (let d : Desc := { w0 := 4, w1 := 0x100000, w2 := 0, w3 := 8 };
     let s := offer 7 d;
      s.acq.job = none ∧ d.w4 = 0 ∧ d.w5 = 0 ∧ s.offered 0 [7] 4 = some (work d) ∧ d.primary % 4096 = 0 ∧
      within .dram d.primary d.w1 = true ∧ (Sparse.get {} s.acq.slots d.eflags : AcqSlot).valid = false) := by decide +kernel

/-- A valid archive header of a capture whose buffer and summary are empty. -/
def acqHeaderBytes : List Nat :=
  ([0x55, 0x41, 0x43, 0x51, 1] ++ List.replicate 1015 0) ++ leBytes 4 2641771620

theorem crcZeros_0 : (List.replicate 145 0).foldl crcByte 2686044847 = 2736628450 := by decide +kernel
theorem crcZeros_1 : (List.replicate 145 0).foldl crcByte 2736628450 = 484405710 := by decide +kernel
theorem crcZeros_2 : (List.replicate 145 0).foldl crcByte 484405710 = 2293549754 := by decide +kernel
theorem crcZeros_3 : (List.replicate 145 0).foldl crcByte 2293549754 = 1720243179 := by decide +kernel
theorem crcZeros_4 : (List.replicate 145 0).foldl crcByte 1720243179 = 2655918222 := by decide +kernel
theorem crcZeros_5 : (List.replicate 145 0).foldl crcByte 2655918222 = 3108472861 := by decide +kernel
theorem crcZeros_6 : (List.replicate 145 0).foldl crcByte 3108472861 = 1653195675 := by decide +kernel

theorem acqHeader_valid : (⟨acqHeaderBytes, [], []⟩ : AcqSlot).valid = true := by
  have z : List.replicate 1015 0 = (List.range 7).flatMap fun _ => List.replicate 145 0 := by decide +kernel
  have c : crc32c (acqHeaderBytes.take 0x3FC) = 2641771620 := by
    rw [acqHeaderBytes, List.take_left' (by decide +kernel), crc32c, List.foldl_append, z]
    simp only [List.range, List.range.loop, List.flatMap_cons, List.flatMap_nil, List.foldl_append, List.append_nil]
    rw [show [0x55, 0x41, 0x43, 0x51, 1].foldl crcByte 0xFFFFFFFF = 2686044847 by decide +kernel]
    simp only [crcZeros_0, crcZeros_1, crcZeros_2, crcZeros_3, crcZeros_4, crcZeros_5, crcZeros_6]
    decide
  have e : acqHeaderBytes.length = 1024 ∧ acqHeaderBytes.take 5 = [0x55, 0x41, 0x43, 0x51, 1] ∧
      leAt acqHeaderBytes 0x3FC 4 = 2641771620 := by decide +kernel
  simp only [AcqSlot.valid, c, e.1, e.2.1, e.2.2]
  decide

theorem witness_CaptureCommands :
    (let d : Desc := { w0 := 1, w1 := 65536, w2 := 0, w3 := 8, w4 := 0x1000 };
     let s := offer 7 d [(ACQ.SEGMENTS.COUNT, 1), (ACQ.POST_RECORDS.COUNT, 4095)];
      s.offered 0 [7] 1 = some (work d) ∧ s.captureCause d = 0 ∧ d.eflags = 0 ∧ bitsOf d.w5 8 24 = 0 ∧ s.acq.job = none) ∧
    (let d : Desc := { w0 := 2 };
     let s := (offer 7 d).setJob acqJob;
      s.offered 0 [7] 2 = some (work d) ∧ d.eflags = 0 ∧ d.w1 = 0 ∧ d.primary = 0 ∧ d.w4 = 0 ∧ d.w5 = 0 ∧ s.acq.job = some acqJob ∧
      acqJob.trig = none ∧ acqJob.ended = none) ∧
    (let d : Desc := { w0 := 3 + 7 * 2 ^ 13 };
     let l : AcqLast := ⟨[], 0x1000, 16, 0x2000, 32⟩;
     let s := offer 7 d;
     let s : State := { s with acq := { s.acq with last := some l } };
     let s0 := s.setSlot d.eflags {};
     let r := s0.readBuf (s0.via 13 (work d)) l.summ l.sumLen;
      s.offered 0 [7] 3 = some (work d) ∧ d.w1 = 0 ∧ d.primary = 0 ∧ d.w4 = 0 ∧ d.w5 = 0 ∧ s.acq.job = none ∧ s.acq.last = some l ∧
      l.len ≤ 2047 * 2 ^ 20 ∧ r.2.2 = none ∧ (r.1.readBuf (r.1.via 13 (work d)) l.base l.len).2.2 = none) ∧
    (let d : Desc := { w0 := 4 + 7 * 2 ^ 13, w1 := 0x100000, w2 := 0, w3 := 8 };
     let s := (offer 7 d).setSlot d.eflags ⟨acqHeaderBytes, [], []⟩;
     let x : AcqSlot := Sparse.get {} s.acq.slots d.eflags;
     let r := s.writeBuf (s.via 13 (work d)) d.primary (x.header ++ x.summ);
      s.offered 0 [7] 4 = some (work d) ∧ d.w4 = 0 ∧ d.w5 = 0 ∧ d.primary % 4096 = 0 ∧ within .dram d.primary d.w1 = true ∧
      s.acq.job = none ∧ x = ⟨acqHeaderBytes, [], []⟩ ∧ 0x100000 + leAt x.header 8 4 ≤ d.w1 ∧ r.2.2 = none ∧
      (r.1.writeBuf (r.1.via 13 (work d)) (d.primary + 0x100000) x.buf).2.2 = none) := by decide +kernel

/-! ## Witnesses: power -/

theorem witness_PowerRequests :
    (let s := st []; s.domOn 7 = true ∧ s.domBusy 7 = false ∧ s.votes 7 = 0 ∧ s.pairState = 5 ∧ s.domState 7 ≠ 4 ∧
      s.reqReason 7 ⟨1, 3, false⟩ = 0 ∧ s.reqReason 0 ⟨1, 3, false⟩ = 1 ∧ s.reqReason 7 ⟨3, 3, false⟩ = 4) ∧
    (let s := (st [(PWR.D_STATUS.STATE 7, 4)]).setDom 7 { quiesce := true, req := some ⟨2, 3, false⟩ };
     let v := (st [(PWR.D_STATUS.STATE 7, 4), (PWR.D_VOTE.VOTES 7, 2 ^ 7)]).setDom 7 { quiesce := true, req := some ⟨2, 3, false⟩ };
      s.domBusy 7 = true ∧ s.domState 7 = 4 ∧ (s.dom 7).quiesce = true ∧ s.votes 7 = 0 ∧ s.pwr.bus = [] ∧ (s.dom 7).pend = none ∧
      s.now < (s.dom 7).since + s.get PWR.QUIESCE_TIME.US * 200 ∧
      (tk 200000 s).domState 7 = 4 ∧ ((tk 200000 s).dom 7).quiesce = true ∧ ((tk 200000 s).dom 7).pend = none ∧
      ((tk 200000 s).dom 7).since + (tk 200000 s).get PWR.QUIESCE_TIME.US * 200 ≤ (tk 200000 s).now ∧
      v.domState 7 = 4 ∧ (v.dom 7).quiesce = true ∧ v.votes 7 ≠ 0) := by decide +kernel

theorem witness_PowerIdle :
    (let s := tk 200000000 (st [(PWR.D_CFG.AUTO 2, 1), (PWR.D_CFG.AUTO 6, 1), (PWR.D_CFG.IDLE_TIME 2, 1000), (PWR.D_CFG.IDLE_TIME 6, 1000)]);
      s.bit (PWR.D_CFG.AUTO 2) = true ∧ s.domOn 2 = true ∧ s.domBusy 2 = false ∧ (s.dom 2).pend = none ∧ s.votes 2 = 0 ∧
      s.idleNow 2 = true ∧ s.idleFrom 2 + s.get (PWR.D_CFG.IDLE_TIME 2) * 200 ≤ s.now ∧
      s.bit (PWR.D_CFG.AUTO 6) = true ∧ s.domOn 6 = true ∧ s.get (CLP.CH_CFG.MODE 7) = 0 ∧ s.bit (CLP.CH_CFG.LOOP_POWER 7) = false ∧
      max (s.dom 6).idleFrom (s.clch 7).idleFrom + s.get (PWR.D_CFG.IDLE_TIME 6) * 200 ≤ s.now) ∧
    (let s := st [(PWR.D_CFG.AUTO 2, 1), (PWR.D_CFG.IDLE_TIME 2, 1000), (PWR.D_CFG.AUTO 7, 0)];
      s.bit (PWR.D_CFG.AUTO 7) = false ∧ s.now < s.idleFrom 2 + s.get (PWR.D_CFG.IDLE_TIME 2) * 200) := by decide +kernel

theorem witness_PowerStages :
    (let r : PwrReq := ⟨2, 3, false⟩;
     let s := (st [(PWR.D_STATUS.STATE 7, 4)]).setDom 7 { req := some r };
      s.railWaits 7 = false ∧ (s.dom 7).req = some r ∧ s.domState 7 = 4 ∧ (s.dom 7).quiesce = false ∧ (s.dom 7).wakeAfter = false) ∧
    (∀ k ∈ [1, 3, 4], ∀ b : Bool, let s := (st [(PWR.D_STATUS.STATE 7, 5), (PWR.D_STATUS.STAGE 7, k)]).setDom 7 { retried := b };
      s.railWaits 7 = false ∧ s.domState 7 = 5 ∧ s.now < (s.dom 7).since + s.stageLimit 7 ∧
      (tk 100000 s).railWaits 7 = false ∧ (tk 100000 s).domState 7 = 5 ∧ (tk 100000 s).get (PWR.D_STATUS.STAGE 7) = k ∧
      ((tk 100000 s).dom 7).cold = false ∧ ((tk 100000 s).dom 7).pend = none ∧
      ((tk 100000 s).dom 7).since + (tk 100000 s).stageLimit 7 ≤ (tk 100000 s).now ∧ ((tk 100000 s).dom 7).retried = b) ∧
    (let r : PwrReq := ⟨0, 2, false⟩;
     let s := (st []).setDom 7 { railOnly := true, req := some r };
      s.railWaits 7 = false ∧ (s.dom 7).railOnly = true ∧ (s.dom 7).req = some r ∧ s.domOn 7 = true ∧
      s.now < (s.dom 7).since + 40000 ∧ (tk 40000 s).railWaits 7 = false ∧ ((tk 40000 s).dom 7).railOnly = true ∧
      ((tk 40000 s).dom 7).since + 40000 ≤ (tk 40000 s).now) := by decide +kernel

theorem witness_RegulatorBus :
    let on (l : List PmBus) : State := { st [] with pwr := { (st []).pwr with bus := l } };
    (∀ c ∈ [({ page := 7, cmd := 0x79, read := true } : PmBus), { page := 3, cmd := 0x21, mv := 600, tries := 1 }],
      (on [c]).pwr.retryAt = none ∧ (on [c]).pwr.bus = [c] ∧ c.tries < 2) ∧
    (let c : PmBus := { page := 7, cmd := 0x79, read := true, tries := 2 }; (on [c]).pwr.bus = [c] ∧ 2 ≤ c.tries ∧ c.read = true) ∧
    (on [{ page := 7, cmd := 0x79, read := true }]).pwr.bus = [{ page := 7, cmd := 0x79, read := true }] ∧
    (on [{ page := 0, cmd := 0x20, read := true }]).pwr.bus = [{ page := 0, cmd := 0x20, read := true }] ∧
    (on []).pwr.bus = [] := by decide +kernel

/-! ## Witnesses: resets and start-up -/

theorem witness_Resets :
    (st []).pairState ≠ 2 ∧ (st []).pairState = 5 ∧ (st []).rst.held = none ∧ (st []).isDriving = false ∧
    State.reset.rst.held = some (0, 0) ∧
    (let s := st [(PAR.STATUS.STATE, 2)]; s.pairState = 2 ∧ s.handoverReason ≠ 0 ∧ s.pairState ≠ 5) ∧
    (let s := st [(PAR.STATUS.STATE, 2), (PAR.STATUS.PARTNER_STATE, 3)];
     let s : State := { s with par := { s.par with partnerEligible := true } };
      s.pairState = 2 ∧ s.handoverReason = 0) ∧
    (let s := st [(PAR.STATUS.STATE, 2), (SYS.CARRIER_STATUS.PARTNER_SEATED, 1)];
      s.isDriving = true ∧ s.partnerSeated = true ∧ s.bit SYS.CARRIER_STATUS.TOKEN_PARTNER_LIVE = false ∧ s.partnerSilent = true) := by
  decide +kernel

/-- A carrier EEPROM with a right CRC. -/
def eeprom : List Nat := ([85, 84, 67, 50, 1, 1] ++ List.replicate 246 0) ++ leBytes 4 2765089796

theorem eepromZeros_0 : (List.replicate 123 0).foldl crcByte 2515146810 = 364880045 := by decide +kernel
theorem eepromZeros_1 : (List.replicate 123 0).foldl crcByte 364880045 = 1529877499 := by decide +kernel

theorem eeprom_good : eepromCause eeprom = 0 := by
  have z : List.replicate 246 0 = List.replicate 123 0 ++ List.replicate 123 0 := by decide +kernel
  have t : (eeprom ++ List.replicate 252 0).take 252 = [85, 84, 67, 50, 1, 1] ++ List.replicate 246 0 := by decide +kernel
  have c : crc32c ([85, 84, 67, 50, 1, 1] ++ List.replicate 246 0) = 2765089796 := by
    rw [crc32c, List.foldl_append, z, List.foldl_append, show [85, 84, 67, 50, 1, 1].foldl crcByte 0xFFFFFFFF = 2515146810 by decide +kernel,
      eepromZeros_0, eepromZeros_1]
    decide
  have e : eeprom.take 4 = [0x55, 0x54, 0x43, 0x32] ∧ eeprom.getD 4 0 = 1 ∧ eeprom.getD 5 0 = 1 ∧ leAt eeprom 252 4 = 2765089796 := by
    decide +kernel
  simp only [eepromCause, t, c, e.1, e.2.1, e.2.2.1, e.2.2.2]
  decide

theorem witness_WatchdogAndStart :
    (st []).bit RST.WDT_CFG.ENABLE = false ∧ (st []).isDriving = false ∧ (st []).pairState ≠ 2 ∧
    (st [(RST.WDT_CFG.ENABLE, 1)]).bit RST.WDT_CFG.ENABLE = true ∧
    (let s := st [(RST.WDT_CFG.FEEDER, 21)];
     let s : State := { s with rst := { s.rst with wdtStart := some 0 } };
      0 ≠ s.get RST.WDT_CFG.FEEDER ∧ s.now < 0 + s.wdtLimit / 2 ∧ s.now < 0 + s.wdtLimit ∧
      (tk 100000000 s).get RST.WDT_CFG.FEEDER = 21 ∧ (tk 100000000 s).rst.wdtStart.isSome = true ∧ (tk 100000000 s).rst.warned = false ∧
      0 + (tk 100000000 s).wdtLimit / 2 ≤ (tk 100000000 s).now ∧ 0 + (tk 100000000 s).wdtLimit ≤ (tk 100000000 s).now ∧
      (tk 100000000 s).isDriving = false) ∧
    (let s := tk 100000000 (st [(PAR.STATUS.STATE, 2)]);
     let s : State := { s with rst := { s.rst with wdtStart := some 0 } };
      0 + s.wdtLimit ≤ s.now ∧ s.isDriving = true) ∧
    (let s := tk 4000000 (st []);
     let s : State := { s with car := { s.car with seatedAt := some 0, supplyAt := 0, supplyLow := false } };
     let low : State := { s with car := { s.car with supplyLow := true } };
     let late : State := { s with car := { s.car with supplyAt := 1 } };
     let out : State := { s with car := { s.car with seatedAt := none } };
      s.car.seatedAt = some 0 ∧ max 0 s.car.supplyAt + 4000000 ≤ s.now ∧ s.car.supplyLow = false ∧
      low.car.seatedAt = some 0 ∧ low.car.supplyLow = true ∧ late.car.seatedAt = some 0 ∧ late.now < max 0 late.car.supplyAt + 4000000 ∧
      out.car.seatedAt = none) := by decide +kernel

theorem witness_StartUp :
    (∀ k ∈ [0, 1, 2, 3, 4], let s : State := { st [] with rst := { (st []).rst with held := some (k, 0) } };
      let s : State := { s with car := { s.car with converters := true } };
      s.rst.held = some (k, 0) ∧ k ≤ 4 ∧ s.car.converters = true) ∧
    (let s : State := { st [] with rst := { (st []).rst with held := some (0, 0) } };
      s.rst.held = some (0, 0) ∧ s.car.converters = false) ∧
    (∀ k ∈ [1, 5, 6, 7], let s := st [(RST.START_STATUS.STAGE, k)];
     let s : State := { s with rst := { s.rst with starting := true } };
      s.stageNow = k) ∧
    anyBad [7, 17, 18] 0 = false ∧ anyBad [7, 17, 18] (2 ^ 18) = true ∧
    (let s := st [(RST.CAUSE.KIND, 1), (RST.START_STATUS.STAGE, 2)];
     let s : State := { s with car := { s.car with attempts := 1, retryAt := 0 }, rst := { s.rst with starting := true } };
     let six : State := { s with car := { s.car with attempts := 6 } };
     let soon : State := { s with car := { s.car with retryAt := 1 } };
      s.get RST.CAUSE.KIND = 1 ∧ s.stageNow = 2 ∧ s.car.attempts = 1 ∧ s.car.retryAt ≤ s.now ∧ s.car.attempts < 7 ∧
      six.get RST.CAUSE.KIND = 1 ∧ six.stageNow = 2 ∧ 0 < six.car.attempts ∧ six.car.attempts < 7 ∧ six.car.retryAt ≤ six.now ∧
      soon.now < soon.car.retryAt) ∧
    (let s := st [(RST.START_LIMIT.SECONDS, 0)];
     let s : State := tk 200000000 { s with rst := { s.rst with starting := true } };
      s.rst.starting = true ∧ s.rst.startTick + max 1 (s.get RST.START_LIMIT.SECONDS) * 200000000 ≤ s.now ∧ (st []).rst.starting = false) ∧
    (let s := st [(UPD.SLOT_STATE.STATE 0, 2)];
     let s : State := { s with upd := { s.upd with confirmBy := some 0 } };
     let late : State := { s with upd := { s.upd with confirmBy := some 1 } };
      s.upd.confirmBy = some 0 ∧ 0 ≤ s.now ∧ s.slotState s.activeSlot = 2 ∧ s.pairState ≠ 2 ∧
      late.upd.confirmBy = some 1 ∧ late.now < 1) := by decide +kernel

theorem witness_SelfTest :
    (let s := st [(PAR.STATUS.STATE, 5)];
      s.bst.running = none ∧ s.bst.rotation = none ∧ s.bst.svcHeld = [] ∧
      (∀ t ∈ [10, 11, 12, 14], s.domOn (targetDomain t) = true ∧ s.bistMay t false = true) ∧
      (∀ t ∈ [17, 18, 19], s.domOn (targetDomain t) = true)) ∧
    (let s := st [(PWR.D_STATUS.STATE 5, 2)]; s.domOn (targetDomain 10) = false) ∧
    (let r : BistRun := ⟨8, false, false⟩;
     let s : State := { st [] with bst := { (st []).bst with running := some r } };
      s.bst.running = some r ∧ s.domOn (targetDomain 10) = true ∧ s.bistMay 10 false = true ∧ s.bst.running.isSome = true) ∧
    (let s := st [(RST.START_STATUS.DONE, 1)]; s.stageNow ≠ 8 ∧ s.bit RST.START_STATUS.DONE = true) ∧
    (let s := st [(RST.START_STATUS.STAGE, 8)];
     let s : State := { s with rst := { s.rst with starting := true } }; s.stageNow = 8) ∧
    (∀ m ∈ [0, 1], let s := tk 200000000 (st [(BST.ROT_CFG.ENABLE, 1), (BST.ROT_CFG.INTERVAL, 1), (RST.START_STATUS.DONE, 1),
        (BST.ROT_TRAIL.MASK, 2 ^ 10), (MOT.CTRL.ENABLE, m)]);
      let s : State := { s with cyc := { s.cyc with kendAt := some 200000000 } };
      s.bit BST.ROT_CFG.ENABLE = true ∧ s.bit RST.START_STATUS.DONE = true ∧ s.bst.running = none ∧ s.bst.rotation = none ∧
      s.bst.stepAt + max 1 (s.get BST.ROT_CFG.INTERVAL) * 200000000 ≤ s.now ∧ s.cyc.kendAt = some s.now ∧ s.isDriving = false ∧
      nextTarget (s.get BST.ROT_TRAIL.MASK) s.bst.nextItem = some 10 ∧ s.stepCause 10 = m) ∧
    (st []).cyc.kendAt ≠ some (st []).now ∧
    (st []).now < (st []).bst.stepAt + max 1 ((st []).get BST.ROT_CFG.INTERVAL) * 200000000 := by decide +kernel

/-! ## Witnesses: records, update, identity -/

theorem witness_RecorderWaits :
    (st []).log.queue = [] ∧ (st []).log.changes = [] ∧
    (let r : Rec := { code := 0x4000, change := true };
     let s := st [(REC.STATUS.ARCHIVE_FAULT, 0)];
     let s : State := { s with log := { s.log with queue := [r], changes := [⟨7, s.nextOff true, [1, 2, 3, 4]⟩] } };
      s.log.queue = r :: [] ∧ s.nextOff r.change + r.len ≤ logSize r.change ∧ s.mustWait r.change (s.nextOff r.change) r.len = true) := by
  decide +kernel

theorem witness_Recorder :
    (let r : Rec := { code := 0x4000, change := false };
     let s := st [];
     let s : State := { s with log := { s.log with queue := [r] } };
      s.log.queue = r :: [] ∧ s.nextOff r.change + r.len ≤ logSize r.change ∧ s.mustWait r.change (s.nextOff r.change) r.len = false) ∧
    (let k : Kept := ⟨2 ^ 64 - 1, 0, [1, 2, 3, 4]⟩;
     let s := st [];
     let s : State := { s with log := { s.log with changes := [k] } };
      s.log.changes = [k] ∧ s.get2 REC.CHANGE_ARCHIVED_LO.SEQ REC.CHANGE_ARCHIVED_HI.SEQ < k.seq ∧ k.seq < 2 ^ 64 ∧ s.log.archive = [] ∧
      k.bytes.length ≤ 2 ^ 33) ∧
    (∀ c ∈ [0x4000, 0x7FFF], let d : Desc := { w0 := 1, w1 := 976, w2 := 0x1000, w4 := c };
     let s := offer 10 d;
      s.offered 0 [10] 1 = some (work d) ∧ d.w1 ≤ 976 ∧ d.w1 % 8 = 0 ∧ d.w5 = 0 ∧ d.eflags = 0 ∧ 0x4000 ≤ d.w4 ∧ d.w4 ≤ 0x7FFF ∧
      s.log.queue.length < 112 ∧ (s.readBuf (s.via 15 (work d)) d.primary d.w1).2.2 = none) ∧
    (∀ b ∈ [0, 1], let d : Desc := { w0 := 2 + b * 2 ^ 13, w1 := 64, w2 := 0x1000 };
     let s := offer 10 d;
      s.offered 0 [10] 2 = some (work d) ∧ d.eflags ≤ 1 ∧
      (s.copyRecords (s.via 15 (work d)) (d.eflags.testBit 0) d.primary
        (wholeRecords d.w1 (s.recordsFrom (d.eflags.testBit 0) (d.w4 + d.w5 * 2 ^ 32)))).2.2 = none) ∧
    (let s := st []; (∀ c : Bool, s.nextSeq c + 1 < 2 ^ 64) ∧ s.upd.entries = [] ∧ (∀ n < 64, s.get (RNG.RING_STATUS.STATE n) = 0)) := by
  decide +kernel

/-- The first 120 bytes of the header of a CONFIGURATION container of one section, signed by the plant key [1]. -/
def container : List Nat :=
  [85, 73, 77, 71, 1, 3, 0, 0, 64, 0, 0, 255, 0, 0, 0, 0, 0, 0, 0, 0, 0, 0, 0, 0, 7, 0, 0, 0, 64, 0, 0, 0]
  ++ [202, 173, 175, 88, 180, 205, 18, 32, 247, 61, 9, 139, 182, 16, 213, 10, 196, 103, 9, 204, 140, 95, 44, 10, 175, 33, 146, 61, 10, 71, 207, 148]
  ++ [198, 120, 254, 86, 97, 170, 168, 103, 231, 175, 78, 115, 81, 64, 170, 92, 92, 165, 234, 69, 48, 113, 103, 72, 98, 119, 87, 221, 156, 131, 233, 4]
  ++ [148, 218, 98, 128, 178, 64, 234, 106, 0, 0, 0, 0, 0, 0, 0, 0, 0, 0, 0, 0, 1, 0, 0, 0]

def verifyDesc : Desc := { w0 := 1, w1 := 8256, w2 := 0x1000 }

/-- The container offered to VERIFY. -/
def verifyState : State :=
  let s := (offer 9 verifyDesc).store 0x1000 container
  let s := s.store 0x3000 [0x20, 0, 0, 0, 32, 0, 0, 0, 32, 0, 0, 0]
  { s with upd := { s.upd with plantKeys := [[1]] } }

def verifyHead : State × List Nat × Option Err := verifyState.readBuf (verifyState.via 16 (work verifyDesc)) 0x1000 8192
def verifyBody : State × List Nat × Option Err := verifyHead.1.readBuf (verifyHead.1.via 16 (work verifyDesc)) 0x3000 64

theorem verifyFirst :
    (match verifyState.read (verifyState.via 16 (work verifyDesc)) 0x1000 256 with
      | (s, .ok b) => b == container ++ List.replicate 136 0 && !s.dramLost && s.mem.all fun c => decide (c.1 < 0x1100 ∨ 0x1100 + 7936 ≤ c.1)
      | _ => false) = true := by decide +kernel

theorem witness_VerifyReads :
    verifyState.get (RNG.RING_CFG.OWNER 0) ≠ 0 ∧ verifyState.offered 0 [9] 1 = some (work verifyDesc) ∧ verifyDesc.w4 = 0 ∧
    verifyDesc.w5 = 0 ∧ verifyDesc.eflags = 0 ∧ verifyDesc.primary % 8 = 0 ∧ inSramDram verifyDesc.primary (max 8192 verifyDesc.w1) = true ∧
    verifyHead.2.2 = none ∧ verifyBody.2.2 = none ∧ verifyBody.1.freeEntry = some 0 := by decide +kernel

theorem verifyHead_bytes : verifyHead.2.1 = (container ++ List.replicate 136 0) ++ List.replicate 7936 0 := by
  have e : verifyState.readAll (verifyState.via 16 (work verifyDesc)) (8192 + 1) 0x1000 8192 = (verifyHead.1, verifyHead.2.1, none) :=
    Prod.ext rfl (Prod.ext rfl witness_VerifyReads.2.2.2.2.2.2.2.1)
  obtain ⟨s, b, r, h1, h2, h3⟩ := State.readAll_head (by decide) e
  have f := verifyFirst
  rw [show span 0x1000 8192 = 256 by decide] at h1 h3
  rw [h1] at f
  simp only [Bool.and_eq_true, beq_iff_eq, Bool.not_eq_true', List.all_eq_true, decide_eq_true_eq] at f
  rw [h2, f.1.1, State.readAll_zero _ _ _ _ _ _ f.1.2 (by decide) f.2 (by decide) h3]

theorem witness_VerifyHeader :
    headerBad verifyHead.2.1 verifyDesc.w1 = false ∧ cBodyLen verifyHead.2.1 = 64 ∧
    verifyHead.1.firstTrust verifyHead.2.1 (verifyHead.1.get (RNG.RING_CFG.OWNER 0)) = false ∧
    tableBad (cKind verifyHead.2.1) (cSections verifyHead.2.1) verifyBody.2.1 = false := by
  rw [verifyHead_bytes]; decide +kernel

theorem witness_VerifyHash : shake256 verifyBody.2.1 64 = cHash verifyHead.2.1 := by
  rw [verifyHead_bytes]; decide +kernel

/-- For a free verification that accepts the signature, the remaining checks pass. -/
theorem witness_VerifySignature (h : ∀ k c m x, Config.mlDsaVerify k c m x = true) :
    verifyHead.1.headerCheck verifyHead.2.1 verifyHead.1.upd.plantKeys = none := by
  have k : verifyHead.1.upd.plantKeys.find? (fun k => keyId k == (verifyHead.2.1.drop 0x60).take 8) = some [1] := by
    rw [verifyHead_bytes]; decide +kernel
  have c : leAt verifyHead.2.1 8 2 = 0x40 ∧ verifyHead.2.1.getD 0xA 0 = 0 ∧ verifyHead.2.1.getD 0xB 0 = 255 ∧ leAt verifyHead.2.1 0xC 8 = 0 ∧
      cRollback verifyHead.2.1 = 0 ∧ cKind verifyHead.2.1 = 3 ∧ verifyHead.1.get (UPD.ROLLBACK.COUNTER 2) = 0 := by
    rw [verifyHead_bytes]; decide +kernel
  have r : Config.hwRev < 255 := by unfold Config.hwRev; omega
  obtain ⟨c1, c2, c3, c4, c5, c6, c7⟩ := c
  simp only [State.headerCheck, k, c1, c2, c3, c4, c5, c6, c7, h]
  simp
  omega

theorem witness_UpdateDescriptors :
    (∀ p ∈ [(2, 1), (4, 4)],
      let d : Desc := { w0 := p.1, w5 := 2 ^ 16 };
      let e : Verified := ⟨0x1000, 16, p.2, 0, []⟩;
      let s := offer 9 d;
      let s : State := { s with upd := { s.upd with entries := [(0, e)] } };
      s.get (RNG.RING_CFG.OWNER 0) ≠ 0 ∧ d.w1 = 0 ∧ d.w2 = 0 ∧ d.w3 = 0 ∧ d.eflags = 0 ∧ bitsOf d.w5 19 13 = 0 ∧ d.priv = 1 ∧
      s.entryOf d = some e ∧ (s.readBuf (s.via 16 (work d)) e.addr e.len).2.2 = none ∧ s.offered 0 [9] p.1 = some (work d) ∧
      s.slotState s.activeSlot ≠ 2) ∧
    (∀ p < 2,
      let d : Desc := { w0 := 3, w1 := 5, w5 := p * 2 ^ 16 };
      let s := offer 9 d [(UPD.SLOT_STATE.STATE 1, 1), (SYS.CARRIER_STATUS.PARTNER_SEATED, 0), (TIM.STATUS.SET, 1)];
      s.get (RNG.RING_CFG.OWNER 0) ≠ 0 ∧ d.w2 = 0 ∧ d.w3 = 0 ∧ d.eflags = 0 ∧ bitsOf d.w5 19 13 = 0 ∧ s.offered 0 [9] 3 = some (work d) ∧
      d.priv = p ∧ s.slotState (1 - s.activeSlot) = 1 ∧ s.partnerSeated = false ∧ s.bit TIM.STATUS.SET = true ∧
      s.plantNs ≤ d.w1 + d.w4 * 2 ^ 32 ∧ s.upd.activate = none) ∧
    (∀ op ∈ [1, 2, 3, 4, 5, 6], let d : Desc := { w0 := op };
      let s := offer 9 d [] 0;
      s.get (RNG.RING_CFG.OWNER 0) = 0 ∧ s.offered 0 [9] op = some (work d)) := by decide +kernel

/-- A list by its entries. -/
theorem list_eq_range (l : List Nat) {n : Nat} (h : l.length = n) : l = (List.range n).map fun i => l.getD i 0 := by
  subst h
  apply List.ext_getElem
  · simp
  · intro i h1 h2; simp [List.getD_eq_getElem?_getD, List.getElem?_eq_getElem h1]

def attestDesc : Desc := { w0 := 5, w2 := 0x1000, w4 := 0x2000 }
def attestState : State := offer 9 attestDesc
def attestRead : State × List Nat × Option Err := attestState.readBuf (attestState.via 16 (work attestDesc)) attestDesc.primary 32
def attestBytes : List Nat :=
  attestRead.1.attestHead attestRead.2.1 ++ ((Config.mlDsaSign (ascii "UCM40 ATTEST")
    (attestRead.1.attestHead attestRead.2.1)).map (· % 256) ++ List.replicate 3309 0).take 3309 ++ [0, 0, 0]

theorem attestHead_length : (attestRead.1.attestHead attestRead.2.1).length = 512 := by decide +kernel

theorem witness_Attest :
    attestState.offered 0 [9] 5 = some (work attestDesc) ∧ attestState.get (RNG.RING_CFG.OWNER 0) ≠ 0 ∧ attestDesc.w1 = 0 ∧
    bitsOf attestDesc.w5 8 24 = 0 ∧ attestDesc.eflags = 0 ∧ attestRead.2.2 = none := by decide +kernel

theorem attestBytes_length : attestBytes.length = 3824 := by
  unfold attestBytes
  rw [List.length_append, List.length_append, attestHead_length, List.length_take, List.length_append, List.length_replicate]
  simp only [List.length_cons, List.length_nil]
  omega

theorem witness_AttestWrites : (attestRead.1.writeBuf (attestRead.1.via 16 (work attestDesc)) attestDesc.secondary attestBytes).2.2 = none := by
  rw [list_eq_range attestBytes attestBytes_length]; decide +kernel

def certDesc : Desc := { w0 := 6, w1 := 4096, w4 := 0x2000 }
def certState : State := offer 9 certDesc

/-- For free certificates of 4096 bytes together. -/
theorem witness_CertRead (h : (Config.certificate 0).length + (Config.certificate 1).length = 4096) :
    certState.offered 0 [9] 6 = some (work certDesc) ∧ certState.get (RNG.RING_CFG.OWNER 0) ≠ 0 ∧ certDesc.w2 = 0 ∧ certDesc.w3 = 0 ∧
    bitsOf certDesc.w5 8 24 = 0 ∧ certDesc.eflags = 0 ∧ (Config.certificate 0).length + (Config.certificate 1).length ≤ certDesc.w1 ∧
    (certState.writeBuf (certState.via 16 (work certDesc)) certDesc.secondary
      ((Config.certificate 0).map (· % 256) ++ (Config.certificate 1).map (· % 256))).2.2 = none := by
  refine ⟨by decide +kernel, by decide +kernel, rfl, rfl, rfl, rfl, h.le, ?_⟩
  rw [list_eq_range ((Config.certificate 0).map (· % 256) ++ (Config.certificate 1).map (· % 256)) (by simpa using h)]
  decide +kernel

theorem witness_UpdateRefused :
    (let s := st [(UPD.SLOT_STATE.STATE 0, 1)]; s.slotState s.activeSlot ≠ 2) ∧
    (∀ p < 2, let s := st [(UPD.SLOT_STATE.STATE 0, 2), (RST.START_STATUS.PASSED, p)];
      s.slotState s.activeSlot = 2 ∧ s.bit RST.START_STATUS.PASSED = (p == 1) ∧ s.isDriving = false ∧ s.pairState ≠ 3) ∧
    (let s : State := { st [] with fer := { (st []).fer with map := some stagedMap } }; s.fer.map = some stagedMap ∧ stagedMap.entryId = 0) ∧
    ((st []).fer.map = none ∧ (st []).bit (UPD.VERIFIED.VALID 7) = false ∧ (st []).upd.activate = none) ∧
    (let s := st [(PAR.STATUS.STATE, 2)]; s.pairState ≠ 5) := by decide +kernel

theorem witness_UpdateCommands :
    (let s := st [(UPD.SLOT_STATE.STATE 0, 2), (RST.START_STATUS.PASSED, 1), (PAR.STATUS.STATE, 2)];
      s.slotState s.activeSlot = 2 ∧ s.activeSlot < 2 ∧ s.bit RST.START_STATUS.PASSED = true ∧ s.isDriving = true) ∧
    (let s := st [(UPD.VERIFIED.VALID 7, 1)]; s.fer.map = none ∧ s.bit (UPD.VERIFIED.VALID 7) = true ∧ s.pairState = 5) ∧
    (let a : Activate := ⟨0, 0, 5, false, false⟩;
     let s : State := { st [] with upd := { (st []).upd with activate := some a } }; s.upd.activate = some a) := by decide +kernel

/-! ## Terms that WellFormed refuses, one for each of its checks -/

def badHead : RanselHead := ⟨0, 2 ^ 32, true⟩
def okHead : RanselHead := ⟨0, 0, true⟩
def okLoop : LoopHead := ⟨0, 0, 0⟩
def okCut : CutWait := { cls := 0, header := List.replicate 8 0, entries := [] }
def okControl : Control := ⟨0, 0, 0, 0, 0, []⟩

theorem smoke_operands :
    ∀ i ∈ [Instr.registerWrite 0 0 0 0, .registerWrite 0 0 4 (2 ^ 32), .eepromArbitrationRetry (some [256]), .partnerResetInLow (2 ^ 64),
      .doorbellWrite 0 0 false (2 ^ 32), .evtPendClear 0 0 (2 ^ 32), .debugAbstractAccess 0 true (2 ^ 40) none,
      .debugAbstractAccess 0 true 0 (some (2 ^ 32)), .upFrameLanded 0 true false [256], .downFrameReceived 0 true [256],
      .identify 0 true [256], .mgmtTimeoutExpiry (2 ^ 32), .response 0 true [256], .counterLoad 0 (2 ^ 32),
      .contention 0 (2 ^ 32), .spurTrigWrite 0 (2 ^ 32), .conversionResult 0 25000001,
      .outputStageMeasure 0 (2 ^ 32) 0, .hartFrameReceived 0 0 false [256], .renewAck 0 [256], .refuse 0 [256], .epochGrant 0 [256],
      .renew 0 [256], .epochRequest 0 [256], .delayReq 0 0 (2 ^ 48), .plantFrameReceived 0 true [256],
      .canFrameReceived 0 (2 ^ 32) 0 false false [], .canFrameReceived 0 0 0 false false [256],
      .canFrameReceived 0 0 0 false false (List.replicate 65 0), .acqChangeRecord (2 ^ 64) 0, .gapEnd (2 ^ 64) 0,
      .segmentStart (2 ^ 64) 0, .capture 0 (2 ^ 64), .startUp (2 ^ 25) 0 none true, .startUp 0 0 (some [256]) true,
      .bistDone (2 ^ 64) 0 0 0 true, .bistDone 0 (2 ^ 64) 0 0 true, .bistDone 0 0 (2 ^ 32) 0 true, .bistDone 0 0 0 (2 ^ 40) true,
      .leaseKeyWrite 0 0 (2 ^ 32)], i.wellFormed = false := by decide +kernel

theorem smoke_requests :
    ∀ r ∈ [({ kind := .load, addr := 2 ^ 32 } : Req), { kind := .load, data := 2 ^ 32 }, { kind := .load, be := 16 },
      { kind := .load, size := 3 }, { kind := .load, addr := 2 }, { kind := .store, size := 8 }, { kind := .store, addr := 1, size := 2 },
      { kind := .lr, size := 2 }, { kind := .lr, addr := 2 }, { kind := .sc, size := 1 }, { kind := .sc, addr := 1 },
      { kind := .amo 0, size := 2 }, { kind := .amo 0, addr := 2 }, { kind := .amo 2 }, { kind := .load, len := 3 },
      { kind := .load, run := 4097 }, { kind := .load, dest := .x 32 4 false }, { kind := .load, dest := .x 5 3 false },
      { kind := .load, dest := .f 32 }, { kind := .load, dest := .both 31 }, { kind := .load, dest := .pair 3 5 6 },
      { kind := .load, dest := .pair 0 31 6 }, { kind := .load, dest := .pair 0 5 32 }],
      (Instr.egressRequest 0 r).wellFormed = false := by decide +kernel

theorem smoke_messages :
    ∀ i ∈ [Instr.heartbeat badHead 0 true true 0 0 0 [0, 0, 0, 0], .heartbeat okHead 0 true true (2 ^ 32) 0 0 [0, 0, 0, 0],
      .heartbeat okHead 0 true true 0 (2 ^ 64) 0 [0, 0, 0, 0], .heartbeat okHead 0 true true 0 0 (2 ^ 64) [0, 0, 0, 0],
      .heartbeat okHead 0 true true 0 0 0 [2 ^ 32, 0, 0, 0], .heartbeat okHead 0 true true 0 0 0 [0],
      .hello okHead 2 0 0 0 0 (List.replicate 8 0), .hello okHead 0 2 0 0 0 (List.replicate 8 0), .hello okHead 0 0 256 0 0 (List.replicate 8 0),
      .hello okHead 0 0 0 (2 ^ 64) 0 (List.replicate 8 0), .hello okHead 0 0 0 0 (2 ^ 32) (List.replicate 8 0), .hello okHead 0 0 0 0 0 [],
      .hello okHead 0 0 0 0 0 (List.replicate 8 (2 ^ 32)), .nak okHead (2 ^ 32), .cutList okHead 0 { okCut with cls := 8 },
      .cutList okHead 0 { okCut with header := [] }, .cutList okHead 0 { okCut with header := List.replicate 8 (2 ^ 32) },
      .cutList okHead 0 { okCut with entries := [(2048, 0, true)] }, .cutList okHead 0 { okCut with entries := [(0, 2 ^ 32, true)] },
      .cutList okHead 0 { okCut with fio := [2 ^ 32] }, .cutList okHead 0 { okCut with clp := [2 ^ 32] },
      .ranselCommit okHead 0 (2 ^ 64) 0 0, .ranselCommit okHead 0 0 (2 ^ 32) 0, .ranselCommit okHead 0 0 0 (2 ^ 64),
      .ranselRead okHead (2 ^ 64) 0, .ranselRead okHead 0 (2 ^ 32), .delivery okHead (2 ^ 64) (List.replicate 8 0), .delivery okHead 0 [0],
      .delivery okHead 0 (List.replicate 8 (2 ^ 32)), .ranselLock okHead (2 ^ 64) 0 0, .completion okHead 0 [256] [], .completion okHead 0 [] [256],
      .ranselLoop okHead okLoop (2 ^ 32) 0 0, .ranselLoop okHead okLoop 0 (2 ^ 32) 0, .ranselLoop okHead okLoop 0 0 (2 ^ 64),
      .channelStatus okHead 0 0 (2 ^ 32)], i.wellFormed = false := by decide +kernel

theorem smoke_pairMessages :
    ∀ i ∈ [Instr.ranselControl okHead { okControl with due := 2 ^ 64 }, .ranselControl okHead { okControl with op := 256 },
      .ranselControl okHead { okControl with origin := 256 }, .ranselControl okHead { okControl with priv := 256 },
      .ranselControl okHead { okControl with session := 65536 }, .ranselControl okHead { okControl with arg := [256] },
      .crossedNotice okHead (2 ^ 64) 0, .crossedNotice okHead 0 (2 ^ 32), .ranselMirror okHead [(32, 0, 0, 0)] 0,
      .stateDigest okHead (2 ^ 64) [], .stateDigest okHead 0 [(0, 2 ^ 32)], .blockData okHead (2 ^ 64) 0 [], .blockData okHead 0 (2 ^ 64) [],
      .blockData okHead 0 0 [256], .blockData okHead 0 0 [0], .blockRequest okHead (2 ^ 64), .frameRequest okHead 0 (2 ^ 32),
      .frameData okHead 0 (2 ^ 32) [], .frameData okHead 0 0 [256], .relay okHead 0 [256], .staged okHead (2 ^ 32) 0, .staged okHead 0 (2 ^ 32),
      .handoverRequest badHead 0, .handover okHead (2 ^ 64) 0, .handover okHead 0 (2 ^ 32), .yield okHead (2 ^ 32) 0,
      .tetherData okHead (2 ^ 64) [], .tetherData okHead 0 [256], .tetherData okHead 0 [0], .tether okHead (2 ^ 64) 0 {},
      .tether okHead 0 (2 ^ 32) {}, .tether okHead 0 0 { regs := [(5, 0), (5, 1)] }], i.wellFormed = false := by decide +kernel

/-! ## Single commands -/

/-- Source: the check value of CRC-32C for the nine ASCII digits 1 to 9. -/
theorem test_crc32c : crc32c [0x31, 0x32, 0x33, 0x34, 0x35, 0x36, 0x37, 0x38, 0x39] = 0xE3069283 := by decide +kernel

/-- R73. An accepted index becomes PROD; one that is past the ring faults it with REASON 4. -/
theorem test_doorbell :
    (after (.doorbellWrite 0 4 false 3) (ringUp [(RNG.RING_STATUS.STATE 0, 1)])).get (RNG.RING_INDEX.PROD 0) = 3 ∧
    (after (.doorbellWrite 0 4 false 17) (ringUp [(RNG.RING_STATUS.STATE 0, 1)])).get (RNG.RING_FAULT.REASON 0) = 4 := by decide +kernel

/-- The copy engine moves the bytes of its source. -/
theorem test_copy :
    let d : Desc := { w0 := 1, w1 := 4, w2 := 0x1000, w4 := 0x1002 };
    (after (.copy 0) ((offer 0 d).store 0x1000 [1, 2, 3, 4])).bytes 0x1000 2 = [1, 2] ∧
    (after (.copy 0) ((offer 0 { d with w4 := 0x2000 }).store 0x1000 [1, 2, 3, 4])).bytes 0x2000 4 = [1, 2, 3, 4] := by decide +kernel

/-- R406, R410. A free lock is acquired; a requester of ID 9 is only counted. -/
theorem test_lock :
    (after (.lckTry 5 63) (st [])).lockOwner 63 = some 5 ∧ (after (.lckTry 9 63) (st [])).lockOwner 63 = none ∧
    (after (.lckTry 9 63) (st [])).get LCK.COUNTS.FOREIGN = 1 := by decide +kernel

/-- R503. A kick with a wrong value is counted. -/
theorem test_kick : (after (.wdtKick 0 0x5A) (st [])).get RST.WDT_STATUS.BAD_KICKS = 1 := by decide +kernel

/-- R484. A vote is one bit of its domain. -/
theorem test_vote : (after (.voteSet 7 6) (st [])).get (PWR.D_VOTE.VOTES 6) = 2 ^ 7 ∧
    (after (.voteClear 7 6) (st [(PWR.D_VOTE.VOTES 6, 2 ^ 7)])).get (PWR.D_VOTE.VOTES 6) = 0 := by decide +kernel

/-- R395. A commit under a drain is refused with cause 3. -/
theorem test_commitBusy : (after (.commitL1 4) (st [(PRT.CMD_STATUS.BUSY, 1)])).get PRT.CMD_STATUS.CAUSE = 3 := by decide +kernel

/-- R442. A frame that no buffer accepts is counted. -/
theorem test_canUnmatched : (after (.canFrameReceived 1 5 0 false false []) (st [(CAN.CH_CFG.ENABLE 1, 1)])).get (CAN.CH_RX_DROP.UNMATCHED 1) = 1 := by
  decide +kernel

/-- R101. ADD x6, x5, x5 (0x00528333) adds, C.JR x1 (0x8082) jumps, and LW x10, 4(x5) (0x0042A503) presents an aligned load of a word. Source:
the unprivileged specification's encodings. -/
theorem test_rv32 :
    (let k : Core := { x := [(1, 0x4000), (5, 0x80000004)], pc := 0x1000 };
      (match k.exec 0 false 0x00528333 4 0x00528333 with | .done t => t.reg 6 == 8 && t.pc == 0x1004 | _ => false) = true ∧
      (match expand 0x8082 with
        | some w => (match k.exec 0 false 0x8082 2 w with | .done t => t.pc == 0x4000 && t.minstret == 1 | _ => false)
        | none => false) = true ∧
      (match k.exec 0 false 0x0042A503 4 0x0042A503 with
        | .ask r => r.addr == 0x80000008 && r.size == 4 && r.dest == .x 10 4 true
        | _ => false) = true) := by decide +kernel

/-- R101. 1 + 2^-24 lies halfway: to nearest it is 1, upwards the next number; both are inexact. Source: IEEE 754. -/
theorem test_fAdd : fAdd 0 0x3F800000 0x33800000 = (0x3F800000, 1) ∧ fAdd 3 0x3F800000 0x33800000 = (0x3F800001, 1) := by decide +kernel

end Sys2Proof.Tests
end

/-! PROOFS. The doorbell rule of a ring (spec/03 R73): what a wake, a ring fault and an ignored doorbell leave as it was, the three
outcomes of a doorbell write carrying PROD, and O15. -/
section

namespace Sys2Proof.Machine

section DoorbellOutcomes

variable (s : State)

/-! ## Events and ring run-times -/

@[simp] theorem State.ring_set (f : Fld) (v n : Nat) : (s.set f v).ring n = s.ring n := rfl
@[simp] theorem State.ring_post (src data n : Nat) : (s.post src data).ring n = s.ring n := rfl
@[simp] theorem State.ring_setDom (d : Nat) (r : PwrRt) (n : Nat) : (s.setDom d r).ring n = s.ring n := rfl
@[simp] theorem State.ring_bump (f : Fld) (k n : Nat) : (s.bump f k).ring n = s.ring n := rfl

@[simp] theorem State.ring_setRing_self (n : Nat) (r : RingRt) : (s.setRing n r).ring n = r :=
  Sparse.get_put_self ({} : RingRt) s.rng.rings n r

/-! ## A wake event (R482, R490): it writes fields of the PWR block, which end below register 0x020000 -/

theorem State.busSend_regs : s.busSend.regs = s.regs := by
  unfold State.busSend
  split <;> rfl

theorem State.busSend_rng : s.busSend.rng = s.rng := by
  unfold State.busSend
  split <;> rfl

theorem State.railTo_regs (d mv : Nat) : (s.railTo d mv).regs = s.regs := by
  unfold State.railTo State.busAdd
  dsimp only
  split
  · exact State.busSend_regs _
  · rfl

theorem State.railTo_rng (d mv : Nat) : (s.railTo d mv).rng = s.rng := by
  unfold State.railTo State.busAdd
  dsimp only
  split
  · exact State.busSend_rng _
  · rfl

@[simp] theorem State.get_railTo (d mv : Nat) (g : Fld) : (s.railTo d mv).get g = s.get g := by
  simp only [State.get, State.railTo_regs]

@[simp] theorem State.ring_railTo (d mv n : Nat) : (s.railTo d mv).ring n = s.ring n := by
  simp only [State.ring, State.railTo_rng]

theorem State.get_startWake (d : Nat) {g : Fld} (h : 0x020000 ≤ g.reg) : (s.startWake d).get g = s.get g := by
  have hstate : g.id ≠ (PWR.D_STATUS.STATE d).id := by simp only [Fld.id, PWR.D_STATUS.STATE]; omega
  have hstage : g.id ≠ (PWR.D_STATUS.STAGE d).id := by simp only [Fld.id, PWR.D_STATUS.STAGE]; omega
  simp [State.startWake, hstate, hstage]

@[simp] theorem State.ring_startWake (d n : Nat) : (s.startWake d).ring n = s.ring n := by
  simp [State.startWake]

theorem State.get_wakeEvent (d : Nat) {g : Fld} (h : 0x020000 ≤ g.reg) : (s.wakeEvent d).get g = s.get g := by
  have hcount : g.id ≠ (PWR.D_ENTRIES.WAKE_IN_ENTRY d).id := by
    simp only [Fld.id, PWR.D_ENTRIES.WAKE_IN_ENTRY]; omega
  unfold State.wakeEvent
  split
  · exact s.get_startWake d h
  · exact s.get_startWake d h
  · dsimp only
    split <;> simp [hcount]
  · rfl

@[simp] theorem State.ring_wakeEvent (d n : Nat) : (s.wakeEvent d).ring n = s.ring n := by
  unfold State.wakeEvent
  split
  · exact s.ring_startWake d n
  · exact s.ring_startWake d n
  · dsimp only
    split <;> simp
  · rfl

/-! ## A ring fault (R88, R89) and an ignored doorbell (R72) -/

theorem State.get_ringFault_state (n reason status index : Nat) :
    (s.ringFault n reason status index).get (RNG.RING_STATUS.STATE n) = 4 := by
  have hreason : (RNG.RING_STATUS.STATE n).id ≠ (RNG.RING_FAULT.REASON n).id := by
    simp only [Fld.id, RNG.RING_STATUS.STATE, RNG.RING_FAULT.REASON]; omega
  have hstatus : (RNG.RING_STATUS.STATE n).id ≠ (RNG.RING_FAULT.STATUS n).id := by
    simp only [Fld.id, RNG.RING_STATUS.STATE, RNG.RING_FAULT.STATUS]; omega
  have hindex : (RNG.RING_STATUS.STATE n).id ≠ (RNG.RING_FAULT.INDEX n).id := by
    simp only [Fld.id, RNG.RING_STATUS.STATE, RNG.RING_FAULT.INDEX]; omega
  have hw : (RNG.RING_STATUS.STATE n).w = 3 := rfl
  unfold State.ringFault
  split
  · assumption
  · dsimp only
    split <;> simp [hreason, hstatus, hindex, hw]

/-- R89. The first fault since RESUME or enable gives its REASON. -/
theorem State.get_ringFault_reason (n reason status index : Nat) (hr : reason < 16)
    (hstate : s.get (RNG.RING_STATUS.STATE n) ≠ 4) (hnone : s.get (RNG.RING_FAULT.REASON n) = 0) :
    (s.ringFault n reason status index).get (RNG.RING_FAULT.REASON n) = reason := by
  have hne : (RNG.RING_FAULT.REASON n).id ≠ (RNG.RING_STATUS.STATE n).id := by
    simp only [Fld.id, RNG.RING_STATUS.STATE, RNG.RING_FAULT.REASON]; omega
  have hstatus : (RNG.RING_FAULT.REASON n).id ≠ (RNG.RING_FAULT.STATUS n).id := by
    simp only [Fld.id, RNG.RING_FAULT.REASON, RNG.RING_FAULT.STATUS]; omega
  have hindex : (RNG.RING_FAULT.REASON n).id ≠ (RNG.RING_FAULT.INDEX n).id := by
    simp only [Fld.id, RNG.RING_FAULT.REASON, RNG.RING_FAULT.INDEX]; omega
  have hw : (RNG.RING_FAULT.REASON n).w = 4 := rfl
  simp [State.ringFault, hstate, hne, hnone, hstatus, hindex, hw, Nat.mod_eq_of_lt hr]

/-- A ring fault writes fields of RING_STATUS and RING_FAULT alone. -/
theorem State.get_ringFault (n reason status index : Nat) {g : Fld} (hlo : g.lo < 32)
    (hst : g.reg ≠ (RNG.RING_STATUS.STATE n).reg) (hft : g.reg ≠ (RNG.RING_FAULT.REASON n).reg) :
    (s.ringFault n reason status index).get g = s.get g := by
  simp only [RNG.RING_STATUS.STATE, RNG.RING_FAULT.REASON] at hst hft
  have hstate : g.id ≠ (RNG.RING_STATUS.STATE n).id := by simp only [Fld.id, RNG.RING_STATUS.STATE]; omega
  have hreason : g.id ≠ (RNG.RING_FAULT.REASON n).id := by simp only [Fld.id, RNG.RING_FAULT.REASON]; omega
  have hstatus : g.id ≠ (RNG.RING_FAULT.STATUS n).id := by simp only [Fld.id, RNG.RING_FAULT.STATUS]; omega
  have hindex : g.id ≠ (RNG.RING_FAULT.INDEX n).id := by simp only [Fld.id, RNG.RING_FAULT.INDEX]; omega
  unfold State.ringFault
  split
  · rfl
  · dsimp only
    split <;> simp [hstate, hreason, hstatus, hindex]

theorem State.get_ringFault_prod (n reason status index : Nat) :
    (s.ringFault n reason status index).get (RNG.RING_INDEX.PROD n) = s.get (RNG.RING_INDEX.PROD n) :=
  s.get_ringFault n reason status index (by simp only [RNG.RING_INDEX.PROD]; omega)
    (by simp only [RNG.RING_INDEX.PROD, RNG.RING_STATUS.STATE]; omega)
    (by simp only [RNG.RING_INDEX.PROD, RNG.RING_FAULT.REASON]; omega)

/-- An ignored doorbell writes RNG.DB_IGNORED alone, which lies below the registers of the rings. -/
theorem State.get_bellIgnored (n cause init : Nat) {g : Fld} (h : 0x071000 ≤ g.reg) :
    (s.bellIgnored n cause init).get g = s.get g := by
  have hcount : g.id ≠ RNG.DB_IGNORED.COUNT.id := by simp only [Fld.id, RNG.DB_IGNORED.COUNT]; omega
  have hring : g.id ≠ RNG.DB_IGNORED.LAST_RING.id := by simp only [Fld.id, RNG.DB_IGNORED.LAST_RING]; omega
  have hcause : g.id ≠ RNG.DB_IGNORED.LAST_CAUSE.id := by simp only [Fld.id, RNG.DB_IGNORED.LAST_CAUSE]; omega
  simp [State.bellIgnored, hcount, hring, hcause]

/-! ## The three outcomes of a doorbell write carrying PROD (R73) -/

/-- R73. How far the index `p` lies ahead of ring `n`'s CONS, modulo 65,536. -/
def State.aheadOfCons (s : State) (n p : Nat) : Nat := (p + 65536 - s.get (RNG.RING_INDEX.CONS n)) % 65536

variable {s} {n p init : Nat}

theorem State.bellAccept_overrun (h : s.ringSize n < s.aheadOfCons n p) :
    s.bellAccept n p init = s.ringFault n 4 0 (s.get (RNG.RING_INDEX.CONS n)) := if_pos h

theorem State.bellAccept_behind (hfit : s.aheadOfCons n p ≤ s.ringSize n)
    (hback : s.aheadOfCons n p < s.aheadOfCons n (s.get (RNG.RING_INDEX.PROD n))) :
    s.bellAccept n p init = s.bellIgnored n 3 init :=
  (if_neg (Nat.not_lt.2 hfit)).trans (if_pos hback)

/-- R73. The write is accepted: the index fits the ring and is not behind the last accepted PROD. -/
def State.bellFits (s : State) (n p : Nat) : Prop :=
  s.aheadOfCons n p ≤ s.ringSize n ∧ s.aheadOfCons n (s.get (RNG.RING_INDEX.PROD n)) ≤ s.aheadOfCons n p

/-- The ring's run-time after an accepted index: a doorbell is kept unless the index stayed the same. -/
def State.ringBelled (s : State) (n p : Nat) : RingRt :=
  if s.aheadOfCons n p = s.aheadOfCons n (s.get (RNG.RING_INDEX.PROD n)) then s.ring n
  else { s.ring n with bells := (s.ring n).bells ++ [⟨p, s.now, s.execCycle⟩] }

/-- R73, R482. An accepted index becomes PROD; a ring of engine 7 wakes its domain besides. -/
theorem State.bellAccept_fits (h : s.bellFits n p) :
    s.bellAccept n p init = ((s.set (RNG.RING_INDEX.PROD n) p).setRing n (s.ringBelled n p)) ∨
    s.bellAccept n p init = ((s.set (RNG.RING_INDEX.PROD n) p).setRing n (s.ringBelled n p)).wakeEvent 7 := by
  obtain ⟨hfit, hahead⟩ := h
  have heq : s.bellAccept n p init =
      let t := (s.set (RNG.RING_INDEX.PROD n) p).setRing n (s.ringBelled n p)
      if t.get (RNG.RING_CFG.ENGINE n) = 7 then t.wakeEvent 7 else t :=
    (if_neg (Nat.not_lt.2 hfit)).trans (if_neg (Nat.not_lt.2 hahead))
  rw [heq]
  dsimp only
  split
  · exact .inr rfl
  · exact .inl rfl

theorem State.get_bellAccept_fits (h : s.bellFits n p) {g : Fld} (hg : 0x020000 ≤ g.reg) :
    (s.bellAccept n p init).get g = (s.set (RNG.RING_INDEX.PROD n) p).get g := by
  rcases State.bellAccept_fits (init := init) h with e | e
  · rw [e, State.get_setRing]
  · rw [e, State.get_wakeEvent _ _ hg, State.get_setRing]

theorem State.ring_bellAccept_fits (h : s.bellFits n p) : (s.bellAccept n p init).ring n = s.ringBelled n p := by
  rcases State.bellAccept_fits (init := init) h with e | e
  · rw [e, State.ring_setRing_self]
  · rw [e, State.ring_wakeEvent, State.ring_setRing_self]

theorem RNG.RING_INDEX.le_PROD_reg (n : Nat) : 0x071000 ≤ (RNG.RING_INDEX.PROD n).reg := by
  simp only [RNG.RING_INDEX.PROD]; omega

theorem State.get_bellAccept_prod (h : s.bellFits n p) (hp : p < 65536) :
    (s.bellAccept n p init).get (RNG.RING_INDEX.PROD n) = p := by
  rw [State.get_bellAccept_fits h (le_trans (by decide) (RNG.RING_INDEX.le_PROD_reg n)), State.get_set_self]
  exact Nat.mod_eq_of_lt hp

theorem State.get_bellAccept_state (h : s.bellFits n p) :
    (s.bellAccept n p init).get (RNG.RING_STATUS.STATE n) = s.get (RNG.RING_STATUS.STATE n) := by
  have hne : (RNG.RING_STATUS.STATE n).id ≠ (RNG.RING_INDEX.PROD n).id := by
    simp only [Fld.id, RNG.RING_STATUS.STATE, RNG.RING_INDEX.PROD]; omega
  rw [State.get_bellAccept_fits h (by simp only [RNG.RING_STATUS.STATE]; omega), State.get_set_ne _ _ hne]

theorem State.aheadOfCons_bellAccept (h : s.bellFits n p) (q : Nat) :
    (s.bellAccept n p init).aheadOfCons n q = s.aheadOfCons n q := by
  have hne : (RNG.RING_INDEX.CONS n).id ≠ (RNG.RING_INDEX.PROD n).id := by
    simp only [Fld.id, RNG.RING_INDEX.CONS, RNG.RING_INDEX.PROD]; omega
  unfold State.aheadOfCons
  rw [State.get_bellAccept_fits h (by simp only [RNG.RING_INDEX.CONS]; omega), State.get_set_ne _ _ hne]

theorem State.ringSize_bellAccept (h : s.bellFits n p) : (s.bellAccept n p init).ringSize n = s.ringSize n := by
  have hne : (RNG.RING_DESC_BASE_HI.ENTRIES_LOG2 n).id ≠ (RNG.RING_INDEX.PROD n).id := by
    simp only [Fld.id, RNG.RING_DESC_BASE_HI.ENTRIES_LOG2, RNG.RING_INDEX.PROD]; omega
  unfold State.ringSize
  rw [State.get_bellAccept_fits h (by simp only [RNG.RING_DESC_BASE_HI.ENTRIES_LOG2]; omega), State.get_set_ne _ _ hne]

/-- R73. After an accepted index any index that fits the ring and is not behind that one is accepted too. -/
theorem State.bellFits_bellAccept (h : s.bellFits n p) (hp : p < 65536) {q : Nat} (hfit : s.aheadOfCons n q ≤ s.ringSize n)
    (hahead : s.aheadOfCons n p ≤ s.aheadOfCons n q) : (s.bellAccept n p init).bellFits n q := by
  unfold State.bellFits
  rw [State.aheadOfCons_bellAccept h, State.aheadOfCons_bellAccept h, State.ringSize_bellAccept h, State.get_bellAccept_prod h hp]
  exact ⟨hfit, hahead⟩

end DoorbellOutcomes

/-- Settles O15: the write is accepted, ignored or faults the ring, as its index lies ahead of CONS. -/
theorem doorbellRule : Obligations.DoorbellRule := by
  unfold Obligations.DoorbellRule
  intro s n p init hp
  dsimp only
  refine ⟨fun hfit hahead => ?accepted, fun hfit hback => ?ignored, fun hover => ?overrun⟩
  case accepted =>
    have h : s.bellFits n p := ⟨hfit, hahead⟩
    refine ⟨State.get_bellAccept_prod h hp, State.get_bellAccept_state h, fun hsame => ?_, fun q hq hqfit hqahead => ?_⟩
    · exact (State.ring_bellAccept_fits h).trans (if_pos hsame.symm)
    · exact State.get_bellAccept_prod (State.bellFits_bellAccept h hp hqfit hqahead) hq
  case ignored =>
    have h : s.bellAccept n p init = s.bellIgnored n 3 init := State.bellAccept_behind hfit hback
    exact ⟨h, h ▸ s.get_bellIgnored n 3 init (RNG.RING_INDEX.le_PROD_reg n)⟩
  case overrun =>
    rw [State.bellAccept_overrun hover]
    exact ⟨s.get_ringFault_state .., s.get_ringFault_reason n 4 0 _ (by decide), s.get_ringFault_prod ..⟩

end Sys2Proof.Machine
end

/-! PROOFS. The ferry's dirty marks (spec/05 R168): which granules a write marks, that what a write sets off after the marks leaves the
ferry and the register file as they are, and O28. -/
section

namespace Sys2Proof.Machine

section DirtyGranules

theorem mem_addOnce {l : List Nat} {k g : Nat} : g ∈ addOnce l k ↔ g ∈ l ∨ g = k := by
  unfold addOnce
  split
  case isTrue hk =>
    have hk : k ∈ l := List.contains_iff_mem.1 hk
    exact ⟨.inl, fun h => h.elim id (· ▸ hk)⟩
  case isFalse => simp

theorem mem_foldl_addOnce {g : Nat} (ks l : List Nat) : g ∈ ks.foldl addOnce l ↔ g ∈ l ∨ g ∈ ks := by
  induction ks generalizing l with
  | nil => simp
  | cons k ks ih => rw [List.foldl_cons, ih, mem_addOnce, List.mem_cons, or_assoc]

/-- The 64-byte granules that `n` bytes at `a` touch. -/
def granulesOf (a n : Nat) : List Nat :=
  if n = 0 then [] else (List.range ((a + n - 1) / 64 - a / 64 + 1)).map (a / 64 + ·)

/-- R168. Of the `n` bytes written at `a`, some byte of granule `g` lies in the SRC range of an entry. -/
def FerryMap.marks (m : FerryMap) (a n g : Nat) : Bool := m.entries.any fun e =>
  overlaps e.src e.srcLen a n && overlaps e.src e.srcLen (g * 64) 64
    && overlaps (max a (g * 64)) (min (a + n) (g * 64 + 64) - max a (g * 64)) e.src e.srcLen

theorem div_mem_granulesOf {a n x : Nat} (hlo : a ≤ x) (hhi : x < a + n) : x / 64 ∈ granulesOf a n := by
  rw [granulesOf, if_neg (by omega), List.mem_map]
  exact ⟨x / 64 - a / 64, List.mem_range.2 (by omega), by omega⟩

theorem overlaps_of_mem {a alen b blen x : Nat} (ha : a ≤ x) (hae : x < a + alen) (hb : b ≤ x) (hbe : x < b + blen) :
    overlaps a alen b blen = true :=
  decide_eq_true (by omega)

/-- R168. A byte written in a SRC range marks its granule: it lies in the range, in the write and in the granule at once. -/
theorem FerryMap.marks_of_mem {m : FerryMap} {e : FerryEntry} {a n x : Nat} (he : e ∈ m.entries) (hlo : a ≤ x) (hhi : x < a + n)
    (hsrc : e.src ≤ x) (hend : x < e.src + e.srcLen) : m.marks a n (x / 64) = true := by
  refine List.any_eq_true.2 ⟨e, he, ?_⟩
  have hwrite := overlaps_of_mem hsrc hend hlo hhi
  have hgranule : overlaps e.src e.srcLen (x / 64 * 64) 64 = true := overlaps_of_mem hsrc hend (by omega) (by omega)
  have hboth : overlaps (max a (x / 64 * 64)) (min (a + n) (x / 64 * 64 + 64) - max a (x / 64 * 64)) e.src e.srcLen = true :=
    overlaps_of_mem (by omega) (by omega) hsrc hend
  rw [hwrite, hgranule, hboth]
  rfl

variable (s : State)

/-! ## The marks of one write -/

/-- The granules that are dirty after a write of `n` bytes at `a` under the staged map `m`. -/
def State.dirtyAfter (s : State) (m : FerryMap) (a n : Nat) : List Nat :=
  ((granulesOf a n).filter (m.marks a n)).foldl addOnce s.fer.dirty

theorem State.markDirty_none {a n : Nat} (h : s.fer.map = none) : s.markDirty a n = s := by
  unfold State.markDirty
  rw [h]

theorem State.markDirty_some {m : FerryMap} {a n : Nat} (h : s.fer.map = some m) :
    s.markDirty a n = State.set { s with fer := { s.fer with dirty := s.dirtyAfter m a n } } CYC.FERRY_DIRTY.DIRTY
      (s.dirtyAfter m a n).length := by
  unfold State.markDirty
  rw [h]
  rfl

theorem State.map_markDirty (a n : Nat) : (s.markDirty a n).fer.map = s.fer.map := by
  cases h : s.fer.map with
  | none => rw [s.markDirty_none h, h]
  | some m => rw [s.markDirty_some h, State.set_fer, h]

theorem State.dirty_markDirty {m : FerryMap} {a n : Nat} (h : s.fer.map = some m) :
    (s.markDirty a n).fer.dirty = s.dirtyAfter m a n := by
  rw [s.markDirty_some h, State.set_fer]

theorem State.get_markDirty {m : FerryMap} {a n : Nat} (h : s.fer.map = some m) :
    (s.markDirty a n).get CYC.FERRY_DIRTY.DIRTY = (s.dirtyAfter m a n).length % 2 ^ CYC.FERRY_DIRTY.DIRTY.w := by
  rw [s.markDirty_some h, State.get_set_self]

/-- R168. A byte written in a SRC range leaves its granule dirty. -/
theorem State.div_mem_dirtyAfter {m : FerryMap} {e : FerryEntry} {a n x : Nat} (he : e ∈ m.entries) (hlo : a ≤ x) (hhi : x < a + n)
    (hsrc : e.src ≤ x) (hend : x < e.src + e.srcLen) : x / 64 ∈ s.dirtyAfter m a n := by
  rw [State.dirtyAfter, mem_foldl_addOnce, List.mem_filter]
  exact .inr ⟨div_mem_granulesOf hlo hhi, FerryMap.marks_of_mem he hlo hhi hsrc hend⟩

/-! ## The marks within a write (R72, R538, R361, R106) -/

theorem State.markTether_fer (a n : Nat) : (s.markTether a n).fer = s.fer := by
  unfold State.markTether
  split <;> rfl

theorem State.markTether_regs (a n : Nat) : (s.markTether a n).regs = s.regs := by
  unfold State.markTether
  split <;> rfl

/-- The state in which a write makes its marks: the doorbells (R72) and the verified entries (R538) have seen it. -/
def State.beforeMarks (s : State) (init a : Nat) (bs : List Nat) : State :=
  let s := (List.range 64).foldl (fun s i => s.bellWrite init a bs i) s
  s.upd.entries.foldl (fun s e => if overlaps a bs.length e.2.addr e.2.len then s.dropVerified e.1 true else s) s

/-- After its marks a write changes at most the reservation of the voted complex (R106). -/
theorem State.written_eq (init a : Nat) (bs : List Nat) :
    ∃ r, s.written init a bs =
      let t := ((s.beforeMarks init a bs).markDirty a bs.length).markTether a bs.length
      { t with vot := { t.vot with reserve := r } } := by
  unfold State.written State.beforeMarks
  dsimp only
  generalize State.markTether _ _ _ = t
  split
  · split
    · exact ⟨none, rfl⟩
    · exact ⟨_, rfl⟩
  · exact ⟨_, rfl⟩

theorem State.written_fer (init a : Nat) (bs : List Nat) :
    (s.written init a bs).fer = ((s.beforeMarks init a bs).markDirty a bs.length).fer := by
  obtain ⟨r, h⟩ := s.written_eq init a bs
  rw [h]
  dsimp only
  rw [State.markTether_fer]

theorem State.get_written (init a : Nat) (bs : List Nat) (g : Fld) :
    (s.written init a bs).get g = ((s.beforeMarks init a bs).markDirty a bs.length).get g := by
  obtain ⟨r, h⟩ := s.written_eq init a bs
  have hregs : (s.written init a bs).regs = ((s.beforeMarks init a bs).markDirty a bs.length).regs := by
    rw [h]
    dsimp only
    rw [State.markTether_regs]
  simp only [State.get, hregs]

/-- The map staged after a write was staged when the write made its marks. -/
theorem State.map_beforeMarks (init a : Nat) (bs : List Nat) :
    (s.beforeMarks init a bs).fer.map = (s.written init a bs).fer.map := by
  rw [s.written_fer, State.map_markDirty]

end DirtyGranules

/-- Settles O28: the map still staged after the write is the one under which the write made its marks. -/
theorem dirtyMarks : Obligations.DirtyMarks := by
  unfold Obligations.DirtyMarks
  intro s m init a bs _ hafter
  have hmap : (s.beforeMarks init a bs).fer.map = some m := (s.map_beforeMarks init a bs).trans hafter
  rw [s.written_fer, s.get_written, State.dirty_markDirty _ hmap]
  exact ⟨fun e he x hlo hhi hsrc hend => State.div_mem_dirtyAfter _ he hlo hhi hsrc hend, State.get_markDirty _ hmap⟩

end Sys2Proof.Machine
end

/-! PROOFS. The capture units of TIM (spec/13 R433): what a 64-bit pair of fields and a wrapping count read after a write, what a
selected signal leaves in the unit's fields, and O48. -/
section

namespace Sys2Proof.Machine

section CaptureLatch

variable (s : State)

/-! ## 64-bit quantities and wrapping counts -/

@[simp] theorem State.get_wrap_self (f : Fld) : (s.wrap f).get f = (s.get f + 1) % 2 ^ f.w := s.get_set_self f _

@[simp] theorem State.get_wrap_ne {f g : Fld} (h : g.id ≠ f.id) : (s.wrap f).get g = s.get g := s.get_set_ne _ h

theorem State.get_bump_self (f : Fld) (k : Nat) : (s.bump f k).get f = satAdd (s.get f) k (2 ^ f.w - 1) % 2 ^ f.w :=
  s.get_set_self f _

@[simp] theorem State.get_set2_ne {lo hi g : Fld} (v : Nat) (hlo : g.id ≠ lo.id) (hhi : g.id ≠ hi.id) :
    (s.set2 lo hi v).get g = s.get g :=
  (State.get_set_ne _ _ hhi).trans (s.get_set_ne v hlo)

/-- A quantity kept in two fields reads what was written to it, cut to their widths together. -/
theorem State.get2_set2 {lo hi : Fld} (v : Nat) (h : lo.id ≠ hi.id) :
    (s.set2 lo hi v).get2 lo hi = v % 2 ^ (lo.w + hi.w) := by
  have hlow : (s.set2 lo hi v).get lo = v % 2 ^ lo.w := (State.get_set_ne _ _ h).trans (s.get_set_self lo v)
  have hhigh : (s.set2 lo hi v).get hi = v / 2 ^ lo.w % 2 ^ hi.w := State.get_set_self _ hi _
  rw [State.get2, hlow, hhigh, Nat.pow_add, Nat.mod_mul, Nat.mul_comm]

theorem State.get2_wrap_ne {lo hi f : Fld} (hlo : lo.id ≠ f.id) (hhi : hi.id ≠ f.id) :
    (s.wrap f).get2 lo hi = s.get2 lo hi := by
  rw [State.get2, s.get_wrap_ne hlo, s.get_wrap_ne hhi, State.get2]

theorem State.get2_set2_ne {lo hi lo' hi' : Fld} (v : Nat) (hll : lo.id ≠ lo'.id) (hlh : lo.id ≠ hi'.id)
    (hhl : hi.id ≠ lo'.id) (hhh : hi.id ≠ hi'.id) : (s.set2 lo' hi' v).get2 lo hi = s.get2 lo hi := by
  rw [State.get2, s.get_set2_ne v hll hlh, s.get_set2_ne v hhl hhh, State.get2]

/-! ## The fields of a capture unit are distinct -/

/-- A field of an array of stride 0x20: element `u` stands 0x400 field numbers after element 0. -/
theorem Fld.id_strided (b u lo w rst : Nat) : (Fld.mk (b + 0x20 * u) lo w rst).id = b * 32 + lo + 0x400 * u := by
  simp only [Fld.id]
  omega

variable (u : Nat)

@[simp] theorem TIM.CAP_TICK_LO.id_TICK : (TIM.CAP_TICK_LO.TICK u).id = 0x130204 * 32 + 0 + 0x400 * (u % 4) := Fld.id_strided ..
@[simp] theorem TIM.CAP_TICK_HI.id_TICK : (TIM.CAP_TICK_HI.TICK u).id = 0x130208 * 32 + 0 + 0x400 * (u % 4) := Fld.id_strided ..
@[simp] theorem TIM.CAP_PT_LO.id_NS : (TIM.CAP_PT_LO.NS u).id = 0x13020C * 32 + 0 + 0x400 * (u % 4) := Fld.id_strided ..
@[simp] theorem TIM.CAP_PT_HI.id_NS : (TIM.CAP_PT_HI.NS u).id = 0x130210 * 32 + 0 + 0x400 * (u % 4) := Fld.id_strided ..
@[simp] theorem TIM.CAP_STATUS.id_SEQ : (TIM.CAP_STATUS.SEQ u).id = 0x130214 * 32 + 0 + 0x400 * (u % 4) := Fld.id_strided ..
@[simp] theorem TIM.CAP_STATUS.id_OVERWRITES : (TIM.CAP_STATUS.OVERWRITES u).id = 0x130214 * 32 + 8 + 0x400 * (u % 4) :=
  Fld.id_strided ..

/-! ## The latch -/

/-- R433. A latch that replaces one not yet read is counted. -/
def State.overwriteCounted (s : State) (u : Nat) : State :=
  if u ∈ s.tim.unread then s.bump (TIM.CAP_STATUS.OVERWRITES u) else s

/-- R433. What a latch changes but for the event: the count of overwrites, the unread mark, the tick, the plant time and SEQ. -/
def State.captureLatched (s : State) (u : Nat) : State :=
  let t := { s with regs := (s.overwriteCounted u).regs, tim := { s.tim with unread := addOnce s.tim.unread u } }
  ((t.set2 (TIM.CAP_TICK_LO.TICK u) (TIM.CAP_TICK_HI.TICK u) s.now).set2
    (TIM.CAP_PT_LO.NS u) (TIM.CAP_PT_HI.NS u) (s.plant / 2 ^ 32)).wrap (TIM.CAP_STATUS.SEQ u)

theorem State.timeCapture_of_signal
    (h : s.captureSignal (s.get (TIM.CAP_CFG.SELECT u)) (s.get2 (TIM.CAP_TICK_LO.TICK u) (TIM.CAP_TICK_HI.TICK u)) = true) :
    s.timeCapture u = (s.captureLatched u).post 177 (u + 256 * (s.captureLatched u).get (TIM.CAP_STATUS.SEQ u)) := by
  refine (if_neg (by simp [h])).trans ?_
  simp only [State.captureLatched, State.overwriteCounted, List.contains_iff_mem]
  split <;> rfl

theorem State.get_overwriteCounted_ne {g : Fld} (h : g.id ≠ (TIM.CAP_STATUS.OVERWRITES u).id) :
    (s.overwriteCounted u).get g = s.get g := by
  unfold State.overwriteCounted
  split
  · exact s.get_bump_ne 1 h
  · rfl

theorem State.get_captureLatched_overwrites :
    (s.captureLatched u).get (TIM.CAP_STATUS.OVERWRITES u) = (s.overwriteCounted u).get (TIM.CAP_STATUS.OVERWRITES u) := by
  rw [State.captureLatched, State.get_wrap_ne _ (by simp), State.get_set2_ne _ _ (by simp) (by simp),
    State.get_set2_ne _ _ (by simp) (by simp)]
  rfl

theorem State.get_captureLatched_seq :
    (s.captureLatched u).get (TIM.CAP_STATUS.SEQ u) = (s.get (TIM.CAP_STATUS.SEQ u) + 1) % 256 := by
  have hcounted : (s.overwriteCounted u).get (TIM.CAP_STATUS.SEQ u) = s.get (TIM.CAP_STATUS.SEQ u) :=
    s.get_overwriteCounted_ne u (by simp)
  rw [State.captureLatched, State.get_wrap_self, State.get_set2_ne _ _ (by simp) (by simp),
    State.get_set2_ne _ _ (by simp) (by simp), ← hcounted]
  rfl

theorem State.get2_captureLatched_tick :
    (s.captureLatched u).get2 (TIM.CAP_TICK_LO.TICK u) (TIM.CAP_TICK_HI.TICK u) = s.now := by
  have hnow : s.now < 2 ^ 64 := s.tick.isLt
  rw [State.captureLatched, State.get2_wrap_ne _ (by simp) (by simp),
    State.get2_set2_ne _ _ (by simp) (by simp) (by simp) (by simp), State.get2_set2 _ _ (by simp)]
  exact Nat.mod_eq_of_lt hnow

theorem State.get2_captureLatched_pt :
    (s.captureLatched u).get2 (TIM.CAP_PT_LO.NS u) (TIM.CAP_PT_HI.NS u) = s.plant / 2 ^ 32 % 2 ^ 64 := by
  rw [State.captureLatched, State.get2_wrap_ne _ (by simp) (by simp), State.get2_set2 _ _ (by simp)]
  rfl

end CaptureLatch

/-- Settles O48: at its signal a unit's latch is `captureLatched`, and the event of source 177 carries the raised SEQ. -/
theorem captureUnits : Obligations.CaptureUnits := by
  unfold Obligations.CaptureUnits
  intro s u h
  have hlatch := s.timeCapture_of_signal u h
  have hoverwrites := s.get_captureLatched_overwrites u
  refine ⟨s.timeCapture u, rfl, ?_⟩
  rw [hlatch, s.get_captureLatched_seq]
  refine ⟨s.get2_captureLatched_tick u, s.get2_captureLatched_pt u, s.get_captureLatched_seq u, ?event,
    fun hunread => ?replaced, fun hread => ?first, mem_addOnce.2 (.inr rfl)⟩
  case event =>
    have hdata : (u + 256 * ((s.get (TIM.CAP_STATUS.SEQ u) + 1) % 256)) % 2 ^ 32
        = u + 256 * ((s.get (TIM.CAP_STATUS.SEQ u) + 1) % 256) := by omega
    exact congrArg (fun d => s.rng.evq ++ [⟨177, d, true⟩]) hdata
  case replaced =>
    rw [State.get_post, hoverwrites, State.overwriteCounted, if_pos hunread, State.get_bump_self]
  case first =>
    rw [State.get_post, hoverwrites, State.overwriteCounted, if_neg hread]

end Sys2Proof.Machine
end

/-! PROOFS. The end of a command and the eligibility of a unit (spec/11 R374): every command ends with its events delivered, the
delivery of events leaves what eligibility is judged by and told in as it was, and O1, O3, O4, O5. -/
section

namespace Sys2Proof.Machine

/-- Settles O1: the step of a queue with a command at its front is that command's meaning. -/
theorem stepRunsFrontCommand : Obligations.StepRunsFrontCommand := by
  unfold Obligations.StepRunsFrontCommand
  intro c rest s h
  unfold step
  rw [h]

/-- R103, R114. A core's request ends with its events delivered, whether the vote, nothing or the core's own run follows. -/
theorem execEgressRequest_settles (c : Fin 3) (r : Req) (s : State) : ∃ x : State, execEgressRequest c r s = .next x.settle := by
  unfold execEgressRequest
  split
  · exact ⟨_, rfl⟩
  · split <;> exact ⟨_, rfl⟩

/-- Settles O3: every arm of `exec` ends in `State.done`; only a core's request has three of them. -/
theorem everyCommandSettles : Obligations.EveryCommandSettles := by
  unfold Obligations.EveryCommandSettles
  intro c s
  cases c with
  | egressRequest c r => exact execEgressRequest_settles c r s
  | _ => exact ⟨_, rfl⟩

section Eligibility

/-! ## What eligibility is judged by -/

/-- R374. The register fields that the reasons of ineligibility read. -/
def reasonFields : List Fld :=
  [PAR.STATUS.STATE, PAR.STATUS.UNTETHER_REASON, PAR.CFG.UNTETHERED_TAKEOVER, VOT.STATUS.LEAD_BARRED, VOT.STATUS.MODE,
    RST.START_STATUS.PASSED, PWR.D_STATUS.STATE 1, PWR.D_STATUS.STATE 4, PWR.D_STATUS.STATE 5, SYS.CARRIER_STATUS.SLOT_FAULT,
    SYS.CARRIER_STATUS.SEATED] ++ (List.range 8).map UPD.CONFIG_DIGEST.DIGEST

/-- R374. Those fields, and the two that tell the result. -/
def eligibilityFields : List Fld := [PAR.STATUS.INELIGIBLE, PAR.STATUS.ELIGIBLE] ++ reasonFields

/-- R95, R374. `t` agrees with `s` on everything that eligibility is judged by and told in, on the routes of the events, and on the
engines of the rings. -/
structure State.JudgedAs (t s : State) : Prop where
  hello : t.par.hello = s.par.hello
  diverged : t.par.diverged = s.par.diverged
  get : ∀ g ∈ eligibilityFields, t.get g = s.get g
  route : ∀ src, t.get (EVT.ROUTE.TARGETS src) = s.get (EVT.ROUTE.TARGETS src)
  engine : ∀ n, t.get (RNG.RING_CFG.ENGINE n) = s.get (RNG.RING_CFG.ENGINE n)

variable {s t u : State}

theorem State.JudgedAs.refl (s : State) : s.JudgedAs s := ⟨rfl, rfl, fun _ _ => rfl, fun _ => rfl, fun _ => rfl⟩

theorem State.JudgedAs.trans (h : u.JudgedAs t) (k : t.JudgedAs s) : u.JudgedAs s :=
  ⟨h.hello.trans k.hello, h.diverged.trans k.diverged, fun g hg => (h.get g hg).trans (k.get g hg),
    fun src => (h.route src).trans (k.route src), fun n => (h.engine n).trans (k.engine n)⟩

theorem State.JudgedAs.noEventRing (h : t.JudgedAs s) (hs : s.NoEventRing) : t.NoEventRing := fun src => h.route src ▸ hs src

theorem State.ineligible_congr (hhello : t.par.hello = s.par.hello) (hdiverged : t.par.diverged = s.par.diverged)
    (h : ∀ g ∈ reasonFields, t.get g = s.get g) : t.ineligible = s.ineligible := by
  have hbit (g) (hg : g ∈ reasonFields) : t.bit g = s.bit g := congrArg (· != 0) (h g hg)
  have hstate : t.pairState = s.pairState := h _ (by decide)
  have hfailed : [1, 4, 5].any t.domFailed = [1, 4, 5].any s.domFailed := by
    simp [State.domFailed, State.domState, h (PWR.D_STATUS.STATE 1) (by decide),
      h (PWR.D_STATUS.STATE 4) (by decide), h (PWR.D_STATUS.STATE 5) (by decide)]
  have hdigest : t.configDigest = s.configDigest :=
    List.map_congr_left fun w hw => h _ (List.mem_append_right _ (List.mem_map_of_mem hw))
  unfold State.ineligible
  rw [hstate, hfailed, hdigest, hhello, hdiverged, h PAR.STATUS.UNTETHER_REASON (by decide),
    h VOT.STATUS.MODE (by decide), hbit PAR.CFG.UNTETHERED_TAKEOVER (by decide), hbit VOT.STATUS.LEAD_BARRED (by decide),
    hbit RST.START_STATUS.PASSED (by decide), hbit SYS.CARRIER_STATUS.SLOT_FAULT (by decide),
    hbit SYS.CARRIER_STATUS.SEATED (by decide)]

theorem State.JudgedAs.ineligible (h : t.JudgedAs s) : t.ineligible = s.ineligible :=
  State.ineligible_congr h.hello h.diverged fun g hg => h.get g (List.mem_append_right _ hg)

theorem State.JudgedAs.told (h : t.JudgedAs s) (hs : s.EligibilityTold) : t.EligibilityTold := by
  obtain ⟨hreason, heligible⟩ := hs
  exact ⟨(h.get _ (by decide)).trans (hreason.trans h.ineligible.symm),
    (h.get _ (by decide)).trans (heligible.trans (by rw [h.ineligible]))⟩

/-! ## What the module does on its own leaves it alone, and memory too -/

/-- `t` is `s` after records, wakes, arbitration and the like: it agrees with `s` on eligibility, and memory is as it was. -/
structure State.Served (t s : State) : Prop extends t.JudgedAs s where
  mem : t.mem = s.mem
  dramLost : t.dramLost = s.dramLost

theorem State.Served.refl (s : State) : s.Served s := ⟨.refl s, rfl, rfl⟩

theorem State.Served.trans (h : u.Served t) (k : t.Served s) : u.Served s :=
  ⟨h.toJudgedAs.trans k.toJudgedAs, h.mem.trans k.mem, h.dramLost.trans k.dramLost⟩

/-- A change of neither registers nor memory nor what the pair knows. -/
theorem State.Served.of_eq (h : t.Served s) (hregs : u.regs = t.regs) (hhello : u.par.hello = t.par.hello)
    (hdiverged : u.par.diverged = t.par.diverged) (hmem : u.mem = t.mem) (hlost : u.dramLost = t.dramLost) : u.Served s :=
  State.Served.trans ⟨⟨hhello, hdiverged, fun g _ => by simp only [State.get, hregs],
    fun src => by simp only [State.get, hregs], fun n => by simp only [State.get, hregs]⟩, hmem, hlost⟩ h

theorem State.Served.fst {α : Type} {p : State × α} {a : α} (h : p.1.Served s) (heq : p = (t, a)) : t.Served s := by
  rwa [heq] at h

theorem State.JudgedAs.fst {α : Type} {p : State × α} {a : α} (h : p.1.JudgedAs s) (heq : p = (t, a)) : t.JudgedAs s := by
  rwa [heq] at h


/-- A field that eligibility is neither judged by nor told in, no route of an event source, and no set-up of a ring. -/
abbrev Fld.unjudged (f : Fld) : Prop :=
  (∀ g ∈ eligibilityFields, g.id ≠ f.id) ∧ (f.id < 0x081000 * 32 ∨ 0x081400 * 32 ≤ f.id) ∧
    (f.id < 0x071000 * 32 ∨ 0x072000 * 32 ≤ f.id ∨ f.id / 32 % 0x40 ≠ 0x18)

theorem Fld.unjudged.route {f : Fld} (hf : f.unjudged) (src : Nat) : (EVT.ROUTE.TARGETS src).id ≠ f.id := by
  have hout := hf.2.1
  simp only [Fld.id, EVT.ROUTE.TARGETS] at *
  omega

theorem Fld.unjudged.engine {f : Fld} (hf : f.unjudged) (n : Nat) : (RNG.RING_CFG.ENGINE n).id ≠ f.id := by
  have hout := hf.2.2
  intro h
  rw [← h] at hout
  simp only [Fld.id, RNG.RING_CFG.ENGINE] at hout
  omega

/-- The fields of eligibility lie in the blocks SYS, PWR, RST, VOT, PAR and UPD. -/
theorem Fld.unjudged_of_reg {f : Fld} (b : Nat) (hlo : f.lo < 32) (hreg : f.reg / 0x10000 = b)
    (hroute : f.reg < 0x081000 ∨ 0x081400 ≤ f.reg) (hring : f.reg < 0x071000 ∨ 0x072000 ≤ f.reg ∨ f.reg % 0x40 ≠ 0x18) (hb : b ∉ [0, 1, 2, 9, 0x12, 0x17] := by decide) : f.unjudged := by
  have hblocks : ∀ g ∈ eligibilityFields, g.lo < 32 ∧ g.reg / 0x10000 ∈ [0, 1, 2, 9, 0x12, 0x17] := by decide
  refine ⟨fun g hg e => ?_, by simp only [Fld.id]; omega, by simp only [Fld.id]; omega⟩
  obtain ⟨hglo, hgreg⟩ := hblocks g hg
  have hsame : g.reg = f.reg := by simp only [Fld.id] at e; omega
  exact hb (hreg ▸ hsame ▸ hgreg)

/-- A field of a ring lies in the block RNG. -/
theorem Fld.unjudged_of_ring {off lo w rst : Nat} (n : Nat) (hlo : lo < 32 := by decide) (hoff : off < 0x1040 := by decide)
    (hcfg : off % 0x40 ≠ 0x18 := by decide) : (Fld.mk (0x070000 + off + 0x40 * (n % 64)) lo w rst).unjudged :=
  Fld.unjudged_of_reg 7 hlo (by dsimp only; omega) (by dsimp only; omega) (by dsimp only; omega)

/-- A field of an arbiter's target lies in the block ARB. -/
theorem Fld.unjudged_of_target {off lo w rst : Nat} (t : Nat) (hlo : lo < 32 := by decide) (hoff : off < 0x300 := by decide) :
    (Fld.mk (0x050000 + off + 0x10 * (t % 10)) lo w rst).unjudged :=
  Fld.unjudged_of_reg 5 hlo (by dsimp only; omega) (by dsimp only; omega) (by dsimp only; omega)

theorem UPD.VERIFIED.unjudged_VALID (v : Nat) : (UPD.VERIFIED.VALID v).unjudged := by
  have hdigest (w : Nat) : (UPD.CONFIG_DIGEST.DIGEST w).id ≠ (UPD.VERIFIED.VALID v).id := by
    simp only [Fld.id, UPD.CONFIG_DIGEST.DIGEST, UPD.VERIFIED.VALID]; omega
  have hlow : ∀ g ∈ eligibilityFields.take 13, g.id < 0x170000 * 32 := by decide
  refine ⟨fun g hg => ?_, by simp only [Fld.id, UPD.VERIFIED.VALID]; omega, by simp only [Fld.id, UPD.VERIFIED.VALID]; omega⟩
  rcases List.mem_append.1 (show g ∈ eligibilityFields.take 13 ++ (List.range 8).map UPD.CONFIG_DIGEST.DIGEST from hg) with hg | hg
  · have := hlow g hg
    simp only [Fld.id, UPD.VERIFIED.VALID] at *; omega
  · obtain ⟨w, -, rfl⟩ := List.mem_map.1 hg
    exact hdigest w

theorem State.Served.set (h : t.Served s) {f : Fld} (hf : f.unjudged) (v : Nat) : (t.set f v).Served s where
  hello := h.hello
  diverged := h.diverged
  get g hg := (t.get_set_ne v (hf.1 g hg)).trans (h.get g hg)
  route src := (t.get_set_ne v (hf.route src)).trans (h.route src)
  engine n := (t.get_set_ne v (hf.engine n)).trans (h.engine n)
  mem := h.mem
  dramLost := h.dramLost

theorem State.Served.bump (h : t.Served s) {f : Fld} (hf : f.unjudged) (k : Nat := 1) : (t.bump f k).Served s := h.set hf _

theorem State.Served.foldl {α : Type} {f : State → α → State} (hf : ∀ t a, (f t a).Served t) (l : List α) (h : t.Served s) :
    (l.foldl f t).Served s :=
  List.foldlRecOn (motive := (·.Served s)) l f h fun _ hb a _ => (hf _ a).trans hb

theorem State.Served.ite {c : Prop} [Decidable c] (ht : t.Served s) (hu : u.Served s) : (if c then t else u).Served s := by
  split <;> assumption

theorem State.Served.post (h : t.Served s) (src data : Nat) : (t.post src data).Served s := h.of_eq rfl rfl rfl rfl rfl

theorem State.Served.withVot (h : t.Served s) (v : Vot) : State.Served { t with vot := v } s := h.of_eq rfl rfl rfl rfl rfl

theorem State.Served.ransel (h : t.Served s) (kind : Nat) (p : List Nat) : (t.ransel kind p).Served s :=
  h.of_eq rfl rfl rfl rfl rfl

/-! ## Records, wakes and refused accesses -/

theorem State.Served.queueRec (h : t.Served s) (r : Rec) : (t.queueRec r).Served s :=
  (h.set (f := REC.STATUS.QUEUE) (by decide) _).of_eq rfl rfl rfl rfl rfl

theorem State.Served.recordEvent (h : t.Served s) (code : Nat) (data : List Nat) : (t.recordEvent code data).Served s := by
  have hlog (l : Recorder) : State.Served { t with log := l } s := h.of_eq rfl rfl rfl rfl rfl
  unfold State.recordEvent
  split
  · exact (hlog _).bump (by decide)
  · exact (State.Served.ite h (((hlog _).queueRec _).post _ _)).queueRec _

theorem State.Served.railTo (h : t.Served s) (d mv : Nat) : (t.railTo d mv).Served s := by
  have hparts : (t.railTo d mv).par = t.par ∧ (t.railTo d mv).mem = t.mem ∧ (t.railTo d mv).dramLost = t.dramLost := by
    unfold State.railTo State.busAdd State.busSend
    dsimp only
    split
    · split <;> exact ⟨rfl, rfl, rfl⟩
    · exact ⟨rfl, rfl, rfl⟩
  obtain ⟨hpar, hmem, hlost⟩ := hparts
  exact h.of_eq (t.railTo_regs d mv) (hpar ▸ rfl) (hpar ▸ rfl) hmem hlost

/-- The domains woken while events are delivered: D2 (R482), D3 (R492) and D7 (R482). None of them bears on eligibility. -/
theorem State.Served.wakeEvent (h : t.Served s) {d : Nat} (hd : d ∈ [2, 3, 7]) : (t.wakeEvent d).Served s := by
  have hfields : ∀ d ∈ [2, 3, 7], (PWR.D_STATUS.STATE d).unjudged ∧ (PWR.D_STATUS.STAGE d).unjudged ∧
      (PWR.D_ENTRIES.WAKE_IN_ENTRY d).unjudged := by decide
  obtain ⟨hstate, hstage, hcount⟩ := hfields d hd
  have hdom (r : PwrRt) : (t.setDom d r).Served s := h.of_eq rfl rfl rfl rfl rfl
  have hstart : (t.startWake d).Served s := (((hdom _).set hstate 5).set hstage 1).railTo d _
  unfold State.wakeEvent
  split
  · exact hstart
  · exact hstart
  · exact State.Served.ite ((hdom _).bump hcount) (((hdom _).bump hcount).post _ _)
  · exact h

theorem State.Served.accessDown (h : t.Served s) (init d : Nat) : (t.accessDown init d).Served s :=
  ((h.bump (by decide)).set (by decide) init).set (by decide) d

theorem State.Served.noteRefused (h : t.Served s) (r : Refused) (k : Kind) : (t.noteRefused r k).Served s := by
  have hnoted := ((((((h.set (f := PRT.FAULT_INFO.INITIATOR) (by decide) r.id).set (f := PRT.FAULT_INFO.LEVEL) (by decide)
    r.level).set (f := PRT.FAULT_INFO.KIND) (by decide) k.code).set (f := PRT.FAULT_INFO.AS_OWNER) (by decide) (b2n r.owner)).bump
    (f := PRT.FAULT_COUNT.COUNT) (by decide)).set (f := PRT.FAULT_ADDR_LO.ADDR) (by decide) r.addr).set
    (f := PRT.FAULT_ADDR_HI.ADDR) (by decide) (r.addr / 2 ^ 32)
  exact State.Served.ite hnoted (hnoted.of_eq rfl rfl rfl rfl rfl)

/-! ## The arbiters (R398 to R405): they write fields of ARB and RNG alone -/

theorem State.Served.setArb (h : t.Served s) (n : Nat) (a : Arbiter) : (t.setArb n a).Served s := h.of_eq rfl rfl rfl rfl rfl

theorem State.Served.grant (h : t.Served s) (n : Nat) (x : Txn) (counted : Bool) : (t.grant n x counted).Served s := by
  have hpeak : (ARB.TARGET_PEAK_WAIT.TICKS n).unjudged := Fld.unjudged_of_target (off := 0x20C) n
  have hlate : (ARB.TARGET_LATE.COUNT n).unjudged := Fld.unjudged_of_target (off := 0x200) n
  have hmasked : (ARB.TARGET_MASKED.COUNT n).unjudged := Fld.unjudged_of_target (off := 0x208) n
  unfold State.grant
  extract_lets wait s1 s2 quiet _ s3 q a g a2 s4
  have h1 : s1.Served s := .ite (h.set hpeak _) h
  have h2 : s2.Served s := h1.bump hlate
  have h3 : s3.Served s := .ite h1 (.ite h2 (h2.of_eq rfl rfl rfl rfl rfl))
  have h4 : s4.Served s := (h3.setArb n _).bump hmasked
  exact .ite h3 (.ite (h3.setArb n _) (.ite h4 (h4.of_eq rfl rfl rfl rfl rfl)))

theorem State.Served.serve (h : t.Served s) (n : Nat) (x : Txn) (counted : Bool) : (t.serve n x counted).Served s :=
  (h.grant n x counted).setArb n _

theorem State.Served.arrive (h : t.Served s) (n : Nat) (x : Txn) : (t.arrive n x).Served s := by
  have hrevokes : (ARB.TARGET_REVOKES.COUNT n).unjudged := Fld.unjudged_of_target (off := 0x204) n
  unfold State.arrive
  dsimp only
  split
  · exact h.serve n x true
  · refine .ite (State.Served.serve (.ite (.post ?_ _ _) ?_) n x true) ?_
    · exact (h.setArb n _).bump hrevokes
    · exact (h.setArb n _).bump hrevokes
    · split <;> exact h.setArb n _

theorem State.Served.takeTag (h : t.Served s) (n : Nat) : (t.takeTag n).Served s := by
  have hheld : (RNG.RING_STATUS.TAGS_HELD n).unjudged := Fld.unjudged_of_ring (off := 0x1024) n
  exact .ite (((h.set (by decide) _).set hheld _).set (by decide) _) ((h.set (by decide) _).set hheld _)

theorem State.Served.giveTag (h : t.Served s) (n : Nat) : (t.giveTag n).Served s := by
  have hheld : (RNG.RING_STATUS.TAGS_HELD n).unjudged := Fld.unjudged_of_ring (off := 0x1024) n
  exact (h.set (by decide) _).set hheld _

theorem State.Served.tagged (h : t.Served s) (r n : Nat) (x : Txn) : (t.tagged r n x).Served s :=
  .ite ((h.takeTag r).arrive n x) (h.of_eq rfl rfl rfl rfl rfl)

theorem State.Served.present (h : t.Served s) (v : Via) (a n : Nat) (write atomic bell : Bool) :
    (t.present v a n write atomic bell).Served s := by
  unfold State.present
  split
  · exact h
  · exact (h.takeTag _).giveTag _
  · split
    · exact h.arrive _ _
    · exact h.tagged _ _ _

/-! ## What a write sets off (R72, R168, R361, R538) -/

theorem State.Served.setRing (h : t.Served s) (n : Nat) (r : RingRt) : (t.setRing n r).Served s := h.of_eq rfl rfl rfl rfl rfl

theorem State.Served.ringFault (h : t.Served s) (n reason status index : Nat) :
    (t.ringFault n reason status index).Served s := by
  have hstate := h.set (f := RNG.RING_STATUS.STATE n) (Fld.unjudged_of_ring (off := 0x1024) n) 4
  have hkept := ((hstate.set (f := RNG.RING_FAULT.REASON n) (Fld.unjudged_of_ring (off := 0x102C) n) reason).set
    (f := RNG.RING_FAULT.STATUS n) (Fld.unjudged_of_ring (off := 0x102C) n) status).set
    (f := RNG.RING_FAULT.INDEX n) (Fld.unjudged_of_ring (off := 0x102C) n) index
  exact .ite h ((State.Served.ite hkept hstate).post _ _)

theorem State.Served.bellIgnored (h : t.Served s) (n cause init : Nat) : (t.bellIgnored n cause init).Served s :=
  (((h.bump (by decide)).set (by decide) n).set (by decide) cause).post 234 _

theorem State.Served.bellAccept (h : t.Served s) (n prod init : Nat) : (t.bellAccept n prod init).Served s := by
  have hprod : (RNG.RING_INDEX.PROD n).unjudged := Fld.unjudged_of_ring (off := 0x1028) n
  have haccepted := (h.set hprod prod).setRing n
  exact .ite (h.ringFault n 4 0 _) (.ite (h.bellIgnored n 3 init) (.ite ((haccepted _).wakeEvent (by decide)) (haccepted _)))

theorem State.Served.bellWrite (h : t.Served s) (init a : Nat) (bs : List Nat) (n : Nat) :
    (t.bellWrite init a bs n).Served s :=
  .ite h (.ite (h.bellIgnored n 0 init) (.ite (h.bellIgnored n 1 init) (.ite (h.bellIgnored n 2 init) (h.bellAccept n _ init))))

theorem State.Served.bellsRefused (h : t.Served s) (init a len : Nat) : (t.bellsRefused init a len).Served s :=
  .foldl (fun t n => .ite (.refl t) ((State.Served.refl t).bellIgnored n _ init)) _ h

theorem State.Served.finish (h : t.Served s) (d : Started) (status bytes detail : Nat) :
    (t.finish d status bytes detail).Served s :=
  (State.Served.ite (h.setRing _ _) h).of_eq rfl rfl rfl rfl rfl

theorem State.Served.finishAt (h : t.Served s) (p : Option (Nat × Nat)) (status bytes detail : Nat) :
    (t.finishAt p status bytes detail).Served s := by
  unfold State.finishAt
  split
  · exact h
  · split
    · exact h.finish _ _ _ _
    · exact h

theorem State.Served.ferryDrop (h : t.Served s) (status : Nat) : (t.ferryDrop status).Served s := by
  have hended := (h.finishAt t.fer.stager status ((t.fer.map.map (·.bytes)).getD 0) 0).finishAt t.fer.crosser status t.fer.crossBytes 0
  exact (((hended.set (f := CYC.FERRY_STATUS.STATE) (by decide) 0).set (f := CYC.FERRY_DIRTY.DIRTY) (by decide) 0).set
    (f := SYS.STATUS.FERRY_ACTIVE) (by decide) 0).of_eq rfl rfl rfl rfl rfl

theorem State.Served.dropVerified (h : t.Served s) (v : Nat) (byWrite : Bool) : (t.dropVerified v byWrite).Served s := by
  unfold State.dropVerified
  extract_lets fromIt s1
  have h1 : s1.Served s := .ite (h.ferryDrop _) h
  exact (h1.set (UPD.VERIFIED.unjudged_VALID v) 0).of_eq rfl rfl rfl rfl rfl

theorem State.Served.markDirty (h : t.Served s) (a n : Nat) : (t.markDirty a n).Served s := by
  cases hmap : t.fer.map with
  | none => rwa [t.markDirty_none hmap]
  | some m =>
    rw [t.markDirty_some hmap]
    exact (h.set (f := CYC.FERRY_DIRTY.DIRTY) (by decide) _).of_eq rfl rfl rfl rfl rfl

theorem State.Served.markTether (h : t.Served s) (a n : Nat) : (t.markTether a n).Served s := by
  unfold State.markTether
  split
  · exact h
  · exact h.of_eq rfl rfl rfl rfl rfl

theorem State.Served.written (h : t.Served s) (init a : Nat) (bs : List Nat) : (t.written init a bs).Served s := by
  have hbells : ((List.range 64).foldl (fun s i => s.bellWrite init a bs i) t).Served s :=
    h.foldl (fun t i => (State.Served.refl t).bellWrite init a bs i) _
  have hmarks : (t.beforeMarks init a bs).Served s := by
    unfold State.beforeMarks
    exact hbells.foldl (fun t (e : Nat × Verified) => .ite ((State.Served.refl t).dropVerified e.1 true) (.refl t)) _
  obtain ⟨r, hwritten⟩ := t.written_eq init a bs
  rw [hwritten]
  exact ((hmarks.markDirty a bs.length).markTether a bs.length).withVot _

/-! ## Accesses of the event controller, and the delivery of events (R95 to R99) -/

theorem State.Served.dramUp (h : t.Served s) (init a n : Nat) : (t.dramUp init a n).2.Served s := by
  unfold State.dramUp
  split
  · exact h
  · split
    · exact h
    · exact h.accessDown _ _
    · exact h.accessDown _ _
    · exact h.wakeEvent (by decide)

theorem State.Served.read (h : t.Served s) (v : Via) (a n : Nat) (k : Kind) : (t.read v a n k).1.Served s := by
  have hup := h.dramUp v.init a n
  unfold State.read
  split
  · exact h.noteRefused _ _
  · split
    · exact h
    · dsimp only
      split
      · exact hup
      · split <;> exact hup.present _ _ _ _ _ _

/-- A write of an engine or a service core either stores nothing, or stores the bytes it carries. -/
theorem State.Served.write (h : t.Served s) (v : Via) (a : Nat) (bs : List Nat) :
    (t.write v a bs).1.Served s ∨ ∃ u : State, u.Served s ∧ (t.write v a bs).1.Served (u.store a bs) := by
  have hup := h.dramUp v.init a bs.length
  unfold State.write
  dsimp only
  split
  · dsimp only
    exact .inl ((h.noteRefused _ .write).bellsRefused v.init a bs.length)
  · split
    · exact .inl h
    · split
      · exact .inl h
      · split
        · exact .inl h
        · split
          · exact .inl hup
          · split
            · exact .inl (hup.present v a bs.length true false _)
            · dsimp only
              exact .inr ⟨_, hup.present v a bs.length true false _, (State.Served.refl _).written v.init a bs⟩

theorem State.Served.setERing (h : t.Served s) (n : Nat) (r : ERingRt) : (t.setERing n r).Served s :=
  h.of_eq rfl rfl rfl rfl rfl

/-- A field of an event ring, or of a pending set, lies in the block EVT. -/
theorem EVT.unjudged_fields (n t w : Nat) : (EVT.ERING_LOST.LOST_TOTAL n).unjudged ∧ (EVT.ERING_STATUS.OVERFLOW n).unjudged ∧
    (EVT.ERING_STATUS.WRITE_INDEX n).unjudged ∧ (EVT.PEND.BITS t w).unjudged := by
  refine ⟨Fld.unjudged_of_reg 8 ?_ ?_ ?_ ?_, Fld.unjudged_of_reg 8 ?_ ?_ ?_ ?_, Fld.unjudged_of_reg 8 ?_ ?_ ?_ ?_,
    Fld.unjudged_of_reg 8 ?_ ?_ ?_ ?_⟩ <;>
  simp only [EVT.ERING_LOST.LOST_TOTAL, EVT.ERING_STATUS.OVERFLOW, EVT.ERING_STATUS.WRITE_INDEX, EVT.PEND.BITS] <;> omega

theorem State.Served.eringDrop (h : t.Served s) (n : Nat) (failed : Bool) : (t.eringDrop n failed).Served s := by
  obtain ⟨hlost, hoverflow, -, -⟩ := EVT.unjudged_fields n 0 0
  have hdropped := ((h.setERing n { t.ering n with lost := satAdd (t.ering n).lost 1 0xFFFF, episode := true }).bump hlost).set
    hoverflow 1
  exact .ite hdropped (hdropped.post _ _)

/-- R99. The head word of an event ring is read where the ring's own count shows it full. -/
theorem State.Served.eringHead (h : t.Served s) {c : Prop} [Decidable c] {n a : Nat} {failed : Bool}
    (heq : (if c then (t, false) else match t.read { init := 8 } a 4 with
      | (s, .ok bs) => (s.setERing n { s.ering n with head := leAt bs 0 2 }, false)
      | (s, .error _) => (s, true)) = (u, failed)) : u.Served s := by
  have hread := h.read { init := 8 } a 4 .read
  split at heq
  · cases heq
    exact h
  · split at heq <;> rename_i hres <;> rw [hres] at hread <;> cases heq
    · exact hread.setERing n _
    · exact hread

/-! ## Delivery to core targets -/

theorem State.Served.setDelivery (h : t.Served s) : t.setDelivery.Served s := by
  unfold State.setDelivery
  split
  · exact h
  · exact .ite ((h.withVot _).ransel _ _) (h.withVot _)

theorem State.Served.notifyCore (h : t.Served s) (n src : Nat) : (t.notifyCore n src).Served s := by
  obtain ⟨-, -, -, hpend⟩ := EVT.unjudged_fields 0 n (src / 32)
  have hset := h.set hpend (setBit (t.get (EVT.PEND.BITS n (src / 32))) (src % 32))
  have hpoint := State.Served.ite (c := (decide (n = 0) && !t.irq0 && !(t.set (EVT.PEND.BITS n (src / 32))
    (setBit (t.get (EVT.PEND.BITS n (src / 32))) (src % 32))).isTrail) = true) hset.setDelivery hset
  exact .ite (hpoint.wakeEvent (by decide)) hpoint

/-! ## Delivery to event rings, which write to memory -/

theorem State.JudgedAs.foldl {α : Type} {f : State → α → State} (hf : ∀ t a, (f t a).JudgedAs t) (l : List α)
    (h : t.JudgedAs s) : (l.foldl f t).JudgedAs s :=
  List.foldlRecOn (motive := (·.JudgedAs s)) l f h fun _ hb a _ => (hf _ a).trans hb

theorem State.store_judgedAs (s : State) (a : Nat) (bs : List Nat) : (s.store a bs).JudgedAs s :=
  ⟨rfl, rfl, fun _ _ => rfl, fun _ => rfl, fun _ => rfl⟩

theorem State.JudgedAs.write (h : t.JudgedAs s) (v : Via) (a : Nat) (bs : List Nat) : (t.write v a bs).1.JudgedAs s := by
  obtain hkept | ⟨u, hu, hstored⟩ := (State.Served.refl t).write v a bs
  · exact hkept.toJudgedAs.trans h
  · exact hstored.toJudgedAs.trans ((u.store_judgedAs a bs).trans (hu.toJudgedAs.trans h))

theorem State.JudgedAs.eringDrop (h : t.JudgedAs s) (n : Nat) (failed : Bool) : (t.eringDrop n failed).JudgedAs s :=
  ((State.Served.refl t).eringDrop n failed).toJudgedAs.trans h

theorem State.JudgedAs.notifyRing (h : t.JudgedAs s) (n : Nat) (e : Ev) : (t.notifyRing n e).JudgedAs s := by
  obtain ⟨-, -, hindex, -⟩ := EVT.unjudged_fields n 0 0
  have hhead {u : State} (hu : u.Served t) : u.JudgedAs s := hu.toJudgedAs.trans h
  fun_cases State.notifyRing t n e
  case case1 => exact h
  case case2 heq _ => exact hhead (((State.Served.refl t).eringHead heq).eringDrop n _)
  case case3 heq _ _ _ _ hwrite =>
    have hwritten := ((hhead ((State.Served.refl t).eringHead heq)).write _ _ _).fst hwrite
    exact (((State.Served.refl _).setERing n _).set hindex _).toJudgedAs.trans hwritten
  case case4 heq _ _ _ _ hwrite =>
    exact (((hhead ((State.Served.refl t).eringHead heq)).write _ _ _).fst hwrite).eringDrop n true

theorem State.JudgedAs.deliver (h : t.JudgedAs s) (e : Ev) : (t.deliver e).JudgedAs s := by
  unfold State.deliver
  extract_lets t1 targets
  have hrec : t1.JudgedAs s := (State.Served.ite ((State.Served.refl t).recordEvent 1 _) (.refl t)).toJudgedAs.trans h
  refine State.JudgedAs.foldl (fun t i => ?_) _ hrec
  split
  · exact .refl t
  · split
    · exact ((State.Served.refl t).notifyCore i e.src).toJudgedAs
    · exact (State.JudgedAs.refl t).notifyRing (i - 5) e

theorem State.JudgedAs.flushN (fuel : Nat) (h : t.JudgedAs s) : (State.flushN fuel t).JudgedAs s := by
  induction fuel generalizing t with
  | zero => exact h
  | succ fuel ih =>
    unfold State.flushN
    split
    · exact h
    · refine ih (State.JudgedAs.deliver ?_ _)
      exact ⟨h.hello, h.diverged, h.get, h.route, h.engine⟩

/-! ## Eligibility judged anew -/

/-- R374. The judgement as it is told. -/
def State.judged (s : State) : State := (s.setB PAR.STATUS.ELIGIBLE (s.ineligible == 0)).set PAR.STATUS.INELIGIBLE s.ineligible

theorem State.ineligible_le (s : State) : s.ineligible ≤ 7 := by
  unfold State.ineligible
  repeat' split
  all_goals decide

theorem State.judged_told (s : State) : s.judged.EligibilityTold := by
  have hapart : ∀ g ∈ reasonFields, g.id ≠ PAR.STATUS.INELIGIBLE.id ∧ g.id ≠ PAR.STATUS.ELIGIBLE.id := by decide
  have hsame : s.judged.ineligible = s.ineligible := State.ineligible_congr rfl rfl fun g hg => by
    obtain ⟨hreason, heligible⟩ := hapart g hg
    rw [State.judged, State.get_set_ne _ _ hreason, State.get_setB_ne _ _ heligible]
  rw [State.EligibilityTold, hsame]
  constructor
  · rw [State.judged, State.get_set_self]
    exact Nat.mod_eq_of_lt (lt_of_le_of_lt s.ineligible_le (by decide))
  · rw [State.judged, State.get_set_ne _ _ (by decide), State.get_setB_self _ _ _ (by decide)]

/-- R380. Beside ELIGIBLE and INELIGIBLE the judgement changes the take-back hold-off alone. -/
theorem State.refreshPair_served (s : State) : s.refreshPair.Served s.judged := by
  have hpost : State.Served (if (s.bit PAR.STATUS.ELIGIBLE && s.ineligible != 0 && s.judged.isTrail) = true
      then s.judged.post 170 s.ineligible else s.judged) s.judged := .ite ((State.Served.refl _).post _ _) (.refl _)
  fun_cases State.refreshPair s
  case case1 => exact hpost.of_eq rfl rfl rfl rfl rfl
  case case2 => exact hpost.of_eq rfl rfl rfl rfl rfl
  case case3 => exact hpost

theorem State.refreshPair_told (s : State) : s.refreshPair.EligibilityTold := s.refreshPair_served.told s.judged_told

theorem State.settle_told (s : State) : s.settle.EligibilityTold :=
  ((State.JudgedAs.refl s.refreshPair).flushN 4096).told s.refreshPair_told

end Eligibility

/-- Settles O4: a command ends in `settle`, which judges eligibility anew and then only delivers events; a tick without one, and what
does not wait for it, is no matter of eligibility. -/
theorem eligibilityKept : Obligations.EligibilityKept := by
  unfold Obligations.EligibilityKept
  intro s t hs hstep
  unfold step at hstep
  split at hstep
  case h_1 =>
    unfold idle State.passTick at hstep
    dsimp only at hstep
    split at hstep
    · cases hstep
      exact State.settle_told _
    · cases hstep
      exact hs
  case h_2 c rest _ =>
    obtain ⟨x, hx⟩ := everyCommandSettles c { s with pending := rest }
    cases hx.symm.trans hstep
    exact x.settle_told

/-- Settles O5: a unit is OUT when supply is first applied, which is reason 1. -/
theorem eligibilityToldAtReset : Obligations.EligibilityToldAtReset := by
  unfold Obligations.EligibilityToldAtReset State.EligibilityTold
  decide

end Sys2Proof.Machine
end

/-! PROOFS. Frames (spec/03 R95, spec/18 R529): what the end of a command leaves as it was where no source is routed to an event
ring, the commands that write single register fields, a doorbell write and the recorder, and O7, O8. -/
section

namespace Sys2Proof.Machine

section SettleFrame

/-! ## The fields that the end of a command may write -/

theorem Fld.id_ne_of_settled {f g : Fld} (hf : f.settled = true) (hg : g.settled = false) : g.id ≠ f.id := fun e => by
  have hsame : g.settled = f.settled := by simp only [Fld.settled, e]
  rw [hsame, hf] at hg
  exact absurd hg (by decide)

theorem EVT.PEND.settled_BITS (t w : Nat) : (EVT.PEND.BITS t w).settled = true := by
  have hpend : (List.range 40).any (fun i => (EVT.PEND.BITS (i / 8) (i % 8)).id == (EVT.PEND.BITS t w).id) = true :=
    List.any_eq_true.2 ⟨t % 5 * 8 + w % 8, List.mem_range.2 (by omega), by simp only [EVT.PEND.BITS, Fld.id, beq_iff_eq]; omega⟩
  rw [Fld.settled, hpend, Bool.or_true]

theorem EVT.ROUTE.settled_TARGETS (src : Nat) : (EVT.ROUTE.TARGETS src).settled = false := by
  have hlow : ∀ g ∈ [PAR.STATUS.ELIGIBLE, PAR.STATUS.INELIGIBLE, REC.STATUS.QUEUE, REC.LOST.COUNT, PWR.D_STATUS.STATE 2,
      PWR.D_STATUS.STAGE 2, PWR.D_ENTRIES.WAKE_IN_ENTRY 2], g.id < 0x081000 * 32 ∨ 0x082000 * 32 ≤ g.id := by decide
  rw [Fld.settled, Bool.or_eq_false_iff, List.any_eq_false, List.any_eq_false]
  constructor
  · intro g hg
    have := hlow g hg
    simp only [beq_iff_eq, Fld.id, EVT.ROUTE.TARGETS] at *
    omega
  · intro i _
    simp only [beq_iff_eq, Fld.id, EVT.ROUTE.TARGETS, EVT.PEND.BITS]
    omega

/-! ## The end of a command without event rings -/

/-- The state without what notifying a core target may change. -/
def State.still (s : State) : State :=
  { s with regs := [], sent := [], rng := {}, vot := {}, pwr := {}, log := {}, par := {} }

/-- R95. `t` is `s` after records and notifications of cores. -/
structure State.Notified (t s : State) : Prop where
  still : t.still = s.still
  get : ∀ f : Fld, f.settled = false → t.get f = s.get f

variable {s t u : State}

theorem State.Notified.refl (s : State) : s.Notified s := ⟨rfl, fun _ _ => rfl⟩

theorem State.Notified.trans (h : u.Notified t) (k : t.Notified s) : u.Notified s :=
  ⟨h.still.trans k.still, fun f hf => (h.get f hf).trans (k.get f hf)⟩

theorem State.Notified.of_eq (h : t.Notified s) (hstill : u.still = t.still) (hregs : u.regs = t.regs) : u.Notified s :=
  State.Notified.trans ⟨hstill, fun f _ => by simp only [State.get, hregs]⟩ h

theorem State.Notified.part {α : Type} (h : t.Notified s) (f : State → α) : f t.still = f s.still := congrArg f h.still

theorem State.Notified.ite {c : Prop} [Decidable c] (ht : t.Notified s) (hu : u.Notified s) : (if c then t else u).Notified s := by
  split <;> assumption

theorem State.Notified.set (h : t.Notified s) {f : Fld} (hf : f.settled = true) (v : Nat) : (t.set f v).Notified s :=
  ⟨h.still, fun g hg => (t.get_set_ne v (Fld.id_ne_of_settled hf hg)).trans (h.get g hg)⟩

theorem State.Notified.post (h : t.Notified s) (src data : Nat) : (t.post src data).Notified s := h.of_eq rfl rfl

theorem State.Notified.queueRec (h : t.Notified s) (r : Rec) : (t.queueRec r).Notified s :=
  (h.set (f := REC.STATUS.QUEUE) (by decide) _).of_eq rfl rfl

theorem State.Notified.recordEvent (h : t.Notified s) (code : Nat) (data : List Nat) : (t.recordEvent code data).Notified s := by
  have hlog (l : Recorder) : State.Notified { t with log := l } s := h.of_eq rfl rfl
  unfold State.recordEvent
  split
  · exact (hlog _).set (f := REC.LOST.COUNT) (by decide) _
  · exact (State.Notified.ite h (((hlog _).queueRec _).post _ _)).queueRec _

theorem State.still_railTo (s : State) (d mv : Nat) : (s.railTo d mv).still = s.still := by
  unfold State.railTo State.busAdd State.busSend
  dsimp only
  split
  · split <;> rfl
  · rfl

/-- R482. A pending bit of a service core wakes D2. -/
theorem State.Notified.wakeCores (h : t.Notified s) : (t.wakeEvent 2).Notified s := by
  have hdom (r : PwrRt) : (t.setDom 2 r).Notified s := h.of_eq rfl rfl
  have hstart : (t.startWake 2).Notified s :=
    (((hdom _).set (f := PWR.D_STATUS.STATE 2) (by decide) 5).set (f := PWR.D_STATUS.STAGE 2) (by decide) 1).of_eq
      (State.still_railTo _ 2 _) (State.railTo_regs _ 2 _)
  have hcount (r : PwrRt) := (hdom r).set (f := PWR.D_ENTRIES.WAKE_IN_ENTRY 2) (by decide)
  unfold State.wakeEvent
  split
  · exact hstart
  · exact hstart
  · exact .ite (hcount _ _) ((hcount _ _).post _ _)
  · exact h

theorem State.Notified.setDelivery (h : t.Notified s) : t.setDelivery.Notified s := by
  unfold State.setDelivery
  split
  · exact h
  · exact .ite (h.of_eq rfl rfl) (h.of_eq rfl rfl)

theorem State.Notified.notifyCore (h : t.Notified s) (n src : Nat) : (t.notifyCore n src).Notified s := by
  unfold State.notifyCore
  extract_lets before f t1 t2
  have h1 : t1.Notified s := h.set (EVT.PEND.settled_BITS n (src / 32)) _
  have h2 : t2.Notified s := .ite h1.setDelivery h1
  exact .ite h2.wakeCores h2

theorem State.Notified.noEventRing (h : t.Notified s) (hs : s.NoEventRing) : t.NoEventRing := fun src =>
  (h.get _ (EVT.ROUTE.settled_TARGETS src)).symm ▸ hs src

theorem State.Notified.deliver (h : t.Notified s) (hs : s.NoEventRing) (e : Ev) : (t.deliver e).Notified s := by
  unfold State.deliver
  extract_lets t1 targets
  have h1 : t1.Notified s := .ite (h.recordEvent 1 _) h
  have htargets : targets < 32 := h1.noEventRing hs e.src
  refine List.foldlRecOn (motive := fun u : State => u.Notified s) _ _ h1 fun u hu i hi => ?_
  split
  · exact hu
  case isFalse htarget =>
    have hi5 : i < 5 := by
      by_contra hge
      have hbound : targets < 2 ^ i := lt_of_lt_of_le htargets (Nat.pow_le_pow_right (n := 2) (by decide) (Nat.le_of_not_lt hge))
      rw [Nat.testBit_eq_false_of_lt hbound] at htarget
      exact htarget rfl
    rw [if_pos hi5]
    exact hu.notifyCore i e.src

theorem State.Notified.flushN (hs : s.NoEventRing) (fuel : Nat) (h : t.Notified s) : (State.flushN fuel t).Notified s := by
  induction fuel generalizing t with
  | zero => exact h
  | succ fuel ih =>
    unfold State.flushN
    split
    · exact h
    · refine ih (State.Notified.deliver ?_ hs _)
      exact h.of_eq rfl rfl

theorem State.refreshPair_notified (s : State) : s.refreshPair.Notified s := by
  have hjudged : s.judged.Notified s := ((State.Notified.refl s).set (by decide) _).set (by decide) _
  have hpost : State.Notified (if (s.bit PAR.STATUS.ELIGIBLE && s.ineligible != 0 && s.judged.isTrail) = true
      then s.judged.post 170 s.ineligible else s.judged) s := .ite (hjudged.post _ _) hjudged
  fun_cases State.refreshPair s
  case case1 => exact hpost.of_eq rfl rfl
  case case2 => exact hpost.of_eq rfl rfl
  case case3 => exact hpost

theorem State.settle_notified (hs : s.NoEventRing) : s.settle.Notified s :=
  s.refreshPair_notified.flushN hs 4096

end SettleFrame

/-- Settles O7: every assertion is delivered to core targets only, and what that changes is left out of `State.still`. -/
theorem settleFrame : Obligations.SettleFrame := by
  unfold Obligations.SettleFrame
  intro s hs
  have h := State.settle_notified hs
  exact ⟨h.part (·.mem), h.part (·.poison), h.part (·.tick), h.part (·.plant), h.part (·.prtActive), h.part (·.pending), h.part (·.free),
    h.part (·.fab), h.part (·.cyc), h.part (·.fer), h.part (·.fio), h.part (·.crs), h.part (·.mot), h.part (·.lop), h.part (·.clp),
    h.part (·.can), h.part (·.acq), h.part (·.rst), h.part (·.bst), h.part (·.upd), h.part (·.car), h.part (·.tim), h.get⟩

section CommandFrames

/-! ## Commands that write register fields only -/

/-- `t` is `s` but for the fields `fs`, those that the end of a command may write, and parts that hold no memory, time or table. -/
structure State.WritesOnly (fs : List Fld) (t s : State) : Prop where
  mem : t.mem = s.mem
  prtActive : t.prtActive = s.prtActive
  tick : t.tick = s.tick
  plant : t.plant = s.plant
  get : ∀ f : Fld, f.settled = false → (∀ x ∈ fs, x.id ≠ f.id) → t.get f = s.get f

variable {s t u : State} {fs : List Fld}

theorem State.WritesOnly.refl (fs : List Fld) (s : State) : s.WritesOnly fs s := ⟨rfl, rfl, rfl, rfl, fun _ _ _ => rfl⟩

theorem State.WritesOnly.trans (h : u.WritesOnly fs t) (k : t.WritesOnly fs s) : u.WritesOnly fs s :=
  ⟨h.mem.trans k.mem, h.prtActive.trans k.prtActive, h.tick.trans k.tick, h.plant.trans k.plant,
    fun f hf hfs => (h.get f hf hfs).trans (k.get f hf hfs)⟩

/-- A change of neither registers nor memory, table or time. -/
theorem State.WritesOnly.of_eq (h : t.WritesOnly fs s) (hregs : u.regs = t.regs) (hmem : u.mem = t.mem)
    (htable : u.prtActive = t.prtActive) (htick : u.tick = t.tick) (hplant : u.plant = t.plant) : u.WritesOnly fs s :=
  State.WritesOnly.trans ⟨hmem, htable, htick, hplant, fun f _ _ => by simp only [State.get, hregs]⟩ h

theorem State.WritesOnly.ite {c : Prop} [Decidable c] (ht : t.WritesOnly fs s) (hu : u.WritesOnly fs s) :
    (if c then t else u).WritesOnly fs s := by
  split <;> assumption

theorem State.WritesOnly.set (h : t.WritesOnly fs s) {f : Fld} (hf : f ∈ fs) (v : Nat) : (t.set f v).WritesOnly fs s :=
  ⟨h.mem, h.prtActive, h.tick, h.plant, fun g hg hgs => (t.get_set_ne v (hgs f hf).symm).trans (h.get g hg hgs)⟩

theorem State.WritesOnly.post (h : t.WritesOnly fs s) (src data : Nat) : (t.post src data).WritesOnly fs s :=
  h.of_eq rfl rfl rfl rfl rfl

/-- What only records or notifies cores is no write of a command. -/
theorem State.WritesOnly.notified (h : t.WritesOnly fs s) (hu : u.Notified t) : u.WritesOnly fs s :=
  State.WritesOnly.trans (t := t) ⟨hu.part (·.mem), hu.part (·.prtActive), hu.part (·.tick), hu.part (·.plant),
    fun f hf _ => hu.get f hf⟩ h

theorem State.WritesOnly.recordCommand (h : t.WritesOnly fs s) (block op arg status reason origin priv session : Nat) :
    (t.recordCommand block op arg status reason origin priv session).WritesOnly fs s :=
  h.notified ((State.Notified.refl t).queueRec _)

theorem State.WritesOnly.settle (h : t.WritesOnly fs s) (hs : s.NoEventRing) (hfs : ∀ x ∈ fs, ∀ src, x.id ≠ (EVT.ROUTE.TARGETS src).id) :
    t.settle.WritesOnly fs s := by
  have ht : t.NoEventRing := fun src =>
    (h.get _ (EVT.ROUTE.settled_TARGETS src) fun x hx => hfs x hx src).symm ▸ hs src
  exact h.notified (State.settle_notified ht)

/-! ## One lemma for each operation that writes more than one field, or asks before it writes -/

variable (s)

theorem State.writesOnly_lockHold (l : Nat) : (s.lockHold l).WritesOnly [LCK.LOCK_STATUS.HOLD_EXCEEDED l] s := by
  unfold State.lockHold
  dsimp only
  split
  · exact .refl _ s
  · exact .ite (.refl _ s) (((State.WritesOnly.refl _ s).set (by simp) _).post _ _)

theorem State.writesOnly_oscillator (b : Bool) : (s.oscillator b).WritesOnly [TIM.STATUS.UNCALIBRATED] s :=
  .ite (.refl _ s) (((State.WritesOnly.refl [TIM.STATUS.UNCALIBRATED] s).set (f := TIM.STATUS.UNCALIBRATED) (by simp) _).of_eq
    rfl rfl rfl rfl rfl)

theorem State.writesOnly_resultRead (init : Nat) :
    (s.resultRead init).WritesOnly [LCK.RESULT.STATUS, LCK.RESULT.REASON, LCK.RESULT.LOCK, LCK.RESULT.WAITING] s :=
  ((((State.WritesOnly.refl _ s).set (by simp) _).set (by simp) _).set (by simp) _).set (by simp) _

theorem State.writesOnly_parReserved (init op priv session : Nat) :
    (s.parWrite init (5 + op) priv session).WritesOnly [PAR.CMD_STATUS.STATUS, PAR.CMD_STATUS.REASON, PAR.CMD_STATUS.PENDING] s := by
  have hop : s.parWrite init (op + 5) priv session = s.parCmd init (op + 5) priv session fun s => (s, 0) := rfl
  rw [Nat.add_comm, hop, State.parCmd, if_pos (Nat.le_add_left 5 op)]
  exact ((((State.WritesOnly.refl _ s).set (by simp) _).set (by simp) _).set (by simp) _).recordCommand _ _ _ _ _ _ _ _

theorem State.writesOnly_rstEnd (op arg status reason origin priv session : Nat) : (s.rstEnd op arg status reason origin priv
    session).WritesOnly [RST.CMD_STATUS.STATUS, RST.CMD_STATUS.REASON, RST.CMD_STATUS.PENDING] s := by
  have hstatus := ((((State.WritesOnly.refl [RST.CMD_STATUS.STATUS, RST.CMD_STATUS.REASON, RST.CMD_STATUS.PENDING] s).set
    (f := RST.CMD_STATUS.STATUS) (by simp) status).set (f := RST.CMD_STATUS.REASON) (by simp) reason).set
    (f := RST.CMD_STATUS.PENDING) (by simp) 0).recordCommand 2 op arg status reason origin priv session
  exact .ite (hstatus.post _ _) hstatus

theorem State.writesOnly_timReserved (init priv session : Nat) :
    (s.timCmd init 3 priv session).WritesOnly [TIM.CMD_STATUS.STATUS, TIM.CMD_STATUS.REASON, TIM.CMD_STATUS.PENDING] s :=
  ((((State.WritesOnly.refl _ s).set (f := TIM.CMD_STATUS.STATUS) (by simp) 0x60).set (f := TIM.CMD_STATUS.REASON) (by simp) 4).set
    (f := TIM.CMD_STATUS.PENDING) (by simp) _).recordCommand 19 3 0 0x60 4 (originOf init) priv session

theorem State.writesOnly_ptLoRead (init : Nat) : (s.ptLoRead init).WritesOnly
    [TIM.PT_LO.NS, TIM.PT_HI.NS, TIM.PT_FRAC.FRAC, TIM.SNAP_TICK_LO.TICK, TIM.SNAP_TICK_HI.TICK] s := by
  have hshown : (s.showSample s.ptSample).WritesOnly
      [TIM.PT_LO.NS, TIM.PT_HI.NS, TIM.PT_FRAC.FRAC, TIM.SNAP_TICK_LO.TICK, TIM.SNAP_TICK_HI.TICK] s :=
    (((((State.WritesOnly.refl _ s).set (by simp) _).set (by simp) _).set (by simp) _).set (by simp) _).set (by simp) _
  exact .ite hshown (hshown.of_eq rfl rfl rfl rfl rfl)

theorem State.writesOnly_loopShort (n : Nat) (short : Bool) : (s.loopShort n short).WritesOnly [CLP.CH_STATUS.LOOP_SHORT n] s :=
  .ite (.refl _ s) (.ite (.refl _ s) (((State.WritesOnly.refl _ s).set (by simp) _).post _ _))

theorem State.writesOnly_clSettled : s.clSettled.WritesOnly [] s := by
  unfold State.clSettled
  split
  · exact .ite ((State.WritesOnly.refl _ s).of_eq rfl rfl rfl rfl rfl) (.refl _ s)
  · exact .refl _ s

theorem State.writesOnly_leaseLapsed : s.leaseLapsed.WritesOnly [PAR.STATUS.LEASE_HELD] s := by
  have hlapsed := (State.WritesOnly.refl [PAR.STATUS.LEASE_HELD] s).set (f := PAR.STATUS.LEASE_HELD) (by simp) 0
  exact .ite (.refl _ s) (.ite (hlapsed.post _ _) hlapsed)

theorem State.writesOnly_wdtKick (init key : Nat) : (s.wdtKick init key).WritesOnly [RST.WDT_STATUS.BAD_KICKS] s :=
  .ite ((State.WritesOnly.refl _ s).set (by simp) _) (.ite (.refl _ s) ((State.WritesOnly.refl _ s).of_eq rfl rfl rfl rfl rfl))

theorem State.writesOnly_wdtWarning : s.wdtWarning.WritesOnly [] s := by
  unfold State.wdtWarning
  split
  · exact .refl _ s
  · exact .ite (.refl _ s) ((State.WritesOnly.refl _ s).of_eq rfl rfl rfl rfl rfl)

theorem State.writesOnly_mirrorEnd : s.mirrorEnd.WritesOnly [] s := by
  unfold State.mirrorEnd
  split
  · exact .refl _ s
  · exact (State.WritesOnly.refl _ s).of_eq rfl rfl rfl rfl rfl

theorem State.writesOnly_porRelease : s.porRelease.WritesOnly [] s := by
  unfold State.porRelease
  split
  · exact .refl _ s
  · exact .ite (.refl _ s) ((State.WritesOnly.refl _ s).of_eq rfl rfl rfl rfl rfl)

/-- R61. The fields that the end of a speed window writes. -/
def speedFields (d : Nat) : List Fld :=
  [SYS.SPEED.COUNT d, SYS.SPEED.VALID d, SYS.SPEED.BELOW_FLOOR d, SYS.SPEED.SEQ d, SYS.SPEED_STATUS.LOW_SEEN]

theorem State.writesOnly_speedUpdate (d t count : Nat) : (s.speedUpdate d t count).WritesOnly (speedFields d) s := by
  unfold State.speedUpdate
  extract_lets ok on low s1 _ s2 _ s3 seen
  have h1 : s1.WritesOnly (speedFields d) s :=
    ((((State.WritesOnly.refl _ s).set (by simp [speedFields]) _).set (by simp [speedFields]) _).set (by simp [speedFields]) _).set
      (by simp [speedFields]) _
  have h2 : s2.WritesOnly (speedFields d) s := h1.of_eq rfl rfl rfl rfl rfl
  have h3 : s3.WritesOnly (speedFields d) s := .ite (h2.of_eq rfl rfl rfl rfl rfl) h2
  exact .ite (((h3.set (by simp [speedFields]) _).post _ _).notified ((State.Notified.refl _).recordEvent _ _)) h3

theorem State.writesOnly_speedWindow (d count : Nat) : (s.speedWindow d count).WritesOnly (speedFields d) s := by
  unfold State.speedWindow
  split
  · exact .refl _ s
  · exact .ite (s.writesOnly_speedUpdate d _ count) (.refl _ s)

/-- A command whose own effect `x` writes the fields `p.2` alone, none of them a route of an event source. -/
def State.WritesFields (s : State) (p : Instr × List Fld) : Prop :=
  (∃ x : State, exec p.1 s = .next x.settle ∧ x.WritesOnly p.2 s) ∧ ∀ f ∈ p.2, f.id < 0x081000 * 32 ∨ 0x081400 * 32 ≤ f.id

variable {s}

theorem State.WritesFields.frame {p : Instr × List Fld} (h : s.WritesFields p) (hs : s.NoEventRing) (hexec : exec p.1 s = .next t) :
    t.WritesOnly p.2 s := by
  obtain ⟨⟨x, hx, honly⟩, hroute⟩ := h
  cases hx.symm.trans hexec
  refine honly.settle hs fun f hf src => ?_
  have := hroute f hf
  simp only [Fld.id, EVT.ROUTE.TARGETS] at *
  omega

/-! ## Two commands that store -/

/-- R71. A doorbell write stores at most the bytes it carries, at the doorbell word. -/
theorem State.write_outside (h : s.dramLost = false) (v : Via) (a : Nat) (bs : List Nat) {x : Nat}
    (hx : x < a ∨ a + bs.length ≤ x) : (s.write v a bs).1.byte x = s.byte x := by
  obtain hkept | ⟨u, hu, hstored⟩ := (State.Served.refl s).write v a bs
  · simp only [State.byte, hkept.mem]
  · simp only [State.byte, hstored.mem, u.store_mem a bs (hu.dramLost.trans h), Memory.get_putBytes_outside _ _ hx, hu.mem]

theorem State.byte_settle (h : s.NoEventRing) (x : Nat) : s.settle.byte x = s.byte x := by
  have hmem : s.settle.mem = s.mem := (State.settle_notified h).part (·.mem)
  simp only [State.byte, hmem]

theorem leBytes_length (n v : Nat) : (leBytes n v).length = n := by
  induction n generalizing v with
  | zero => rfl
  | succ n ih => rw [leBytes, List.length_cons, ih]

/-- R527, R529. The recorder's registers are none of the fields of eligibility. -/
theorem State.putLog_served (s : State) (change : Bool) (ks : List Kept) (off next : Nat) : (s.putLog change ks off next).Served s := by
  have hlog (l : Recorder) : State.Served { s with log := l } s := (State.Served.refl s).of_eq rfl rfl rfl rfl rfl
  have hset2 {t : State} (h : t.Served s) {lo hi : Fld} (hlo : lo.unjudged) (hhi : hi.unjudged) (v : Nat) :
      (t.set2 lo hi v).Served s := (h.set hlo v).set hhi _
  unfold State.putLog
  dsimp only
  split
  · exact hset2 ((hset2 (hlog _) (by decide) (by decide) _).set (by decide) _) (by decide) (by decide) _
  · exact hset2 ((hset2 (hlog _) (by decide) (by decide) _).set (by decide) _) (by decide) (by decide) _

/-- R529. A record is stored at the write offset of its log; the module marks what the store touches. -/
theorem State.putRecord_served (s : State) (change : Bool) (bs : List Nat) :
    ∃ u : State, u.Served s ∧ (s.putRecord change bs).Served (u.store (logBase change + s.nextOff change) bs) := by
  unfold State.putRecord
  extract_lets off seq ks s1 _ s2 a
  have h1 : s1.Served s := s.putLog_served _ _ _ _
  exact ⟨s2, .ite (h1.of_eq rfl rfl rfl rfl rfl) h1, (State.Served.refl _).written 15 a bs⟩

/-- R529. The record at the head of the queue waits, or is stored whole at the write offset where it fits there. -/
theorem State.recorderWrite_stores {r : Rec} {q : List Rec} (hq : s.log.queue = r :: q)
    (hfit : s.nextOff r.change + r.len ≤ logSize r.change) : s.recorderWrite.Served s ∨
    ∃ u : State, u.Served s ∧
      s.recorderWrite.Served (u.store (logBase r.change + s.nextOff r.change) (s.recordBytes r r.len (s.nextSeq r.change))) := by
  fun_cases State.recorderWrite s
  case case1 hnil => exact absurd (hnil.symm.trans hq) (by simp)
  case case2 => exact .inl (.refl s)
  case case3 r' q' hq' off gap n hwait s1 s2 s3 =>
    cases hq.symm.trans hq'
    have hgap : r.len ≤ gap := Nat.le_sub_of_add_le' hfit
    have h1 : s1 = s := if_pos hgap
    obtain ⟨u, hu, hput⟩ := s1.putRecord_served r.change (s1.recordBytes r r.len (s1.nextSeq r.change))
    rw [h1] at hu hput
    have h2 : s2.Served (u.store (logBase r.change + s.nextOff r.change) (s.recordBytes r r.len (s.nextSeq r.change))) := by
      simp only [s2, h1]
      exact hput
    clear_value s2
    have h3 : s3.Served (u.store (logBase r.change + s.nextOff r.change) (s.recordBytes r r.len (s.nextSeq r.change))) :=
      (h2.set (f := REC.STATUS.QUEUE) (by decide) q.length).of_eq rfl rfl rfl rfl rfl
    exact .inr ⟨u, hu, h3.finishAt r.append 0 r.len 0⟩

end CommandFrames

/-- Settles O8: each command writes its fields alone (`State.WritesFields`), and the two that store do so within their bytes. -/
theorem commandFrames : Obligations.CommandFrames := by
  unfold Obligations.CommandFrames
  refine ⟨?fields, ?stores⟩
  case fields =>
    intro s t init key k c2 c d c3 w5 t10 u16 l src p2 b v cnt priv ss op11 op10 hs p hp hexec
    have hself : s.WritesOnly [] s := .refl [] s
    have hset (f : Fld) (v : Nat) : (s.set f v).WritesOnly [f] s := (State.WritesOnly.refl _ s).set (by simp) v
    have hset2 (f g : Fld) (v w : Nat) : ((s.set f v).set g w).WritesOnly [f, g] s :=
      ((State.WritesOnly.refl _ s).set (by simp) v).set (by simp) w
    have hfields : s.WritesFields p := by
      clear hexec
      revert p
      simp only [List.forall_mem_cons]
      refine ⟨
        ⟨⟨_, rfl, hset _ _⟩, ?_⟩,
        ⟨⟨_, rfl, hset _ _⟩, ?_⟩,
        ⟨⟨_, rfl, hset _ _⟩, ?_⟩,
        ⟨⟨_, rfl, hset _ _⟩, ?_⟩,
        ⟨⟨_, rfl, hset _ _⟩, ?_⟩,
        ⟨⟨_, rfl, hset _ _⟩, ?_⟩,
        ⟨⟨_, rfl, hset _ _⟩, ?_⟩,
        ⟨⟨_, rfl, hset _ _⟩, ?_⟩,
        ⟨⟨_, rfl, hset _ _⟩, ?_⟩,
        ⟨⟨_, rfl, hset _ _⟩, ?_⟩,
        ⟨⟨_, rfl, hset _ _⟩, ?_⟩,
        ⟨⟨_, rfl, hset _ _⟩, ?_⟩,
        ⟨⟨_, rfl, hself.of_eq rfl rfl rfl rfl rfl⟩, ?_⟩,
        ⟨⟨_, rfl, hset _ _⟩, ?_⟩,
        ⟨⟨_, rfl, hset _ _⟩, ?_⟩,
        ⟨⟨_, rfl, hset _ _⟩, ?_⟩,
        ⟨⟨_, rfl, hself.of_eq rfl rfl rfl rfl rfl⟩, ?_⟩,
        ⟨⟨_, rfl, .ite hself (hself.of_eq rfl rfl rfl rfl rfl)⟩, ?_⟩,
        ⟨⟨_, rfl, hset2 _ _ _ _⟩, ?_⟩,
        ⟨⟨_, rfl, hset2 _ _ _ _⟩, ?_⟩,
        ⟨⟨_, rfl, hself.of_eq rfl rfl rfl rfl rfl⟩, ?_⟩,
        ⟨⟨_, rfl, s.writesOnly_oscillator _⟩, ?_⟩,
        ⟨⟨_, rfl, s.writesOnly_oscillator _⟩, ?_⟩,
        ⟨⟨_, rfl, .ite (.refl _ s) (((State.WritesOnly.refl _ s).set (by simp) _).post _ _)⟩, ?_⟩,
        ⟨⟨_, rfl, s.writesOnly_lockHold l⟩, ?_⟩,
        ⟨⟨_, rfl, .ite (.refl _ s) ((State.WritesOnly.refl _ s).set (by simp) _)⟩, ?_⟩,
        ⟨⟨_, rfl, hself.of_eq rfl rfl rfl rfl rfl⟩, ?_⟩,
        ⟨⟨_, rfl, s.writesOnly_resultRead init⟩, ?_⟩,
        ⟨⟨_, rfl, s.writesOnly_parReserved init op11 priv ss⟩, ?_⟩,
        ⟨⟨_, rfl, s.writesOnly_rstEnd _ _ _ _ _ _ _⟩, ?_⟩,
        ⟨⟨_, rfl, s.writesOnly_timReserved init priv ss⟩, ?_⟩,
        ⟨⟨_, rfl, s.writesOnly_ptLoRead init⟩, ?_⟩,
        ⟨⟨_, rfl, hself.of_eq rfl rfl rfl rfl rfl⟩, ?_⟩,
        ⟨⟨_, rfl, .ite (.refl _ s) (((State.WritesOnly.refl _ s).set (by simp) _).post _ _)⟩, ?_⟩,
        ⟨⟨_, rfl, s.writesOnly_loopShort k b⟩, ?_⟩,
        ⟨⟨_, rfl, s.writesOnly_clSettled⟩, ?_⟩,
        ⟨⟨_, rfl, (hset _ _).of_eq rfl rfl rfl rfl rfl⟩, ?_⟩,
        ⟨⟨_, rfl, (hset _ _).of_eq rfl rfl rfl rfl rfl⟩, ?_⟩,
        ⟨⟨_, rfl, s.writesOnly_leaseLapsed⟩, ?_⟩,
        ⟨⟨_, rfl, s.writesOnly_wdtKick init key⟩, ?_⟩,
        ⟨⟨_, rfl, s.writesOnly_wdtWarning⟩, ?_⟩,
        ⟨⟨_, rfl, s.writesOnly_mirrorEnd⟩, ?_⟩,
        ⟨⟨_, rfl, s.writesOnly_porRelease⟩, ?_⟩,
        ⟨⟨_, rfl, s.writesOnly_speedWindow d _⟩, ?_⟩, fun p hp => absurd hp List.not_mem_nil⟩
      all_goals simp only [List.forall_mem_cons, List.not_mem_nil, false_imp_iff, implies_true, and_true, Fld.id,
        ACQ.MAX_DEAD.TICKS, ACQ.QUEUE.PEAK, ARB.TARGET_PEAK_WAIT.TICKS, CLP.CH_STATUS.LOOP_SHORT,
        CYC.CLASS_EXEC_MAX.TICKS, FIO.CNT_VALUE.VALUE, LCK.LOCK_STATUS.HOLD_EXCEEDED, LCK.RESULT.LOCK,
        LCK.RESULT.REASON, LCK.RESULT.STATUS, LCK.RESULT.WAITING, LOP.QUEUE.PEAK, LOP.WORST.TICKS, MOT.PASS_STATUS.MAX,
        PAR.CMD_STATUS.PENDING, PAR.CMD_STATUS.REASON, PAR.CMD_STATUS.STATUS, PAR.DIVERGENCE.BLOCK_HOUR,
        PAR.STATUS.LEASE_HELD, PAR.STREAM_MAX.BYTES, PLN.PORT_STATUS.LINK, PRT.CTRL.ENFORCE, PWR.D_VOTE.VOTES,
        RNG.DB_IGNORED.COUNT, RNG.TAGS.PEAK, RST.CMD_STATUS.PENDING, RST.CMD_STATUS.REASON, RST.CMD_STATUS.STATUS,
        RST.WDT_STATUS.BAD_KICKS, SEC.CMD_STATUS.REASON, SEC.CMD_STATUS.STATUS, SYS.FAULT_LED.AWAIT,
        SYS.SPEED.BELOW_FLOOR, SYS.SPEED.COUNT, SYS.SPEED.SEQ, SYS.SPEED.VALID, SYS.SPEED_STATUS.LOW_SEEN,
        TIM.CMD_STATUS.PENDING, TIM.CMD_STATUS.REASON, TIM.CMD_STATUS.STATUS, TIM.CMP_STATUS.ARMED, TIM.PT_FRAC.FRAC,
        TIM.PT_HI.NS, TIM.PT_LO.NS, TIM.SNAP_TICK_HI.TICK, TIM.SNAP_TICK_LO.TICK, TIM.STATUS.HOLDOVER,
        TIM.STATUS.UNCALIBRATED, UPD.CMD_STATUS.REASON, UPD.CMD_STATUS.STATUS, VOT.MINORITY.LATENT_HOUR]
      all_goals omega
    obtain ⟨hmem, htable, htick, hplant, hget⟩ := hfields.frame hs hexec
    exact ⟨hmem, fun a => by simp only [State.byte, hmem], htable, htick, hplant, hget⟩
  case stores =>
    intro s t hs hd
    refine ⟨fun n init half v hexec x hx => ?bell, fun r q hq hfit hexec x hx => ?record⟩
    case bell =>
      cases hexec
      have hwrite := (State.JudgedAs.refl s).write { init := init } (s.bellAddr n) (leBytes (if half then 2 else 4) v)
      rw [State.byte_settle (hwrite.noEventRing hs), s.write_outside hd]
      rwa [leBytes_length]
    case record =>
      cases hexec
      obtain hkept | ⟨u, hu, hstored⟩ := s.recorderWrite_stores hq hfit
      · rw [State.byte_settle (hkept.noEventRing hs)]
        simp only [State.byte, hkept.mem]
      · have hjudged := hstored.toJudgedAs.trans ((u.store_judgedAs _ _).trans hu.toJudgedAs)
        rw [State.byte_settle (hjudged.noEventRing hs)]
        simp only [State.byte, hstored.mem, u.store_mem _ _ (hu.dramLost.trans hd), Memory.get_putBytes_outside _ _ hx, hu.mem]

end Sys2Proof.Machine
end

/-! PROOFS. Words, memory and the service order (spec/00 R5, R10, R11; spec/12 R399): little-endian bytes, stored bytes read back,
the order of transactions, and O9, O10, O45. -/
section

namespace Sys2Proof.Machine

section Words

/-! ## Little-endian words (R10) and pair-words (R11) -/

theorem leNat_leBytes (n v : Nat) : leNat (leBytes n v) = v % 256 ^ n := by
  induction n generalizing v with
  | zero => simp [leBytes, leNat, Nat.mod_one]
  | succ n ih => rw [leBytes, leNat, ih, Nat.pow_succ', Nat.mod_mul]

theorem leBytes_leNat (bs : List Nat) (h : ∀ b ∈ bs, b < 256) : leBytes bs.length (leNat bs) = bs := by
  induction bs with
  | nil => rfl
  | cons b bs ih =>
    have hb : b < 256 := h b List.mem_cons_self
    have hbs := ih fun c hc => h c (List.mem_cons_of_mem b hc)
    have hlow : (b + 256 * leNat bs) % 256 = b := by omega
    have hhigh : (b + 256 * leNat bs) / 256 = leNat bs := by omega
    rw [List.length_cons, leNat, leBytes, hlow, hhigh, hbs]

theorem leNat_lt (bs : List Nat) (h : ∀ b ∈ bs, b < 256) : leNat bs < 256 ^ bs.length := by
  induction bs with
  | nil => simp [leNat]
  | cons b bs ih =>
    have hb : b < 256 := h b List.mem_cons_self
    have hbs := ih fun c hc => h c (List.mem_cons_of_mem b hc)
    rw [leNat, List.length_cons, Nat.pow_succ]
    omega

theorem leAt_pairBytes_value (v : Nat) : leAt (pairBytes v) 0 4 = v % 2 ^ 32 := by
  rw [leAt, List.drop_zero, pairBytes, List.take_append_of_le_length (by simp [leBytes_length]),
    List.take_of_length_le (by simp [leBytes_length]), leNat_leBytes]
  norm_num

theorem leAt_pairBytes_complement (v : Nat) : leAt (pairBytes v) 4 4 = compl32 v := by
  have hlt : compl32 v < 256 ^ 4 := by unfold compl32; omega
  rw [leAt, pairBytes, List.drop_append_of_le_length (by simp [leBytes_length]), List.drop_of_length_le (by simp [leBytes_length]),
    List.nil_append, List.take_of_length_le (by simp [leBytes_length]), leNat_leBytes, Nat.mod_eq_of_lt hlt]

end Words

/-- Settles O10: a word is what its four bytes make, and the upper word of a valid pair-word is the complement of the lower. -/
theorem pairWordCarriesValue : Obligations.PairWordCarriesValue := by
  unfold Obligations.PairWordCarriesValue
  refine ⟨fun v hv => ?_, fun bs hlen hbytes hok => ?_⟩
  · have hvalue : leAt (pairBytes v) 0 4 = v := (leAt_pairBytes_value v).trans (Nat.mod_eq_of_lt hv)
    exact ⟨by rw [pairOk, leAt_pairBytes_complement, hvalue, beq_self_eq_true], hvalue⟩
  · have hlow : leBytes 4 (leAt bs 0 4) = bs.take 4 := by
      have h := leBytes_leNat (bs.take 4) fun b hb => hbytes b (List.mem_of_mem_take hb)
      rwa [List.length_take, hlen] at h
    have hhigh : leBytes 4 (leAt bs 4 4) = bs.drop 4 := by
      have htake : (bs.drop 4).take 4 = bs.drop 4 := List.take_of_length_le (by simp [hlen])
      have h := leBytes_leNat (bs.drop 4) fun b hb => hbytes b (List.mem_of_mem_drop hb)
      rw [leAt, htake]
      rwa [List.length_drop, hlen] at h
    have hcompl : leAt bs 4 4 = compl32 (leAt bs 0 4) := beq_iff_eq.1 hok
    rw [pairBytes, hlow, ← hcompl, hhigh, List.take_append_drop]

section Memory

variable {s : State}

/-! ## What a store leaves (R5, R581) -/

theorem State.byte_store_inside (h : s.dramLost = false) (a : Nat) (bs : List Nat) (i : Nat) (hi : i < bs.length) :
    (s.store a bs).byte (a + i) = BitVec.ofNat 8 bs[i] := by
  rw [State.byte, s.store_mem a bs h, Memory.get_putBytes_inside _ _ _ _ hi]

theorem State.readByte_of_kept (h : s.dramLost = false) (a : Nat) : s.readByte a = (s.byte a).toNat := by
  simp [State.readByte, h]

theorem State.bytes_store (h : s.dramLost = false) (a : Nat) (bs : List Nat) (hbytes : ∀ b ∈ bs, b < 256) :
    (s.store a bs).bytes a bs.length = bs := by
  have hkept : (s.store a bs).dramLost = false := h
  refine List.ext_getElem (by rw [State.bytes_length]) fun i hi hib => ?_
  have hb : bs[i] < 2 ^ 8 := hbytes _ (List.getElem_mem hib)
  simp only [State.bytes, List.getElem_map, List.getElem_range]
  rw [State.readByte_of_kept hkept, State.byte_store_inside h a bs i hib, BitVec.toNat_ofNat, Nat.mod_eq_of_lt hb]

theorem mem_unitsOf_of_covered {a n u : Nat} (hlo : a ≤ u * 8) (hhi : u * 8 + 8 ≤ a + n) : u ∈ unitsOf a n := by
  rw [unitsOf, if_neg (by omega), List.mem_map]
  exact ⟨u - a / 8, List.mem_range.2 (by omega), by omega⟩

theorem mem_wholeUnits_of_covered {a n u : Nat} (hlo : a ≤ u * 8) (hhi : u * 8 + 8 ≤ a + n) : u ∈ wholeUnits a n :=
  List.mem_filter.2 ⟨mem_unitsOf_of_covered hlo hhi, decide_eq_true ⟨hlo, hhi⟩⟩

/-- R581. A unit stored whole takes new check bits. -/
theorem State.unitBad_store (h : s.dramLost = false) {a u : Nat} {bs : List Nat} (hlo : a ≤ u * 8)
    (hhi : u * 8 + 8 ≤ a + bs.length) : (s.store a bs).unitBad u = false := by
  have hwhole : u ∈ wholeUnits a bs.length := mem_wholeUnits_of_covered hlo hhi
  have hpoison : u ∉ (s.store a bs).poison := by
    simp only [State.store]
    split
    · exact List.not_mem_nil
    · simp [hwhole]
  simp [State.unitBad, hpoison, h]

end Memory

/-- Settles O9: memory is a sparse map in canonical form, and a store writes its bytes one by one. -/
theorem memoryStores : Obligations.MemoryStores := by
  unfold Obligations.MemoryStores
  refine ⟨fun s a bs hwf => ⟨s.wf_store a bs hwf, s.wf_loseDram hwf⟩, fun s a bs hkept hbytes => ⟨?_, ?_, ?_⟩⟩
  · exact State.bytes_store hkept a bs hbytes
  · intro x hx
    rw [State.byte, s.store_mem a bs hkept, Memory.get_putBytes_outside _ _ hx, State.byte]
  · exact fun u hlo hhi => State.unitBad_store hkept hlo hhi

section Order

/-! ## The order of transactions (R399) -/

theorem Txn.before_iff {x y : Txn} : x.before y = true ↔ x.deadline < y.deadline ∨ (x.deadline = y.deadline ∧
    (x.init < y.init ∨ (x.init = y.init ∧ x.arrival < y.arrival))) := by
  simp [Txn.before]

theorem Txn.before_irrefl (x : Txn) : x.before x = false := by
  rw [← Bool.not_eq_true, Txn.before_iff]
  omega

theorem Txn.before_trans {x y z : Txn} (h : x.before y = true) (k : y.before z = true) : x.before z = true := by
  rw [Txn.before_iff] at *
  omega

theorem Txn.before_asymm {x y : Txn} (h : x.before y = true) : y.before x = false := by
  rw [← Bool.not_eq_true, Txn.before_iff]
  rw [Txn.before_iff] at h
  omega

/-- Where neither of two is served before the other, they stand alike to every third. -/
theorem Txn.not_before_trans {x y z : Txn} (h : x.before y = false) (k : y.before z = false) : x.before z = false := by
  rw [← Bool.not_eq_true, Txn.before_iff] at *
  omega

theorem Txn.before_total {x y : Txn} (h : (x.deadline, x.init, x.arrival) ≠ (y.deadline, y.init, y.arrival)) :
    x.before y = !y.before x := by
  have hne : ¬(x.deadline = y.deadline ∧ x.init = y.init ∧ x.arrival = y.arrival) := by simpa using h
  cases hyx : y.before x with
  | true => exact Txn.before_asymm hyx
  | false =>
    rw [← Bool.not_eq_true, Txn.before_iff] at hyx
    rw [Bool.not_false, Txn.before_iff]
    omega

/-- R399. Of the transaction picked so far and one more, the one that is served first. -/
def Txn.earlier (b : Option Txn) (x : Txn) : Option Txn :=
  match b with
  | none => some x
  | some y => if x.before y then some x else some y

theorem Arbiter.pick_eq (a : Arbiter) (h : a.masked = []) : a.pick = a.waiting.foldl Txn.earlier none := by
  have hfree : a.waiting.filter (fun x => !a.masked.contains x.init) = a.waiting := by simp [h]
  unfold Arbiter.pick
  rw [hfree]
  dsimp only
  rw [ite_self]
  rfl

/-- What is picked from `y` and a list is one of them, and none of them is served before it. -/
theorem Txn.foldl_earlier_some (l : List Txn) (y x : Txn) (h : l.foldl Txn.earlier (some y) = some x) :
    (x = y ∨ x ∈ l) ∧ y.before x = false ∧ ∀ z ∈ l, z.before x = false := by
  induction l generalizing y with
  | nil =>
    cases h
    exact ⟨.inl rfl, x.before_irrefl, fun z hz => absurd hz List.not_mem_nil⟩
  | cons w l ih =>
    rw [List.foldl_cons, Txn.earlier] at h
    split at h
    case isTrue hwy =>
      obtain ⟨hmem, hw, hl⟩ := ih w h
      have hyw : y.before w = false := Txn.before_asymm hwy
      exact ⟨.inr (hmem.elim (· ▸ List.mem_cons_self) (List.mem_cons_of_mem w)), Txn.not_before_trans hyw hw,
        List.forall_mem_cons.2 ⟨hw, hl⟩⟩
    case isFalse hwy =>
      obtain ⟨hmem, hy, hl⟩ := ih y h
      have hwx : w.before x = false := Txn.not_before_trans (Bool.not_eq_true _ ▸ hwy) hy
      exact ⟨hmem.imp id (List.mem_cons_of_mem w), hy, List.forall_mem_cons.2 ⟨hwx, hl⟩⟩

theorem Arbiter.pick_first {a : Arbiter} {x : Txn} (h : a.masked = []) (hpick : a.pick = some x) :
    x ∈ a.waiting ∧ ∀ y ∈ a.waiting, y.before x = false := by
  rw [a.pick_eq h] at hpick
  cases hwaiting : a.waiting with
  | nil => simp [hwaiting] at hpick
  | cons y l =>
    rw [hwaiting, List.foldl_cons] at hpick
    obtain ⟨hmem, hy, hl⟩ := Txn.foldl_earlier_some l y x hpick
    exact ⟨hmem.elim (· ▸ List.mem_cons_self) (List.mem_cons_of_mem y), List.forall_mem_cons.2 ⟨hy, hl⟩⟩

end Order

/-- Settles O45: the order is lexicographic in deadline, initiator and presentation, and a pick is the first of a list by it. -/
theorem serviceOrder : Obligations.ServiceOrder := by
  unfold Obligations.ServiceOrder
  exact ⟨Txn.before_irrefl, fun _ _ _ => Txn.before_trans, fun _ _ => Txn.before_total, fun _ _ => Arbiter.pick_first⟩

end Sys2Proof.Machine
end

/-! PROOFS. What the engines share (spec/03 R78, R81): a command's answer, the descriptor that an engine is offered, its end. -/
section

namespace Sys2Proof.Machine

section Offers

variable {s t : State}

/-- A command whose effect is `t` ends with the events of `t` delivered. -/
theorem State.done_eq (h : s = t) : s.done = .next t.settle := h ▸ rfl

theorem State.onOffer_of_offered {n : Nat} {engines : List Nat} {op : Nat} {f : State → Started → State} {d : Started}
    (h : s.offered n engines op = some d) : s.onOffer n engines op f = f s d := by
  unfold State.onOffer
  rw [h]

@[simp] theorem State.get_finish (d : Started) (status bytes detail : Nat) (g : Fld) :
    (s.finish d status bytes detail).get g = s.get g := by
  unfold State.finish
  dsimp only
  split <;> rfl

theorem State.bit_eq_false {f : Fld} : s.bit f = false ↔ s.get f = 0 := by simp [State.bit]

theorem State.bit_eq_true {f : Fld} : s.bit f = true ↔ s.get f ≠ 0 := by simp [State.bit]

end Offers

end Sys2Proof.Machine
end

/-! PROOFS. The recorder (spec/18 R526 to R533, R549): what a record's writing leaves in the registers of its log, and O58. -/
section

namespace Sys2Proof.Machine

section Recorder

variable (s : State)

theorem State.recorderWrite_waits {r : Rec} {q : List Rec} (hq : s.log.queue = r :: q)
    (hfit : s.nextOff r.change + r.len ≤ logSize r.change) (hwait : s.mustWait r.change (s.nextOff r.change) r.len = true) :
    s.recorderWrite = s := by
  have hgap : r.len ≤ logSize r.change - s.nextOff r.change := Nat.le_sub_of_add_le' hfit
  fun_cases State.recorderWrite s
  case case1 => rfl
  case case2 => rfl
  case case3 r' q' hq' off gap n hno s1 s2 s3 =>
    cases hq.symm.trans hq'
    refine absurd ?_ hno
    simp [n, gap, off, hgap, hwait]

theorem State.recorderWrite_writes {r : Rec} {q : List Rec} (hq : s.log.queue = r :: q)
    (hfit : s.nextOff r.change + r.len ≤ logSize r.change) (hfree : s.mustWait r.change (s.nextOff r.change) r.len = false) :
    s.recorderWrite =
      (State.set { s.putRecord r.change (s.recordBytes r r.len (s.nextSeq r.change)) with
        log := { (s.putRecord r.change (s.recordBytes r r.len (s.nextSeq r.change))).log with queue := q } }
        REC.STATUS.QUEUE q.length).finishAt r.append 0 r.len := by
  have hgap : r.len ≤ logSize r.change - s.nextOff r.change := Nat.le_sub_of_add_le' hfit
  fun_cases State.recorderWrite s
  case case1 hnil => exact absurd (hnil.symm.trans hq) (by simp)
  case case2 r' q' hq' off gap n hwait =>
    cases hq.symm.trans hq'
    refine absurd hwait ?_
    simp [n, gap, off, hgap, hfree]
  case case3 r' q' hq' off gap n hno s1 s2 s3 =>
    cases hq.symm.trans hq'
    have h1 : s1 = s := if_pos hgap
    simp only [s3, s2, h1]

/-! ## The archive (R532) -/

theorem State.archiveChanges_nil (ok : Bool) (h : s.log.changes = []) : s.archiveChanges ok = s := by
  simp [State.archiveChanges, h]

theorem archiveCut_single (k : Kept) (h : k.bytes.length ≤ 2 ^ 33) : archiveCut 1 [k] = [k] := by
  simpa [archiveCut] using h

variable {s} {k : Kept}

theorem State.archiveChanges_fault (hk : s.log.changes = [k])
    (hnew : s.get2 REC.CHANGE_ARCHIVED_LO.SEQ REC.CHANGE_ARCHIVED_HI.SEQ < k.seq) :
    s.archiveChanges false = (s.set REC.STATUS.ARCHIVE_FAULT 1).post 225 0 := by
  simp [State.archiveChanges, hk, hnew]

theorem State.archiveChanges_copies (hk : s.log.changes = [k])
    (hnew : s.get2 REC.CHANGE_ARCHIVED_LO.SEQ REC.CHANGE_ARCHIVED_HI.SEQ < k.seq) (hnone : s.log.archive = [])
    (hsize : k.bytes.length ≤ 2 ^ 33) : s.archiveChanges true =
      State.set2 { s with log := { s.log with archive := [k] } } REC.CHANGE_ARCHIVED_LO.SEQ REC.CHANGE_ARCHIVED_HI.SEQ k.seq := by
  simp [State.archiveChanges, hk, hnew, hnone, archiveCut_single k hsize]

/-! ## Reads of the SEQ registers (R549), APPEND and READ (R533) -/

theorem State.latch_recLoRead (s : State) (w : Fin 5) : (Sparse.find (s.recLoRead w).log.latch w).map (·.1) = some
    (s.get ([REC.EVENT_OLDEST_HI.SEQ, REC.EVENT_NEXT_HI.SEQ, REC.CHANGE_OLDEST_HI.SEQ, REC.CHANGE_NEXT_HI.SEQ,
      REC.CHANGE_ARCHIVED_HI.SEQ].getD w REC.CHANGE_ARCHIVED_HI.SEQ)) := by
  simp only [State.recLoRead, Sparse.find_insert_self]
  fin_cases w <;> rfl

/-- R533. The event record that an APPEND of code 0x4000 to 0x7FFF queues. -/
def State.appended (s : State) (d : Started) (bs : List Nat) : Rec :=
  { code := d.d.w4, change := false, origin := originOf (s.get (RNG.RING_CFG.OWNER d.ring)), priv := d.d.priv
    session := d.d.session, tick := s.now, plant := s.plantNs, data := bs, append := some (d.ring, d.idx) }

theorem State.append_event {s' : State} {d : Started} {bs : List Nat} (hlen : d.d.w1 ≤ 976) (hwords : d.d.w1 % 8 = 0)
    (hw5 : d.d.w5 = 0) (hflags : d.d.eflags = 0) (hlo : 0x4000 ≤ d.d.w4) (hhi : d.d.w4 ≤ 0x7FFF) (hroom : s.log.queue.length < 112)
    (hread : s.readBuf (s.via 15 d) d.d.primary d.d.w1 = (s', bs, none)) :
    s.append d = (s'.queueRec (s'.appended d bs)).accept d := by
  have hcode : bitsOf d.d.w4 0 16 = d.d.w4 := by simp only [bitsOf]; omega
  have hevent : d.d.w4.testBit 16 = false := Nat.testBit_eq_false_of_lt (by omega)
  have hrest : bitsOf d.d.w4 17 15 = 0 := by simp only [bitsOf]; omega
  have hrest5 : bitsOf d.d.w5 19 13 = 0 := by simp [bitsOf, hw5]
  have hno : ¬(976 < d.d.w1 || d.d.w1 % 8 != 0 || bitsOf d.d.w4 17 15 != 0 || bitsOf d.d.w4 0 16 < 0x4000
      || 0x7FFF < bitsOf d.d.w4 0 16 || bitsOf d.d.w5 19 13 != 0 || d.d.eflags != 0) = true := by
    simp [hwords, hrest, hcode, hrest5, hflags]
    omega
  have hqueue : ¬(!s.queueRoom (d.d.w4.testBit 16)) = true := by simp [State.queueRoom, hevent, hroom]
  unfold State.append
  dsimp only
  rw [if_neg hno, if_neg hqueue, hread, hcode, hevent]
  rfl

theorem State.recRead_copies {s' : State} {d : Started} {n : Nat} (hflags : d.d.eflags ≤ 1)
    (hcopy : s.copyRecords (s.via 15 d) (d.d.eflags.testBit 0) d.d.primary
      (wholeRecords d.d.w1 (s.recordsFrom (d.d.eflags.testBit 0) (d.d.w4 + d.d.w5 * 2 ^ 32))) = (s', n, none)) :
    s.recRead d = s'.finish d (b2n (decide ((wholeRecords d.d.w1
      (s.recordsFrom (d.d.eflags.testBit 0) (d.d.w4 + d.d.w5 * 2 ^ 32))).length
      < (s.recordsFrom (d.d.eflags.testBit 0) (d.d.w4 + d.d.w5 * 2 ^ 32)).length))) n := by
  unfold State.recRead
  dsimp only
  rw [if_neg (Nat.not_lt.2 hflags), hcopy]

/-! ## One record written (R527, R529) -/

/-- Where no ring is enabled and no container verified, a write reaches the marks as it is. -/
theorem State.beforeMarks_quiet (hentries : s.upd.entries = []) (hrings : ∀ n, n < 64 → s.get (RNG.RING_STATUS.STATE n) = 0)
    (init a : Nat) (bs : List Nat) : s.beforeMarks init a bs = s := by
  have hbell (n : Nat) : s.bellWrite init a bs n = s := by
    have hmod : RNG.RING_STATUS.STATE n = RNG.RING_STATUS.STATE (n % 64) := by simp [RNG.RING_STATUS.STATE]
    have hdisabled : s.get (RNG.RING_STATUS.STATE n) = 0 := hmod ▸ hrings (n % 64) (Nat.mod_lt n (by decide))
    exact if_pos (by simp [hdisabled])
  have hbells : (List.range 64).foldl (fun s i => s.bellWrite init a bs i) s = s := List.foldl_fixed' hbell _
  unfold State.beforeMarks
  dsimp only
  rw [hbells, hentries, List.foldl_nil]

theorem State.get_markDirty_ne {g : Fld} (h : g.id ≠ CYC.FERRY_DIRTY.DIRTY.id) (a n : Nat) : (s.markDirty a n).get g = s.get g := by
  cases hmap : s.fer.map with
  | none => rw [s.markDirty_none hmap]
  | some m => rw [s.markDirty_some hmap, State.get_set_ne _ _ h]; rfl

theorem State.markDirty_log (a n : Nat) : (s.markDirty a n).log = s.log := by
  unfold State.markDirty
  split <;> rfl

theorem State.markTether_log (a n : Nat) : (s.markTether a n).log = s.log := by
  unfold State.markTether
  split <;> rfl

theorem State.written_log_of_quiet (hentries : s.upd.entries = []) (hrings : ∀ n, n < 64 → s.get (RNG.RING_STATUS.STATE n) = 0)
    (init a : Nat) (bs : List Nat) : (s.written init a bs).log = s.log := by
  obtain ⟨r, h⟩ := s.written_eq init a bs
  rw [h]
  dsimp only
  rw [State.markTether_log, State.markDirty_log, State.beforeMarks_quiet hentries hrings]

theorem State.get_written_of_quiet (hentries : s.upd.entries = []) (hrings : ∀ n, n < 64 → s.get (RNG.RING_STATUS.STATE n) = 0)
    {g : Fld} (hg : g.id ≠ CYC.FERRY_DIRTY.DIRTY.id) (init a : Nat) (bs : List Nat) : (s.written init a bs).get g = s.get g := by
  rw [State.get_written, State.get_markDirty_ne hg, State.beforeMarks_quiet hentries hrings]

/-- R527, R529. The registers of the event log, or of the change log, and what the recorder keeps of it. -/
theorem State.putLog_event (s : State) (ks : List Kept) (off next : Nat) : s.putLog false ks off next =
    (((State.set2 { s with log := { s.log with events := ks, evNext := off } } REC.EVENT_OLDEST_LO.SEQ REC.EVENT_OLDEST_HI.SEQ
      ((ks.head?.map (·.seq)).getD 0)).set REC.EVENT_OLDEST_ADDR.OFFSET ((ks.head?.map (·.off)).getD 0)).set2
      REC.EVENT_NEXT_LO.SEQ REC.EVENT_NEXT_HI.SEQ next) := by
  simp only [State.putLog, Bool.false_eq_true, if_false]

theorem State.putLog_change (s : State) (ks : List Kept) (off next : Nat) : s.putLog true ks off next =
    (((State.set2 { s with log := { s.log with changes := ks, chNext := off } } REC.CHANGE_OLDEST_LO.SEQ REC.CHANGE_OLDEST_HI.SEQ
      ((ks.head?.map (·.seq)).getD 0)).set REC.CHANGE_OLDEST_ADDR.OFFSET ((ks.head?.map (·.off)).getD 0)).set2
      REC.CHANGE_NEXT_LO.SEQ REC.CHANGE_NEXT_HI.SEQ next) := by
  simp only [State.putLog, if_true]

@[simp] theorem State.get_withLog (s : State) (l : Recorder) (g : Fld) : State.get { s with log := l } g = s.get g := rfl

theorem State.get_putLog_ring (s : State) (change : Bool) (ks : List Kept) (off next n : Nat) :
    (s.putLog change ks off next).get (RNG.RING_STATUS.STATE n) = s.get (RNG.RING_STATUS.STATE n) := by
  have hne (g : Fld) (hlo : 0x160000 * 32 ≤ g.id) : (RNG.RING_STATUS.STATE n).id ≠ g.id := by
    simp only [Fld.id, RNG.RING_STATUS.STATE] at *
    omega
  cases change
  · rw [State.putLog_event, State.get_set2_ne _ _ (hne _ (by decide)) (hne _ (by decide)), State.get_set_ne _ _ (hne _ (by decide)),
      State.get_set2_ne _ _ (hne _ (by decide)) (hne _ (by decide)), State.get_withLog]
  · rw [State.putLog_change, State.get_set2_ne _ _ (hne _ (by decide)) (hne _ (by decide)), State.get_set_ne _ _ (hne _ (by decide)),
      State.get_set2_ne _ _ (hne _ (by decide)) (hne _ (by decide)), State.get_withLog]

/-- The SEQ of a log's next record is its own: the other log's stays. -/
theorem State.nextSeq_putLog (s : State) (change : Bool) (ks : List Kept) (off next : Nat) (hnext : next < 2 ^ 64) :
    (s.putLog change ks off next).nextSeq change = next ∧ (s.putLog change ks off next).nextSeq (!change) = s.nextSeq (!change) := by
  cases change
  · rw [State.putLog_event]
    constructor
    · simp only [State.nextSeq, Bool.false_eq_true, if_false]
      rw [State.get2_set2 _ _ (by decide)]
      exact Nat.mod_eq_of_lt hnext
    · simp only [State.nextSeq, Bool.not_false, if_true, State.get2]
      simp (disch := decide) only [State.get_set2_ne, State.get_set_ne, State.get_withLog]
  · rw [State.putLog_change]
    constructor
    · simp only [State.nextSeq, if_true]
      rw [State.get2_set2 _ _ (by decide)]
      exact Nat.mod_eq_of_lt hnext
    · simp only [State.nextSeq, Bool.not_true, Bool.false_eq_true, if_false, State.get2]
      simp (disch := decide) only [State.get_set2_ne, State.get_set_ne, State.get_withLog]

theorem State.kept_putLog (s : State) (change : Bool) (ks : List Kept) (off next : Nat) :
    (s.putLog change ks off next).kept change = ks ∧ (s.putLog change ks off next).kept (!change) = s.kept (!change) := by
  cases change
  · rw [State.putLog_event]
    exact ⟨rfl, rfl⟩
  · rw [State.putLog_change]
    exact ⟨rfl, rfl⟩

theorem State.upd_putLog (s : State) (change : Bool) (ks : List Kept) (off next : Nat) :
    (s.putLog change ks off next).upd = s.upd := by
  cases change
  · rw [State.putLog_event]; rfl
  · rw [State.putLog_change]; rfl

/-- Where no ring is enabled and no container verified, what the store of a record sets off leaves its log as it is. -/
theorem State.putRecord_of_quiet (hentries : s.upd.entries = []) (hrings : ∀ n, n < 64 → s.get (RNG.RING_STATUS.STATE n) = 0)
    (c : Bool) (bs : List Nat) : ∃ t : State, t = s.putLog c (dropOver (s.nextOff c) bs.length (s.kept c) ++
      [⟨s.nextSeq c, s.nextOff c, bs⟩]) ((s.nextOff c + bs.length) % logSize c) (s.nextSeq c + 1) ∧
      (∀ b, (s.putRecord c bs).nextSeq b = t.nextSeq b) ∧ ∀ b, (s.putRecord c bs).kept b = t.kept b := by
  refine ⟨_, rfl, ?_⟩
  unfold State.putRecord
  extract_lets off seq ks s1 _ s2 a
  have hentries1 : s1.upd.entries = [] := (congrArg Upd.entries (s.upd_putLog ..)).trans hentries
  have hrings1 : ∀ n, n < 64 → s1.get (RNG.RING_STATUS.STATE n) = 0 := fun n hn => (s.get_putLog_ring ..).trans (hrings n hn)
  change (∀ b, _ = s1.nextSeq b) ∧ ∀ b, _ = s1.kept b
  clear_value s1
  have h2 : s2.upd = s1.upd ∧ s2.regs = s1.regs ∧ s2.kept = s1.kept := by
    simp only [s2]
    split
    · exact ⟨rfl, rfl, rfl⟩
    · exact ⟨rfl, rfl, rfl⟩
  obtain ⟨hupd, hregs, hkept⟩ := h2
  have hget2 (g : Fld) : s2.get g = s1.get g := by simp only [State.get, hregs]
  clear_value s2
  have hentries2 : (s2.store a bs).upd.entries = [] := (congrArg Upd.entries hupd).trans hentries1
  have hrings2 (n : Nat) (hn : n < 64) : (s2.store a bs).get (RNG.RING_STATUS.STATE n) = 0 := (hget2 _).trans (hrings1 n hn)
  have hget (g : Fld) (hg : g.id ≠ CYC.FERRY_DIRTY.DIRTY.id) : ((s2.store a bs).written 15 a bs).get g = s1.get g :=
    (State.get_written_of_quiet hentries2 hrings2 hg _ _ _).trans (hget2 g)
  have hlog : ((s2.store a bs).written 15 a bs).log = s2.log := State.written_log_of_quiet hentries2 hrings2 _ _ _
  constructor
  · intro b
    simp only [State.nextSeq, State.get2, hget _ (show REC.CHANGE_NEXT_LO.SEQ.id ≠ CYC.FERRY_DIRTY.DIRTY.id by decide),
      hget _ (show REC.CHANGE_NEXT_HI.SEQ.id ≠ CYC.FERRY_DIRTY.DIRTY.id by decide),
      hget _ (show REC.EVENT_NEXT_LO.SEQ.id ≠ CYC.FERRY_DIRTY.DIRTY.id by decide),
      hget _ (show REC.EVENT_NEXT_HI.SEQ.id ≠ CYC.FERRY_DIRTY.DIRTY.id by decide)]
  · intro b
    rw [← hkept]
    simp only [State.kept, hlog]

end Recorder

/-- Settles O58: the record at the head of the queue is written by `putRecord`, whose store leaves the registers of the logs alone. -/
theorem recorder : Obligations.Recorder := by
  unfold Obligations.Recorder
  refine ⟨fun s => ⟨fun r q hq hfit hfree => ?_, fun hnil => ?_, fun r q hq hfit hwait => ?_, fun ok hnil => ?_,
    fun k hk hnew => ⟨?_, fun hseq hnone hsize => ?_⟩, fun w => ?_, fun n d s' bs hoffer hlen hwords hw5 hflags hlo hhi hroom hread => ?_,
    fun n d s' k hoffer hflags => ?_⟩, fun s bs c hnext hentries hrings => ?_⟩
  · exact State.done_eq (s.recorderWrite_writes hq hfit hfree)
  · exact State.done_eq (by unfold State.recorderWrite; rw [hnil])
  · exact State.done_eq (s.recorderWrite_waits hq hfit hwait)
  · exact State.done_eq (s.archiveChanges_nil ok hnil)
  · exact State.done_eq (State.archiveChanges_fault hk hnew)
  · exact ⟨_, State.done_eq (State.archiveChanges_copies hk hnew hnone hsize), rfl,
      (State.get2_set2 _ _ (by decide)).trans (Nat.mod_eq_of_lt hseq)⟩
  · exact ⟨_, rfl, s.latch_recLoRead w⟩
  · refine ⟨_, State.done_eq ((State.onOffer_of_offered hoffer).trans
      (State.append_event hlen hwords hw5 hflags hlo hhi hroom hread)), ?_, ?_⟩
    · exact List.length_append
    · exact congrArg _ List.getLast?_concat
  · intro all hcopy
    exact State.done_eq ((State.onOffer_of_offered hoffer).trans (State.recRead_copies hflags hcopy))
  · obtain ⟨t, rfl, hseq, hkept⟩ := State.putRecord_of_quiet hentries hrings c bs
    obtain ⟨hown, hother⟩ := s.nextSeq_putLog c (dropOver (s.nextOff c) bs.length (s.kept c) ++ [⟨s.nextSeq c, s.nextOff c, bs⟩])
      ((s.nextOff c + bs.length) % logSize c) (s.nextSeq c + 1) hnext
    obtain ⟨hlog, hrest⟩ := s.kept_putLog c (dropOver (s.nextOff c) bs.length (s.kept c) ++ [⟨s.nextSeq c, s.nextOff c, bs⟩])
      ((s.nextOff c + bs.length) % logSize c) (s.nextSeq c + 1)
    exact ⟨(hseq c).trans hown, (hseq !c).trans hother, (hkept !c).trans hrest, (hkept c).trans hlog⟩

end Sys2Proof.Machine
end

/-! PROOFS. One-bit register fields, read as what was written (spec/00 R13). -/
section

namespace Sys2Proof.Machine

section Bits

variable (s : State) {t : State}

theorem State.bit_congr (f : Fld) (h : s.get f = t.get f) : s.bit f = t.bit f := congrArg (· != 0) h

@[simp] theorem State.bit_set_zero (f : Fld) : (s.set f 0).bit f = false := by simp [State.bit]

theorem State.bit_set_one (f : Fld) (h : 1 ≤ f.w) : (s.set f 1).bit f = true := by
  have hlt : 1 < 2 ^ f.w := Nat.one_lt_two_pow (by omega)
  simp [State.bit, Nat.mod_eq_of_lt hlt]

theorem State.bit_setB_self (f : Fld) (b : Bool) (h : 1 ≤ f.w) : (s.setB f b).bit f = b := by
  unfold State.bit
  rw [State.get_setB_self _ _ _ h]
  cases b <;> rfl

@[simp] theorem State.bit_set_ne {f g : Fld} (v : Nat) (h : g.id ≠ f.id) : (s.set f v).bit g = s.bit g :=
  State.bit_congr _ _ (s.get_set_ne v h)

@[simp] theorem State.bit_setB_ne {f g : Fld} (b : Bool) (h : g.id ≠ f.id) : (s.setB f b).bit g = s.bit g :=
  State.bit_congr _ _ (s.get_setB_ne b h)

end Bits

end Sys2Proof.Machine
end

/-! PROOFS. The lock unit (spec/12 R406 to R411): what each of its operations does to owner, waits and results, and O46. -/
section

namespace Sys2Proof.Machine

section Locks

variable (s : State) (l i : Nat)

/-! ## Results, ring times and the messages of the lead -/

@[simp] theorem State.get_setLockRt (r : LockRt) (f : Fld) : (s.setLockRt l r).get f = s.get f := rfl
@[simp] theorem State.bit_setLockRt (r : LockRt) (f : Fld) : (s.setLockRt l r).bit f = s.bit f := rfl
@[simp] theorem State.get_setResult (r : LockResult) (f : Fld) : (s.setResult i r).get f = s.get f := rfl
@[simp] theorem State.lockRt_set (f : Fld) (v : Nat) : (s.set f v).lockRt l = s.lockRt l := rfl
@[simp] theorem State.lockRt_setResult (r : LockResult) : (s.setResult i r).lockRt l = s.lockRt l := rfl
@[simp] theorem State.lockResult_setLockRt (r : LockRt) : (s.setLockRt l r).lockResult i = s.lockResult i := rfl

@[simp] theorem State.lockRt_setLockRt (r : LockRt) : (s.setLockRt l r).lockRt l = r := Sparse.get_put_self ..

@[simp] theorem State.lockResult_setResult (r : LockResult) : (s.setResult i r).lockResult i = r := Sparse.get_put_self ..

@[simp] theorem State.lockResult_setResult_ne {j : Nat} (r : LockResult) (h : j ≠ i) :
    (s.setResult i r).lockResult j = s.lockResult j := Sparse.get_put_ne _ _ _ _ h

@[simp] theorem State.get_tellLock (k lock status : Nat) (f : Fld) : (s.tellLock k lock status).get f = s.get f := by
  unfold State.tellLock
  split <;> rfl

@[simp] theorem State.fab_tellLock (k lock status : Nat) : (s.tellLock k lock status).fab = s.fab := by
  unfold State.tellLock
  split <;> rfl

@[simp] theorem State.rng_tellLock (k lock status : Nat) : (s.tellLock k lock status).rng = s.rng := by
  unfold State.tellLock
  split <;> rfl

@[simp] theorem State.get_verdict (status reason : Nat) (f : Fld) : (s.verdict i l status reason).get f = s.get f := by
  unfold State.verdict
  dsimp only
  split
  · exact State.get_tellLock ..
  · rfl

theorem State.fab_verdict (status reason : Nat) : (s.verdict i l status reason).fab = (s.setResult i
    { status := status, reason := reason, lock := l, waiting := (s.waitsFor i).isSome }).fab := by
  unfold State.verdict
  dsimp only
  split
  · exact State.fab_tellLock ..
  · rfl

@[simp] theorem State.lockResult_verdict (status reason : Nat) : (s.verdict i l status reason).lockResult i =
    { status := status, reason := reason, lock := l, waiting := (s.waitsFor i).isSome } := by
  unfold State.lockResult
  rw [State.fab_verdict]
  exact State.lockResult_setResult ..

@[simp] theorem State.lockResult_verdict_ne {j : Nat} (status reason : Nat) (h : j ≠ i) :
    (s.verdict i l status reason).lockResult j = s.lockResult j := by
  unfold State.lockResult
  rw [State.fab_verdict]
  exact State.lockResult_setResult_ne s i _ h

/-! ## Owner and wait, read from the status registers -/

variable {s l i} {t : State}

theorem State.lockHeld_iff : s.lockHeld l = true ↔ s.get (LCK.LOCK_STATUS.HELD l) ≠ 0 := by simp [State.lockHeld, State.bit]

theorem State.lockOwner_eq_none : s.lockOwner l = none ↔ s.lockHeld l = false := by simp [State.lockOwner]

theorem State.lockOwner_eq_some {o : Nat} :
    s.lockOwner l = some o ↔ s.lockHeld l = true ∧ s.get (LCK.LOCK_STATUS.OWNER l) = o := by simp [State.lockOwner]

theorem State.waitsFor_eq_none : s.waitsFor i = none ↔ s.get (LCK.WAIT.VALID i) = 0 := by simp [State.waitsFor, State.bit]

theorem State.lockOwner_congr (hh : s.get (LCK.LOCK_STATUS.HELD l) = t.get (LCK.LOCK_STATUS.HELD l))
    (ho : s.get (LCK.LOCK_STATUS.OWNER l) = t.get (LCK.LOCK_STATUS.OWNER l)) : s.lockOwner l = t.lockOwner l := by
  unfold State.lockOwner State.lockHeld State.bit
  rw [hh, ho]

@[simp] theorem State.lockOwner_verdict (k status reason : Nat) : (s.verdict i k status reason).lockOwner l = s.lockOwner l :=
  State.lockOwner_congr (by simp) (by simp)

@[simp] theorem State.waitsFor_verdict (k status reason j : Nat) : (s.verdict i k status reason).waitsFor j = s.waitsFor j := by
  unfold State.waitsFor State.bit
  simp

/-! ## Acquiring, waiting, leaving -/

variable (s l i)

theorem State.lockOwner_own (hi : i < 8) : (s.own l i).lockOwner l = some i := by
  rw [State.lockOwner_eq_some, State.lockHeld_iff]
  unfold State.own
  simp (disch := simp only [Fld.id, LCK.LOCK_STATUS.OWNER, LCK.LOCK_STATUS.HELD, LCK.LOCK_STATUS.BROKEN,
    LCK.LOCK_STATUS.HOLD_EXCEEDED]; omega) only [State.get_setLockRt, State.get_set_ne, State.get_set_self]
  exact ⟨Nat.one_ne_zero, Nat.mod_eq_of_lt hi⟩

@[simp] theorem State.lockResult_own (j : Nat) : (s.own l i).lockResult j = s.lockResult j := rfl

theorem State.lockOwner_acquire (hi : i < 8) : (s.acquire i l).lockOwner l = some i :=
  (State.lockOwner_verdict ..).trans (s.lockOwner_own l i hi)

theorem State.lockResult_acquire :
    ((s.acquire i l).lockResult i).status = if s.bit (LCK.LOCK_STATUS.BROKEN l) then 0x51 else 0 := by
  unfold State.acquire
  rw [State.lockResult_verdict]

theorem State.lockOwner_joinLock : (s.joinLock i l).lockOwner l = s.lockOwner l := by
  unfold State.joinLock
  apply State.lockOwner_congr <;>
  simp (disch := simp only [Fld.id, LCK.LOCK_STATUS.OWNER, LCK.LOCK_STATUS.HELD, LCK.LOCK_STATUS.WAITERS,
    LCK.WAIT.LOCK, LCK.WAIT.VALID]; omega) only [State.get_setResult, State.get_setLockRt, State.get_set_ne]

theorem State.waiters_joinLock : ((s.joinLock i l).lockRt l).waiters = (s.lockRt l).waiters ++ [i] := by
  simp [State.joinLock]

theorem State.waiting_joinLock : ((s.joinLock i l).lockResult i).waiting = true := by simp [State.joinLock]

theorem State.waitsFor_unwait : (s.unwait i).waitsFor i = none := by
  unfold State.unwait
  split
  case h_1 hnone => exact hnone
  case h_2 k hk =>
    have hwaiters : (LCK.WAIT.VALID i).id ≠ (LCK.LOCK_STATUS.WAITERS k).id := by
      simp only [Fld.id, LCK.LOCK_STATUS.WAITERS, LCK.WAIT.VALID]
      omega
    have hlock : (LCK.WAIT.VALID i).id ≠ (LCK.WAIT.LOCK i).id := by
      simp only [Fld.id, LCK.WAIT.LOCK, LCK.WAIT.VALID]
      omega
    have hzero : ((s.set (LCK.WAIT.VALID i) 0).set (LCK.WAIT.LOCK i) 0).get (LCK.WAIT.VALID i) = 0 := by
      rw [State.get_set_ne _ _ hlock, State.get_set_self, Nat.zero_mod]
    rw [State.waitsFor_eq_none, State.get_setLockRt, State.get_set_ne _ _ hwaiters]
    split <;> exact hzero

/-! ## Passing a released lock on -/

@[simp] theorem State.lockOwner_post (src data : Nat) : (s.post src data).lockOwner l = s.lockOwner l := rfl
@[simp] theorem State.lockOwner_setResult (j : Nat) (r : LockResult) : (s.setResult j r).lockOwner l = s.lockOwner l := rfl
@[simp] theorem State.lockResult_post (src data : Nat) : (s.post src data).lockResult i = s.lockResult i := rfl

@[simp] theorem State.lockOwner_tellLock (k lock status : Nat) : (s.tellLock k lock status).lockOwner l = s.lockOwner l :=
  State.lockOwner_congr (by simp) (by simp)

@[simp] theorem State.lockResult_tellLock (k lock status : Nat) : (s.tellLock k lock status).lockResult i = s.lockResult i := by
  simp [State.lockResult]

theorem State.passTo_acquires (broken : Bool) (hi : i < 8) : (s.passTo l i broken).lockOwner l = some i ∧
    ((s.passTo l i broken).lockResult i).status = if broken then 0x51 else 0 := by
  unfold State.passTo
  dsimp only
  split <;> simp [State.lockOwner_own, hi]

variable {s l i}

theorem State.passLock_first {is : List Nat} (broken : Bool) (hw : (s.lockRt l).waiters = i :: is)
    (h0 : i = 0 → s.isTrail = false) : s.passLock l broken = s.passTo l i broken := by
  have hkeep : (i != 0 || !s.isTrail) = true := by
    by_cases hi : i = 0
    · simp [h0 hi]
    · simp [hi]
  simp [State.passLock, hw, hkeep]

theorem State.passLock_frees (broken : Bool) (hw : (s.lockRt l).waiters = []) :
    (s.passLock l broken).lockHeld l = false ∧ (s.passLock l broken).bit (LCK.LOCK_STATUS.BROKEN l) = broken ∧
      (s.passLock l broken).rng = s.rng := by
  simp only [State.passLock, hw, List.filter_nil, State.lockHeld]
  refine ⟨?_, ?_, rfl⟩
  · simp (disch := simp only [Fld.id, LCK.LOCK_STATUS.HELD, LCK.LOCK_STATUS.BROKEN, LCK.LOCK_STATUS.HOLD_EXCEEDED]; omega)
      only [State.bit_setLockRt, State.bit_set_ne, State.bit_setB_ne, State.bit_set_zero]
  · rw [State.bit_setLockRt, State.bit_set_ne _ _
      (by simp only [Fld.id, LCK.LOCK_STATUS.BROKEN, LCK.LOCK_STATUS.HOLD_EXCEEDED]; omega)]
    exact State.bit_setB_self _ _ broken Nat.le.refl

/-! ## The requests (R406, R408) -/

theorem State.chainReaches_waitless {o : Nat} (n : Nat) (ho : o ≠ i) (hw : s.waitsFor o = none) :
    s.chainReaches i (n + 1) o = false := by
  simp [State.chainReaches, ho, hw]

theorem State.chainReaches_self (n : Nat) : s.chainReaches i (n + 1) i = true := by simp [State.chainReaches]

section Local

variable (h8 : i < 8) (h0 : i = 0 → s.isTrail = false)

include h0 in
theorem State.lockRequest_not_followed : ¬(i = 0 ∧ s.isTrail = true) :=
  fun ⟨hi, htrail⟩ => Bool.false_ne_true ((h0 hi).symm.trans htrail)

include h8 h0

theorem State.lockRequest_try : s.lockRequest i l 0 = s.lockTry i l :=
  (if_neg (Nat.not_le.2 h8)).trans (if_neg (State.lockRequest_not_followed h0))

theorem State.lockRequest_wait : s.lockRequest i l 1 = s.lockWait i l :=
  (if_neg (Nat.not_le.2 h8)).trans (if_neg (State.lockRequest_not_followed h0))

theorem State.lockRequest_release : s.lockRequest i l 2 = s.lockRelease i l :=
  (if_neg (Nat.not_le.2 h8)).trans (if_neg (State.lockRequest_not_followed h0))

theorem State.lockRequest_cancel : s.lockRequest i l 3 = s.lockCancel i l :=
  (if_neg (Nat.not_le.2 h8)).trans (if_neg (State.lockRequest_not_followed h0))

end Local

theorem State.lockRequest_foreign (op : Nat) (h : 8 ≤ i) : s.lockRequest i l op = s.bump LCK.COUNTS.FOREIGN := if_pos h

theorem State.lockRequest_trail (op : Nat) (h : s.isTrail = true) : s.lockRequest 0 l op = s.lockFollowed op l := by
  unfold State.lockRequest
  rw [if_neg (by decide), if_pos ⟨rfl, h⟩]

theorem State.lockWait_joins {o : Nat} (ho : s.lockOwner l = some o) (hne : o ≠ i) (hi : s.waitsFor i = none)
    (hw : s.waitsFor o = none) : (s.lockWait i l).lockOwner l = some o ∧
      ((s.lockWait i l).lockRt l).waiters = (s.lockRt l).waiters ++ [i] ∧ ((s.lockWait i l).lockResult i).waiting = true := by
  unfold State.lockWait
  rw [hi, if_neg (by simp), ho]
  simp only [State.chainReaches_waitless 63 hne hw]
  by_cases h0 : i = 0
  · subst h0
    exact ⟨(State.lockOwner_joinLock s.countLock l 0).trans ho, State.waiters_joinLock s.countLock l 0,
      State.waiting_joinLock s.countLock l 0⟩
  · simp only [Bool.false_eq_true, if_false, if_pos h0]
    exact ⟨(s.lockOwner_joinLock l i).trans ho, s.waiters_joinLock l i, s.waiting_joinLock l i⟩

theorem State.lockWait_own (hi : s.waitsFor i = none) (ho : s.lockOwner l = some i) : s.lockWait i l = s.deadlock i l := by
  unfold State.lockWait
  rw [hi, if_neg (by simp), ho]
  simp [State.chainReaches_self 63]

theorem State.lockWait_free (hi : s.waitsFor i = none) (h : s.lockHeld l = false) : s.lockWait i l = s.acquire i l := by
  unfold State.lockWait
  rw [hi, if_neg (by simp), State.lockOwner_eq_none.2 h]

theorem State.lockRelease_owner (h : s.lockOwner l = some i) : s.lockRelease i l = (s.passLock l false).verdict i l 0 0 :=
  if_neg (not_not.2 h)

end Locks

open State in
/-- Settles O46: each operation is a row of the lock unit's own lemmas above. -/
theorem lockUnit : Obligations.LockUnit := by
  unfold Obligations.LockUnit
  refine ⟨fun s l => ⟨fun i h8 h0 => ?_, fun htrail => ?_, fun i h8 => ?_⟩, fun s l => ⟨fun i => rfl, fun hfree => ?_, ?_, ?_, ?_⟩⟩
  · have htry := lockRequest_try (l := l.val) h8 h0
    have hwait := lockRequest_wait (l := l.val) h8 h0
    have hrelease := lockRequest_release (l := l.val) h8 h0
    have hcancel := lockRequest_cancel (l := l.val) h8 h0
    refine ⟨fun hfree => ?_, fun hheld => ?_, fun hfree hnone => ?_, fun o ho hne hi hw => ?_, fun ho hw => ?_, fun hno => ?_,
      fun k hk => ?_, fun ho j js hw hj0 hj8 hji => ?_, fun k hk => ?_, fun hnone => ?_, fun hnone ho => ?_⟩
    · exact ⟨_, State.done_eq (htry.trans (if_neg (by simp [hfree]))), s.lockOwner_acquire l i h8, s.lockResult_acquire l i⟩
    · exact State.done_eq (htry.trans (if_pos hheld))
    · exact ⟨_, State.done_eq (hwait.trans (lockWait_free hnone hfree)), s.lockOwner_acquire l i h8⟩
    · exact ⟨_, State.done_eq hwait, lockWait_joins ho hne hi hw⟩
    · obtain ⟨hheld, hbroken, -⟩ := passLock_frees false hw
      exact ⟨_, State.done_eq (hrelease.trans (lockRelease_owner ho)), by simpa [lockHeld, bit] using hheld,
        by simpa [bit] using hbroken, by simp⟩
    · exact State.done_eq (hrelease.trans (if_pos hno))
    · exact ⟨_, State.done_eq (hcancel.trans (if_neg (by simp [hk]))), by simp [waitsFor_unwait], by simp⟩
    · have hpass := passLock_first false hw (fun h => absurd h hj0)
      obtain ⟨howner, hstatus⟩ := s.passTo_acquires l j false hj8
      refine ⟨_, State.done_eq (hrelease.trans (lockRelease_owner ho)), ?_, ?_, by simp⟩
      · simpa [hpass] using howner
      · simpa [hpass, hji] using hstatus
    · exact State.done_eq (hwait.trans (if_pos (by simp [hk])))
    · exact State.done_eq (hcancel.trans (if_pos (by simp [hnone])))
    · exact State.done_eq (hwait.trans (lockWait_own hnone ho))
  · intro p hp
    fin_cases hp <;> exact State.done_eq (lockRequest_trail _ htrail)
  · intro c hc
    fin_cases hc <;> exact State.done_eq (lockRequest_foreign _ h8)
  · have hnone := lockOwner_eq_none.2 hfree
    exact ⟨State.done_eq (by simp [breakLock, hnone]), State.done_eq (by simp [lockHold, hnone])⟩
  · intro o ho hw
    have hbreak : s.breakLock l = ((s.bump LCK.COUNTS.BROKEN).post 218 (l + 256 * o)).passLock l true := by
      simp only [breakLock, ho]
    obtain ⟨hheld, hbroken, hrng⟩ := passLock_frees (s := (s.bump LCK.COUNTS.BROKEN).post 218 (l + 256 * o)) true hw
    exact ⟨_, State.done_eq hbreak, hheld, hbroken, by rw [hrng]; rfl⟩
  · intro o i is ho hw h8 h0
    have hbreak : s.breakLock l = ((s.bump LCK.COUNTS.BROKEN).post 218 (l + 256 * o)).passLock l true := by
      simp only [breakLock, ho]
    have htrail : i = 0 → ((s.bump LCK.COUNTS.BROKEN).post 218 (l + 256 * o)).isTrail = false := fun hi => by
      rw [← h0 hi]
      simp (disch := decide) only [isTrail, pairState, get_post, get_bump_ne]
    obtain ⟨howner, hstatus⟩ := ((s.bump LCK.COUNTS.BROKEN).post 218 (l + 256 * o)).passTo_acquires l i true h8
    exact ⟨_, State.done_eq (hbreak.trans (passLock_first true hw htrail)), howner, hstatus⟩
  · intro o ho hlimit hnot hpast
    refine State.done_eq ?_
    have hlate : ¬ s.now ≤ (s.lockRt l).since + s.get (LCK.LOCK_HOLD_LIMIT.US l) * ticksPerUs := Nat.not_le.2 hpast
    simp [lockHold, ho, hlimit, hnot, hlate]

end Sys2Proof.Machine
end

/-! PROOFS. The CAN channels (spec/14): what error counting, telling, offering and the end of a frame leave as it was, and O51. -/
section

namespace Sys2Proof.Machine

section Can

variable (s : State) (c : Nat)

/-! ## Frames of the channel's helpers -/

@[simp] theorem State.get_finishAt (p : Option (Nat × Nat)) (status bytes detail : Nat) (g : Fld) :
    (s.finishAt p status bytes detail).get g = s.get g := by
  unfold State.finishAt
  split
  · rfl
  · split
    · exact State.get_finish ..
    · rfl

@[simp] theorem State.get_accept (d : Started) (g : Fld) : (s.accept d).get g = s.get g := rfl
@[simp] theorem State.get_fresh (g : Fld) : s.fresh.2.get g = s.get g := rfl
@[simp] theorem State.get_setCanCh (ch : CanCh) (g : Fld) : (s.setCanCh c ch).get g = s.get g := rfl
@[simp] theorem State.bit_setCanCh (ch : CanCh) (g : Fld) : (s.setCanCh c ch).bit g = s.bit g := rfl
@[simp] theorem State.canCh_setCanCh (ch : CanCh) : (s.setCanCh c ch).canCh c = ch := Sparse.get_put_self ..
@[simp] theorem State.canCh_set (f : Fld) (v : Nat) : (s.set f v).canCh c = s.canCh c := rfl
@[simp] theorem State.canCh_setB (f : Fld) (b : Bool) : (s.setB f b).canCh c = s.canCh c := rfl
@[simp] theorem State.canCh_bump (f : Fld) (k : Nat) : (s.bump f k).canCh c = s.canCh c := rfl
@[simp] theorem State.canCh_post (src data : Nat) : (s.post src data).canCh c = s.canCh c := rfl
@[simp] theorem State.canCh_send (m : Sent) : (s.send m).canCh c = s.canCh c := rfl

/-- What a descriptor's end leaves: everything but the ring unit's own records. -/
theorem State.finish_rest (d : Started) (status bytes detail : Nat) :
    (s.finish d status bytes detail).can = s.can ∧ (s.finish d status bytes detail).sent = s.sent := by
  unfold State.finish
  dsimp only
  split <;> exact ⟨rfl, rfl⟩

theorem State.finishAt_rest (p : Option (Nat × Nat)) (status bytes detail : Nat) :
    (s.finishAt p status bytes detail).can = s.can ∧ (s.finishAt p status bytes detail).sent = s.sent := by
  unfold State.finishAt
  split
  · exact ⟨rfl, rfl⟩
  · split
    · exact State.finish_rest ..
    · exact ⟨rfl, rfl⟩

@[simp] theorem State.get_canTell (src data : Nat) (g : Fld) : (s.canTell c src data).get g = s.get g := by
  unfold State.canTell
  extract_lets ch quiet
  cases quiet <;> rfl

/-! ## Error counters (R453) -/

/-- The error state that two counter values make. -/
def canStateOf (tec rec' : Nat) : Nat := if 255 < tec then 2 else if 127 < tec ∨ 127 < rec' then 1 else 0

/-- The two counters written, the state as it was. -/
def State.canCounters (s : State) (c tec rec' : Nat) : State :=
  (s.set (CAN.CH_STATUS.TEC c) (min tec 255)).set (CAN.CH_STATUS.REC c) (min rec' 255)

/-- The two counters and the state written, with source 184. -/
def State.canMoved (s : State) (c tec rec' : Nat) : State :=
  ((s.canCounters c tec rec').set (CAN.CH_STATUS.STATE c) (canStateOf tec rec')).post 184
    (c + 2 * canStateOf tec rec' + 8 * s.get (CAN.CH_STATUS.STATE c))

/-- The channel goes bus-off. -/
def State.canBusOff (s : State) (c : Nat) : State :=
  ((s.bump (CAN.CH_COUNTS.BUS_OFF c)).set (CAN.CH_STATUS.RECOVERY c) 0).setCanCh c { s.canCh c with offAt := s.now }

theorem State.canCount_eq (tec rec' : Nat) : s.canCount c tec rec' =
    if canStateOf tec rec' = s.get (CAN.CH_STATUS.STATE c) then s.canCounters c tec rec'
    else if canStateOf tec rec' = 2 then (s.canMoved c tec rec').canBusOff c else s.canMoved c tec rec' := rfl

theorem State.get_canCounters_ne (tec rec' : Nat) {g : Fld} (hT : g.id ≠ (CAN.CH_STATUS.TEC c).id)
    (hR : g.id ≠ (CAN.CH_STATUS.REC c).id) : (s.canCounters c tec rec').get g = s.get g := by
  simp [State.canCounters, hT, hR]

theorem State.get_canBusOff_ne {g : Fld} (hV : g.id ≠ (CAN.CH_STATUS.RECOVERY c).id)
    (hB : g.id ≠ (CAN.CH_COUNTS.BUS_OFF c).id) : (s.canBusOff c).get g = s.get g := by
  simp [State.canBusOff, hV, hB]

theorem State.get_canCount_ne (tec rec' : Nat) {g : Fld} (hT : g.id ≠ (CAN.CH_STATUS.TEC c).id)
    (hR : g.id ≠ (CAN.CH_STATUS.REC c).id) (hS : g.id ≠ (CAN.CH_STATUS.STATE c).id)
    (hV : g.id ≠ (CAN.CH_STATUS.RECOVERY c).id) (hB : g.id ≠ (CAN.CH_COUNTS.BUS_OFF c).id) :
    (s.canCount c tec rec').get g = s.get g := by
  have hcount := s.get_canCounters_ne c tec rec' hT hR
  have hmoved : (s.canMoved c tec rec').get g = s.get g := (State.get_set_ne _ _ hS).trans hcount
  rw [State.canCount_eq]
  split
  · exact hcount
  · split
    · exact (State.get_canBusOff_ne _ _ hV hB).trans hmoved
    · exact hmoved

theorem State.get_canCount_state (tec rec' : Nat) :
    (s.canCount c tec rec').get (CAN.CH_STATUS.STATE c) = canStateOf tec rec' := by
  have hmoved : (s.canMoved c tec rec').get (CAN.CH_STATUS.STATE c) = canStateOf tec rec' := by
    refine (State.get_set_self ..).trans (Nat.mod_eq_of_lt ?_)
    change canStateOf tec rec' < 4
    unfold canStateOf
    split_ifs <;> decide
  rw [State.canCount_eq]
  split
  case isTrue hsame =>
    rw [hsame]
    apply State.get_canCounters_ne <;>
    · simp only [Fld.id, CAN.CH_STATUS.TEC, CAN.CH_STATUS.REC, CAN.CH_STATUS.STATE]
      omega
  case isFalse =>
    split
    · rw [State.get_canBusOff_ne, hmoved] <;>
      · simp only [Fld.id, CAN.CH_STATUS.STATE, CAN.CH_STATUS.RECOVERY, CAN.CH_COUNTS.BUS_OFF]
        omega
    · exact hmoved

/-- A counter of the channel reads what the counting wrote to it. -/
theorem State.get_canCount_counter (tec rec' : Nat) {g : Fld} (hS : g.id ≠ (CAN.CH_STATUS.STATE c).id)
    (hV : g.id ≠ (CAN.CH_STATUS.RECOVERY c).id) (hB : g.id ≠ (CAN.CH_COUNTS.BUS_OFF c).id) :
    (s.canCount c tec rec').get g = (s.canCounters c tec rec').get g := by
  have hmoved : (s.canMoved c tec rec').get g = (s.canCounters c tec rec').get g := State.get_set_ne _ _ hS
  rw [State.canCount_eq]
  split
  · rfl
  · split
    · exact (State.get_canBusOff_ne _ _ hV hB).trans hmoved
    · exact hmoved

theorem State.get_canCount_rec (tec rec' : Nat) : (s.canCount c tec rec').get (CAN.CH_STATUS.REC c) = min rec' 255 := by
  rw [State.get_canCount_counter]
  · exact (State.get_set_self ..).trans (Nat.mod_eq_of_lt (show min rec' 255 < 256 by omega))
  all_goals
    simp only [Fld.id, CAN.CH_STATUS.REC, CAN.CH_STATUS.STATE, CAN.CH_STATUS.RECOVERY, CAN.CH_COUNTS.BUS_OFF]
    omega

theorem State.get_canCount_tec (tec rec' : Nat) : (s.canCount c tec rec').get (CAN.CH_STATUS.TEC c) = min tec 255 := by
  rw [State.get_canCount_counter, State.canCounters, State.get_set_ne]
  · exact (State.get_set_self ..).trans (Nat.mod_eq_of_lt (show min tec 255 < 256 by omega))
  all_goals
    simp only [Fld.id, CAN.CH_STATUS.TEC, CAN.CH_STATUS.REC, CAN.CH_STATUS.STATE, CAN.CH_STATUS.RECOVERY, CAN.CH_COUNTS.BUS_OFF]
    omega

theorem State.canCount_rest (tec rec' : Nat) : (s.canCount c tec rec').sent = s.sent ∧
    ∃ t, (s.canCount c tec rec').canCh c = { s.canCh c with offAt := t } := by
  rw [State.canCount_eq]
  split
  · exact ⟨rfl, _, rfl⟩
  · split
    · exact ⟨rfl, _, State.canCh_setCanCh ..⟩
    · exact ⟨rfl, _, rfl⟩

/-! ## Offering (R448, R455) -/

theorem State.canOffer_cases : s.canOffer c = s ∨ ∃ (f : CanTx) (ch : CanCh),
    s.canOffer c = (s.setCanCh c ch).set (CAN.MB_STAT.IN_TX c f.buf) 1 := by
  fun_cases State.canOffer s c
  · exact .inl rfl
  · exact .inl rfl
  · exact .inr ⟨_, _, rfl⟩

theorem State.get_canOffer {g : Fld} (h : ∀ b, g.id ≠ (CAN.MB_STAT.IN_TX c b).id) : (s.canOffer c).get g = s.get g := by
  obtain hsame | ⟨f, ch, hoffer⟩ := s.canOffer_cases c
  · rw [hsame]
  · rw [hoffer, State.get_set_ne _ _ (h _), State.get_setCanCh]

theorem State.get_canBus (free : Bool) {g : Fld} (h : ∀ b, g.id ≠ (CAN.MB_STAT.IN_TX c b).id) :
    (s.canBus c free).get g = s.get g := (State.get_canOffer _ c h).trans rfl

variable {s c}

theorem State.canOffer_idle (h : s.isDriving = false) : s.canOffer c = s := by simp [State.canOffer, h]

theorem State.canOffer_busy (h : (s.canCh c).busy = true) : s.canOffer c = s := by simp [State.canOffer, h]

theorem State.canOffer_empty (hq : (s.canCh c).queue = []) (hw : (s.canCh c).window = none) : s.canOffer c = s := by
  have hnext : s.canNext c = none := by simp [State.canNext, hq, hw, canHead]
  simp [State.canOffer, hnext]

/-! ## Reception (R442, R443) -/

theorem State.get_foldl_set_ne {l : List Nat} {F v : Nat → _} {g : Fld} (h : ∀ j, g.id ≠ (F j : Fld).id) (s : State) :
    (l.foldl (fun s j => s.set (F j) (v j)) s).get g = s.get g := by
  induction l generalizing s with
  | nil => rfl
  | cons j js ih => exact (ih _).trans (s.get_set_ne _ (h j))

theorem State.get_canReceived {g : Fld} (hT : g.id ≠ (CAN.CH_STATUS.TEC c).id)
    (hR : g.id ≠ (CAN.CH_STATUS.REC c).id) (hS : g.id ≠ (CAN.CH_STATUS.STATE c).id)
    (hV : g.id ≠ (CAN.CH_STATUS.RECOVERY c).id) (hB : g.id ≠ (CAN.CH_COUNTS.BUS_OFF c).id) :
    (s.canReceived c).get g = s.get g := by
  fun_cases State.canReceived s c
  case case1 r _ v s1 hfresh =>
    cases hfresh
    exact State.get_canCount_ne _ _ _ _ hT hR hS hV hB
  case case2 => exact State.get_canCount_ne _ _ _ _ hT hR hS hV hB

theorem State.tick_canCount (s : State) (tec rec' : Nat) : (s.canCount c tec rec').tick = s.tick := by
  rw [State.canCount_eq]
  split
  · rfl
  · split <;> rfl

theorem State.now_canReceived : (s.canReceived c).now = s.now := by
  fun_cases State.canReceived s c
  case case1 r _ v s1 hfresh =>
    cases hfresh
    exact congrArg BitVec.toNat (State.tick_canCount ..)
  case case2 => exact congrArg BitVec.toNat (State.tick_canCount ..)

/-- A frame's identifier, control word, tick and data in buffer `b`. -/
def State.canPut (s : State) (c b ident ctrl : Nat) (bytes : List Nat) : State :=
  (List.range 16).foldl (fun s j => s.set (CAN.MB_DATA.DATA c b j) (leAt bytes (4 * j) 4))
    (((s.set (CAN.MB_ID.ID c b) ident).set (CAN.MB_CTRL.CTRL c b) ctrl).set2 (CAN.MB_TICK_LO.TICK c b)
      (CAN.MB_TICK_HI.TICK c b) s.now)

/-- The buffer's status after a frame: SEQ, NEW, OVERWRITTEN, and the source that tells of it. -/
def State.canMarked (s : State) (c b : Nat) : State :=
  let s' := (s.wrap (CAN.MB_STAT.SEQ c b)).set (CAN.MB_STAT.NEW c b) 1
  let t := if s.bit (CAN.MB_STAT.NEW c b) then (s'.set (CAN.MB_STAT.OVERWRITTEN c b) 1).canTell c 186 (c + 256 * b) else s'
  if t.bit (CAN.MB_CFG.NOTIFY c b) then t.post 192 (c + 256 * b) else t

theorem State.canStore_eq (s : State) (c b ident dlc : Nat) (esi : Bool) (data : List Nat) :
    ∃ ctrl bytes, s.canStore c b ident dlc esi data = (s.fresh.2.canPut c b ident ctrl bytes).canMarked c b := ⟨_, _, rfl⟩

theorem State.get_canMarked (s : State) (c b : Nat) {g : Fld} (hg : g.id ≠ (CAN.MB_STAT.OVERWRITTEN c b).id) :
    (s.canMarked c b).get g = ((s.wrap (CAN.MB_STAT.SEQ c b)).set (CAN.MB_STAT.NEW c b) 1).get g := by
  unfold State.canMarked
  extract_lets s' t
  have ht : t.get g = s'.get g := by
    simp only [t]
    split
    · rw [State.get_canTell, State.get_set_ne _ _ hg]
    · rfl
  split
  · rw [State.get_post, ht]
  · exact ht

/-- What a frame stored in buffer `b` leaves in the buffer's registers. -/
theorem State.canStore_reads (s : State) (c b ident dlc : Nat) (esi : Bool) (data : List Nat) (hident : ident < 2 ^ 32) :
    (s.canStore c b ident dlc esi data).get (CAN.MB_ID.ID c b) = ident ∧
    (s.canStore c b ident dlc esi data).get2 (CAN.MB_TICK_LO.TICK c b) (CAN.MB_TICK_HI.TICK c b) = s.now ∧
    (s.canStore c b ident dlc esi data).bit (CAN.MB_STAT.NEW c b) = true ∧
    (s.canStore c b ident dlc esi data).get (CAN.MB_STAT.SEQ c b) =
      (s.get (CAN.MB_STAT.SEQ c b) + 1) % 2 ^ (CAN.MB_STAT.SEQ c b).w := by
  obtain ⟨ctrl, bytes, hstore⟩ := s.canStore_eq c b ident dlc esi data
  have hget (g : Fld) (hg : g.id ≠ (CAN.MB_STAT.OVERWRITTEN c b).id) : (s.canStore c b ident dlc esi data).get g =
      (((s.fresh.2.canPut c b ident ctrl bytes).wrap (CAN.MB_STAT.SEQ c b)).set (CAN.MB_STAT.NEW c b) 1).get g := by
    rw [hstore]
    exact State.get_canMarked _ _ _ hg
  have hdata (g : Fld) (hg : ∀ j, g.id ≠ (CAN.MB_DATA.DATA c b j).id) : (s.fresh.2.canPut c b ident ctrl bytes).get g =
      ((((s.fresh.2.set (CAN.MB_ID.ID c b) ident).set (CAN.MB_CTRL.CTRL c b) ctrl).set2 (CAN.MB_TICK_LO.TICK c b)
      (CAN.MB_TICK_HI.TICK c b) s.now)).get g := State.get_foldl_set_ne hg _
  refine ⟨?_, ?_, ?_, ?_⟩
  · have hid : ident % 2 ^ (CAN.MB_ID.ID c b).w = ident := Nat.mod_eq_of_lt hident
    rw [hget, State.get_set_ne, State.get_wrap_ne, hdata, State.get_set2_ne, State.get_set_ne, State.get_set_self, hid] <;>
    simp only [Fld.id, CAN.MB_ID.ID, CAN.MB_STAT.OVERWRITTEN, CAN.MB_STAT.NEW, CAN.MB_STAT.SEQ, CAN.MB_DATA.DATA,
      CAN.MB_TICK_LO.TICK, CAN.MB_TICK_HI.TICK, CAN.MB_CTRL.CTRL] <;>
    omega
  · have hlo : (s.canStore c b ident dlc esi data).get (CAN.MB_TICK_LO.TICK c b) = s.now % 2 ^ 32 := by
      rw [hget, State.get_set_ne, State.get_wrap_ne, hdata, State.set2, State.get_set_ne, State.get_set_self] <;>
      simp only [Fld.id, CAN.MB_STAT.OVERWRITTEN, CAN.MB_STAT.NEW, CAN.MB_STAT.SEQ, CAN.MB_DATA.DATA,
        CAN.MB_TICK_LO.TICK, CAN.MB_TICK_HI.TICK] <;>
      omega
    have hhi : (s.canStore c b ident dlc esi data).get (CAN.MB_TICK_HI.TICK c b) = s.now / 2 ^ 32 % 2 ^ 32 := by
      rw [hget, State.get_set_ne, State.get_wrap_ne, hdata, State.set2, State.get_set_self] <;>
      simp only [Fld.id, CAN.MB_STAT.OVERWRITTEN, CAN.MB_STAT.NEW, CAN.MB_STAT.SEQ, CAN.MB_DATA.DATA,
        CAN.MB_TICK_LO.TICK, CAN.MB_TICK_HI.TICK] <;>
      omega
    have hnow : s.now < 2 ^ 64 := s.tick.isLt
    rw [State.get2, hlo, hhi]
    change s.now % 2 ^ 32 + s.now / 2 ^ 32 % 2 ^ 32 * 2 ^ 32 = s.now
    omega
  · refine (State.bit_congr _ _ (hget _ ?_)).trans (State.bit_set_one _ _ Nat.le.refl)
    simp only [Fld.id, CAN.MB_STAT.OVERWRITTEN, CAN.MB_STAT.NEW]
    omega
  · rw [hget, State.get_set_ne, State.get_wrap_self, hdata, State.get_set2_ne, State.get_set_ne, State.get_set_ne,
      State.get_fresh] <;>
    simp only [Fld.id, CAN.MB_ID.ID, CAN.MB_STAT.OVERWRITTEN, CAN.MB_STAT.NEW, CAN.MB_STAT.SEQ, CAN.MB_DATA.DATA,
      CAN.MB_TICK_LO.TICK, CAN.MB_TICK_HI.TICK, CAN.MB_CTRL.CTRL] <;>
    omega

/-! ## A frame received -/

variable {ident : Nat} {dlc : Nat} {esi : Bool} {data : List Nat}

/-- The buffer that accepts a frame is the same after the reception has been counted. -/
theorem State.canAccepts_canReceived : (s.canReceived c).canAccepts c ident = s.canAccepts c ident := by
  unfold State.canAccepts
  congr 1
  funext b
  simp only [State.bit]
  rw [State.get_canReceived, State.get_canReceived, State.get_canReceived, State.get_canReceived] <;>
  simp only [Fld.id, CAN.MB_CFG.MODE, CAN.MB_CFG.IDE, CAN.MB_FILTER.ID, CAN.MB_MASK.MASK, CAN.CH_STATUS.TEC,
    CAN.CH_STATUS.REC, CAN.CH_STATUS.STATE, CAN.CH_STATUS.RECOVERY, CAN.CH_COUNTS.BUS_OFF] <;>
  omega

theorem State.canFrame_stored {b : Nat} (hon : s.canOn c = true) (hstate : s.get (CAN.CH_STATUS.STATE c) ≠ 2)
    (hfd : idFdf ident = false) (hacc : s.canAccepts c ident = some b) (hmode : s.get (CAN.MB_CFG.MODE c b) = 1) :
    s.canFrame c ident dlc esi false data = ((s.canReceived c).canStore c b ident dlc esi data).canBus c true := by
  have hmode' : (s.canReceived c).get (CAN.MB_CFG.MODE c b) = 1 := by
    rw [State.get_canReceived, hmode] <;>
    simp only [Fld.id, CAN.MB_CFG.MODE, CAN.CH_STATUS.TEC, CAN.CH_STATUS.REC, CAN.CH_STATUS.STATE, CAN.CH_STATUS.RECOVERY,
      CAN.CH_COUNTS.BUS_OFF] <;>
    omega
  simp [State.canFrame, hon, hstate, hfd, State.canAccepts_canReceived, hacc, hmode']

theorem State.canFrame_unmatched (hon : s.canOn c = true) (hstate : s.get (CAN.CH_STATUS.STATE c) ≠ 2)
    (hfd : idFdf ident = false) (hacc : s.canAccepts c ident = none) :
    s.canFrame c ident dlc esi false data = ((s.canReceived c).bump (CAN.CH_RX_DROP.UNMATCHED c)).canBus c true := by
  simp [State.canFrame, hon, hstate, hfd, State.canAccepts_canReceived, hacc]

/-! ## The end of an attempt (R448, R449) -/

variable {f : CanTx}

theorem State.canEnd_idle (result lec : Nat) (same : Bool) (h : (s.canCh c).inTx = none) : s.canEnd c result lec same = s := by
  simp [State.canEnd, h]

theorem State.canEnd_lost_once (lec : Nat) (same : Bool) (htx : (s.canCh c).inTx = some f.buf) (hq : (s.canCh c).queue = [f])
    (hb : (s.canCh c).behind = []) (hkill : f.kill = false) (honce : f.once = true) :
    s.canEnd c 1 lec same = ((s.setCanCh c { s.canCh c with inTx := none, busy := true }).set
      (CAN.MB_STAT.IN_TX c f.buf) 0).canFinish c f 0x30 0 1 := by
  simp [State.canEnd, htx, hq, hb, State.canFailed, hkill, honce]

/-- The channel after the frame's attempt has succeeded: the frame is sent and the counters follow. -/
def State.canSent (s : State) (c : Nat) (f : CanTx) : State :=
  let t := (s.setCanCh c { s.canCh c with inTx := none, busy := false }).set (CAN.MB_STAT.IN_TX c f.buf) 0
  (t.send (.can c [f.ident, f.dlc, b2n (s.get (CAN.CH_STATUS.STATE c) == 1)] f.data)).canCount c
    (t.get (CAN.CH_STATUS.TEC c) - 1) (t.get (CAN.CH_STATUS.REC c))

theorem State.canCh_canSent : ∃ t, (s.canSent c f).canCh c = { s.canCh c with inTx := none, busy := false, offAt := t } := by
  obtain ⟨-, t, hch⟩ := State.canCount_rest ((((s.setCanCh c { s.canCh c with inTx := none, busy := false }).set
    (CAN.MB_STAT.IN_TX c f.buf) 0).send (.can c [f.ident, f.dlc, b2n (s.get (CAN.CH_STATUS.STATE c) == 1)] f.data))) c _ _
  exact ⟨t, hch.trans (by simp)⟩

theorem State.canEnd_sent (lec : Nat) (same : Bool) (htx : (s.canCh c).inTx = some f.buf) (hq : (s.canCh c).queue = [f])
    (hw : (s.canCh c).window = none) (hkill : f.kill = false) : s.canEnd c 0 lec same =
      (((s.canSent c f).setCanCh c { (s.canSent c f).canCh c with window := none }).canFinish c f 0 f.data.length
        f.tries).canOffer c := by
  have hstate : (CAN.CH_STATUS.STATE c).id ≠ (CAN.MB_STAT.IN_TX c f.buf).id := by
    simp only [Fld.id, CAN.CH_STATUS.STATE, CAN.MB_STAT.IN_TX]
    omega
  obtain ⟨k, hch⟩ := s.canCh_canSent (c := c) (f := f)
  unfold State.canEnd
  extract_lets ch
  have hfind : (ch.inTx.bind fun b => ch.queue.find? fun g => g.buf == b) = some f := by simp [ch, htx, hq]
  rw [hfind]
  dsimp -zeta only
  extract_lets t tec rec' body esi u ch' win v _
  have hbody : body = f.data := by simp [body, t, ch, State.canBody, hw]
  have hesi : esi = b2n (s.get (CAN.CH_STATUS.STATE c) == 1) := by simp [esi, t, hstate]
  have hu : u = s.canSent c f := by
    simp only [u, hbody, hesi]
    rfl
  have hwin : win = none := by simp [win, ch', hu, hch, hw]
  change (if f.kill = true then _ else v.canFinish c f 0 body.length f.tries).canOffer c = _
  simp only [hkill, Bool.false_eq_true, if_false, v, hwin, hbody, ch', hu]
  rfl

/-! ## Expiry, recovery, windows -/

theorem State.txExpired_queued {b : Nat} (hq : (s.canCh c).queue = [f]) (hbuf : f.buf = b) (htx : (s.canCh c).inTx = none)
    (hlate : s.canLate f = true) : s.txExpired c b = s.canExpire c f := by
  simp [State.txExpired, htx, hq, hbuf, hlate]

theorem State.txExpired_behind {b : Nat} (hq : (s.canCh c).behind = [f]) (hbuf : f.buf = b) (htx : (s.canCh c).inTx = some b)
    (hlate : s.canLate f = true) : s.txExpired c b = (((s.bump (CAN.CH_COUNTS.EXPIRED c)).post 188 (c + 256 * b)).setCanCh c
        { s.canCh c with behind := [] }).finishAt (some (f.ring, f.idx)) 0x31 := by
  simp [State.txExpired, State.expireBehind, htx, hq, hbuf, hlate]

theorem canStateOf_zero : canStateOf 0 0 = 0 := rfl

theorem State.canRecover_early (h : s.now < s.recoverFrom c) : s.canRecover c = s := by simp [State.canRecover, h]

theorem State.canRecover_due (hon : s.canOn c = true) (hoff : s.get (CAN.CH_STATUS.STATE c) = 2) (hdue : s.recoverFrom c ≤ s.now) :
    s.canRecover c = ((s.set (CAN.CH_STATUS.RECOVERY c) 128).canCount c 0 0).canBus c true := by
  simp [State.canRecover, hon, hoff, Nat.not_lt.2 hdue]

theorem State.canIntegrate_listening (hon : s.canOn c = true) (hdrv : s.isDriving = true)
    (hlisten : s.bit (CAN.CH_STATUS.LISTEN_ONLY c) = true) :
    s.canIntegrate c = ((s.set (CAN.CH_STATUS.LISTEN_ONLY c) 0).canCount c 0 0).canBus c true := by
  simp [State.canIntegrate, hon, hdrv, hlisten]

/-- The channel's status reads what the counting wrote, whatever is offered after it. -/
theorem State.canBus_status (tec rec' : Nat) (free : Bool) :
    ((s.canCount c tec rec').canBus c free).get (CAN.CH_STATUS.STATE c) = canStateOf tec rec' ∧
    ((s.canCount c tec rec').canBus c free).get (CAN.CH_STATUS.TEC c) = min tec 255 ∧
    ((s.canCount c tec rec').canBus c free).get (CAN.CH_STATUS.REC c) = min rec' 255 := by
  rw [State.get_canBus, State.get_canBus, State.get_canBus]
  · exact ⟨s.get_canCount_state c tec rec', s.get_canCount_tec c tec rec', s.get_canCount_rec c tec rec'⟩
  all_goals
    simp only [Fld.id, CAN.CH_STATUS.STATE, CAN.CH_STATUS.TEC, CAN.CH_STATUS.REC, CAN.MB_STAT.IN_TX]
    omega

theorem State.canRxError_counts (lec : Nat) (eight : Bool) (hon : s.canOn c = true) (hstate : s.get (CAN.CH_STATUS.STATE c) ≠ 2) :
    s.canRxError c lec eight = ((s.canError c lec false).canCount c ((s.canError c lec false).get (CAN.CH_STATUS.TEC c))
      ((s.canError c lec false).get (CAN.CH_STATUS.REC c) + (if eight then 8 else 1))).canBus c true := by
  simp [State.canRxError, hon, hstate]

theorem State.get_canError {lec : Nat} {g : Fld} (hL : g.id ≠ (CAN.CH_STATUS.LEC c).id) (hE : g.id ≠ (CAN.CH_ERRORS.RX_ERR c).id) :
    (s.canError c lec false).get g = s.get g := by
  simp [State.canError, hL, hE]

theorem State.get_canError_lec {lec : Nat} : (s.canError c lec false).get (CAN.CH_STATUS.LEC c) = lec % 16 := by
  have hE : (CAN.CH_STATUS.LEC c).id ≠ (CAN.CH_ERRORS.RX_ERR c).id := by
    simp only [Fld.id, CAN.CH_STATUS.LEC, CAN.CH_ERRORS.RX_ERR]
    omega
  simp only [State.canError, State.get_canTell, Bool.false_eq_true, if_false, State.get_bump_ne _ _ hE, State.get_set_self]
  rfl

variable {m : CanSched} {w : Nat}

theorem State.windowOpen_busy (hon : s.canOn c = true) (hm : (s.canCh c).sched = some m) (hlen : w < m.windows.length)
    (hs : s.schedOn c = true) (hkind : m.kind (s.get (CAN.CH_TT_STATUS.CYCLE c)) w ≠ 0) (htx : (s.canCh c).inTx = none)
    (hfrom : (s.canCh c).start + (m.windows.getD w (0, 0)).1 ≤ s.now)
    (hto : s.now < (s.canCh c).start + (m.windows.getD w (0, 0)).1 + (m.windows.getD w (0, 0)).2) :
    s.windowOpen c w false = (s.setCanCh c { s.canCh c with window := some (w, 0) }).setCanCh c
      { s.canCh c with window := some (w, 0), busy := true } := by
  have hoffer : s.windowOpen c w false = (s.setCanCh c { s.canCh c with window := some (w, 0) }).canBus c false := by
    simp [State.windowOpen, hon, hm, hs, hkind, htx, hfrom, hto, Nat.not_le.2 hlen, -List.getD_eq_getElem?_getD]
  rw [hoffer, State.canBus, State.canOffer_busy (by simp), State.canCh_setCanCh]
  rfl

theorem State.windowClose_early (hm : (s.canCh c).sched = some m)
    (h : s.now < (s.canCh c).start + (m.windows.getD w (0, 0)).1 + (m.windows.getD w (0, 0)).2) : s.windowClose c w = s := by
  simp [State.windowClose, hm, h, -List.getD_eq_getElem?_getD]

theorem State.windowClose_missed (hm : (s.canCh c).sched = some m) (hw : (s.canCh c).window = some (w, 0))
    (hq : (s.canCh c).queue = [f]) (hbuf : f.buf = m.buffer (s.get (CAN.CH_TT_STATUS.CYCLE c)) w)
    (hlisten : s.bit (CAN.CH_STATUS.LISTEN_ONLY c) = false) (hstate : s.get (CAN.CH_STATUS.STATE c) ≠ 2)
    (hdue : (s.canCh c).start + (m.windows.getD w (0, 0)).1 + (m.windows.getD w (0, 0)).2 ≤ s.now) :
    s.windowClose c w = ((((s.setCanCh c { s.canCh c with window := none }).bump
      (CAN.CH_TT_STATUS.MISSED c)).post 190 (c + 256 * s.get (CAN.CH_TT_STATUS.CYCLE c) + 65536 * w + 2 ^ 24 * 1)).canOffer c) := by
  unfold State.windowClose
  simp only [hm, Option.map_some, Option.getD_some, Nat.not_lt.2 hdue, if_false]
  simp [State.windowEnd, hm, hw, hq, hbuf, hlisten, hstate]

theorem State.get_canFinish {status bytes detail : Nat} {g : Fld} (h : g.id ≠ (CAN.MB_STAT.QUEUED c f.buf).id) :
    (s.canFinish c f status bytes detail).get g = s.get g := by
  unfold State.canFinish
  exact (State.get_finishAt ..).trans (State.get_setB_ne _ _ h)

theorem State.canFinish_last {status bytes detail : Nat} (hq : (s.canCh c).queue = [f]) (hb : (s.canCh c).behind = []) :
    ((s.canFinish c f status bytes detail).canCh c).queue = [] ∧
    ((s.canFinish c f status bytes detail).canCh c).inTx = (s.canCh c).inTx ∧
    ((s.canFinish c f status bytes detail).canCh c).window = (s.canCh c).window ∧
    (s.canFinish c f status bytes detail).bit (CAN.MB_STAT.QUEUED c f.buf) = false ∧
    (s.canFinish c f status bytes detail).sent = s.sent := by
  have hlast : s.canFinish c f status bytes detail = ((s.setCanCh c { s.canCh c with queue := [], behind := [] }).setB
      (CAN.MB_STAT.QUEUED c f.buf) false).finishAt (some (f.ring, f.idx)) status bytes detail := by
    simp [State.canFinish, State.canQueued, hq, hb]
  obtain ⟨hcan, hsent⟩ := State.finishAt_rest ((s.setCanCh c { s.canCh c with queue := [], behind := [] }).setB
    (CAN.MB_STAT.QUEUED c f.buf) false) (some (f.ring, f.idx)) status bytes detail
  have hch : (s.canFinish c f status bytes detail).canCh c = { s.canCh c with queue := [], behind := [] } := by
    rw [hlast, State.canCh, hcan]
    exact State.canCh_setCanCh ..
  rw [hch, hlast]
  refine ⟨rfl, rfl, rfl, ?_, hsent⟩
  · exact (State.bit_congr _ _ (State.get_finishAt ..)).trans (State.bit_setB_self _ _ _ Nat.le.refl)

/-- A successful attempt of the only frame sends it and empties its buffer. -/
theorem State.canEnd_sends (lec : Nat) (same : Bool) (htx : (s.canCh c).inTx = some f.buf) (hq : (s.canCh c).queue = [f])
    (hb : (s.canCh c).behind = []) (hw : (s.canCh c).window = none) (hkill : f.kill = false) :
    (s.canEnd c 0 lec same).sent = s.sent ++ [.can c [f.ident, f.dlc, b2n (s.get (CAN.CH_STATUS.STATE c) == 1)] f.data] ∧
    ((s.canEnd c 0 lec same).canCh c).inTx = none ∧ ((s.canEnd c 0 lec same).canCh c).queue = [] ∧
    (s.canEnd c 0 lec same).bit (CAN.MB_STAT.IN_TX c f.buf) = false ∧
    (s.canEnd c 0 lec same).bit (CAN.MB_STAT.QUEUED c f.buf) = false := by
  obtain ⟨k, hch⟩ := s.canCh_canSent (c := c) (f := f)
  have hsent : (s.canSent c f).sent =
      s.sent ++ [.can c [f.ident, f.dlc, b2n (s.get (CAN.CH_STATUS.STATE c) == 1)] f.data] := (State.canCount_rest ..).1
  have htxoff : (s.canSent c f).get (CAN.MB_STAT.IN_TX c f.buf) = 0 := by
    unfold State.canSent
    dsimp only
    rw [State.get_canCount_ne, State.get_send, State.get_set_self, Nat.zero_mod] <;>
    simp only [Fld.id, CAN.MB_STAT.IN_TX, CAN.CH_STATUS.TEC, CAN.CH_STATUS.REC, CAN.CH_STATUS.STATE,
      CAN.CH_STATUS.RECOVERY, CAN.CH_COUNTS.BUS_OFF] <;>
    omega
  rw [State.canEnd_sent lec same htx hq hw hkill]
  generalize s.canSent c f = u at hch hsent htxoff
  obtain ⟨hqueue, hin, hwin, hqueued, hsame⟩ := State.canFinish_last (s := u.setCanCh c { u.canCh c with window := none }) (c := c) (f := f)
    (status := 0) (bytes := f.data.length) (detail := f.tries) (by simp [hch, hq]) (by simp [hch, hb])
  rw [State.canOffer_empty hqueue (by rw [hwin, State.canCh_setCanCh])]
  refine ⟨hsame.trans hsent, by rw [hin, State.canCh_setCanCh, hch], hqueue, ?_, hqueued⟩
  rw [State.bit, State.get_canFinish, State.get_setCanCh, htxoff]
  · rfl
  · simp only [Fld.id, CAN.MB_STAT.IN_TX, CAN.MB_STAT.QUEUED]
    omega

end Can

open State in
/-- Settles O51: each row of the bus is one of the channel's lemmas above. -/
theorem canBus : Obligations.CanBus := by
  unfold Obligations.CanBus
  intro s c hon
  refine ⟨?_, ?_, ?_, ?_, ?_, fun free => rfl, ?_, ?_, ?_, ?_, ?_, ?_, ?_⟩
  · intro ident b dlc esi data hdrv hstate hident hfd hacc hmode
    have hframe := State.canFrame_stored (dlc := dlc) (esi := esi) (data := data) hon hstate hfd hacc hmode
    obtain ⟨hid, htick, hnew, hseq⟩ := (s.canReceived c).canStore_reads c b ident dlc esi data hident
    have hseen (g : Fld) (hg : ∀ k, g.id ≠ (CAN.MB_STAT.IN_TX c k).id) :
        (s.canFrame c (ident % 2 ^ 32) dlc esi false data).get g = ((s.canReceived c).canStore c b ident dlc esi data).get g := by
      rw [Nat.mod_eq_of_lt hident, hframe, get_canBus _ _ _ hg]
    refine ⟨_, State.done_eq rfl, ?_, ?_, ?_, ?_⟩
    · rw [hseen, hid]
      simp only [Fld.id, CAN.MB_ID.ID, CAN.MB_STAT.IN_TX]
      omega
    · rw [← now_canReceived (s := s) (c := c), ← htick, get2, get2, hseen, hseen] <;>
      simp only [Fld.id, CAN.MB_TICK_LO.TICK, CAN.MB_TICK_HI.TICK, CAN.MB_STAT.IN_TX] <;>
      omega
    · rw [bit, hseen]
      · exact hnew
      · simp only [Fld.id, CAN.MB_STAT.NEW, CAN.MB_STAT.IN_TX]
        omega
    · rw [hseen, hseq, get_canReceived] <;>
      simp only [Fld.id, CAN.MB_STAT.SEQ, CAN.MB_STAT.IN_TX, CAN.CH_STATUS.TEC, CAN.CH_STATUS.REC, CAN.CH_STATUS.STATE,
        CAN.CH_STATUS.RECOVERY, CAN.CH_COUNTS.BUS_OFF] <;>
      omega
  · intro ident dlc esi data hdrv hstate hident hfd hacc
    have hframe := canFrame_unmatched (dlc := dlc) (esi := esi) (data := data) hon hstate hfd hacc
    refine ⟨_, State.done_eq ((congrArg (s.canFrame c · dlc esi false data) (Nat.mod_eq_of_lt hident)).trans hframe), ?_⟩
    rw [get_canBus, get_bump_self, get_canReceived] <;>
    simp only [Fld.id, CAN.CH_RX_DROP.UNMATCHED, CAN.MB_STAT.IN_TX, CAN.CH_STATUS.TEC, CAN.CH_STATUS.REC, CAN.CH_STATUS.STATE,
      CAN.CH_STATUS.RECOVERY, CAN.CH_COUNTS.BUS_OFF] <;>
    omega
  · intro f lec same htx hq hb hw hkill
    exact ⟨_, State.done_eq rfl, canEnd_sends lec same htx hq hb hw hkill⟩
  · intro f lec same htx hq hb hkill honce
    exact State.done_eq (canEnd_lost_once lec same htx hq hb hkill honce)
  · intro htx k lec same
    exact State.done_eq (canEnd_idle k lec same htx)
  · intro f b hq hbuf htx hlate
    exact State.done_eq (txExpired_queued hq hbuf htx hlate)
  · intro f b hq hbuf htx hlate
    exact State.done_eq (txExpired_behind hq hbuf htx hlate)
  · intro hoff hdue
    exact ⟨_, State.done_eq (canRecover_due hon hoff hdue), canBus_status 0 0 true⟩
  · intro hearly
    exact State.done_eq (canRecover_early hearly)
  · intro hdrv hlisten
    refine ⟨_, State.done_eq (canIntegrate_listening hon hdrv hlisten), ?_, canBus_status 0 0 true⟩
    rw [bit, get_canBus, get_canCount_ne, get_set_self]
    · rfl
    all_goals
      simp only [Fld.id, CAN.CH_STATUS.LISTEN_ONLY, CAN.MB_STAT.IN_TX, CAN.CH_STATUS.TEC, CAN.CH_STATUS.REC, CAN.CH_STATUS.STATE,
        CAN.CH_STATUS.RECOVERY, CAN.CH_COUNTS.BUS_OFF]
      omega
  · intro lec eight hstate
    refine ⟨_, State.done_eq (canRxError_counts lec eight hon hstate), ?_, ?_⟩
    · rw [get_canBus, get_canCount_ne, get_canError_lec, Nat.mod_eq_of_lt (by omega)] <;>
      simp only [Fld.id, CAN.CH_STATUS.LEC, CAN.MB_STAT.IN_TX, CAN.CH_STATUS.TEC, CAN.CH_STATUS.REC, CAN.CH_STATUS.STATE,
        CAN.CH_STATUS.RECOVERY, CAN.CH_COUNTS.BUS_OFF] <;>
      omega
    · obtain ⟨-, -, hrec⟩ := (s.canError c lec false).canBus_status (c := c) ((s.canError c lec false).get (CAN.CH_STATUS.TEC c))
        ((s.canError c lec false).get (CAN.CH_STATUS.REC c) + (if eight then 8 else 1)) true
      rw [hrec, get_canError] <;>
      simp only [Fld.id, CAN.CH_STATUS.REC, CAN.CH_STATUS.LEC, CAN.CH_ERRORS.RX_ERR] <;>
      omega
  · intro w m hm hlen
    refine ⟨fun hs hkind htx hfrom hto => ?_, fun f hw hq hbuf hlisten hstate hdue => ?_, fun hearly => ?_⟩
    · exact ⟨_, State.done_eq (windowOpen_busy hon hm hlen hs hkind htx hfrom hto), by simp, by simp, by simp, rfl⟩
    · exact State.done_eq (windowClose_missed hm hw hq hbuf hlisten hstate hdue)
    · exact State.done_eq (windowClose_early hm hearly)

end Sys2Proof.Machine
end

/-! PROOFS. The change-capture engine (spec/15): samples, segments, the archive, and O52. -/
section

namespace Sys2Proof.Machine

section Acquisition

variable {s s' s1 s2 : State} {j : AcqJob} {d : Started} {pulses took : Nat}

/-! ## The queue (R464) and the registers that show the CAPTURE -/

theorem State.acqLevel_cases (s : State) (j : AcqJob) : s.acqLevel j = (s.setJob j).set ACQ.QUEUE.LEVEL j.queue.length ∨
    s.acqLevel j = ((s.setJob j).set ACQ.QUEUE.LEVEL j.queue.length).set ACQ.QUEUE.PEAK j.queue.length := by
  unfold State.acqLevel
  dsimp only
  split
  · exact .inr rfl
  · exact .inl rfl

theorem State.get_acqLevel {g : Fld} (hl : g.id ≠ ACQ.QUEUE.LEVEL.id) (hp : g.id ≠ ACQ.QUEUE.PEAK.id) :
    (s.acqLevel j).get g = s.get g := by
  obtain h | h := s.acqLevel_cases j
  · rw [h, State.get_set_ne _ _ hl]
    rfl
  · rw [h, State.get_set_ne _ _ hp, State.get_set_ne _ _ hl]
    rfl

theorem State.acqLevel_rest (s : State) (j : AcqJob) : (s.acqLevel j).acq = { s.acq with job := some j } ∧
    (s.acqLevel j).rng = s.rng ∧ (s.acqLevel j).tick = s.tick := by
  obtain h | h := s.acqLevel_cases j <;> rw [h] <;> exact ⟨rfl, rfl, rfl⟩

@[simp] theorem State.acq_acqShow : (s.acqShow j).acq = s.acq := rfl

theorem State.acqDrain_empty (all : Bool) (n : Nat) (h : j.queue = []) : s.acqDrain j all n = (s, j, none) := by
  cases n with
  | zero => rfl
  | succ n => simp [State.acqDrain, h]

theorem State.fires_acqLevel (y x : Nat) : (s.acqLevel j).fires y x = s.fires y x := by
  have hmatch (z : Nat) : (s.acqLevel j).matches z = s.matches z := by
    simp (disch := decide) only [State.matches, State.trigValue, State.trigCare, State.get2, State.get_acqLevel]
  have hedge : (s.acqLevel j).bit ACQ.TRIG_CFG.QUAL_EDGE = s.bit ACQ.TRIG_CFG.QUAL_EDGE :=
    State.bit_congr _ _ (State.get_acqLevel (by decide) (by decide))
  unfold State.fires
  rw [State.get_acqLevel (by decide) (by decide), State.get_acqLevel (by decide) (by decide), hedge, hmatch, hmatch]

theorem State.acqFree_acqLevel (k : AcqJob) : (s.acqLevel j).acqFree k = s.acqFree k := by
  simp (disch := decide) only [State.acqFree, State.get_acqLevel]

/-! ## Samples (R463, R465) -/

theorem State.acqStep_samples (hjob : s.acq.job = some j) (hq : j.queue = []) (hon : s.domOn 7 = true)
    (hsampled : s.acq.sampled ≠ some s.now) : s.acqStep pulses took = (s.acqLevel j).takeSample j (s.sample pulses) := by
  simp [State.acqStep, hjob, hon, hsampled, State.acqDrain_empty _ _ hq]

theorem State.acqStep_idle (hjob : s.acq.job = none) : s.acqStep pulses took = s := by simp [State.acqStep, hjob]

/-- The engine after sample `x` has been taken, before what it makes of it. -/
def State.acqSampled (s : State) (x : Nat) : State := s.setAcq { s.acq with prev := x, sampled := some s.now }

@[simp] theorem State.acq_acqSampled (x : Nat) :
    (s.acqSampled x).acq = { s.acq with prev := x, sampled := some s.now } := rfl
@[simp] theorem State.now_acqSampled (x : Nat) : (s.acqSampled x).now = s.now := rfl

theorem State.takeSample_records {x : Nat} (hend : j.ended = none) (hgap : j.gap = none) (hnew : x ≠ s.acq.prev)
    (hroom : j.queue.length < 512) : s.takeSample j x = (s.acqSampled x).storeRecord j x (s.fires s.acq.prev x) := by
  simp [State.takeSample, hend, hgap, hnew, Nat.not_le.2 hroom, State.acqSampled]

theorem State.takeSample_closes {x : Nat} (hend : j.ended = none) (hgap : j.gap.isSome = true) (hfree : s.acqFree j = true) :
    s.takeSample j x = (s.acqSampled x).gapClose j x (s.fires s.acq.prev x) := by
  have hfree' : (s.setAcq { s.acq with prev := x, sampled := some s.now }).acqFree j = true := hfree
  simp only [State.takeSample, hend, hgap, hfree', Option.isSome_none, Bool.false_eq_true, if_false, Bool.and_self, if_true]
  rfl

theorem State.storeRecord_plain {x : Nat} (htrig : j.trig = none) (hforce : j.force = false) (hlate : j.late = false) :
    s.storeRecord j x false =
      (s.acqLevel { j with stored := j.stored + 1, queue := j.queue ++ [(j.stored, s.now, x)], first := false }).acqShow
        { j with stored := j.stored + 1, queue := j.queue ++ [(j.stored, s.now, x)], first := false } := by
  simp [State.storeRecord, htrig, hforce, hlate]

/-! ## Segments (R467, R469, R470) -/

theorem State.segmentDone_next (hq : j.queue = []) (hmore : j.seg + 1 < j.segs)
    (hw : s.write (s.acqVia j) (j.summ + 64 * j.seg) (s.summary j false) = (s', .ok ())) :
    s.segmentDone j = (((s'.acqLevel { j with written := true, done := j.done + 1 }).post 201
      (j.seg + 65536 * ((s.summary j false).getD 2 0 % 8)))).acqShow { j with written := true, done := j.done + 1 } := by
  have hlast : ¬ j.segs ≤ j.seg + 1 := Nat.not_le.2 hmore
  unfold State.segmentDone
  rw [State.acqDrain_empty _ _ hq]
  dsimp only
  rw [hw]
  exact if_neg hlast

theorem State.segmentEnd_ended {t : Nat} (hjob : s.acq.job = some j) (hend : j.ended = some t) (hw : j.written = false) :
    s.segmentEnd = s.segmentDone j := by
  simp [State.segmentEnd, hjob, hend, hw]

theorem State.postTimeout_elapsed {t : Nat × Nat} (hjob : s.acq.job = some j) (htrig : j.trig = some t) (hlimit : j.timeout ≠ 0)
    (hend : j.ended = none) (hdue : t.2 + j.timeout ≤ s.now) :
    s.postTimeout = s.segmentDone { j with ended := some s.now, timed := true } := by
  simp [State.postTimeout, hjob, htrig, hlimit, hend, Nat.not_lt.2 hdue]

/-- The job at the start of its next segment. -/
def AcqJob.nextSegment (j : AcqJob) : AcqJob :=
  { j with
    seg := j.seg + 1, stored := 0, queue := [], first := true, trig := none, forced := false, force := false,
    late := false, ended := none, timed := false, written := false, gapHere := false, segGaps := 0, segFirst := 0,
    segLost := 0, missed := 0 }

theorem State.segmentStart_starts {t : Nat} (hjob : s.acq.job = some j) (hq : j.queue = []) (hend : j.ended = some t)
    (hwritten : j.written = true) (hon : s.domOn 7 = true) (hsampled : s.acq.sampled ≠ some s.now)
    (hfree : s.get ACQ.RESUME.FREE ≤ 512) (hdead : min (s.now - t) 0xFFFFFFFF ≤ s.get ACQ.MAX_DEAD.TICKS)
    (hw : State.write (s.set ACQ.LAST_DEAD.TICKS (min (s.now - t) 0xFFFFFFFF)) (s.acqVia j) (j.summ + 64 * j.seg + 0x28)
      (leBytes 4 (min (s.now - t) 0xFFFFFFFF) ++ leBytes 4 j.missed) = (s', .ok ())) :
    s.segmentStart pulses took = (s'.setJob j.nextSegment).takeSample j.nextSegment (s'.sample pulses) := by
  have hroom : s.acqFree j = true := by simp [State.acqFree, hq, hfree]
  have hvia (v : Nat) : (s.set ACQ.LAST_DEAD.TICKS v).acqVia j = s.acqVia j := by
    unfold State.acqVia
    rw [State.get_set_ne]
    simp only [Fld.id, RNG.RING_CFG.OWNER, ACQ.LAST_DEAD.TICKS]
    omega
  have hmax : ¬ (s.set ACQ.LAST_DEAD.TICKS (min (s.now - t) 0xFFFFFFFF)).get ACQ.MAX_DEAD.TICKS < min (s.now - t) 0xFFFFFFFF := by
    rw [State.get_set_ne _ _ (by decide)]
    exact Nat.not_lt.2 hdead
  unfold State.segmentStart
  simp only [hjob, hend, hon, hwritten, hsampled, State.acqDrain_empty _ _ hq, hroom]
  simp only [Bool.not_true, Bool.or_self, decide_false, Bool.false_eq_true, if_false, hmax, hvia, hw]
  rfl

/-! ## Descriptors (R471 to R474) -/

theorem State.capture_starts (hcause : s.captureCause d.d = 0) (hflags : d.d.eflags = 0) (hrest : bitsOf d.d.w5 8 24 = 0)
    (hjob : s.acq.job = none) : ∃ (t : State) (k : AcqJob), s.capture d pulses = t.acqShow k ∧ t.acq.job = some k ∧
      (k.ring, k.idx, k.base, k.len, k.summ, k.segs, k.stored) =
        (d.ring, d.idx, d.d.primary, d.d.w1, d.d.secondary, s.get ACQ.SEGMENTS.COUNT, 0) ∧ k.ended = none ∧ k.trig = none := by
  unfold State.capture
  simp only [hcause, hflags, hrest, hjob]
  exact ⟨_, _, rfl, rfl, rfl, rfl, rfl⟩

theorem State.capture_fails (hcause : s.captureCause d.d ≠ 0) (hflags : d.d.eflags = 0) (hrest : bitsOf d.d.w5 8 24 = 0) :
    s.capture d pulses = s.finish d 0x10 0 (s.captureCause d.d) := by
  simp [State.capture, hcause, hflags, hrest]

theorem State.get_acqShow_state (hend : j.ended = none) (htrig : j.trig = none) : (s.acqShow j).get ACQ.STATUS.STATE = 1 := by
  simp (disch := decide) only [State.acqShow, hend, htrig, State.get_setB_ne, State.get_set_ne, State.get_set_self]
  rfl

theorem State.archive_keeps {l : AcqLast} {sm buf : List Nat} (hw1 : d.d.w1 = 0) (hp : d.d.primary = 0) (hw4 : d.d.w4 = 0)
    (hw5 : d.d.w5 = 0) (hjob : s.acq.job = none) (hlast : s.acq.last = some l) (hlen : l.len ≤ 2047 * 2 ^ 20)
    (hsum : (s.setSlot d.d.eflags {}).readBuf ((s.setSlot d.d.eflags {}).via 13 d) l.summ l.sumLen = (s1, sm, none))
    (hbuf : s1.readBuf (s1.via 13 d) l.base l.len = (s2, buf, none)) :
    s.archive d true = ((s2.setSlot d.d.eflags ⟨l.header, sm, buf⟩).post 204 d.d.eflags).finish d 0 := by
  unfold State.archive
  simp only [hw1, hp, hw4, hw5, hjob, hlast, Nat.not_lt.2 hlen, hsum, hbuf]
  rfl

theorem State.restore_writes {m k : Nat} (hw4 : d.d.w4 = 0) (hw5 : d.d.w5 = 0) (halign : d.d.primary % 4096 = 0)
    (hin : within .dram d.d.primary d.d.w1 = true) (hjob : s.acq.job = none)
    (hvalid : (Sparse.get {} s.acq.slots d.d.eflags : AcqSlot).valid = true)
    (hfits : 0x100000 + leAt (Sparse.get {} s.acq.slots d.d.eflags : AcqSlot).header 8 4 ≤ d.d.w1)
    (hhead : s.writeBuf (s.via 13 d) d.d.primary ((Sparse.get {} s.acq.slots d.d.eflags : AcqSlot).header ++
      (Sparse.get {} s.acq.slots d.d.eflags : AcqSlot).summ) = (s1, m, none))
    (hbuf : s1.writeBuf (s.via 13 d) (d.d.primary + 0x100000) (Sparse.get {} s.acq.slots d.d.eflags : AcqSlot).buf =
      (s2, k, none)) : s.restore d = (s2.post 204 (d.d.eflags + 256)).finish d 0 (m + k) := by
  unfold State.restore
  simp only [hw4, hw5, halign, hin, hjob, hvalid, Nat.not_lt.2 hfits, hhead, hbuf]
  rfl

end Acquisition

open State in
/-- Settles O52: each row of the engine is one of its lemmas above. -/
theorem changeCapture : Obligations.ChangeCapture := by
  unfold Obligations.ChangeCapture
  refine ⟨fun s j hjob hq => ⟨fun hon hsampled hend pulses took => ⟨fun hgap hnew hfire htrig hforce hlate => ?_, fun hgap hfree => ?_⟩,
    fun t s' hend hwritten hmore hw => ?_, fun t htrig hlimit hend hdue => ?_,
    fun t s' pulses took hend hwritten hon hsampled hfree hdead hw => ?_⟩, fun s pulses took => ⟨fun hjob i hi => ?_,
    fun j t hjob hend hw => ?_, rfl, rfl⟩, fun s n d => ⟨fun pulses hd hcause hflags hrest hjob => ?_,
    fun pulses hd hflags hrest hcause => ?_, fun hjob hw4 hw5 => ⟨fun hd hflags hw1 hp => ?_, fun stored hd hw1 hp hlast => ?_,
      fun hd halign hin hvalid => ?_⟩, fun j hd hflags hw1 hp hw4 hw5 hjob htrig hend => ?_,
    fun l s1 s2 sm buf hd hw1 hp hw4 hw5 hjob hlast hlen hsum hbuf => ?_,
    fun s1 s2 m k hd hw4 hw5 halign hin hjob hvalid hfits hhead hbuf => ?_⟩⟩
  · obtain ⟨hacq, -, htick⟩ := s.acqLevel_rest j
    have hnow : (s.acqLevel j).now = s.now := congrArg BitVec.toNat htick
    have hrec := takeSample_records (s := s.acqLevel j) (x := s.sample pulses) hend hgap (by rwa [hacq]) (by simp [hq])
    rw [hacq, fires_acqLevel, hfire, storeRecord_plain htrig hforce hlate, hq] at hrec
    refine ⟨_, State.done_eq ((acqStep_samples hjob hq hon hsampled).trans hrec), ?_, ?_, ?_⟩ <;>
    rw [acq_acqShow, (acqLevel_rest _ _).1] <;>
    simp [hnow]
  · have hclose := takeSample_closes (s := s.acqLevel j) (x := s.sample pulses) hend hgap
      (by rw [acqFree_acqLevel]; simp [acqFree, hq, hfree])
    obtain ⟨hacq, -, htick⟩ := s.acqLevel_rest j
    have hnow : (s.acqLevel j).now = s.now := congrArg BitVec.toNat htick
    rw [fires_acqLevel, acqSampled, hnow] at hclose
    refine State.done_eq ((acqStep_samples hjob hq hon hsampled).trans (hclose.trans ?_))
    rw [hacq]
  · obtain ⟨hacq, hrng, -⟩ := s'.acqLevel_rest { j with written := true, done := j.done + 1 }
    refine ⟨_, State.done_eq ((segmentEnd_ended hjob hend hwritten).trans (segmentDone_next hq hmore hw)), ?_, ?_⟩
    · rw [acq_acqShow]
      exact congrArg Acq.job hacq
    · exact congrArg (·.evq ++ _) hrng
  · exact State.done_eq (postTimeout_elapsed hjob htrig hlimit hend hdue)
  · exact State.done_eq (segmentStart_starts hjob hq hend hwritten hon hsampled hfree hdead hw)
  · simp only [List.mem_cons, List.not_mem_nil, or_false] at hi
    obtain rfl | rfl | rfl | rfl | rfl := hi
    · exact State.done_eq (acqStep_idle hjob)
    · exact State.done_eq (acqStep_idle hjob)
    · exact State.done_eq (by simp [segmentEnd, hjob])
    · exact State.done_eq (by simp [postTimeout, hjob])
    · exact State.done_eq (by simp [segmentStart, hjob])
  · exact State.done_eq (segmentEnd_ended hjob hend hw)
  · obtain ⟨t, k, hcap, hk, hfields, hend, htrig⟩ := capture_starts (pulses := pulses) hcause hflags hrest hjob
    refine ⟨_, State.done_eq ((onOffer_of_offered hd).trans hcap), get_acqShow_state hend htrig, ?_⟩
    rw [acq_acqShow, hk]
    exact congrArg some hfields
  · exact State.done_eq ((onOffer_of_offered hd).trans (capture_fails hcause hflags hrest))
  · exact State.done_eq ((onOffer_of_offered hd).trans (by simp [forceTrigger, hflags, hw1, hp, hw4, hw5, hjob]))
  · exact State.done_eq ((onOffer_of_offered hd).trans (by simp [archive, hw1, hp, hw4, hw5, hjob, hlast]))
  · exact State.done_eq ((onOffer_of_offered hd).trans (by simp [restore, halign, hin, hw4, hw5, hjob, hvalid]))
  · exact State.done_eq ((onOffer_of_offered hd).trans (by simp [forceTrigger, hflags, hw1, hp, hw4, hw5, hjob, htrig, hend]))
  · exact State.done_eq ((onOffer_of_offered hd).trans (archive_keeps hw1 hp hw4 hw5 hjob hlast hlen hsum hbuf))
  · exact State.done_eq ((onOffer_of_offered hd).trans (restore_writes hw4 hw5 halign hin hjob hvalid hfits hhead hbuf))

end Sys2Proof.Machine
end

/-! PROOFS. Power domains, votes, requests, stages and the regulator's bus (spec/16): O54 and O53. -/
section

namespace Sys2Proof.Machine

section Power

variable {s s' : State} {d : Nat}

/-! ## The domain's record, apart from the registers -/

@[simp] theorem State.dom_setDom (s : State) (d : Nat) (r : PwrRt) : (s.setDom d r).dom d = r := Sparse.get_put_self ..
@[simp] theorem State.dom_set (s : State) (f : Fld) (v k : Nat) : (s.set f v).dom k = s.dom k := rfl
@[simp] theorem State.dom_setB (s : State) (f : Fld) (b : Bool) (k : Nat) : (s.setB f b).dom k = s.dom k := rfl
@[simp] theorem State.dom_bump (s : State) (f : Fld) (n k : Nat) : (s.bump f n).dom k = s.dom k := rfl
@[simp] theorem State.dom_post (s : State) (src data k : Nat) : (s.post src data).dom k = s.dom k := rfl
@[simp] theorem State.dom_speedStart (s : State) (d k : Nat) : (s.speedStart d).dom k = s.dom k := rfl
@[simp] theorem State.get_speedStart (s : State) (d : Nat) (g : Fld) : (s.speedStart d).get g = s.get g := rfl
@[simp] theorem State.dom_speedBroken (s : State) (d k : Nat) : (s.speedBroken d).dom k = s.dom k := rfl
@[simp] theorem State.get_speedBroken (s : State) (d : Nat) (g : Fld) : (s.speedBroken d).get g = s.get g := rfl

theorem State.dom_congr (h : s'.pwr = s.pwr) : s'.dom d = s.dom d := by
  unfold State.dom
  rw [h]

/-- A domain's state is its STATE field, but that of D0, which is ON. -/
theorem State.domState_of_get {v : Nat} (hd : d ≠ 0) (h : s.get (PWR.D_STATUS.STATE d) = v) : s.domState d = v := by
  simp [State.domState, hd, h]

theorem State.domState_congr (h : s'.get (PWR.D_STATUS.STATE d) = s.get (PWR.D_STATUS.STATE d)) : s'.domState d = s.domState d := by
  simp [State.domState, h]

theorem State.ne_zero_of_domState {v : Nat} (h : s.domState d = v) (hv : v ≠ 0) : d ≠ 0 := by
  rintro rfl
  exact hv h.symm

/-! ## The regulator's bus (R493) -/

theorem State.busSend_rest (s : State) : s.busSend.regs = s.regs ∧ s.busSend.pwr = s.pwr ∧ s.busSend.tick = s.tick := by
  unfold State.busSend
  split <;> exact ⟨rfl, rfl, rfl⟩

theorem State.busAdd_rest (s : State) (c : PmBus) : (s.busAdd c).regs = s.regs ∧
    (s.busAdd c).pwr = { s.pwr with bus := s.pwr.bus ++ [c] } ∧ (s.busAdd c).tick = s.tick := by
  unfold State.busAdd
  dsimp only
  split
  · exact State.busSend_rest _
  · exact ⟨rfl, rfl, rfl⟩

@[simp] theorem State.dom_busAdd (s : State) (c : PmBus) (k : Nat) : (s.busAdd c).dom k = s.dom k := by
  rw [State.dom, (s.busAdd_rest c).2.1]
  rfl

@[simp] theorem State.get_busAdd (s : State) (c : PmBus) (g : Fld) : (s.busAdd c).get g = s.get g := by
  rw [State.get, (s.busAdd_rest c).1]
  rfl

theorem State.busSend_empty (h : s.pwr.bus = []) : s.busSend = s := by
  unfold State.busSend
  rw [h]

theorem State.bus_foldl_busRead (l : List Nat) (cmd : Nat) (s : State) : (l.foldl (fun s d => s.busRead d cmd) s).pwr.bus =
    s.pwr.bus ++ l.map fun d => { page := d, cmd := cmd, read := true } := by
  induction l generalizing s with
  | nil => simp
  | cons d ds ih =>
    have hadd : (s.busRead d cmd).pwr.bus = s.pwr.bus ++ [{ page := d, cmd := cmd, read := true }] :=
      congrArg (·.bus) (s.busAdd_rest _).2.1
    simp [ih, hadd]

section BusEnd

variable {c : PmBus} {word : Nat} {fault : Bool}

theorem State.busEnd_empty (result : Nat) (h : s.pwr.bus = []) : s.busEnd result word fault = s := by
  simp [State.busEnd, h]

/-- The regulator's bus with its head taken off. -/
def State.busTaken (s : State) : State := { s with pwr := { s.pwr with bus := [] } }

theorem State.busEnd_last_ack (hretry : s.pwr.retryAt.isSome = false) (hbus : s.pwr.bus = [c]) (hcmd : c.cmd ≠ 0x20) :
    s.busEnd 0 word fault =
      if c.read && fault then (s.busTaken.post 13 (c.page + 65536 * word)).powerLost c.page else s.busTaken := by
  simp only [State.busEnd, hretry, hbus, hcmd, Bool.false_eq_true, if_false, if_true]
  rw [State.busSend_empty rfl]
  rfl

theorem State.busEnd_vout (hretry : s.pwr.retryAt.isSome = false) (hbus : s.pwr.bus = [c]) (hcmd : c.cmd = 0x20) :
    s.busEnd 0 word fault = { s with pwr := { s.pwr with bus := [], voutMode := word % 256 } } := by
  simp only [State.busEnd, hretry, hbus, hcmd, Bool.false_eq_true, if_false, if_true]
  exact State.busSend_empty rfl

theorem State.busEnd_nack_again (hretry : s.pwr.retryAt.isSome = false) (hbus : s.pwr.bus = [c]) (htries : c.tries < 2) :
    s.busEnd 1 word fault = { s.bump PWR.PMBUS_ERRORS.NACK with
      pwr := { s.pwr with bus := [{ c with tries := c.tries + 1 }], retryAt := some (s.now + 2000) } } := by
  simp only [State.busEnd, hretry, hbus, htries, Bool.false_eq_true, Nat.one_ne_zero, if_false, if_true]
  rfl

theorem State.busEnd_nack_last (hretry : s.pwr.retryAt.isSome = false) (hbus : s.pwr.bus = [c]) (htries : 2 ≤ c.tries)
    (hread : c.read = true) : s.busEnd 1 word fault = (s.bump PWR.PMBUS_ERRORS.NACK).busTaken.post 13 c.page := by
  simp only [State.busEnd, hretry, hbus, Nat.not_lt.2 htries, hread, Bool.false_eq_true, Nat.one_ne_zero,
    if_false, if_true]
  rw [State.busSend_empty rfl]
  rfl

end BusEnd

/-! ## Accounts (R487) -/

/-- The fields that counting a refuser may write. -/
def Fld.ofRefuser (d : Nat) (g : Fld) : Prop :=
  g.id = (PWR.D_COUNTS.ABORTED d).id ∨ g.id = (PWR.D_COUNTS.REFUSED d).id ∨ g.id = (PWR.D_LAST_REFUSER.ID d).id ∨
  g.id = (PWR.D_LAST_REFUSER.ABORT d).id ∨ g.id = (PWR.D_LAST_REFUSER.VALID d).id ∨
  ∃ j, g.id = (PWR.D_REFUSER.ID d j).id ∨ g.id = (PWR.D_REFUSER.VALID d j).id ∨ g.id = (PWR.D_REFUSER.COUNT d j).id

theorem State.countRefuser_rest (s : State) (d id : Nat) (aborted told : Bool) : (s.countRefuser d id aborted told).pwr = s.pwr ∧
    ∀ g, ¬ g.ofRefuser d → (s.countRefuser d id aborted told).get g = s.get g := by
  have hbase (g : Fld) (hg : ¬ g.ofRefuser d) : ((((s.bump (if aborted then PWR.D_COUNTS.ABORTED d else PWR.D_COUNTS.REFUSED d)).set
      (PWR.D_LAST_REFUSER.ID d) id).setB (PWR.D_LAST_REFUSER.ABORT d) aborted).set (PWR.D_LAST_REFUSER.VALID d) 1).get g =
      s.get g := by
    simp only [Fld.ofRefuser, not_or] at hg
    obtain ⟨hA, hR, hI, hB, hV, -⟩ := hg
    rw [State.get_set_ne _ _ hV, State.get_setB_ne _ _ hB, State.get_set_ne _ _ hI, State.get_bump_ne]
    split
    · exact hA
    · exact hR
  have hentry (t : State) (j : Nat) (known : Bool) : (if known then t.bump (PWR.D_REFUSER.COUNT d j) else
      ((t.set (PWR.D_REFUSER.ID d j) id).set (PWR.D_REFUSER.VALID d j) 1).set (PWR.D_REFUSER.COUNT d j) 1).pwr = t.pwr ∧
      ∀ g, ¬ g.ofRefuser d → (if known then t.bump (PWR.D_REFUSER.COUNT d j) else
      ((t.set (PWR.D_REFUSER.ID d j) id).set (PWR.D_REFUSER.VALID d j) 1).set (PWR.D_REFUSER.COUNT d j) 1).get g = t.get g := by
    refine ⟨by cases known <;> rfl, fun g hg => ?_⟩
    simp only [Fld.ofRefuser, not_or, not_exists] at hg
    obtain ⟨-, -, -, -, -, hj⟩ := hg
    obtain ⟨hI, hV, hC⟩ := hj j
    cases known
    · exact (State.get_set_ne _ _ hC).trans ((State.get_set_ne _ _ hV).trans (State.get_set_ne _ _ hI))
    · exact State.get_bump_ne _ _ hC
  fun_cases State.countRefuser s d id aborted told
  case case1 s1 s2 j known hplace s3 _ =>
    obtain ⟨hp, hg⟩ := hentry s2 j known
    exact ⟨hp, fun g h => (hg g h).trans (hbase g h)⟩
  case case2 s1 s2 j known hplace s3 _ =>
    obtain ⟨hp, hg⟩ := hentry s2 j known
    exact ⟨hp, fun g h => (hg g h).trans (hbase g h)⟩

/-! ## The end of a request (R484, R485) -/

theorem State.reqEnd_rest (s : State) (d : Nat) (r : PwrReq) (status reason : Nat) :
    (s.reqEnd d r status reason).pwr = s.pwr ∧ ∀ g : Fld, g.id ≠ (PWR.D_STATUS.LAST_STATUS d).id →
      g.id ≠ (PWR.D_STATUS.LAST_REASON d).id → (s.reqEnd d r status reason).get g = s.get g := by
  unfold State.reqEnd
  split
  · exact ⟨rfl, fun _ _ _ => rfl⟩
  · exact ⟨rfl, fun g hs hr => by rw [State.get_set_ne _ _ hr, State.get_set_ne _ _ hs]⟩

/-- With no request pending, a request's end leaves the domain's other fields and clears its record. -/
theorem State.reqDone_rest (status : Nat) (hp : (s.dom d).pend = none) :
    (s.reqDone d status).dom d = { s.dom d with req := none, railOnly := false, quiesce := false } ∧
    ∀ g : Fld, g.id ≠ (PWR.D_STATUS.LAST_STATUS d).id → g.id ≠ (PWR.D_STATUS.LAST_REASON d).id →
      g.id ≠ (PWR.D_STATUS.BUSY d).id → (s.reqDone d status).get g = s.get g := by
  have hnext (t : State) (h : (t.dom d).pend = none) : t.reqNext d = t := by simp [State.reqNext, h]
  unfold State.reqDone
  extract_lets rt s1 s2
  have hdom : s1.dom d = { s.dom d with req := none, railOnly := false, quiesce := false } := State.dom_setDom ..
  have hget (g : Fld) (hb : g.id ≠ (PWR.D_STATUS.BUSY d).id) : s1.get g = s.get g := by simp [s1, hb]
  have hs2 : s2.dom d = s1.dom d ∧ ∀ g : Fld, g.id ≠ (PWR.D_STATUS.LAST_STATUS d).id →
      g.id ≠ (PWR.D_STATUS.LAST_REASON d).id → s2.get g = s1.get g := by
    simp only [s2]
    split
    · rename_i r _
      obtain ⟨hpwr, hreg⟩ := s1.reqEnd_rest d r status 0
      exact ⟨State.dom_congr hpwr, hreg⟩
    · exact ⟨rfl, fun _ _ _ => rfl⟩
  rw [hnext s2 (by rw [hs2.1, hdom]; exact hp)]
  exact ⟨hs2.1.trans hdom, fun g hs hr hb => (hs2.2 g hs hr).trans (hget g hb)⟩

/-! ## Stages and rails (R491, R494) -/

theorem State.refreshPair_rest (s : State) : s.refreshPair.pwr = s.pwr ∧ ∀ g : Fld, g.id ≠ PAR.STATUS.ELIGIBLE.id →
    g.id ≠ PAR.STATUS.INELIGIBLE.id → s.refreshPair.get g = s.get g := by
  have htold (t : State) (b : Bool) (src data : Nat) : (if b then t.post src data else t).pwr = t.pwr ∧
      ∀ g, (if b then t.post src data else t).get g = t.get g := by cases b <;> exact ⟨rfl, fun _ => rfl⟩
  unfold State.refreshPair
  extract_lets r was s1 s2 hold
  have hs2 : s2.pwr = s.pwr ∧ ∀ g : Fld, g.id ≠ PAR.STATUS.ELIGIBLE.id → g.id ≠ PAR.STATUS.INELIGIBLE.id → s2.get g = s.get g := by
    obtain ⟨hp, hg⟩ := htold s1 (was && r != 0 && s1.isTrail) 170 r
    exact ⟨hp, fun g he hi => (hg g).trans ((State.get_set_ne _ _ hi).trans (State.get_setB_ne _ _ he))⟩
  split <;> exact hs2

theorem State.stageEnd_next {seen : Nat} (hrail : s.railWaits d = false) (hwake : s.domState d = 5)
    (hst : s.get (PWR.D_STATUS.STAGE d) < 4) : s.stageEnd d seen =
      (s.set (PWR.D_STATUS.STAGE d) (s.get (PWR.D_STATUS.STAGE d) + 1)).setDom d
        { s.dom d with since := s.now, retried := false } := by
  simp [State.stageEnd, hrail, hwake, hst]

theorem State.stageEnd_last {seen : Nat} (hrail : s.railWaits d = false) (hwake : s.domState d = 5)
    (hst : s.get (PWR.D_STATUS.STAGE d) = 4) : s.stageEnd d seen = (s.set (PWR.D_STATUS.FAILED_STAGE d) 0).domUp d seen := by
  simp [State.stageEnd, hrail, hwake, hst]

/-- A domain that is up with its contents kept: ON, its stage over, no request left. -/
theorem State.domUp_warm {seen : Nat} (hcold : (s.dom d).cold = false) (hp : (s.dom d).pend = none) :
    (s.domUp d seen).domOn d = true ∧ (s.domUp d seen).get (PWR.D_STATUS.STAGE d) = 0 ∧
    (s.domUp d seen).get (PWR.D_STATUS.FAILED_STAGE d) = s.get (PWR.D_STATUS.FAILED_STAGE d) ∧
    ((s.domUp d seen).dom d).req = none := by
  unfold State.domUp
  extract_lets rt s1 s2 s3 s4
  have hs4 : s4 = s3 := if_neg (by simp [rt, hcold])
  obtain ⟨hdom, hreg⟩ := s4.reqDone_rest (d := d) 0 (by simp [hs4, s3, s2, rt, hp])
  obtain ⟨hpwr, hpar⟩ := (s4.reqDone d 0).refreshPair_rest
  have hget (g : Fld) (hs : g.id ≠ (PWR.D_STATUS.LAST_STATUS d).id) (hr : g.id ≠ (PWR.D_STATUS.LAST_REASON d).id)
      (hb : g.id ≠ (PWR.D_STATUS.BUSY d).id) (he : g.id ≠ PAR.STATUS.ELIGIBLE.id) (hi : g.id ≠ PAR.STATUS.INELIGIBLE.id) :
      (s4.reqDone d 0).refreshPair.get g = s1.get g := by
    rw [hpar g he hi, hreg g hs hr hb, hs4]
    rfl
  have hstate : (s4.reqDone d 0).refreshPair.get (PWR.D_STATUS.STATE d) = 0 := by
    rw [hget, State.get_set_ne, State.get_set_ne, State.get_set_self, Nat.zero_mod] <;>
    simp only [Fld.id, PWR.D_STATUS.STATE, PWR.D_STATUS.STAGE, PWR.D_STATUS.SAVED, PWR.D_STATUS.LAST_STATUS,
      PWR.D_STATUS.LAST_REASON, PWR.D_STATUS.BUSY, PAR.STATUS.ELIGIBLE, PAR.STATUS.INELIGIBLE] <;>
    omega
  refine ⟨?_, ?_, ?_, ?_⟩
  · simp [State.domOn, State.domState, hstate]
  · rw [hget, State.get_set_ne, State.get_set_self, Nat.zero_mod] <;>
    simp only [Fld.id, PWR.D_STATUS.STAGE, PWR.D_STATUS.SAVED, PWR.D_STATUS.LAST_STATUS,
      PWR.D_STATUS.LAST_REASON, PWR.D_STATUS.BUSY, PAR.STATUS.ELIGIBLE, PAR.STATUS.INELIGIBLE] <;>
    omega
  · rw [hget, State.get_set_ne, State.get_set_ne, State.get_set_ne] <;>
    simp only [Fld.id, PWR.D_STATUS.STATE, PWR.D_STATUS.STAGE, PWR.D_STATUS.SAVED, PWR.D_STATUS.FAILED_STAGE,
      PWR.D_STATUS.LAST_STATUS, PWR.D_STATUS.LAST_REASON, PWR.D_STATUS.BUSY, PAR.STATUS.ELIGIBLE, PAR.STATUS.INELIGIBLE] <;>
    omega
  · rw [State.dom_congr hpwr, hdom]

theorem State.missed_retries (hretried : (s.dom d).retried = false) :
    ((s.missed d).dom d).retried = true ∧ ((s.missed d).dom d).since = s.now ∧ (s.missed d).domState d = s.domState d := by
  unfold State.missed
  extract_lets rt stage s1
  have hget : s1.domState d = s.domState d := rfl
  have hdom : s1.dom d = { s.dom d with retried := true, since := s.now } := State.dom_setDom ..
  have hsent (c : PmBus) : ((s1.busAdd c).dom d).retried = true ∧ ((s1.busAdd c).dom d).since = s.now ∧
      (s1.busAdd c).domState d = s.domState d :=
    ⟨by simp [hdom], by simp [hdom], State.domState_congr (State.get_busAdd ..)⟩
  rw [if_neg (by simp [rt, hretried])]
  split_ifs
  · exact ⟨by simp [hdom], by simp [hdom], hget⟩
  · exact hsent _
  · exact hsent _
  · exact hsent _

theorem State.stageTimeout_due (hwake : s.domState d = 5) (hdue : (s.dom d).since + s.stageLimit d ≤ s.now) :
    s.stageTimeout d = s.missed d := by
  simp [State.stageTimeout, hwake, Nat.not_lt.2 hdue]

theorem State.missed_fails (hwake : s.domState d = 5) (hretried : (s.dom d).retried = true) :
    s.missed d = s.domFail d (s.get (PWR.D_STATUS.STAGE d)) false := by
  simp [State.missed, hwake, hretried]

/-! ## Requests, votes and entries (R484 to R489) -/

theorem State.domRequest_starts {r : PwrReq} (hfree : s.domBusy d = false) (hreason : s.reqReason d r = 0) :
    s.domRequest d r = s.reqRun d r := by simp [State.domRequest, State.reqStart, hfree, hreason]

/-- A domain's record with request `r` in progress, and then in the quiesce of its entry. -/
def PwrRt.requested (rt : PwrRt) (r : PwrReq) (now : Nat) : PwrRt := { rt with req := some r, since := now, retried := false }
def PwrRt.entering (rt : PwrRt) : PwrRt := { rt with quiesce := true, wakeAfter := false, wakeNoted := false }

/-- A request for RETAIN or OFF of an ON domain starts the domain's entry. -/
theorem State.reqRun_enters {r : PwrReq} (hd : d ≠ 0) (hst : r.state = 1 ∨ r.state = 2) (hon : s.domOn d = true) :
    (s.reqRun d r).domState d = 4 ∧ (s.reqRun d r).get (PWR.D_STATUS.BUSY d) = 1 ∧ ((s.reqRun d r).dom d).quiesce = true ∧
    ((s.reqRun d r).dom d).req = some r := by
  have hstate : s.domState d = 0 := by simpa [State.domOn] using hon
  have hrun : s.reqRun d r = ((((s.setDom d ((s.dom d).requested r s.now)).set (PWR.D_STATUS.BUSY d) 1).setDom d
      ((s.dom d).requested r s.now).entering).set (PWR.D_STATUS.STATE d) 4).speedBroken d := by
    obtain h | h := hst <;> simp [State.reqRun, hstate, h, PwrRt.requested, PwrRt.entering]
  have hids : (PWR.D_STATUS.BUSY d).id ≠ (PWR.D_STATUS.STATE d).id := by
    simp only [Fld.id, PWR.D_STATUS.BUSY, PWR.D_STATUS.STATE]
    omega
  rw [hrun]
  refine ⟨State.domState_of_get hd ?_, ?_, by simp [PwrRt.entering], by simp [PwrRt.entering, PwrRt.requested]⟩
  · rw [State.get_speedBroken, State.get_set_self]
    rfl
  · simp only [State.get_speedBroken, State.get_set_ne _ _ hids, State.get_setDom, State.get_set_self]
    rfl

theorem State.reqReason_entry {r : PwrReq} (hd : d ≠ 0) (hrail : r.rail = 3) (hst : r.state = 1 ∨ r.state = 2)
    (hout : d = 1 ∨ d = 4 ∨ d = 5 → s.pairState = 5) (hvotes : s.votes d = 0) : s.reqReason d r = 0 := by
  have hpair : ¬ ((d = 1 ∨ d = 4 ∨ d = 5) ∧ s.pairState ≠ 5) := fun ⟨h, h5⟩ => h5 (hout h)
  unfold State.reqReason
  rw [hrail, if_neg (by simp [hd, railOk]), if_neg, if_neg (by simp [hvotes]), if_neg (by omega)]
  simp only [Bool.and_eq_true, Bool.or_eq_true, decide_eq_true_eq, not_and]
  exact fun ⟨_, hd'⟩ h5 => hpair ⟨by omega, h5⟩

theorem State.voteSet_votes {init : Nat} (hinit : init < 8) (hstate : s.domState d ≠ 4) :
    s.voteSet init d = s.set (PWR.D_VOTE.VOTES d) (setBit (s.get (PWR.D_VOTE.VOTES d)) init) := by
  have hsame : (s.set (PWR.D_VOTE.VOTES d) (setBit (s.get (PWR.D_VOTE.VOTES d)) init)).domState d = s.domState d :=
    State.domState_congr (State.get_set_ne _ _ (by simp only [Fld.id, PWR.D_STATUS.STATE, PWR.D_VOTE.VOTES]; omega))
  simp [State.voteSet, Nat.not_le.2 hinit, hsame, hstate]

theorem State.voteSet_aborts {init : Nat} (hinit : init < 8) (hstate : s.domState d = 4) (hq : (s.dom d).quiesce = true) :
    s.voteSet init d =
      (s.set (PWR.D_VOTE.VOTES d) (setBit (s.get (PWR.D_VOTE.VOTES d)) init)).abortEntry d init := by
  have hsame : (s.set (PWR.D_VOTE.VOTES d) (setBit (s.get (PWR.D_VOTE.VOTES d)) init)).domState d = s.domState d :=
    State.domState_congr (State.get_set_ne _ _ (by simp only [Fld.id, PWR.D_STATUS.STATE, PWR.D_VOTE.VOTES]; omega))
  simp [State.voteSet, Nat.not_le.2 hinit, hsame, hstate, hq]

theorem Fld.state_not_ofRefuser (d : Nat) : ¬ (PWR.D_STATUS.STATE d).ofRefuser d := by
  simp only [Fld.ofRefuser, Fld.id, PWR.D_STATUS.STATE, PWR.D_COUNTS.ABORTED, PWR.D_COUNTS.REFUSED, PWR.D_LAST_REFUSER.ID,
    PWR.D_LAST_REFUSER.ABORT, PWR.D_LAST_REFUSER.VALID, PWR.D_REFUSER.ID, PWR.D_REFUSER.VALID, PWR.D_REFUSER.COUNT, not_or,
    not_exists]
  refine ⟨?_, ?_, ?_, ?_, ?_, fun j => ⟨?_, ?_, ?_⟩⟩ <;> omega

/-- An aborted entry with nothing pending: the domain stays ON, and no request is left. -/
theorem State.abortEntry_rest (hd : d ≠ 0) (refuser : Nat) (hp : (s.dom d).pend = none) :
    (s.abortEntry d refuser).domState d = 0 ∧ ((s.abortEntry d refuser).dom d).req = none := by
  obtain ⟨hpwr, hreg⟩ := (s.set (PWR.D_STATUS.STATE d) 0).countRefuser_rest d refuser true true
  have hdom := State.dom_congr (d := d) hpwr
  have hstate : ((s.set (PWR.D_STATUS.STATE d) 0).countRefuser d refuser true true).get (PWR.D_STATUS.STATE d) = 0 := by
    rw [hreg _ (Fld.state_not_ofRefuser d), State.get_set_self, Nat.zero_mod]
  have hdone (t : State) (status : Nat) (ht : t.get (PWR.D_STATUS.STATE d) = 0) (htp : (t.dom d).pend = none) :
      (t.reqDone d status).domState d = 0 ∧ ((t.reqDone d status).dom d).req = none := by
    obtain ⟨hrec, hget⟩ := t.reqDone_rest status htp
    refine ⟨State.domState_of_get hd ((hget _ ?_ ?_ ?_).trans ht), by rw [hrec]⟩ <;>
    · simp only [Fld.id, PWR.D_STATUS.STATE, PWR.D_STATUS.LAST_STATUS, PWR.D_STATUS.LAST_REASON, PWR.D_STATUS.BUSY]
      omega
  unfold State.abortEntry
  extract_lets auto s1 rt s2
  have hs2 : s2.get (PWR.D_STATUS.STATE d) = 0 ∧ (s2.dom d).pend = none :=
    ⟨by simp [s2, s1, hstate], by simp [s2, rt, s1, hdom, hp]⟩
  split <;> exact hdone _ _ hs2.1 hs2.2

theorem State.quiesceTimeout_due {init : Nat} (hstate : s.domState d = 4) (hq : (s.dom d).quiesce = true)
    (hdue : (s.dom d).since + s.get PWR.QUIESCE_TIME.US * 200 ≤ s.now) : s.quiesceTimeout d init = s.abortEntry d init := by
  simp [State.quiesceTimeout, hstate, hq, ticksPerUs, Nat.not_lt.2 hdue]

/-- The end of an undisturbed quiesce sends the rail's command. -/
theorem State.quiesceEnd_rail (hstate : s.domState d = 4) (hq : (s.dom d).quiesce = true) (hvotes : s.votes d = 0)
    (hbus : s.pwr.bus = []) : ((s.quiesceEnd d).dom d).quiesce = false ∧
      (s.quiesceEnd d).pwr.bus = [if (s.dom d).req.map (·.state) = some 2 then { page := d, cmd := 0x01 }
        else { page := d, cmd := 0x21, mv := 600 }] := by
  unfold State.quiesceEnd
  extract_lets rt off s1 s2
  have hs2 : s2.pwr = s1.pwr := by
    simp only [s2]
    split <;> rfl
  have hdom : (s2.dom d).quiesce = false := by rw [State.dom_congr hs2]; simp [s1]
  have hbus2 : s2.pwr.bus = [] := by rw [hs2]; exact hbus
  have hadd (c : PmBus) : ((s2.busAdd c).dom d).quiesce = false ∧ (s2.busAdd c).pwr.bus = [c] := by
    rw [State.dom_busAdd, (s2.busAdd_rest c).2.1]
    exact ⟨hdom, by simp [hbus2]⟩
  rw [if_neg (by simp [hstate, hq, rt]), if_neg (by simp [hvotes])]
  by_cases hoff : (s.dom d).req.map (·.state) = some 2
  · rw [if_pos (by simp [off, rt, hoff]), if_pos hoff]
    exact hadd _
  · rw [if_neg (by simpa [off, rt] using hoff), if_neg hoff]
    exact hadd _

theorem State.idleExpiry_not (h : s.bit (PWR.D_CFG.AUTO d) = false ∨ s.now < s.idleFrom d + s.get (PWR.D_CFG.IDLE_TIME d) * 200) :
    s.idleExpiry d = s := by
  obtain h | h := h <;> simp [State.idleExpiry, h, ticksPerUs]

/-! ## CLEAR.ACCOUNTS (R487) -/

/-- The refuser entries below `n` cleared. -/
def State.refusersCleared (s : State) (d n : Nat) : State :=
  (List.range n).foldl (fun s j =>
    ((s.set (PWR.D_REFUSER.ID d j) 0).set (PWR.D_REFUSER.VALID d j) 0).set (PWR.D_REFUSER.COUNT d j) 0) s

theorem State.refusersCleared_succ (s : State) (d n : Nat) : s.refusersCleared d (n + 1) =
    (((s.refusersCleared d n).set (PWR.D_REFUSER.ID d n) 0).set (PWR.D_REFUSER.VALID d n) 0).set (PWR.D_REFUSER.COUNT d n) 0 := by
  simp [State.refusersCleared, List.range_succ]

theorem State.get_refusersCleared_ne {g : Fld} (h : ∀ j, g.id ≠ (PWR.D_REFUSER.ID d j).id ∧ g.id ≠ (PWR.D_REFUSER.VALID d j).id ∧
    g.id ≠ (PWR.D_REFUSER.COUNT d j).id) (n : Nat) : (s.refusersCleared d n).get g = s.get g := by
  induction n with
  | zero => rfl
  | succ n ih =>
    obtain ⟨hi, hv, hc⟩ := h n
    rw [State.refusersCleared_succ, State.get_set_ne _ _ hc, State.get_set_ne _ _ hv, State.get_set_ne _ _ hi, ih]

theorem State.get_refusersCleared {n : Nat} (hn : n ≤ 8) {j : Nat} (hj : j < n) :
    (s.refusersCleared d n).get (PWR.D_REFUSER.VALID d j) = 0 ∧ (s.refusersCleared d n).get (PWR.D_REFUSER.COUNT d j) = 0 := by
  induction n with
  | zero => omega
  | succ n ih =>
    rw [State.refusersCleared_succ]
    by_cases hlast : j = n
    · subst hlast
      rw [State.get_set_ne, State.get_set_self, State.get_set_self]
      · exact ⟨Nat.zero_mod _, Nat.zero_mod _⟩
      · simp only [Fld.id, PWR.D_REFUSER.VALID, PWR.D_REFUSER.COUNT]
        omega
    · obtain ⟨hv, hc⟩ := ih (by omega) (by omega)
      rw [State.get_set_ne, State.get_set_ne, State.get_set_ne, State.get_set_ne, State.get_set_ne, State.get_set_ne]
      · exact ⟨hv, hc⟩
      all_goals
        simp only [Fld.id, PWR.D_REFUSER.ID, PWR.D_REFUSER.VALID, PWR.D_REFUSER.COUNT]
        omega

theorem State.clearAccounts_reads (s : State) (d : Nat) : (s.clearAccounts d).get (PWR.D_COUNTS.REFUSED d) = 0 ∧
    (s.clearAccounts d).get (PWR.D_COUNTS.ABORTED d) = 0 ∧ ∀ j < 8, (s.clearAccounts d).get (PWR.D_REFUSER.VALID d j) = 0 ∧
      (s.clearAccounts d).get (PWR.D_REFUSER.COUNT d j) = 0 := by
  have hclear : s.clearAccounts d = (((((s.set (PWR.D_COUNTS.REFUSED d) 0).set (PWR.D_COUNTS.ABORTED d) 0).set
      (PWR.D_LAST_REFUSER.ID d) 0).set (PWR.D_LAST_REFUSER.ABORT d) 0).set (PWR.D_LAST_REFUSER.VALID d) 0).refusersCleared d 8 := rfl
  rw [hclear]
  refine ⟨?_, ?_, fun j hj => State.get_refusersCleared le_rfl hj⟩
  · rw [State.get_refusersCleared_ne, State.get_set_ne, State.get_set_ne, State.get_set_ne, State.get_set_ne, State.get_set_self,
      Nat.zero_mod] <;>
    simp only [Fld.id, PWR.D_COUNTS.REFUSED, PWR.D_COUNTS.ABORTED, PWR.D_LAST_REFUSER.ID, PWR.D_LAST_REFUSER.ABORT,
      PWR.D_LAST_REFUSER.VALID, PWR.D_REFUSER.ID, PWR.D_REFUSER.VALID, PWR.D_REFUSER.COUNT] <;>
    omega
  · rw [State.get_refusersCleared_ne, State.get_set_ne, State.get_set_ne, State.get_set_ne, State.get_set_self, Nat.zero_mod] <;>
    simp only [Fld.id, PWR.D_COUNTS.ABORTED, PWR.D_LAST_REFUSER.ID, PWR.D_LAST_REFUSER.ABORT,
      PWR.D_LAST_REFUSER.VALID, PWR.D_REFUSER.ID, PWR.D_REFUSER.VALID, PWR.D_REFUSER.COUNT] <;>
    omega

end Power

open State in
/-- Settles O53: each row of the requests and votes is one of the lemmas above. -/
theorem powerRequests : Obligations.PowerRequests := by
  unfold Obligations.PowerRequests
  intro s d
  refine ⟨fun st hd hst hon hfree hvotes hout => ?_, fun st rail => ⟨fun hbusy => ?_, fun hfree hreason => ?_, fun hfree hreason => ?_⟩,
    fun init hinit => ⟨fun hstate => State.done_eq (voteSet_votes hinit hstate), ?_⟩,
    ⟨_, State.done_eq rfl, s.clearAccounts_reads d⟩, fun hauto hon hfree hp hvotes hidle hdue => ?_,
    fun h => State.done_eq (idleExpiry_not h), fun hauto hon hmode hpower hdue => ?_, fun hstate hq => ?_⟩
  · have hreason : s.reqReason d ⟨st, 3, false⟩ = 0 := reqReason_entry hd rfl hst (fun _ => hout) hvotes
    exact ⟨_, State.done_eq (domRequest_starts hfree hreason), reqRun_enters hd hst hon⟩
  · exact State.done_eq (if_pos hbusy)
  · exact State.done_eq (domRequest_starts hfree hreason)
  · exact State.done_eq (by simp [domRequest, reqStart, hfree, hreason])
  · exact State.done_eq (if_neg (by omega))
  · have hreason : s.reqReason 2 ⟨1, 3, true⟩ = 0 := reqReason_entry (by decide) rfl (.inl rfl) (by omega) hvotes
    obtain ⟨hstate, -, -, hreq⟩ := reqRun_enters (s := s) (d := 2) (r := ⟨1, 3, true⟩) (by decide) (.inl rfl) hon
    refine ⟨_, State.done_eq ?_, hstate, hreq⟩
    simp [idleExpiry, hauto, hon, hfree, hp, hidle, ticksPerUs, Nat.not_lt.2 hdue, reqStart, hreason]
  · exact State.done_eq (by simp [d6ChannelOff, hauto, hon, hmode, hpower, ticksPerUs, Nat.not_lt.2 hdue])
  · have hd : d.val ≠ 0 := ne_zero_of_domState hstate (by decide)
    refine ⟨fun hvotes hbus => ⟨_, State.done_eq rfl, quiesceEnd_rail hstate hq hvotes hbus⟩, fun hvotes => ?_,
      fun init hearly => ?_, fun hp init hdue => ?_, fun hp init hinit => ?_⟩
    · exact State.done_eq (by simp [quiesceEnd, hstate, hq, hvotes])
    · exact State.done_eq (by simp [quiesceTimeout, ticksPerUs, hearly])
    · exact ⟨_, State.done_eq (quiesceTimeout_due hstate hq hdue), abortEntry_rest hd init hp⟩
    · exact ⟨_, State.done_eq (voteSet_aborts hinit hstate hq), abortEntry_rest hd init hp⟩

open State in
/-- Settles O54: each row of the stages, the rails and the regulator's bus is one of the lemmas above. -/
theorem powerStages : Obligations.PowerStages := by
  unfold Obligations.PowerStages
  refine ⟨fun s d hrail => ⟨fun r hreq hstate hquiet hwake => ?_, fun seen hwake hst => ?_, fun seen hwake hst hcold hp => ?_,
    fun hwake hearly => ?_, fun hwake hdue hfirst => ?_, fun hwake hdue hagain => ?_, fun r hrailOnly hreq => ?_,
    fun hrailOnly hdue => ?_, fun hrailOnly hearly => ?_, fun k hon => ?_⟩,
    fun s => ⟨fun hretry => ?_, fun k w f hempty => State.done_eq (busEnd_empty k hempty),
      ⟨_, State.done_eq rfl, bus_foldl_busRead (List.range 8) 0x79 s⟩⟩⟩
  · exact State.done_eq (by simp [entryComplete, hreq, hstate, hquiet, hrail, hwake])
  · refine ⟨_, State.done_eq (stageEnd_next hrail hwake hst), ?_, ?_, by simp, by simp⟩
    · rw [get_setDom, get_set_self]
      exact Nat.mod_eq_of_lt (show s.get (PWR.D_STATUS.STAGE d) + 1 < 8 by omega)
    · rw [domState_congr (s := s), hwake]
      rw [get_setDom, get_set_ne]
      simp only [Fld.id, PWR.D_STATUS.STATE, PWR.D_STATUS.STAGE]
      omega
  · obtain ⟨hon, hstage, hfailed, hreq⟩ := domUp_warm (s := s.set (PWR.D_STATUS.FAILED_STAGE d) 0) (seen := seen) hcold hp
    exact ⟨_, State.done_eq (stageEnd_last hrail hwake hst), hon, hstage, hfailed.trans (get_set_self ..), hreq⟩
  · exact State.done_eq (by simp [stageTimeout, hwake, hearly])
  · obtain ⟨hretried, hsince, hstate⟩ := missed_retries hfirst
    exact ⟨_, State.done_eq (stageTimeout_due hwake hdue), hstate.trans hwake, hretried, hsince⟩
  · exact State.done_eq ((stageTimeout_due hwake hdue).trans (missed_fails hwake hagain))
  · exact State.done_eq (by simp [railEnd, hrailOnly, hrail, hreq])
  · exact State.done_eq (by simp [railEnd, hrailOnly, ticksPerUs, Nat.not_lt.2 hdue])
  · exact State.done_eq (by simp [railEnd, hrailOnly, ticksPerUs, hearly])
  · exact State.done_eq (by simp [powerLost, hon])
  · have hretry' : s.pwr.retryAt.isSome = false := by simp [hretry]
    refine ⟨fun c w hbus => ?_, fun c w f hbus htries => ?_, fun c w f hbus htries hread => ?_, fun w p hbus hp => ?_,
      fun w p f hbus => ?_⟩
    · by_cases hcmd : c.cmd = 0x20
      · exact ⟨_, State.done_eq (busEnd_vout hretry' hbus hcmd), rfl, rfl⟩
      · exact ⟨_, State.done_eq ((busEnd_last_ack hretry' hbus hcmd).trans (if_neg (by simp))), rfl, rfl⟩
    · exact ⟨_, State.done_eq (busEnd_nack_again hretry' hbus htries), rfl, rfl, rfl⟩
    · exact State.done_eq (busEnd_nack_last hretry' hbus htries hread)
    · exact State.done_eq ((busEnd_last_ack hretry' hbus (show 0x79 ≠ 0x20 by decide)).trans (if_pos rfl))
    · exact State.done_eq (busEnd_vout hretry' hbus rfl)

end Sys2Proof.Machine
end

/-! PROOFS. Resets (spec/17 R500 to R506): when RST.CMD acts, waits or is refused, what the reset of first supply leaves, and O55. -/
section

namespace Sys2Proof.Machine

section Resets

variable {s t : State}

/-! ## RST.CMD (R502, R523) -/

theorem State.startHandover_refused {cause : Nat} (h : s.handoverReason ≠ 0) : s.startHandover cause = (s, s.handoverReason) := by
  simp [State.startHandover, h]

theorem State.handoverSend_cause (s : State) : s.handoverSend.par.handover.map (·.cause) = s.par.handover.map (·.cause) := by
  unfold State.handoverSend
  split
  · rfl
  case h_2 h hh =>
    dsimp only
    split
    · rfl
    · simp [State.ransel, hh]

/-- A hand-over that may begin: it answers 0, and the lead remembers its cause. -/
theorem State.startHandover_begins {cause : Nat} (h : s.handoverReason = 0) :
    ∃ u : State, s.startHandover cause = (u, 0) ∧ u.par.handover.map (·.cause) = some cause := by
  unfold State.startHandover
  simp only [h, ne_eq, not_true_eq_false, if_false]
  exact ⟨_, rfl, State.handoverSend_cause _⟩

variable {op origin session : Nat}

theorem State.rstWhole_privilege {priv : Nat} (h : priv ≠ 1) :
    s.rstWhole op origin priv session = s.rstEnd op 0 0x60 1 origin priv session := by
  simp [State.rstWhole, h]

theorem State.rstWhole_follower (h : s.pairState ≠ 2) : s.rstWhole op origin 1 session =
    (s.rstEnd op 0 0 0 origin 1 session).resetHold (if op = 1 then 2 else 1) 1 := by
  simp [State.rstWhole, h]

theorem State.rstWhole_refused (h : s.pairState = 2) (hr : s.handoverReason ≠ 0) :
    s.rstWhole op origin 1 session = s.rstEnd op 0 0x60 2 origin 1 session := by
  unfold State.rstWhole
  simp only [h, State.startHandover_refused hr, ne_eq, not_true_eq_false, if_false]

theorem State.rstWhole_waits (h : s.pairState = 2) (hr : s.handoverReason = 0) :
    (s.rstWhole op origin 1 session).bit RST.CMD_STATUS.PENDING = true ∧
    (s.rstWhole op origin 1 session).rst.waiting = some ⟨if op = 1 then 2 else 1, 0, origin, 1, session⟩ ∧
    (s.rstWhole op origin 1 session).par.handover.map (·.cause) = some 3 := by
  obtain ⟨u, hstart, hcause⟩ := State.startHandover_begins (cause := 3) hr
  unfold State.rstWhole
  simp only [h, hstart]
  exact ⟨State.bit_set_one _ _ le_rfl, rfl, hcause⟩

theorem State.rstPartner_refused (h : s.isDriving = false ∨ s.partnerSilent = false) :
    s.rstPartner origin 1 session = s.rstEnd 5 0 0x60 4 origin 1 session := by
  obtain h | h := h <;> simp [State.rstPartner, h]

/-! ## What the reset of first supply leaves (R500, R505, R506) -/

theorem State.resetHold_merged {source : Nat} (h : s.rst.held = some (0, source)) : s.resetHold 0 0 = s := by
  simp [State.resetHold, h]

/-- The reset of first supply held until its release. -/
def State.holding (s : State) : State := { s with rst := { s.rst with held := some (0, 0) } }

/-- A reset of first supply that none of its width precedes. -/
theorem State.resetHold_supply (h : ∀ k src, s.rst.held = some (k, src) → k ≠ 0) : ∃ u : State, s.resetHold 0 0 =
    (u.fullReset true).holding := by
  have hwidth (k : Nat) (hk : k ≠ 0) : ¬ resetWidth 0 ≤ resetWidth k := by
    unfold resetWidth
    split_ifs <;> omega
  unfold State.resetHold
  extract_lets merged u v
  have hmerged : merged = false := by
    simp only [merged]
    cases hheld : s.rst.held with
    | none => rfl
    | some p => exact decide_eq_false (hwidth p.1 (h p.1 p.2 hheld))
  have hv : v = u.fullReset true := if_neg (by decide)
  have hhold (w : State) : { w with rst := { w.rst with held := some (0, 0) } } = w.holding := rfl
  rw [if_neg (by simp [hmerged])]
  exact ⟨u, (hhold v).trans (congrArg State.holding hv)⟩

theorem State.get_holding (g : Fld) : s.holding.get g = s.get g := rfl

/-- What two states have in common where only registers, power and the speed windows may differ. -/
structure State.SameParts (t s : State) : Prop where
  tick : t.tick = s.tick
  plant : t.plant = s.plant
  prtActive : t.prtActive = s.prtActive
  rng : t.rng = s.rng
  cyc : t.cyc = s.cyc
  log : t.log = s.log
  dramLost : t.dramLost = s.dramLost
  converters : t.car.converters = s.car.converters

theorem State.SameParts.trans {u : State} (h : u.SameParts t) (h' : t.SameParts s) : u.SameParts s where
  tick := h.tick.trans h'.tick
  plant := h.plant.trans h'.plant
  prtActive := h.prtActive.trans h'.prtActive
  rng := h.rng.trans h'.rng
  cyc := h.cyc.trans h'.cyc
  log := h.log.trans h'.log
  dramLost := h.dramLost.trans h'.dramLost
  converters := h.converters.trans h'.converters

theorem State.sameParts_foldl {α : Type} {f : State → α → State} (h : ∀ s a, (f s a).SameParts s) (l : List α) (s : State) :
    (l.foldl f s).SameParts s := by
  induction l generalizing s with
  | nil => exact ⟨rfl, rfl, rfl, rfl, rfl, rfl, rfl, rfl⟩
  | cons a l ih => exact (ih _).trans (h s a)

theorem State.domsReset_sameParts (s : State) : (s.domsReset false []).SameParts s := by
  unfold State.domsReset
  refine (State.sameParts_foldl (fun u d => ?_) _ _).trans ((State.sameParts_foldl (fun u d => ?_) _ _).trans
    ((State.sameParts_foldl (fun u d => ?_) _ _).trans ?_))
  · split <;> exact ⟨rfl, rfl, rfl, rfl, rfl, rfl, rfl, rfl⟩
  all_goals exact ⟨rfl, rfl, rfl, rfl, rfl, rfl, rfl, rfl⟩

theorem State.fullReset_parts (s : State) : (s.fullReset true).tick = 0 ∧ (s.fullReset true).plant = 0 ∧
    (s.fullReset true).prtActive = [] ∧ (s.fullReset true).rng.started = [] ∧ (s.fullReset true).cyc.forces = [] ∧
    (s.fullReset true).log.queue = [] ∧ (s.fullReset true).dramLost = true ∧ (s.fullReset true).car.converters = false := by
  unfold State.fullReset
  extract_lets s1 s2 s0 _ _ s3
  have hlost : s1.dramLost = true := rfl
  have hs3 : s3.tick = 0 ∧ s3.plant = 0 ∧ s3.prtActive = [] ∧ s3.rng.started = [] ∧ s3.cyc.forces = [] ∧ s3.log.queue = [] ∧
      s3.dramLost = true ∧ s3.car.converters = false := by
    clear_value s1 s2
    exact ⟨rfl, rfl, rfl, rfl, rfl, rfl, hlost, rfl⟩
  have hparts := (s3.dropRegs fun _ c => c != .P).domsReset_sameParts
  clear_value s3
  obtain ⟨htick, hplant, hprt, hstarted, hforces, hqueue, hdram, hconv⟩ := hs3
  generalize (s3.dropRegs fun _ c => c != .P).domsReset false [] = w at hparts ⊢
  exact ⟨hparts.tick.trans htick, hparts.plant.trans hplant, hparts.prtActive.trans hprt,
    (congrArg (·.started) hparts.rng).trans hstarted, (congrArg (·.forces) hparts.cyc).trans hforces,
    (congrArg (·.queue) hparts.log).trans hqueue, hparts.dramLost.trans hdram, hparts.converters.trans hconv⟩

/-! ### The registers -/

theorem State.get_dropRegs {hit : Nat → Retention → Bool} {g : Fld} (h : hit (idBlock g.id) (idClass g.id) = true) :
    (s.dropRegs hit).get g = g.rst := by
  unfold State.get State.dropRegs Sparse.get
  rw [Sparse.find_none]
  · rfl
  · intro c hc hid
    rw [List.mem_filter, hid, h] at hc
    exact Bool.false_ne_true hc.2

theorem State.get_foldl {α : Type} {f : State → α → State} {g : Fld} (h : ∀ s a, (f s a).get g = s.get g) (l : List α) (s : State) :
    (l.foldl f s).get g = s.get g := by
  induction l generalizing s with
  | nil => rfl
  | cons a l ih => exact (ih _).trans (h s a)

theorem State.get_domsReset {g : Fld} (h : ∀ d, g.id ≠ (PWR.D_STATUS.STATE d).id) : (s.domsReset false []).get g = s.get g := by
  unfold State.domsReset
  refine (State.get_foldl (fun u d => ?_) _ _).trans ((State.get_foldl (fun u d => ?_) _ _).trans
    ((State.get_foldl (fun u d => ?_) _ _).trans ?_))
  · split <;> rfl
  · exact (State.get_setDom ..).trans (State.get_set_ne _ _ (h _))
  · exact (State.get_setDom ..).trans (State.get_set_ne _ _ (h _))
  · rfl

/-- A field that is not of class P reads its reset value after the reset of first supply. -/
theorem State.get_fullReset {g : Fld} (hreg : ∀ d, g.id ≠ (PWR.D_STATUS.STATE d).id) (hq : g.id ≠ REC.STATUS.QUEUE.id) (hclass : idClass g.id ≠ .P) :
    (s.fullReset true).get g = g.rst := by
  unfold State.fullReset
  extract_lets s1 s2 s0 _ _ s3
  rw [State.get_set_ne _ _ hq, State.get_domsReset hreg]
  exact State.get_dropRegs (by simpa using hclass)

theorem State.get_fullReset_state (s : State) : (s.fullReset true).get PAR.STATUS.STATE = 5 :=
  State.get_fullReset (fun d => by simp only [Fld.id, PAR.STATUS.STATE, PWR.D_STATUS.STATE]; omega) (by decide) (by decide)

theorem State.get_fullReset_run (s : State) : (s.fullReset true).get SYS.STATUS.RUN = 0 :=
  State.get_fullReset (fun d => by simp only [Fld.id, SYS.STATUS.RUN, PWR.D_STATUS.STATE]; omega) (by decide) (by decide)

theorem State.get_fullReset_mode (s : State) : (s.fullReset true).get VOT.STATUS.MODE = 0 :=
  State.get_fullReset (fun d => by simp only [Fld.id, VOT.STATUS.MODE, PWR.D_STATUS.STATE]; omega) (by decide) (by decide)

end Resets

open State in
/-- Settles O55: RST.CMD by the lemmas on its operations, the reset of first supply by what `fullReset` leaves. -/
theorem resets : Obligations.Resets := by
  unfold Obligations.Resets
  refine ⟨fun s init x => ⟨fun h => ?_, fun h hr p hp => ?_, fun h hr p hp => ?_, fun d hd hout => ?_, fun d hd => ?_, fun k hk => ?_,
    fun k hk => ?_, fun hdrv hseat hlive hsilent => ?_, fun h => State.done_eq (rstPartner_refused h), fun priv op => rfl,
    fun priv d hp => ⟨?_, ?_⟩, fun priv hpriv p hp => ?_⟩, fun s h => ?_, fun s src h => State.done_eq (resetHold_merged h)⟩
  · exact ⟨State.done_eq (rstWhole_follower h), State.done_eq (rstWhole_follower h)⟩
  · fin_cases hp <;> exact ⟨_, State.done_eq rfl, rstWhole_waits h hr⟩
  · fin_cases hp <;> exact State.done_eq (rstWhole_refused h hr)
  · have hno : ¬((d : Nat) = 0 ∨ ((d : Nat) = 1 ∨ (d : Nat) = 4 ∨ (d : Nat) = 5) ∧ s.pairState ≠ 5) := by
      rintro (h0 | ⟨hout', h5⟩)
      · exact hd h0
      · exact h5 (hout hout')
    exact State.done_eq ((if_neg (by decide)).trans (if_neg hno))
  · exact State.done_eq ((if_neg (by decide)).trans (if_pos hd))
  · exact State.done_eq (by simp [rstCore, hk])
  · exact State.done_eq (by simp [rstCore, Nat.not_lt.2 hk])
  · exact State.done_eq (by simp [rstPartner, hdrv, hseat, hlive, hsilent, ticksPerUs])
  · exact State.done_eq (if_pos fun h => hp (Fin.ext h))
  · exact State.done_eq (if_pos fun h => hp (Fin.ext h))
  · have hpriv' : (priv : Nat) ≠ 1 := fun h => hpriv (Fin.ext h)
    fin_cases hp
    · exact State.done_eq (rstWhole_privilege hpriv')
    · exact State.done_eq (rstWhole_privilege hpriv')
    · exact State.done_eq (if_pos hpriv')
  · obtain ⟨u, hu⟩ := resetHold_supply h
    obtain ⟨htick, hplant, hprt, hstarted, hforces, hqueue, hdram, hconv⟩ := u.fullReset_parts
    have hstate := u.get_fullReset_state
    have hrun := u.get_fullReset_run
    have hmode := u.get_fullReset_mode
    refine ⟨_, State.done_eq hu, ?_⟩
    generalize u.fullReset true = w at *
    refine ⟨htick, hplant, hprt, hstarted, hforces, hqueue, rfl, hdram, hstate, ?_, hmode, hconv⟩
    simp [inRun, bit, get_holding, hrun]

end Sys2Proof.Machine
end

/-! PROOFS. The ferry's descriptors, its sweep and the crossing (spec/05 R166 to R175), and O27. -/
section

namespace Sys2Proof.Machine

section Ferry

variable {s s1 s2 s3 t u : State} {d : Started} {m : FerryMap}

/-! ## STAGE (R166, R167) -/

theorem State.stage_reserved (h : bitsOf d.d.w5 19 13 ≠ 0 ∨ d.d.eflags ≠ 0 ∨ d.d.w4 ≠ 0) : s.stage d = s.finish d 0x10 := by
  refine if_pos ?_
  obtain h | h | h := h <;> simp [h]

/-- The fields of a STAGE that R165 keeps 0. -/
structure Desc.StagePlain (d : Desc) : Prop where
  rest : bitsOf d.w5 19 13 = 0
  flags : d.eflags = 0
  word : d.w4 = 0

theorem State.stage_range (hp : d.d.StagePlain) (h : d.d.primary % 8 ≠ 0 ∨ inSramDram d.d.primary (max 80 d.d.w1) = false) :
    s.stage d = s.finish d 0x10 0 7 := by
  obtain ⟨hrest, hflags, hword⟩ := hp
  refine (if_neg (by simp [hrest, hflags, hword])).trans (if_pos ?_)
  obtain h | h := h <;> simp [h]

theorem State.stage_passes {h body image : List Nat} (hp : d.d.StagePlain) (halign : d.d.primary % 8 = 0)
    (hin : inSramDram d.d.primary (max 80 d.d.w1) = true) (hhead : s.readBuf (s.via 20 d) d.d.primary 80 = (s1, h, none))
    (hgood : mapHeaderBad h = false) (hcrc : crc32c (h.take 0x4C) = leAt h 0x4C 4) (hpos : 0 < leAt h 0x10 4)
    (hmax : leAt h 0x10 4 ≤ 65536) (hlen : d.d.w1 = 80 + 32 * leAt h 0x10 4)
    (hbody : s1.readBuf (s1.via 20 d) (d.d.primary + 80) (32 * leAt h 0x10 4) = (s2, body, none))
    (hbcrc : crc32c body = leAt h 0x48 4)
    (himage : s2.readBuf (s2.via 20 d) (leAt h 0x18 5) (leAt h 0x20 4) = (s3, image, none))
    (hcheck : s3.mapCheck d.d h body image
      ((List.range (leAt h 0x10 4)).map fun i => ferryEntry ((body.drop (32 * i)).take 32)) = none) :
    s.stage d = s3.stagePass d h
      ((List.range (leAt h 0x10 4)).map fun i => ferryEntry ((body.drop (32 * i)).take 32)) := by
  obtain ⟨hrest, hflags, hword⟩ := hp
  have hcount : ¬(leAt h 0x10 4 = 0 ∨ 65536 < leAt h 0x10 4 ∨ d.d.w1 ≠ 80 + 32 * leAt h 0x10 4) := by omega
  unfold State.stage
  simp only [hrest, hflags, hword, halign, hin, hhead, hgood, hcrc, hcount, hbody, hbcrc, himage, hcheck]
  simp

theorem State.ferryStaged_ends (hm : s.fer.map = some m) (hst : s.fer.staging = true) (ht : ((State.set { s with fer :=
      { s.fer with staging := false, stager := none } } CYC.FERRY_STATUS.STATE 2).finishAt s.fer.stager 0 m.bytes).post 44
      m.newGen = t) :
    s.ferryStaged = if t.isTrail then t.ransel 0x40 (leBytes 4 m.newGen ++ leBytes 4 m.crc) else t := by
  subst ht
  unfold State.ferryStaged
  simp only [hm, hst, Bool.not_true, Bool.false_eq_true, if_false]

/-! ## CROSS and ABANDON (R165, R170) -/

/-- The words and flags of a CROSS or an ABANDON that R165 keeps 0. -/
structure Desc.CrossPlain (d : Desc) : Prop where
  rest : bitsOf d.w5 19 13 = 0
  flags : d.eflags = 0
  w1 : d.w1 = 0
  w2 : d.w2 = 0
  w3 : d.w3 = 0
  w4 : d.w4 = 0

theorem Desc.CrossPlain.clear {d : Desc} (h : d.CrossPlain) :
    ¬(bitsOf d.w5 19 13 != 0 || d.eflags != 0 || d.w1 != 0 || d.w2 != 0 || d.w3 != 0 || d.w4 != 0) = true := by
  obtain ⟨hrest, hflags, h1, h2, h3, h4⟩ := h
  simp [hrest, hflags, h1, h2, h3, h4]

theorem Desc.crossReserved {d : Desc}
    (h : bitsOf d.w5 19 13 ≠ 0 ∨ d.eflags ≠ 0 ∨ d.w1 ≠ 0 ∨ d.w2 ≠ 0 ∨ d.w3 ≠ 0 ∨ d.w4 ≠ 0) :
    (bitsOf d.w5 19 13 != 0 || d.eflags != 0 || d.w1 != 0 || d.w2 != 0 || d.w3 != 0 || d.w4 != 0) = true := by
  obtain h | h | h | h | h | h := h <;> simp [h]

theorem State.crossArm_arms (hp : d.d.CrossPlain) (hpriv : d.d.priv = 1) (hm : s.fer.map.isSome = true)
    (hst : s.fer.staging = false) (hno : s.fer.crosser = none) : s.crossArm d =
      ((((State.set { s with fer := { s.fer with crosser := some (d.ring, d.idx), crossBytes := 0 } }
        CYC.FERRY_STATUS.STATE 3).set CYC.FERRY_STATUS.LAST_BLOCK 0).set CYC.FERRY_STATUS.DEFERRALS 0).accept d) := by
  refine (if_neg hp.clear).trans ((if_neg (by simp [hpriv])).trans (if_neg ?_))
  obtain ⟨m, hm⟩ := Option.isSome_iff_exists.1 hm
  simp [hm, hst, hno]

theorem State.crossArm_privilege (hp : d.d.CrossPlain) (hpriv : d.d.priv ≠ 1) : s.crossArm d = s.finish d 0x60 0 12 :=
  (if_neg hp.clear).trans (if_pos hpriv)

theorem State.crossArm_refused (hp : d.d.CrossPlain) (hpriv : d.d.priv = 1)
    (h : s.fer.map = none ∨ s.fer.staging = true ∨ s.fer.crosser.isSome = true) : s.crossArm d = s.finish d 0x60 := by
  refine (if_neg hp.clear).trans ((if_neg (by simp [hpriv])).trans (if_pos ?_))
  obtain h | h | h := h <;> simp [h]

/-! ## The sweep and the crossing (R169, R171) -/

theorem State.sweep_cleaned {b : Nat} (hm : s.fer.map = some m) (hst : s.fer.staging = false)
    (hd : s.fer.dirty ≠ []) (hlate : s.crossLate = false) (hclean : s.cleanOne m = (s1, b, none)) : s.sweep =
      if s1.fer.crossing.isSome then { s1 with fer := { s1.fer with crossBytes := s1.fer.crossBytes + b } } else s1 := by
  unfold State.sweep
  simp only [hm, hst, hlate, hclean]
  exact if_neg (by simp [hd])

theorem State.sweep_faults {b : Nat} {e : Err} (hm : s.fer.map = some m) (hst : s.fer.staging = false)
    (hd : s.fer.dirty ≠ []) (hlate : s.crossLate = false) (hclean : s.cleanOne m = (s1, b, some e)) :
    s.sweep = s1.ferryFault e := by
  unfold State.sweep
  simp only [hm, hst, hlate, hclean]
  exact if_neg (by simp [hd])

theorem State.crossBudget_early (hm : s.fer.map = some m) (hlate : s.crossLate = false) : s.crossBudget = s := by
  unfold State.crossBudget
  split
  · rfl
  · simp [hm, hlate]

theorem State.crossBudget_late {b : Nat} {ks : List Nat} (hc : s.fer.crossing = some (b, ks)) (hlate : s.crossLate = true)
    (hd : s.fer.dirty ≠ []) (ht : State.startAllHeld { s with fer := { s.fer with crossing := none } } false ks = t)
    (hstill : t.fer.map.isSome = true) : s.crossBudget = t.crossDefer 5 := by
  subst ht
  unfold State.crossBudget
  simp only [hc]
  rw [if_neg (by simp [hlate, hd])]
  exact if_pos hstill

theorem State.crossed_effect {b k : Nat} {ks : List Nat} (hm : s.fer.map = some m) (hc : s.fer.crossing = some (b, ks))
    (hgo : s.crossLate = false ∨ s.fer.dirty = []) (hclean : s.cleanAll m (s.fer.dirty.length + 1) = (t, k, none))
    (hu : { t with fer := { t.fer with crossBytes := t.fer.crossBytes + k } } = u) :
    s.crossed = u.crossEffect m (originOf (u.get (RNG.RING_CFG.OWNER u.fer.ring)))
        (((u.fer.crosser.bind fun p => u.startedAt p.1 p.2).map (·.d.priv)).getD 0xFF)
        (((u.fer.crosser.bind fun p => u.startedAt p.1 p.2).map (·.d.session)).getD 0) false := by
  have hno : ¬(s.crossLate && !s.fer.dirty.isEmpty) = true := by obtain h | h := hgo <;> simp [h]
  subst hu
  unfold State.crossed
  simp only [hm, hc, hclean]
  exact if_neg hno

/-- A descriptor's end changes the ring unit's records only. -/
theorem State.finishAt_eq (s : State) (p : Option (Nat × Nat)) (status bytes detail : Nat) :
    ∃ r, s.finishAt p status bytes detail = { s with rng := r } := by
  unfold State.finishAt
  split
  · exact ⟨_, rfl⟩
  · split
    · unfold State.finish
      dsimp only
      split <;> exact ⟨_, rfl⟩
    · exact ⟨_, rfl⟩

theorem State.get_recordChange_ne (s : State) (code origin priv session : Nat) (data : List Nat) (copy : Bool) {g : Fld}
    (h : g.id ≠ REC.STATUS.QUEUE.id) : (s.recordChange code origin priv session data copy).get g = s.get g :=
  State.get_set_ne _ _ h

theorem State.get_raiseRollback_ne {g : Fld} (s : State) (kind v : Nat) (h : ∀ k, g.id ≠ (UPD.ROLLBACK.COUNTER k).id) :
    (s.raiseRollback kind v).get g = s.get g := by
  unfold State.raiseRollback
  split
  · exact State.get_set_ne _ _ (h _)
  · rfl

/-- What a crossing without entries, forces and held classes leaves: the new generation, and no map. -/
theorem State.crossEffect_plain {b : Nat} (origin priv session : Nat) (he : m.entries = [])
    (hc : s.fer.crossing = some (b, [])) :
    (s.crossEffect m origin priv session false).get CYC.PROGRAM_GEN.GEN = m.newGen % 2 ^ 32 ∧
    (s.crossEffect m origin priv session false).fer = {} ∧
    (s.crossEffect m origin priv session false).get CYC.FERRY_STATUS.STATE = 0 := by
  unfold State.crossEffect
  extract_lets p ks b' n s1 s2 s3 s4 s5 s6
  have hks : ks = [] := by simp [ks, State.heldClasses, hc]
  have hgen : s3.get CYC.PROGRAM_GEN.GEN = m.newGen % 2 ^ 32 := by
    have hfold : s3.get CYC.PROGRAM_GEN.GEN = s2.get CYC.PROGRAM_GEN.GEN :=
      State.get_foldl (fun u k => by split <;> rfl) _ _
    have hlog : s2 = ((s1.set CYC.PROGRAM_GEN.GEN m.newGen).raiseRollback 2
        ((Sparse.get ⟨0, 0, 0, 0, []⟩ s1.upd.entries m.entryId).roll)).recordChange 0x8004 origin priv session
        (leBytes 4 m.oldGen ++ leBytes 4 m.newGen) false := by simp [s2, State.crossLog, he]
    rw [hfold, hlog, State.get_recordChange_ne _ _ _ _ _ _ _ (by decide), State.get_raiseRollback_ne, State.get_set_self]
    · rfl
    · intro k
      simp only [Fld.id, CYC.PROGRAM_GEN.GEN, UPD.ROLLBACK.COUNTER]
      omega
  have hs5 : s5.get CYC.PROGRAM_GEN.GEN = m.newGen % 2 ^ 32 ∧ s5.get CYC.FERRY_STATUS.STATE = 0 := by
    constructor
    · simp (disch := decide) only [s5, State.get_set_ne]
      exact hgen
    · simp (disch := decide) only [s5, State.get_set_ne, State.get_set_self, Nat.zero_mod]
  have hs6 : (∀ g, s6.get g = s5.get g) ∧ s6.fer = {} := by
    simp only [s6]
    split <;> exact ⟨fun _ => rfl, rfl⟩
  obtain ⟨r, hend⟩ := ((s6.startAllHeld true ks).post 45 m.newGen).finishAt_eq p 0 n 0
  have hheld : s6.startAllHeld true ks = s6 := by
    rw [hks]
    rfl
  rw [hheld] at hend ⊢
  rw [hend]
  obtain ⟨hget, hfer⟩ := hs6
  obtain ⟨hgen5, hst5⟩ := hs5
  clear_value s6 s5
  exact ⟨(hget _).trans hgen5, hfer, (hget _).trans hst5⟩

theorem State.crossed_plain {b : Nat} (hm : s.fer.map = some m) (hc : s.fer.crossing = some (b, [])) (hd : s.fer.dirty = [])
    (he : m.entries = []) : s.crossed.get CYC.PROGRAM_GEN.GEN = m.newGen % 2 ^ 32 ∧ s.crossed.fer = {} ∧
      s.crossed.get CYC.FERRY_STATUS.STATE = 0 := by
  have hclean : s.cleanAll m (s.fer.dirty.length + 1) = (s, 0, none) := by simp [State.cleanAll, hd]
  rw [State.crossed_effect hm hc (.inr hd) hclean rfl]
  exact State.crossEffect_plain _ _ _ he hc

theorem State.crossTimeout_due (hcross : s.fer.crosser.isSome = true) (hc : s.fer.crossing = none)
    (hdue : max 1 (s.get CYC.CROSS_MAX_DEFER.CYCLES) ≤ s.get CYC.FERRY_STATUS.DEFERRALS) : s.crossTimeout =
      ((State.set { s with fer := { s.fer with crosser := none } } CYC.FERRY_STATUS.STATE 2).finishAt
        s.fer.crosser 0x30 0 (s.get CYC.FERRY_STATUS.LAST_BLOCK)) := by
  refine if_neg ?_
  obtain ⟨p, hp⟩ := Option.isSome_iff_exists.1 hcross
  simp [hp, hc, Nat.not_lt.2 hdue]

end Ferry

open State in
/-- Settles O27: each row of the ferry's descriptors is one of the lemmas above. -/
theorem ferryDescriptors : Obligations.FerryDescriptors := by
  unfold Obligations.FerryDescriptors
  refine ⟨⟨?_, fun s n d hd => ⟨fun h => ?_, fun hrest hflags hword h => ?_⟩, fun s t m hm hst ht => ?_⟩,
    fun s s' m b hm hst hd hlate => ⟨fun hclean => ?_, fun e hclean => ?_⟩,
    fun s n d hd hrest hflags h1 h2 h3 h4 hpriv hm hst hno => ?_, fun s n d c hc hd => ⟨?_, ?_, ?_⟩,
    fun s n d hd hrest hflags h1 h2 h3 h4 hpriv => ?_, fun s m b hm hc hd he _ => ?_, fun s t u m b ks hm hc => ⟨?_, ?_, ?_⟩,
    fun s hcross hc hdue => State.done_eq (crossTimeout_due hcross hc hdue)⟩
  · intro s s1 s2 s3 n d h body image hd hrest hflags hword halign hin hhead hgood hcrc hpos hmax hlen hbody hbcrc himage hcheck
    exact State.done_eq ((onOffer_of_offered hd).trans
      (stage_passes ⟨hrest, hflags, hword⟩ halign hin hhead hgood hcrc hpos hmax hlen hbody hbcrc himage hcheck))
  · exact State.done_eq ((onOffer_of_offered hd).trans (stage_reserved h))
  · exact State.done_eq ((onOffer_of_offered hd).trans (stage_range ⟨hrest, hflags, hword⟩ h))
  · exact State.done_eq (ferryStaged_ends hm hst ht)
  · exact State.done_eq (sweep_cleaned hm hst hd hlate hclean)
  · exact State.done_eq (sweep_faults hm hst hd hlate hclean)
  · exact State.done_eq ((onOffer_of_offered hd).trans (crossArm_arms ⟨hrest, hflags, h1, h2, h3, h4⟩ hpriv hm hst hno))
  · intro h
    fin_cases hc <;> exact State.done_eq ((onOffer_of_offered hd).trans (if_pos (Desc.crossReserved h)))
  · intro hrest hflags h1 h2 h3 h4 hpriv
    have hp : d.d.CrossPlain := ⟨hrest, hflags, h1, h2, h3, h4⟩
    fin_cases hc
    · exact State.done_eq ((onOffer_of_offered hd).trans (crossArm_privilege hp hpriv))
    · exact State.done_eq ((onOffer_of_offered hd).trans ((if_neg hp.clear).trans (if_pos hpriv)))
  · intro hop hrest hflags h1 h2 h3 h4 hpriv h
    fin_cases hc
    · exact State.done_eq ((onOffer_of_offered hd).trans (crossArm_refused ⟨hrest, hflags, h1, h2, h3, h4⟩ hpriv h))
    · exact absurd hop (show ¬ 3 = 2 by decide)
  · have hp : d.d.CrossPlain := ⟨hrest, hflags, h1, h2, h3, h4⟩
    exact State.done_eq ((onOffer_of_offered hd).trans ((if_neg hp.clear).trans (if_neg (by simp [hpriv]))))
  · exact ⟨_, State.done_eq rfl, crossed_plain hm hc hd he⟩
  · intro k hgo hclean hu
    exact State.done_eq (crossed_effect hm hc hgo hclean hu)
  · intro hlate hd ht hstill
    exact ⟨State.done_eq (crossBudget_late hc hlate hd ht hstill), fun hks => by rw [← ht, hks]; rfl⟩
  · intro hlate
    exact State.done_eq (crossBudget_early hm hlate)

end Sys2Proof.Machine
end

/-! PROOFS. The motion engine (spec/08): what a command does to its index, how commands are taken up, the end of a pass, cam
checks, status and the enable. -/

section

namespace Sys2Proof.Machine

section Motion

variable {s : State} {d : Started}

@[simp] theorem State.axis_setAxis_self (s : State) (i : Nat) (a : Axis) : (s.setAxis i a).axis i = a :=
  Sparse.get_put_self ..

theorem State.axis_setAxis_ne {i j : Nat} (s : State) (a : Axis) (h : j ≠ i) : (s.setAxis i a).axis j = s.axis j :=
  Sparse.get_put_ne _ _ _ _ h

/-- Whatever a command does, it gives its own index a new state. -/
theorem State.motEffect_setAxis (s : State) (d : Started) : ∃ a, s.motEffect d = s.setAxis d.d.motIndex a := by
  fun_cases State.motEffect s d <;> exact ⟨_, rfl⟩

theorem State.motEffect_other {j : Nat} (h : j ≠ d.d.motIndex) : (s.motEffect d).axis j = s.axis j := by
  obtain ⟨a, ha⟩ := s.motEffect_setAxis d
  rw [ha, State.axis_setAxis_ne s a h]

/-- The commands by opcode. -/
theorem State.motEffect_move (h : d.d.opcode = 2) : s.motEffect d = s.setAxis d.d.motIndex
    { (s.axis d.d.motIndex).begin (.goal ((s.axis d.d.motIndex).unwrap (d.d.eflags % 4) d.d.value64)) with
      st := 2, passed := false } := by
  unfold State.motEffect
  rw [h]
  rfl

theorem State.motEffect_velocity (h : d.d.opcode = 3) : ∃ v, s.motEffect d = s.setAxis d.d.motIndex
    { (s.axis d.d.motIndex).begin (.speed v) with st := 2, passed := false } := by
  unfold State.motEffect
  rw [h]
  exact ⟨_, rfl⟩

theorem State.motEffect_stop (h : d.d.opcode = 4) : s.motEffect d = s.setAxis d.d.motIndex
    { (s.axis d.d.motIndex).begin .stop with st := 5 } := by
  unfold State.motEffect
  rw [h]
  rfl

theorem State.motEffect_gear (h : d.d.opcode = 5) :
    ((s.motEffect d).axis d.d.motIndex).st = (if d.d.eflags.testBit 2 then 3 else 4) ∧
      ((s.motEffect d).axis d.d.motIndex).couple.map (fun c => (c.gear, c.kind, c.master, c.num, c.den)) =
        some (true, d.d.motKind, d.d.motMaster, toSigned 32 d.d.w4, d.d.w5) := by
  unfold State.motEffect
  rw [h]
  simp

theorem State.motEffect_cam (h : d.d.opcode = 6) (hswitch : d.d.eflags.testBit 2 = false) :
    ((s.motEffect d).axis d.d.motIndex).st = 4 ∧
      ((s.motEffect d).axis d.d.motIndex).couple.map (fun c => (c.gear, c.kind, c.master, c.table)) =
        some (false, d.d.motKind, d.d.motMaster, d.d.w4) := by
  unfold State.motEffect
  rw [h]
  simp [hswitch]

theorem State.motEffect_camSwitch (h : d.d.opcode = 6) (hswitch : d.d.eflags.testBit 2 = true) :
    s.motEffect d = s.setAxis d.d.motIndex
      { s.axis d.d.motIndex with switch := some (d.d.w4, toSigned 32 d.d.w5) } := by
  unfold State.motEffect
  rw [h]
  simp [hswitch]

theorem State.motEffect_shift (h : d.d.opcode = 7) : s.motEffect d = s.setAxis d.d.motIndex
    { s.axis d.d.motIndex with
      shift := some { ((s.axis d.d.motIndex).shift.getD {}).replan with
        left := ((s.axis d.d.motIndex).shift.getD {}).replan.left + d.d.value64 }
      switch := none } := by
  unfold State.motEffect
  rw [h]
  rfl

theorem Shift.left_replan_getD (h : Option Shift) :
    (h.getD {}).replan.left = (h.map fun k => k.left - k.done).getD 0 := by
  cases h <;> rfl

theorem State.motEffect_reset (h : d.d.opcode = 8) : ∃ p, s.motEffect d = s.setAxis d.d.motIndex
    { (s.axis d.d.motIndex).begin .rest with
      st := 1, pos := p, vel := 0, acc := 0, fault := 0, failing := false, admitted := false } := by
  unfold State.motEffect
  rw [h]
  exact ⟨_, rfl⟩

end Motion

open State in
/-- Settles O35: each command sets its own index, to the state its opcode names. -/
theorem motionEffects : Obligations.MotionEffects := by
  unfold Obligations.MotionEffects
  refine fun s d => ⟨fun j hj => motEffect_other hj, fun h => ?_, fun h => ?_, fun h => ?_, motEffect_gear, motEffect_cam,
    fun h hswitch => ?_, fun h => ?_, fun h => ?_⟩
  · rw [motEffect_move h, axis_setAxis_self]
    exact ⟨rfl, rfl, rfl, rfl⟩
  · obtain ⟨v, hv⟩ := motEffect_velocity (s := s) h
    rw [hv, axis_setAxis_self]
    exact ⟨rfl, rfl, Plan.noConfusion, Plan.noConfusion⟩
  · rw [motEffect_stop h, axis_setAxis_self]
    exact ⟨rfl, rfl, rfl⟩
  · rw [motEffect_camSwitch h hswitch, axis_setAxis_self]
    exact ⟨rfl, rfl⟩
  · rw [motEffect_shift h, axis_setAxis_self]
    exact ⟨rfl, congrArg (fun l => some (l + d.d.value64)) (Shift.left_replan_getD _)⟩
  · obtain ⟨p, hp⟩ := motEffect_reset (s := s) h
    rw [hp, axis_setAxis_self]
    exact ⟨rfl, rfl, rfl, rfl, rfl, rfl⟩

section MotionEngine

variable {s : State} {d : Started}

theorem State.offered_opcode {n op : Nat} {engines : List Nat} (h : s.offered n engines op = some d) : d.d.opcode = op := by
  revert h
  fun_cases State.offered s n engines op with
  | case1 => exact nofun
  | case2 _ e _ hop => rintro ⟨⟩; exact hop
  | case3 => exact nofun
  | case4 => exact nofun

theorem State.motTry_idle (h : s.mot.due = none) : s.motTry = s := by
  unfold State.motTry
  rw [h]

/-- A command taken up, by where it stands in R260 and R265. -/
theorem State.motCommand_malformed (h : s.motMalformed d.d = true) : s.motCommand d = (s.finish d 0x10).motTry :=
  congrArg State.motTry (if_pos h)

theorem State.motCommand_waits (h : s.motMalformed d.d = false) (hrun : s.inRun = true) : s.motCommand d =
    State.motTry { s.accept d with mot := { s.mot with waits := s.mot.waits ++ [(d.ring, d.idx)] } } :=
  congrArg State.motTry ((if_neg (by simp [h])).trans (if_neg (by simp [hrun])))

theorem State.motCommand_atOnce (h : s.motMalformed d.d = false) (hrun : s.inRun = false) :
    s.motCommand d = (s.motNow s.now d).motRegs.motTry :=
  congrArg State.motTry ((if_neg (by simp [h])).trans (if_pos (by simp [hrun])))

theorem State.motNow_refused {t : Nat} (h : s.motDetail d ≠ 0) : s.motNow t d = s.finishAtTick d t 0x60 (s.motDetail d) :=
  if_pos h

theorem State.motDetail_load (h : s.motEarly d = 0) (hop : d.d.opcode = 1) : s.motDetail d = 0 :=
  (if_neg (by simp [h])).trans (if_pos hop)

theorem State.motDetail_refusal (h : s.motEarly d = 0) (hop : d.d.opcode ≠ 1) : s.motDetail d = s.motRefusal d :=
  (if_neg (by simp [h])).trans (if_neg hop)

theorem State.motNow_effect {t : Nat} (h : s.motDetail d = 0) (hop : d.d.opcode ≠ 1) :
    s.motNow t d = (s.motEffect d).finishAtTick d t 0 :=
  (if_neg (by simp [h])).trans (if_neg hop)

theorem State.motNow_load {t : Nat} (h : s.motDetail d = 0) (hop : d.d.opcode = 1) : s.motNow t d = s.axisLoad t d :=
  (if_neg (by simp [h])).trans (if_pos hop)

section Load

variable {s' : State} {es : List (Nat × Axis)} (hread : s.axesRead (s.via 11 d) d.d.motIndex d.d.motCount = (s', .ok es))

include hread

theorem State.axisLoad_refused (t : Nat) (h : es.any s'.axisRefused = true) :
    s.axisLoad t d = s'.finishAtTick d t 0x60 14 := by
  unfold State.axisLoad
  rw [hread]
  exact if_pos h

theorem State.axisLoad_applies (t : Nat) (h : es.any s'.axisRefused = false) :
    s.axisLoad t d = (es.foldl State.axisApply s').finishAtTick d t 0 := by
  unfold State.axisLoad
  rw [hread]
  exact if_neg (by simp [h])

end Load

theorem State.evq_post_of_lt {data : Nat} (s : State) (src : Nat) (h : data < 2 ^ 32) :
    (s.post src data).rng.evq = s.rng.evq ++ [⟨src, data, true⟩] := by
  unfold State.post
  rw [Nat.mod_eq_of_lt h]

theorem State.motEnd_idle (hdue : s.mot.due = none) (h : s.mot.running = none) : s.motEnd = s := by
  unfold State.motEnd
  rw [State.motTry_idle hdue]
  dsimp only
  rw [h]

/-- R259. PASS_STATUS takes the time of a pass: LAST the time, MAX the greater of it and of what stood there. -/
def State.passTime (s : State) (k : Nat) : State :=
  let s := ({ s with mot := { s.mot with running := none } }).set MOT.PASS_STATUS.LAST k
  if s.get MOT.PASS_STATUS.MAX < k then s.set MOT.PASS_STATUS.MAX k else s

theorem State.passTime_rest (s : State) (k : Nat) :
    (s.passTime k).mot = { s.mot with running := none } ∧ (s.passTime k).rng = s.rng ∧ (s.passTime k).now = s.now := by
  unfold State.passTime
  dsimp only
  split <;> exact ⟨rfl, rfl, rfl⟩

theorem State.get_passTime_last (s : State) {k : Nat} (hk : k < 2 ^ 16) : (s.passTime k).get MOT.PASS_STATUS.LAST = k := by
  have hset := State.get_set_self { s with mot := { s.mot with running := none } } MOT.PASS_STATUS.LAST k
  unfold State.passTime
  dsimp only
  split
  · rw [State.get_set_ne _ _ (by decide), hset]
    exact Nat.mod_eq_of_lt hk
  · rw [hset]
    exact Nat.mod_eq_of_lt hk

theorem State.get_passTime_max (s : State) {k : Nat} (hk : k < 2 ^ 16) :
    (s.passTime k).get MOT.PASS_STATUS.MAX = max (s.get MOT.PASS_STATUS.MAX) k := by
  have hbefore : (({ s with mot := { s.mot with running := none } } : State).set MOT.PASS_STATUS.LAST k).get MOT.PASS_STATUS.MAX =
      s.get MOT.PASS_STATUS.MAX := State.get_set_ne _ _ (by decide)
  unfold State.passTime
  dsimp only
  rw [hbefore]
  split
  case isTrue h =>
    rw [State.get_set_self, Nat.max_eq_right h.le]
    exact Nat.mod_eq_of_lt hk
  case isFalse h =>
    rw [hbefore, Nat.max_eq_left (Nat.not_lt.1 h)]

/-- R259. A commit that waited for the pass goes on. -/
def State.freeCommit (s : State) : State :=
  match s.mot.held with
  | none => s
  | some h => ((State.bump { s with mot := { s.mot with held := none } } MOT.COMMIT_WAITS.COUNT).post 118 (min (s.now - h) 0xFFFF))

theorem State.motEnd_running {t : Nat} (hdue : s.mot.due = none) (hrun : s.mot.running = some t) :
    s.motEnd = (s.passTime (min (s.now - t) 0xFFFF)).freeCommit := by
  unfold State.motEnd
  rw [State.motTry_idle hdue]
  dsimp only
  rw [hrun]
  rfl

theorem State.freeCommit_mot (s : State) : s.freeCommit.mot = { s.mot with held := none } := by
  unfold State.freeCommit
  split
  case h_1 h => rw [← h]
  case h_2 => rfl

theorem State.get_freeCommit {g : Fld} (s : State) (hg : g.id ≠ MOT.COMMIT_WAITS.COUNT.id) : s.freeCommit.get g = s.get g := by
  unfold State.freeCommit
  split
  · rfl
  · exact (State.get_post ..).trans (State.get_bump_ne _ _ hg)

theorem State.freeCommit_none (h : s.mot.held = none) : s.freeCommit = s := by
  unfold State.freeCommit
  rw [h]

theorem State.freeCommit_evq {h : Nat} (hheld : s.mot.held = some h) :
    s.freeCommit.rng.evq = s.rng.evq ++ [⟨118, min (s.now - h) 0xFFFF, true⟩] := by
  unfold State.freeCommit
  rw [hheld]
  exact State.evq_post_of_lt _ _ (by omega)

theorem State.motEnd_effect {t : Nat} (hdue : s.mot.due = none) (hrun : s.mot.running = some t) :
    s.motEnd.mot.running = none ∧ s.motEnd.mot.held = none ∧
      s.motEnd.get MOT.PASS_STATUS.LAST = min (s.now - t) 0xFFFF ∧
      s.motEnd.get MOT.PASS_STATUS.MAX = max (s.get MOT.PASS_STATUS.MAX) (min (s.now - t) 0xFFFF) := by
  have hk : min (s.now - t) 0xFFFF < 2 ^ 16 := by omega
  obtain ⟨hmot, -, -⟩ := s.passTime_rest (min (s.now - t) 0xFFFF)
  rw [State.motEnd_running hdue hrun, State.freeCommit_mot, hmot, State.get_freeCommit _ (by decide),
    State.get_freeCommit _ (by decide), State.get_passTime_last s hk, State.get_passTime_max s hk]
  exact ⟨rfl, rfl, rfl, rfl⟩

theorem State.motEnd_evq_none {t : Nat} (hdue : s.mot.due = none) (hrun : s.mot.running = some t) (hheld : s.mot.held = none) :
    s.motEnd.rng.evq = s.rng.evq := by
  obtain ⟨hmot, hrng, -⟩ := s.passTime_rest (min (s.now - t) 0xFFFF)
  rw [State.motEnd_running hdue hrun, State.freeCommit_none (by rw [hmot]; exact hheld), hrng]

theorem State.motEnd_evq_held {t h : Nat} (hdue : s.mot.due = none) (hrun : s.mot.running = some t) (hheld : s.mot.held = some h) :
    s.motEnd.rng.evq = s.rng.evq ++ [⟨118, min (s.now - h) 0xFFFF, true⟩] := by
  obtain ⟨hmot, hrng, hnow⟩ := s.passTime_rest (min (s.now - t) 0xFFFF)
  rw [State.motEnd_running hdue hrun, State.freeCommit_evq (by rw [hmot]; exact hheld), hrng, hnow]

/-! CAM_CHECK (R276). -/

theorem State.camCheck_used (hgood : d.d.motBad = false) (hdrop : d.d.eflags.testBit 0 = true) (h : s.camUsed d.d.w4 = true) :
    s.camCheck d = s.finish d 0x60 0 13 :=
  (if_neg (by simp [hgood])).trans ((if_pos hdrop).trans (if_pos h))

theorem State.camCheck_drops (hgood : d.d.motBad = false) (hdrop : d.d.eflags.testBit 0 = true) (h : s.camUsed d.d.w4 = false) :
    s.camCheck d = State.finish { s with mot := { s.mot with valid := s.mot.valid.filter (· != d.d.w4) } } d 0 :=
  (if_neg (by simp [hgood])).trans ((if_pos hdrop).trans (if_neg (by simp [h])))

section CamEntry

variable {s0 s1 s2 : State} {e16 bs : List Nat} (hgood : d.d.motBad = false) (hcheck : d.d.eflags.testBit 0 = false)
  (hs0 : { s with mot := { s.mot with valid := s.mot.valid.filter (· != d.d.w4) } } = s0)
  (hentry : s0.readBuf (s0.via 11 d) (s0.camDir d.d.w4) 16 = (s1, e16, none))

include hgood hcheck hs0 hentry

theorem State.camCheck_count (h : leAt e16 8 2 < 2 ∨ 4096 < leAt e16 8 2) : s.camCheck d = s1.finish d 0x60 0 10 := by
  unfold State.camCheck
  simp only [hgood, hcheck, hs0, hentry, if_pos h, Bool.false_eq_true, if_false]

theorem State.camCheck_adds (hmin : 2 ≤ leAt e16 8 2) (hmax : leAt e16 8 2 ≤ 4096) (haddr : leAt e16 0 8 < 256 * 2 ^ 32)
    (halign : leAt e16 0 8 % 8 = 0) (hin : within .dram (leAt e16 0 8) (24 * leAt e16 8 2) = true) (hkind : e16.getD 0xA 0 < 2)
    (hrest : e16.getD 0xB 0 = 0) (hread : s1.readBuf (s1.via 11 d) (leAt e16 0 8) (24 * leAt e16 8 2) = (s2, bs, none))
    (hcrc : crc32c bs = leAt e16 0xC 4) (hhead : ((camPoints bs (leAt e16 8 2)).head?.map (·.x)) = some 0)
    (hrising : camRising (camPoints bs (leAt e16 8 2)) = true) :
    s.camCheck d = State.finish { s2 with mot := { s2.mot with valid := addOnce s2.mot.valid d.d.w4 } } d 0 := by
  have hcount : ¬(leAt e16 8 2 < 2 ∨ 4096 < leAt e16 8 2) := by omega
  have hrange : ¬ 256 * 2 ^ 32 ≤ leAt e16 0 8 := Nat.not_le.2 haddr
  have hkind' : ¬ 2 ≤ e16.getD 0xA 0 := Nat.not_le.2 hkind
  unfold State.camCheck
  simp only [hgood, hcheck, hs0, hentry, hread, hcount, hrange, hkind', halign, hin, hrest, hcrc, hhead, hrising, ne_eq,
    not_true, decide_false, bne_self_eq_false, Bool.not_true, Bool.or_false, Bool.false_eq_true, if_false]

end CamEntry

/-! STATUS (R264, R280). -/

theorem State.motStatus_early (hgood : d.d.motBad = false) (h : s.motEarly d ≠ 0) :
    s.motStatus d = s.finish d 0x60 0 (s.motEarly d) :=
  (if_neg (by simp [hgood])).trans (if_pos h)

theorem State.motStatus_writes {s2 : State} {m : Nat} (hgood : d.d.motBad = false) (h : s.motEarly d = 0)
    (hput : s.putRecords (s.via 11 d) d.d.secondary
      ((List.range d.d.motCount).map fun j => s.statusRecord (d.d.motIndex + j)) = (s2, m, none)) :
    s.motStatus d = s2.finish d 0 (32 * m) := by
  unfold State.motStatus
  rw [if_neg (by simp [hgood]), if_neg (by simp [h])]
  dsimp only
  rw [hput]

/-! The enable (R282). -/

section Enable

variable {s' : State} {es : List (Nat × Axis)} (hoff : s.bit MOT.CTRL.ENABLE = false) (htarget : s.targetFailed [10, 23] = false)

include hoff htarget

theorem State.motEnable_table (h : inSramDram s.motTable (520 * 64) = false) : s.motEnable = s.motEnableEnd 1 :=
  (if_neg (by simp [hoff, htarget])).trans (if_pos (by simp [h]))

theorem State.motEnable_cams (hin : inSramDram s.motTable (520 * 64) = true) (h : within .dram (s.camDir 0) 4096 = false) :
    s.motEnable = s.motEnableEnd 2 :=
  (if_neg (by simp [hoff, htarget])).trans ((if_neg (by simp [hin])).trans (if_pos (by simp [h])))

section Read

variable (hin : inSramDram s.motTable (520 * 64) = true) (hcams : within .dram (s.camDir 0) 4096 = true)
  (hread : s.axesRead { init := 11 } 0 520 = (s', .ok es))

include hin hcams hread

theorem State.motEnable_fails {c : Nat} (hc : c ≠ 0) (h : s'.motCause es = c) : s.motEnable = s'.motEnableEnd c := by
  unfold State.motEnable
  rw [if_neg (by simp [hoff, htarget]), if_neg (by simp [hin]), if_neg (by simp [hcams]), hread]
  dsimp only
  rw [h]
  exact if_pos hc

theorem State.motEnable_passes (h : s'.motCause es = 0) : s.motEnable =
    (State.motEnableEnd { s' with mot := {
      axes := (es.filter (·.2.present)).map (fun (e : Nat × Axis) => (e.1, { e.2 with st := 1, pos := s'.actual e.2 }))
      prev := s'.mot.prev, prev2 := s'.mot.prev2, waits := s'.mot.waits } } 0).motRegs := by
  unfold State.motEnable
  rw [if_neg (by simp [hoff, htarget]), if_neg (by simp [hin]), if_neg (by simp [hcams]), hread]
  dsimp only
  rw [h]
  exact if_neg (by simp)

end Read

end Enable

end MotionEngine

open State in
/-- Settles O34: each row of the motion engine is one of the lemmas above. -/
theorem motionEngine : Obligations.MotionEngine := by
  unfold Obligations.MotionEngine
  refine ⟨fun s n d p hp hd => ?_, fun s n d hrun hgood hearly => ⟨fun hd h => ?_, fun s' es hd hop hread => ⟨fun h => ?_, fun h => ?_⟩⟩,
    fun s hdue => ⟨fun h => State.done_eq (motEnd_idle hdue h), fun t hrun => ?_⟩, fun s => State.done_eq rfl,
    fun s n d hgood => ⟨fun hd hdrop h => ?_, fun hd hdrop h => ?_, fun s0 s1 s2 e16 bs hd hcheck hs0 hentry => ⟨fun h => ?_, ?_⟩,
      fun hd h => ?_, fun s2 m hd h hput => ?_⟩,
    fun s s' es hoff htarget => ⟨fun h => State.done_eq (motEnable_table hoff htarget h),
      fun hin h => State.done_eq (motEnable_cams hoff htarget hin h), fun hin hcams hread => ⟨fun ax h hax => ?_, fun c hc h => ?_⟩⟩⟩
  · have hrow : exec p.2 s = (s.motCommand d).done := by
      fin_cases hp <;> exact congrArg State.done (onOffer_of_offered hd)
    refine ⟨fun h => ?_, fun h hrun => ⟨?_, fun hdue => ?_⟩, fun h hrun hdue hr => ?_⟩
    · rw [hrow]
      exact State.done_eq (motCommand_malformed h)
    · rw [hrow]
      exact State.done_eq (motCommand_waits h hrun)
    · rw [hrow]
      exact State.done_eq ((motCommand_waits h hrun).trans (motTry_idle hdue))
    · rw [hrow]
      exact State.done_eq ((motCommand_atOnce h hrun).trans (by rw [motNow_refused hr]))
  · have hop : d.d.opcode ≠ 1 := by rw [offered_opcode hd]; decide
    refine State.done_eq ((onOffer_of_offered hd).trans ((motCommand_atOnce hgood hrun).trans ?_))
    rw [motNow_effect ((motDetail_refusal hearly hop).trans h) hop]
  · refine State.done_eq ((onOffer_of_offered hd).trans ((motCommand_atOnce hgood hrun).trans ?_))
    rw [motNow_load (motDetail_load hearly hop) hop, axisLoad_refused hread _ h]
  · refine State.done_eq ((onOffer_of_offered hd).trans ((motCommand_atOnce hgood hrun).trans ?_))
    rw [motNow_load (motDetail_load hearly hop) hop, axisLoad_applies hread _ h]
  · obtain ⟨hnone, hheld, hlast, hmax⟩ := motEnd_effect hdue hrun
    refine ⟨_, State.done_eq rfl, hnone, hheld, hlast, hmax, ?_⟩
    split
    · next h hh => exact motEnd_evq_held hdue hrun hh
    · next hh => exact (motEnd_evq_none hdue hrun hh).trans (List.append_nil _).symm
  · exact State.done_eq ((onOffer_of_offered hd).trans (camCheck_drops hgood hdrop h))
  · exact State.done_eq ((onOffer_of_offered hd).trans (camCheck_used hgood hdrop h))
  · exact State.done_eq ((onOffer_of_offered hd).trans (camCheck_count hgood hcheck hs0 hentry h))
  · intro hmin hmax haddr halign hin hkind hrest hread hcrc hhead hrising
    exact State.done_eq ((onOffer_of_offered hd).trans
      (camCheck_adds hgood hcheck hs0 hentry hmin hmax haddr halign hin hkind hrest hread hcrc hhead hrising))
  · exact State.done_eq ((onOffer_of_offered hd).trans (motStatus_early hgood h))
  · exact State.done_eq ((onOffer_of_offered hd).trans (motStatus_writes hgood h hput))
  · subst hax
    exact State.done_eq (motEnable_passes hoff htarget hin hcams hread h)
  · exact State.done_eq (motEnable_fails hoff htarget hin hcams hread hc h)

end Sys2Proof.Machine
end

/-! PROOFS. The messages of the Ransel stream (spec/11). -/

section

namespace Sys2Proof.Machine

section StreamStart

/-- When the valid messages of link 0 began (R346), after a step. -/
def beatsFrom : Answer → Option Nat
  | .next s => s.par.linkA.beatFrom
  | _ => none

/-- Reset, with a stream that waits for SEQ 0. -/
def streamAtReset : State := { State.reset with par := { State.reset.par with synced := true } }

/-- The head of a valid message with SEQ 0 on link 0. -/
def firstHead : RanselHead := ⟨0, 0, true⟩

/-- The first valid message of a link begins its 1 ms of R346, which `State.moved` leaves out. -/
theorem beatsFrom_staged : beatsFrom (exec (.staged firstHead 0 0) streamAtReset) = some 0 := by decide +kernel

theorem beatsFrom_moved : beatsFrom (.next
    (((streamAtReset.moved firstHead).act1 firstHead.link (.staged 0 0)).messageDone firstHead).settle) = none := by
  decide +kernel

end StreamStart

/-- Refutes O38: at reset with a stream that waits for SEQ 0, a valid STAGED with SEQ 0 on link 0 begins the link's 1 ms of valid
messages (R346: `beatFrom` becomes the tick), and the statement's `State.moved` sets only the tick of the last message. -/
theorem not_ranselMessages : ¬ Obligations.RanselMessages := by
  unfold Obligations.RanselMessages
  intro h
  have hrow := (h streamAtReset firstHead 0 false false 0 0 0 0 0 [] [] 0 ⟨0, [], [], [], [], false⟩ 0 0 ⟨0, 0, 0⟩ 0
    ⟨0, 0, 0, 0, 0, []⟩ [] 0 [] 0 {} (.staged firstHead 0 0, .staged 0 0) (by simp)).1 (by decide +kernel)
  have hbeat := congrArg beatsFrom hrow
  rw [beatsFrom_staged, beatsFrom_moved] at hbeat
  exact Option.some_ne_none _ hbeat

section PairState

variable {s : State}

/-- What a fold over a list leaves unchanged, where every step leaves it unchanged. -/
theorem State.foldl_keeps {α β : Type} {f : State → α → State} (part : State → β) (h : ∀ s a, part (f s a) = part s) (l : List α)
    (s : State) : part (l.foldl f s) = part s := by
  induction l generalizing s with
  | nil => rfl
  | cons a l ih => exact (ih _).trans (h s a)

/-- A field of a family that each step of a fold writes for its own index. -/
theorem State.get_foldl_mem {f : State → Nat → State} {F : Nat → Fld} {v : Nat → Nat} {m : Nat} {l : List Nat} (hm : m ∈ l)
    (hself : ∀ s, (f s m).get (F m) = v m) (hother : ∀ n ∈ l, n ≠ m → ∀ s, (f s n).get (F m) = s.get (F m)) (s : State) :
    (l.foldl f s).get (F m) = v m := by
  have hkeep (n) (hn : n ∈ l) (u : State) (hu : u.get (F m) = v m) : (f u n).get (F m) = v m := by
    by_cases h : n = m
    · rw [h]; exact hself u
    · exact (hother n hn h u).trans hu
  clear hother
  induction l generalizing s with
  | nil => exact absurd hm List.not_mem_nil
  | cons a l ih =>
    by_cases hml : m ∈ l
    · exact ih hml _ fun n hn => hkeep n (List.mem_cons_of_mem _ hn)
    · obtain rfl : m = a := (List.mem_cons.1 hm).resolve_right hml
      exact List.foldlRecOn (motive := fun u : State => u.get (F m) = v m) l f (hself s)
        fun u hu n hn => hkeep n (List.mem_cons_of_mem _ hn) u hu

theorem State.notDriving (h : s.pairState = 3) : s.isDriving = false := by simp [State.isDriving, h]

theorem State.refreshPair_par (s : State) : ∃ e, s.refreshPair.par = { s.par with eligibleSince := e } := by
  have htold (t : State) (b : Bool) (src data : Nat) : (if b then t.post src data else t).par = t.par := by cases b <;> rfl
  unfold State.refreshPair
  extract_lets r was s1 s2 hold
  have hs2 : s2.par = s.par := htold s1 _ _ _
  clear_value s2
  split
  · exact ⟨some s2.now, congrArg (fun p : Par => { p with eligibleSince := some s2.now }) hs2⟩
  · exact ⟨none, congrArg (fun p : Par => { p with eligibleSince := none }) hs2⟩
  · exact ⟨s.par.eligibleSince, hs2⟩

theorem State.pairState_refreshPair (s : State) : s.refreshPair.pairState = s.pairState :=
  s.refreshPair_rest.2 _ (by decide) (by decide)

/-- A change of the pair's state is told in STATUS. -/
theorem State.setPairState_told {new reason : Nat} (hnew : new < 8) (hreason : reason < 16) :
    (s.setPairState new reason).pairState = new ∧ (s.setPairState new reason).get PAR.STATUS.UNTETHER_REASON = reason := by
  unfold State.setPairState
  extract_lets old
  split
  case isTrue h =>
    obtain ⟨hsame, hr⟩ := h
    exact ⟨(State.pairState_refreshPair s).trans hsame.symm, (s.refreshPair_rest.2 _ (by decide) (by decide)).trans hr.symm⟩
  case isFalse =>
    constructor
    · rw [State.pairState_refreshPair]
      unfold State.pairState
      rw [State.get_setB_ne _ _ (by decide), State.get_post, State.get_set_ne _ _ (by decide), State.get_set_self]
      exact Nat.mod_eq_of_lt hnew
    · rw [State.refreshPair_rest _ |>.2 _ (by decide) (by decide), State.get_setB_ne _ _ (by decide), State.get_post,
        State.get_set_self]
      exact Nat.mod_eq_of_lt hreason

theorem State.untether_told {reason : Nat} (h : s.pairState = 3) (hreason : reason < 16) :
    (s.untether reason).pairState = 4 ∧ (s.untether reason).get PAR.STATUS.UNTETHER_REASON = reason := by
  unfold State.untether
  rw [if_pos h]
  exact State.setPairState_told (by decide) hreason

theorem State.joinStep_settled (h : s.pairState ≠ 1) : s.joinStep = s := if_neg fun hj => h hj.1

theorem State.seeEpoch_par (e : Nat) : (s.seeEpoch e).par = s.par := by
  unfold State.seeEpoch
  split <;> rfl

theorem State.get_seeEpoch {g : Fld} (e : Nat) (h : g.id ≠ PAR.EPOCH.EPOCH.id) : (s.seeEpoch e).get g = s.get g := by
  unfold State.seeEpoch
  split
  · exact State.get_set_ne _ _ h
  · rfl

end PairState

section TrailMessages

variable {s : State} {l : Nat}

theorem State.cutIn_keeps (h3 : s.pairState = 3) {c : CutWait} (h : s.par.tetherFrom = none) :
    s.cutIn c = s.putFollow { s.par.follow with cuts := s.par.follow.cuts ++ [c] } := by
  unfold State.cutIn
  rw [h, State.notDriving h3]
  rfl

theorem State.commitIn_keeps (h3 : s.pairState = 3) {k c d t : Nat} (h : s.par.ownDigests = []) :
    s.commitIn k c d t = s.putFollow { s.par.follow with commits := s.par.follow.commits ++ [(k, c, d, t)] } := by
  unfold State.commitIn
  rw [h, State.notDriving h3]
  rfl

theorem State.readIn_keeps (h3 : s.pairState = 3) {i v : Nat} (h : s.vot.readIdx ≤ i) :
    s.readIn i v = s.putFollow { s.par.follow with reads := s.par.follow.reads ++ [(i, v)] } :=
  if_neg (by simp [State.notDriving h3, h])

theorem State.deliveryIn_keeps (h3 : s.pairState = 3) {p : Nat} {ws : List Nat} (h : s.vot.delivery = none) :
    (s.deliveryIn p ws).vot.delivery = some p ∧
      (s.deliveryIn p ws).par.follow.deliveries = s.par.follow.deliveries ++ [(p, ws)] := by
  simp [State.deliveryIn, State.notDriving h3, State.putFollow, h]

theorem State.lockIn_keeps (h3 : s.pairState = 3) {i k st : Nat} (h : s.par.follow.lockReqs = []) (hi : s.vot.lockIdx ≤ i) :
    s.lockIn i k st = s.putFollow { s.par.follow with locks := s.par.follow.locks ++ [(i, k, st)] } := by
  unfold State.lockIn
  rw [h, State.notDriving h3]
  exact if_neg (Nat.not_lt.2 hi)

/-- No COMPLETION is for a descriptor where none is started. -/
theorem State.followComps_idle (h : s.rng.started = []) : s.followComps = s := by
  unfold State.followComps
  refine List.foldlRecOn (motive := (· = s)) _ _ rfl fun u hu c _ => ?_
  rw [hu, h]
  rfl

theorem State.completionIn_keeps (h3 : s.pairState = 3) {r : Nat} {record data : List Nat} (h : s.rng.started = []) :
    s.completionIn r record data = s.putFollow { s.par.follow with comps := s.par.follow.comps ++ [(r, record, data)] } := by
  unfold State.completionIn
  rw [if_neg (by simp [State.notDriving h3])]
  exact State.followComps_idle h

theorem State.loopIn_waits (h3 : s.pairState = 3) {r : LoopRec} {k c d u : Nat} (h : s.par.follow.commits = [(k, c, d, u)])
    (hloops : s.par.follow.loops = []) : (s.loopIn r).par.follow.loops = [([(k, c)], r)] := by
  unfold State.loopIn State.followLoops State.putFollow
  rw [if_neg (by simp [h3]), h, hloops]
  dsimp only
  unfold State.runLoops
  simp [h]

theorem State.controlIn_keeps (h3 : s.pairState = 3) {k : Nat} {c : Control} (h : c.op ∈ [1, 2, 0x10, 0x11, 0x12]) :
    s.controlIn k c = s.putFollow { s.par.follow with controls := s.par.follow.controls ++ [c] } := by
  have hknown : c.op ∈ [1, 2, 0x10, 0x11, 0x12, 0x20] := List.mem_append_left [0x20] h
  have hdue : c.op ≠ 0x20 := by
    intro h20
    rw [h20] at h
    exact absurd h (by decide)
  exact (if_neg (by simp only [hknown, decide_true, Bool.not_true]; decide)).trans
    ((if_neg (by simp [State.notDriving h3])).trans (if_neg hdue))

theorem State.controlIn_reserved (h3 : s.pairState = 3) {k : Nat} {c : Control} (h : ¬ c.op ∈ [1, 2, 0x10, 0x11, 0x12, 0x20]) :
    (s.controlIn k c).pairState = 4 ∧ (s.controlIn k c).get PAR.STATUS.UNTETHER_REASON = 3 := by
  have hbump : (s.bump (PAR.LINK_ERRORS.CRC k)).pairState = 3 :=
    (State.get_bump_ne _ _ (by simp only [Fld.id, PAR.STATUS.STATE, PAR.LINK_ERRORS.CRC]; omega)).trans h3
  unfold State.controlIn
  rw [if_pos (by simp only [h, decide_false, Bool.not_false])]
  exact State.untether_told hbump (by decide)

theorem State.crossedIn_names (h3 : s.pairState = 3) {b g : Nat} {m : FerryMap} (hm : s.fer.map = some m) (hg : m.newGen = g)
    (hst : s.fer.staging = false) : s.crossedIn b g = s.putFollow { s.par.follow with crossed := some (b, g) } := by
  unfold State.crossedIn
  rw [if_neg (by simp [h3]), hm]
  exact if_pos ⟨hg, by simp [hst]⟩

theorem State.crossedIn_noMap (h3 : s.pairState = 3) {b g : Nat} (hm : s.fer.map = none) : s.crossedIn b g = s.untether 5 := by
  unfold State.crossedIn
  rw [if_neg (by simp [h3]), hm]

/-- R250. One channel of a MIRROR. -/
def State.mirrorChannel (chans : List (Nat × Nat × Nat × Nat)) (s : State) (n : Nat) : State :=
  match chans.find? fun c => c.1 == n with
  | some c =>
    let s := ((s.set (FIO.CH_STATUS.LATCHED_OFF n) 1).set (FIO.CH_STATUS.DIAG n) c.2.1).set (FIO.CH_STATUS.PARTNER n) c.2.2.1
    { s with fio := { s.fio with latched := Sparse.insert s.fio.latched n (s.fromPair c.2.2.2) } }
  | none =>
    let s := ((s.set (FIO.CH_STATUS.LATCHED_OFF n) 0).set (FIO.CH_STATUS.DIAG n) 0).set (FIO.CH_STATUS.PARTNER n) 0
    { s with fio := { s.fio with latched := Sparse.erase s.fio.latched n } }

theorem State.mirrorIn_trail (h3 : s.pairState = 3) (cs : List (Nat × Nat × Nat × Nat)) (a : Nat) : s.mirrorIn cs a =
    (List.range 4).foldl (fun s g => s.setB (FIO.GROUP_STATUS.AWAIT_ACK g) (a.testBit g))
      ((List.range 32).foldl (State.mirrorChannel cs) s) :=
  if_neg (by simp [State.notDriving h3])

/-- A MIRROR writes three fields of each channel. -/
theorem State.get_mirrorChannel (cs : List (Nat × Nat × Nat × Nat)) (s : State) (n : Nat) : ∃ d p,
    ∀ g, (s.mirrorChannel cs n).get g = (((s.set (FIO.CH_STATUS.LATCHED_OFF n) (b2n (cs.any (·.1 == n)))).set
      (FIO.CH_STATUS.DIAG n) d).set (FIO.CH_STATUS.PARTNER n) p).get g := by
  unfold State.mirrorChannel
  split
  case h_1 c hc =>
    have hany : cs.any (·.1 == n) = true := List.any_eq_true.2 ⟨c, List.mem_of_find?_eq_some hc, by simpa using List.find?_some hc⟩
    rw [hany]
    exact ⟨c.2.1, c.2.2.1, fun _ => rfl⟩
  case h_2 hc =>
    have hany : cs.any (·.1 == n) = false := List.any_eq_false.2 fun c hmem => by simpa using List.find?_eq_none.1 hc c hmem
    rw [hany]
    exact ⟨0, 0, fun _ => rfl⟩

theorem State.mirrorIn_channel (h3 : s.pairState = 3) {cs : List (Nat × Nat × Nat × Nat)} {a n : Nat} (hn : n < 32) :
    (s.mirrorIn cs a).bit (FIO.CH_STATUS.LATCHED_OFF n) = cs.any (·.1 == n) := by
  have hchannels : ((List.range 32).foldl (State.mirrorChannel cs) s).get (FIO.CH_STATUS.LATCHED_OFF n) =
      b2n (cs.any (·.1 == n)) := by
    refine State.get_foldl_mem (F := FIO.CH_STATUS.LATCHED_OFF) (v := fun n => b2n (cs.any (·.1 == n))) (List.mem_range.2 hn)
      (fun u => ?_) (fun m hm hne u => ?_) s
    · obtain ⟨d, p, hget⟩ := State.get_mirrorChannel cs u n
      rw [hget, State.get_set_ne, State.get_set_ne, State.get_set_self]
      · cases cs.any (·.1 == n) <;> rfl
      · simp only [Fld.id, FIO.CH_STATUS.LATCHED_OFF, FIO.CH_STATUS.DIAG]; omega
      · simp only [Fld.id, FIO.CH_STATUS.LATCHED_OFF, FIO.CH_STATUS.PARTNER]; omega
    · obtain ⟨d, p, hget⟩ := State.get_mirrorChannel cs u m
      have hm := List.mem_range.1 hm
      rw [hget, State.get_set_ne, State.get_set_ne, State.get_set_ne]
      all_goals
        simp only [Fld.id, FIO.CH_STATUS.LATCHED_OFF, FIO.CH_STATUS.DIAG, FIO.CH_STATUS.PARTNER]
        omega
  have hgroups := State.get_foldl (f := fun s g => s.setB (FIO.GROUP_STATUS.AWAIT_ACK g) (a.testBit g))
    (g := FIO.CH_STATUS.LATCHED_OFF n) (fun s g => State.get_setB_ne _ _ (by
      simp only [Fld.id, FIO.CH_STATUS.LATCHED_OFF, FIO.GROUP_STATUS.AWAIT_ACK]; omega)) (List.range 4)
    ((List.range 32).foldl (State.mirrorChannel cs) s)
  rw [State.mirrorIn_trail h3, State.bit, hgroups, hchannels]
  cases cs.any (·.1 == n) <;> rfl

theorem State.mirrorIn_group (h3 : s.pairState = 3) {cs : List (Nat × Nat × Nat × Nat)} {a g : Nat} (hg : g < 4) :
    (s.mirrorIn cs a).bit (FIO.GROUP_STATUS.AWAIT_ACK g) = a.testBit g := by
  rw [State.mirrorIn_trail h3, State.bit, State.get_foldl_mem (F := FIO.GROUP_STATUS.AWAIT_ACK) (v := fun g => b2n (a.testBit g))
    (List.mem_range.2 hg) (fun u => State.get_setB_self _ _ _ (show 1 ≤ 1 from le_rfl)) (fun m hm hne u => ?_)]
  · cases a.testBit g <;> rfl
  · have hm := List.mem_range.1 hm
    exact State.get_setB_ne _ _ (by simp only [Fld.id, FIO.GROUP_STATUS.AWAIT_ACK]; omega)

theorem State.blockIn_waits (h3 : s.pairState = 3) {i c : Nat} {d : List Nat} (h : (s.cls 0).cycle < c) :
    s.blockIn i c d = { s with par := { s.par with installs := s.par.installs ++ [(i, c, d)] } } := by
  have hne : ((s.cls 0).cycle == c) = false := beq_false_of_ne (Nat.ne_of_lt h)
  unfold State.blockIn
  rw [if_neg (by simp [h3])]
  exact if_neg (by simp [hne, Nat.le_of_lt h])

theorem State.tetherDataIn_keeps (h3 : s.pairState = 3) {o : Nat} {d : List Nat} :
    s.tetherDataIn o d = { s with par := { s.par with tetherData := Sparse.insert s.par.tetherData o d } } :=
  if_neg (by simp [State.notDriving h3])

theorem Sparse.find_append_of_some {α : Type} {l m : List (Nat × α)} {k : Nat} {v : α} (h : Sparse.find l k = some v) :
    Sparse.find (l ++ m) k = some v := by
  induction l with
  | nil => exact absurd h nofun
  | cons p l ih =>
    obtain ⟨a, b⟩ := p
    unfold Sparse.find at h
    rw [List.cons_append, Sparse.find]
    split at h
    · next ha => rwa [if_pos ha]
    · next ha => rw [if_neg ha, ih h]

theorem State.frameData_serves {n q : Nat} {b : List Nat} {e : Station} (hst : s.station n = some e)
    (hlen : b.length = e.upBytes) (hvals : (upValues e b).1 = true) (hcrc : beAt b 12 4 = e.crc) :
    (s.frameData n q b).bodyOf n q = some b := by
  have hgood : ¬ (b.length ≠ e.upBytes || !(upValues e b).1 || decide (beAt b 12 4 ≠ e.crc)) = true := by
    simp [hlen, hvals, hcrc]
  unfold State.frameData
  rw [hst]
  dsimp only
  rw [if_neg hgood]
  have hholder (t : State) (e' : Station) (f : Follow) : ((t.setStation n e').putFollow f).holder n = some e' :=
    Sparse.find_append_of_some (Sparse.find_insert_self _ _ _)
  have hold : (e.hist.filter fun (h : Nat × List Nat) => h.1 != q).find? (fun h => h.1 == q) = none :=
    List.find?_eq_none.2 fun h hmem => by simpa using (List.mem_filter.1 hmem).2
  unfold State.bodyOf
  rw [hholder]
  dsimp only
  rw [List.find?_append, hold]
  simp

theorem State.handoverIn_keeps (h3 : s.pairState = 3) {b e : Nat} (h : s.ineligible = 0) :
    (s.handoverIn b e).par.handIn = some (b, e, false) := by
  have hsee : (s.seeEpoch e).ineligible = 0 := by
    have hapart : ∀ g ∈ reasonFields, g.id ≠ PAR.EPOCH.EPOCH.id := by decide
    rw [State.ineligible_congr (by rw [State.seeEpoch_par]) (by rw [State.seeEpoch_par]) fun g hg => State.get_seeEpoch e (hapart g hg),
      h]
  have hstate : (s.seeEpoch e).pairState = 3 := (State.get_seeEpoch e (by decide)).trans h3
  unfold State.handoverIn
  dsimp only
  rw [if_pos ⟨hstate, hsee⟩]

end TrailMessages

open State in
/-- Settles O39: each message at a tethered trail is one of the lemmas above. -/
theorem ranselTrailMessages : Obligations.RanselTrailMessages := by
  unfold Obligations.RanselTrailMessages
  refine fun s l h3 => ⟨fun c h => ?_, fun k c d t h => ?_, fun i v h => ?_, fun p ws h => deliveryIn_keeps h3 h,
    fun i k st h hi => ?_, fun r rec data h => ?_, fun r k c d u h hloops => loopIn_waits h3 h hloops, fun n f m => ?_,
    fun k c => ⟨fun h => ?_, fun h => controlIn_reserved h3 h⟩,
    fun b g => ⟨fun m hm hg hst => ?_, fun hm => ?_⟩, fun cs a => ⟨fun n hn => mirrorIn_channel h3 hn, fun g hg => mirrorIn_group h3 hg⟩,
    fun c bs => rfl, fun i c d h => ?_, fun n q b e hst hlen hvals hcrc => frameData_serves hst hlen hvals hcrc, fun o d => ?_,
    fun b e h => handoverIn_keeps h3 h⟩
  · exact congrArg (·.par.follow.cuts) (cutIn_keeps h3 h)
  · exact congrArg (·.par.follow.commits) (commitIn_keeps h3 h)
  · exact congrArg (·.par.follow.reads) (readIn_keeps h3 h)
  · exact congrArg (·.par.follow.locks) (lockIn_keeps h3 h hi)
  · exact congrArg (·.par.follow.comps) (completionIn_keeps h3 h)
  · exact List.mem_append_right _ (List.mem_singleton_self _)
  · exact congrArg (·.par.follow.controls) (controlIn_keeps h3 h)
  · exact congrArg (·.par.follow.crossed) (crossedIn_names h3 hm hg hst)
  · exact (congrArg (fun t : State => t.pairState = 4 ∧ t.get PAR.STATUS.UNTETHER_REASON = 5) (crossedIn_noMap h3 hm)).mpr
      (untether_told h3 (by decide))
  · exact congrArg (·.par.installs) (blockIn_waits h3 h)
  · exact congrArg (·.par.tetherData) (tetherDataIn_keeps h3)

end Sys2Proof.Machine
end

/-! PROOFS. The messages of the Ransel stream that open and close the pair, answer requests and tether (spec/11). -/

section

namespace Sys2Proof.Machine

section PairMessages

variable {s : State} {l : Nat}

/-! ## HELLO and HEARTBEAT (R349, R347) -/

theorem State.helloIn_opens {h : Hello} (hslot : h.slot ≠ s.get SYS.CARRIER_STATUS.SLOT)
    (hproto : h.proto = (s.slot s.activeSlot).proto) (hcarrier : h.carrier = s.car.carrierId) (hstate : s.pairState ≠ 1) :
    (s.helloIn h).par.helloOk = true ∧ (s.helloIn h).par.hello = some h := by
  have hsame : (State.refreshPair { s with par := { s.par with hello := some h, helloOk := true, helloBad := false } }).pairState ≠ 1 := by
    rw [State.pairState_refreshPair]
    exact hstate
  have hopen : s.helloIn h = State.refreshPair { s with par := { s.par with hello := some h, helloOk := true, helloBad := false } } :=
    ((if_neg hslot).trans (if_neg (not_or.2 ⟨not_not_intro hproto, not_not_intro hcarrier⟩))).trans (State.joinStep_settled hsame)
  obtain ⟨e, he⟩ := State.refreshPair_par { s with par := { s.par with hello := some h, helloOk := true, helloBad := false } }
  rw [hopen, he]
  exact ⟨rfl, rfl⟩

/-- A HEARTBEAT that no trail has sent confirms no hand-over. -/
theorem State.confirmed_lead (cycle tick : Nat) : s.confirmed 2 cycle tick = s := by
  unfold State.confirmed
  split
  · rfl
  · split
    · rfl
    · simp

theorem State.roleWithPartner_trail (h : s.pairState = 3) : s.roleWithPartner = s := by
  simp [State.roleWithPartner, h]

theorem State.tetherDue_trail (h : s.pairState = 3) : s.tetherDue = s :=
  if_neg (by simp [State.notDriving h])

/-- What a trail keeps of a HEARTBEAT of the lead. -/
def State.heardLead (s : State) (el le : Bool) (ep cy : Nat) (dn : List Nat) : State :=
  { s.set PAR.STATUS.PARTNER_STATE 2 with par := { s.par with
      partnerEligible := el, partnerLease := le, partnerEpoch := ep, partnerCycle := cy, heartbeatAt := some s.now
      announced := (List.range 4).zip dn } }

/-- What a HEARTBEAT of the lead leaves at a tethered trail. -/
def State.leadBeat (s : State) (l : Nat) (el le : Bool) (ep cy ti : Nat) (dn : List Nat) : State :=
  ((s.heardLead el le ep cy dn).seeEpoch ep).set2 PAR.TICK_OFFSET_LO.OFFSET PAR.TICK_OFFSET_HI.OFFSET
    ((ti + (s.link l).latency + 2 ^ 64 - s.now) % 2 ^ 64)

section LeadBeat

variable (el le : Bool) (ep cy ti : Nat) (dn : List Nat)

theorem State.pairState_heardLead : ((s.heardLead el le ep cy dn).seeEpoch ep).pairState = s.pairState := by
  have hset : (s.heardLead el le ep cy dn).pairState = s.pairState :=
    State.get_set_ne (f := PAR.STATUS.PARTNER_STATE) (g := PAR.STATUS.STATE) s 2 (by decide)
  exact (State.get_seeEpoch ep (by decide)).trans hset

theorem State.link_heardLead : ((s.heardLead el le ep cy dn).seeEpoch ep).link l = s.link l := by
  unfold State.link
  rw [State.seeEpoch_par]
  rfl

theorem State.now_heardLead : ((s.heardLead el le ep cy dn).seeEpoch ep).now = s.now := by
  unfold State.seeEpoch
  split <;> rfl

theorem State.pairState_leadBeat : (s.leadBeat l el le ep cy ti dn).pairState = s.pairState :=
  (State.get_set2_ne _ _ (by decide) (by decide)).trans (State.pairState_heardLead el le ep cy dn)

theorem State.heartbeatIn_lead (h3 : s.pairState = 3) : s.heartbeatIn l 2 el le ep cy ti dn = s.leadBeat l el le ep cy ti dn := by
  have hstate := (State.pairState_leadBeat (l := l) el le ep cy ti dn).trans h3
  have hdrive : ((s.heardLead el le ep cy dn).seeEpoch ep).isDriving = false :=
    State.notDriving ((State.pairState_heardLead el le ep cy dn).trans h3)
  have hrole : (((s.leadBeat l el le ep cy ti dn).confirmed 2 cy ti).roleWithPartner).tetherDue = s.leadBeat l el le ep cy ti dn := by
    rw [State.confirmed_lead, State.roleWithPartner_trail hstate, State.tetherDue_trail hstate]
  have hjoin : (s.leadBeat l el le ep cy ti dn).joinStep = s.leadBeat l el le ep cy ti dn :=
    State.joinStep_settled (by rw [hstate]; decide)
  unfold State.heartbeatIn
  extract_lets lead s1 p s2 s3 s4
  have hs2 : s2 = (s.heardLead el le ep cy dn).seeEpoch ep := rfl
  have hs3 : s3 = s.leadBeat l el le ep cy ti dn := by
    unfold s3
    rw [hs2, if_pos ⟨Or.inr rfl, by simp [hdrive]⟩, State.link_heardLead, State.now_heardLead]
    rfl
  have hs4 : s4 = s.leadBeat l el le ep cy ti dn := by rw [← hrole, ← hs3]
  rw [hs4, if_neg (by rw [hstate]; exact fun h => absurd h.1 (by decide)), hjoin]

theorem State.leadBeat_effect : let x := s.leadBeat l el le ep cy ti dn
    x.get PAR.STATUS.PARTNER_STATE = 2 ∧ x.par.partnerCycle = cy ∧ x.par.heartbeatAt = some s.now ∧
      x.get2 PAR.TICK_OFFSET_LO.OFFSET PAR.TICK_OFFSET_HI.OFFSET = (ti + (s.link l).latency + 2 ^ 64 - s.now) % 2 ^ 64 := by
  have hpar : (s.leadBeat l el le ep cy ti dn).par = (s.heardLead el le ep cy dn).par := by
    unfold State.leadBeat
    rw [State.set2, State.set_par, State.set_par, State.seeEpoch_par]
  have hpartner : (s.heardLead el le ep cy dn).get PAR.STATUS.PARTNER_STATE = 2 := State.get_set_self s _ 2
  refine ⟨?_, ?_, ?_, ?_⟩
  · unfold State.leadBeat
    rw [State.get_set2_ne _ _ (by decide) (by decide), State.get_seeEpoch _ (by decide), hpartner]
  · rw [hpar]
    rfl
  · rw [hpar]
    rfl
  · unfold State.leadBeat
    rw [State.get2_set2 _ _ (by decide)]
    exact Nat.mod_mod _ _

end LeadBeat

/-! ## NAK, requests, RELAY (R345, R351, R209) -/

theorem State.nakIn_answers {q : Nat} {m : Sent}
    (h : keptMessage q (2 ^ 20) (firstSent 0 (s.sent.drop s.par.keepFrom)).reverse = some m) : s.nakIn q = s.send m := by
  unfold State.nakIn
  rw [h]

theorem State.frameRequest_answers {n q : Nat} {b : List Nat} (hcls : s.cyc.classes = []) (h : s.bodyOf n q = some b) :
    s.frameRequest n q = s.ransel 0x24 (leBytes 2 n ++ [0, 0] ++ leBytes 4 q ++ b) := by
  have hfrozen : ((List.range 8).findSome? fun k =>
      ((s.cls k).frozen.find? fun (f : Nat × Nat × List Nat) => f.1 == n && f.2.1 == q).map (·.2.2)) = none := by
    simp [State.cls, hcls, Sparse.get, Sparse.find]
  unfold State.frameRequest
  dsimp only
  rw [hfrozen, h]

theorem State.relayed_sends {c : Nat} {f : List Nat} (hon : s.crossOn c = true) (hc : c < 4) (h1 : f.getD 15 0 ≠ 1)
    (h2 : f.getD 15 0 ≠ 2) : s.relayed c f = s.send (.frame c f) :=
  (if_neg (by simp [hon, hc])).trans ((if_neg h1).trans (if_neg h2))

/-! ## HANDOVER_REQUEST and YIELD (R379, R375) -/

theorem State.handoverRequestIn_refused (h : s.handoverReason ≠ 0) : s.handoverRequestIn = s.post 171 3 := by
  unfold State.handoverRequestIn
  rw [State.startHandover_refused h]
  split
  · next heq => exact absurd (congrArg Prod.snd heq) h
  · next heq => cases heq; rfl

theorem State.handoverSend_keeps (s : State) (f : Handover → α) (hf : ∀ h t, f { h with sent := t } = f h) :
    s.handoverSend.par.handover.map f = s.par.handover.map f := by
  unfold State.handoverSend
  split
  · rfl
  · next h hh =>
    split
    · rfl
    · rw [hh]
      exact congrArg some (hf h _)

theorem State.handoverRequestIn_begins (h : s.handoverReason = 0) :
    s.handoverRequestIn.par.handover.map (fun h => (h.due, h.epoch, h.cause)) = some (s.cycle + 1, s.par.ownEpoch + 1, 2) := by
  unfold State.handoverRequestIn State.startHandover
  simp only [h, ne_eq, not_true_eq_false, if_false]
  exact State.handoverSend_keeps _ _ fun _ _ => rfl

theorem State.yieldIn_trail (h : s.isDriving = false) (e c : Nat) :
    s.yieldIn e c = ((s.post 166 (256 * c)).seeEpoch e).takeover 1 ((s.post 166 (256 * c)).seeEpoch e).nextEpoch := by
  have hstate : ((s.post 166 (256 * c)).seeEpoch e).pairState = s.pairState := State.get_seeEpoch e (by decide)
  have hdrive : ((s.post 166 (256 * c)).seeEpoch e).isDriving = false := by
    unfold State.isDriving at h ⊢
    rwa [hstate]
  exact if_neg (by simp [hdrive])

/-! ## TETHER (R361) -/

theorem State.tetherIn_restarts {b d : Nat} {img : TetherImage} (hdrive : s.isDriving = false) (hout : s.pairState ≠ 5)
    (h : Config.tetherDigest img s.par.tetherData % 2 ^ 32 ≠ d) :
    s.tetherIn b d img = { s with par := { s.par with tetherData := [] } } :=
  (if_neg (by simp [hdrive, hout])).trans (if_pos h)

section PairState

variable (s)

/-! What an installed image runs through keeps what the pair knows. -/

theorem State.par_motRegs : s.motRegs.par = s.par := by
  unfold State.motRegs
  refine (State.foldl_keeps State.par (fun u j => ?_) _ _).trans ((State.foldl_keeps State.par (fun u w => ?_) _ _).trans ?_)
  · simp only [State.set2, State.set_par]
  · simp only [State.set_par]
  · simp only [State.set_par]

theorem State.par_loopCounts : s.loopCounts.par = s.par := by simp only [State.loopCounts, State.set_par]

theorem State.par_loopMasks : s.loopMasks.par = s.par :=
  State.foldl_keeps State.par (fun u w => by simp only [State.set_par]) _ _

theorem State.par_setLoopQueue (q : List LoopSample) : (s.setLoopQueue q).par = s.par := by
  unfold State.setLoopQueue
  dsimp only
  split <;> rfl

/-! A change of the pair's state (R340). -/

/-- What the pair and the carrier know, but for the count of messages sent and the take-back hold-off. -/
def State.known (s : State) : Par × Car :=
  ({ s.par with sendSeq := 0, cycleBytes := 0, lastSent := 0, eligibleSince := none }, s.car)

/-- The voter, but for the lock that it waits for. -/
def State.voter (s : State) : Vot := { s.vot with lockWait := none }

/-- The tick counter, and what resets and the watchdog hold. -/
def State.clock (s : State) : Tick × Rst := (s.tick, s.rst)

/-- The fields that tell the pair's state and what follows from it. -/
def pairStateFields : List Fld :=
  [PAR.STATUS.STATE, PAR.STATUS.UNTETHER_REASON, PAR.STATUS.ELIGIBLE, PAR.STATUS.INELIGIBLE, TIM.STATUS.PAIR_FOLLOW]

/-- A field that a change of the pair's state leaves alone: none of the blocks LCK, CLP and CAN, none that tells the state. -/
def Fld.apartFromPair (g : Fld) : Bool :=
  decide (g.lo < 32) && !([6, 0x11, 0x14].contains (g.reg / 0x10000)) && !(pairStateFields.map Fld.id).contains g.id

/-- `t` is `s` after a change of the pair's state, as far as anything else is concerned. -/
structure State.Switched (t s : State) : Prop where
  known : t.known = s.known
  get : ∀ g : Fld, g.apartFromPair = true → t.get g = s.get g
  voter : t.voter = s.voter
  clock : t.clock = s.clock

variable {s}

theorem State.Switched.refl (s : State) : s.Switched s := ⟨rfl, fun _ _ => rfl, rfl, rfl⟩

theorem State.Switched.trans {t u : State} (h : u.Switched t) (k : t.Switched s) : u.Switched s :=
  ⟨h.known.trans k.known, fun g hg => (h.get g hg).trans (k.get g hg), h.voter.trans k.voter, h.clock.trans k.clock⟩

theorem State.Switched.foldl {α : Type} {f : State → α → State} (h : ∀ t a, (f t a).Switched t) (l : List α) (s : State) :
    (l.foldl f s).Switched s :=
  List.foldlRecOn (motive := (State.Switched · s)) l f (.refl s) fun t ht a _ => (h t a).trans ht

theorem State.Switched.set {t : State} (h : t.Switched s) {f : Fld} (v : Nat)
    (hf : ∀ g : Fld, g.apartFromPair = true → g.id ≠ f.id) : (t.set f v).Switched s :=
  ⟨h.known, fun g hg => (State.get_set_ne _ _ (hf g hg)).trans (h.get g hg), h.voter, h.clock⟩

theorem State.Switched.setB {t : State} (h : t.Switched s) {f : Fld} (b : Bool)
    (hf : ∀ g : Fld, g.apartFromPair = true → g.id ≠ f.id) : (t.setB f b).Switched s := h.set _ hf

theorem State.Switched.post {t : State} (h : t.Switched s) (src data : Nat) : (t.post src data).Switched s := ⟨h.known, h.get, h.voter, h.clock⟩

theorem State.Switched.setLockRt {t : State} (h : t.Switched s) (l : Nat) (r : LockRt) : (t.setLockRt l r).Switched s :=
  ⟨h.known, h.get, h.voter, h.clock⟩

theorem State.Switched.setResult {t : State} (h : t.Switched s) (i : Nat) (r : LockResult) : (t.setResult i r).Switched s :=
  ⟨h.known, h.get, h.voter, h.clock⟩

theorem State.Switched.withCan {t : State} (h : t.Switched s) (l : List (Nat × CanCh)) : State.Switched { t with can := l } s :=
  ⟨h.known, h.get, h.voter, h.clock⟩

theorem State.Switched.withClp {t : State} (h : t.Switched s) (c : Clp) : State.Switched { t with clp := c } s :=
  ⟨h.known, h.get, h.voter, h.clock⟩

theorem State.Switched.withFab {t : State} (h : t.Switched s) (f : Fabric) : State.Switched { t with fab := f } s :=
  ⟨h.known, h.get, h.voter, h.clock⟩

theorem State.Switched.waitsNot {t : State} (h : t.Switched s) : State.Switched { t with vot := { t.vot with lockWait := none } } s :=
  ⟨h.known, h.get, h.voter, h.clock⟩

theorem State.Switched.withRng {t : State} (h : t.Switched s) (r : Rng) : State.Switched { t with rng := r } s :=
  ⟨h.known, h.get, h.voter, h.clock⟩

theorem State.Switched.ransel {t : State} (h : t.Switched s) (kind : Nat) (p : List Nat) : (t.ransel kind p).Switched s :=
  ⟨h.known, h.get, h.voter, h.clock⟩

theorem Fld.apart_iff {g : Fld} : g.apartFromPair = true ↔ g.lo < 32 ∧ g.reg / 0x10000 ≠ 6 ∧ g.reg / 0x10000 ≠ 0x11 ∧
    g.reg / 0x10000 ≠ 0x14 ∧ ∀ f ∈ pairStateFields, g.id ≠ f.id := by
  simp [Fld.apartFromPair, pairStateFields, and_assoc]

theorem Fld.ne_pairState {f g : Fld} (hf : f ∈ pairStateFields) (hg : g.apartFromPair = true) : g.id ≠ f.id := by
  obtain ⟨-, -, -, -, hne⟩ := Fld.apart_iff.1 hg
  exact hne f hf

/-- The fields of the blocks that a change of the pair's state writes. -/
theorem Fld.ne_of_block {f g : Fld} (hg : g.apartFromPair = true) (hlo : f.lo < 32)
    (hblock : f.reg / 0x10000 = 6 ∨ f.reg / 0x10000 = 0x11 ∨ f.reg / 0x10000 = 0x14) : g.id ≠ f.id := by
  obtain ⟨hglo, h6, h11, h14, -⟩ := Fld.apart_iff.1 hg
  unfold Fld.id
  intro h
  have hreg : g.reg = f.reg := by omega
  rw [hreg] at h6 h11 h14
  omega

theorem State.Switched.canSilence (s : State) : s.canSilence.Switched s := by
  refine State.Switched.foldl (fun t c => ?_) _ _
  have hlisten {u : State} (hu : u.Switched t) (chans : List (Nat × CanCh)) :
      (State.set { u with can := chans } (CAN.CH_STATUS.LISTEN_ONLY c) 1).Switched t :=
    (hu.withCan chans).set 1 fun g hg => Fld.ne_of_block (f := CAN.CH_STATUS.LISTEN_ONLY c) hg (show 2 < 32 by decide)
      (.inr (.inr (by simp only [CAN.CH_STATUS.LISTEN_ONLY]; omega)))
  dsimp only
  split
  · next b _ =>
    exact hlisten ((State.Switched.refl t).set 0 fun g hg => Fld.ne_of_block (f := CAN.MB_STAT.IN_TX c b) hg (show 4 < 32 by decide)
      (.inr (.inr (by simp only [CAN.MB_STAT.IN_TX]; omega)))) _
  · exact hlisten (.refl t) _

theorem State.Switched.hartQuiet (s : State) (trail : Bool) : (s.hartQuiet trail).Switched s := by
  refine State.Switched.foldl (fun t e => ?_) _ _
  dsimp only
  generalize hq : State.setB { t with clp := { t.clp with jobs := Sparse.erase t.clp.jobs e.1 } } (CLP.CH_STATUS.HART_BUSY e.1) false = q
  have hquiet : q.Switched t := by
    rw [← hq]
    exact ((State.Switched.refl t).withClp _).setB _ fun g hg => Fld.ne_of_block (f := CLP.CH_STATUS.HART_BUSY e.1) hg
      (show 9 < 32 by decide) (.inr (.inl (by simp only [CLP.CH_STATUS.HART_BUSY]; omega)))
  split
  · exact hquiet.withRng _
  · obtain ⟨r, hr⟩ := State.finishAt_eq q (some (e.2.ring, e.2.idx)) 0x60 0 1
    rw [hr]
    exact hquiet.withRng r

section Locks

variable {t : State}

theorem Fld.ne_lock {f g : Fld} (hg : g.apartFromPair = true) (hlo : f.lo < 32) (hreg : f.reg / 0x10000 = 6) : g.id ≠ f.id :=
  Fld.ne_of_block hg hlo (.inl hreg)

/-- The fields of the status of a lock. -/
def lockStatusFields (l : Nat) : List Fld :=
  [LCK.LOCK_STATUS.OWNER l, LCK.LOCK_STATUS.HELD l, LCK.LOCK_STATUS.BROKEN l, LCK.LOCK_STATUS.HOLD_EXCEEDED l,
    LCK.LOCK_STATUS.WAITERS l]

theorem Fld.ne_lockStatus (l : Nat) {f g : Fld} (hf : f ∈ lockStatusFields l) (hg : g.apartFromPair = true) : g.id ≠ f.id := by
  have hreg : (0x060100 + 0x4 * (l % 64)) / 0x10000 = 6 := by omega
  unfold lockStatusFields at hf
  fin_cases hf
  · exact Fld.ne_lock hg (show 0 < 32 by decide) hreg
  · exact Fld.ne_lock hg (show 3 < 32 by decide) hreg
  · exact Fld.ne_lock hg (show 4 < 32 by decide) hreg
  · exact Fld.ne_lock hg (show 5 < 32 by decide) hreg
  · exact Fld.ne_lock hg (show 8 < 32 by decide) hreg

theorem State.Switched.lockStatus (h : t.Switched s) (l owner held broken : Nat) :
    ((((t.set (LCK.LOCK_STATUS.OWNER l) owner).set (LCK.LOCK_STATUS.HELD l) held).set (LCK.LOCK_STATUS.BROKEN l) broken).set
      (LCK.LOCK_STATUS.HOLD_EXCEEDED l) 0).Switched s :=
  (((h.set owner fun _ => Fld.ne_lockStatus (f := LCK.LOCK_STATUS.OWNER l) l (by simp [lockStatusFields])).set held
    fun _ => Fld.ne_lockStatus (f := LCK.LOCK_STATUS.HELD l) l (by simp [lockStatusFields])).set broken
    fun _ => Fld.ne_lockStatus (f := LCK.LOCK_STATUS.BROKEN l) l (by simp [lockStatusFields])).set 0
    fun _ => Fld.ne_lockStatus (f := LCK.LOCK_STATUS.HOLD_EXCEEDED l) l (by simp [lockStatusFields])

theorem State.Switched.own (h : t.Switched s) (l i : Nat) : (t.own l i).Switched s := (h.lockStatus l i 1 0).setLockRt l _

theorem State.Switched.unwait (h : t.Switched s) (i : Nat) : (t.unwait i).Switched s := by
  unfold State.unwait
  split
  · exact h
  · next l _ =>
    dsimp only
    have hwait : ((t.set (LCK.WAIT.VALID i) 0).set (LCK.WAIT.LOCK i) 0).Switched s :=
      (h.set _ fun g hg => Fld.ne_lock (f := LCK.WAIT.VALID i) hg (show 8 < 32 by decide) (by simp only [LCK.WAIT.VALID]; omega)).set _
        fun g hg => Fld.ne_lock (f := LCK.WAIT.LOCK i) hg (show 0 < 32 by decide) (by simp only [LCK.WAIT.LOCK]; omega)
    have hwaiters (g : Fld) : g.apartFromPair = true → g.id ≠ (LCK.LOCK_STATUS.WAITERS l).id :=
      Fld.ne_lockStatus l (by simp [lockStatusFields])
    generalize (t.set (LCK.WAIT.VALID i) 0).set (LCK.WAIT.LOCK i) 0 = u at hwait ⊢
    split
    · exact (hwait.waitsNot.set _ hwaiters).setLockRt l _
    · exact (hwait.set _ hwaiters).setLockRt l _

theorem State.Switched.tellLock (h : t.Switched s) (k l st : Nat) : (t.tellLock k l st).Switched s := by
  unfold State.tellLock
  split
  · exact h.ransel ..
  · exact h

theorem State.Switched.passTo (h : t.Switched s) (l i : Nat) (broken : Bool) : (t.passTo l i broken).Switched s := by
  unfold State.passTo
  extract_lets st k u
  have hu : u.Switched s := ((h.unwait i).own l i).setResult i _
  clear_value u
  refine State.Switched.post ?_ _ _
  split
  · exact hu.tellLock _ l st
  · exact hu

theorem State.Switched.passLock (h : t.Switched s) (l : Nat) (broken : Bool) : (t.passLock l broken).Switched s := by
  unfold State.passLock
  split
  · exact h.passTo ..
  · exact (h.lockStatus l 0 0 (b2n broken)).setLockRt l _

end Locks

theorem State.Switched.giveHeld (s : State) : s.giveHeld.Switched s := by
  refine State.Switched.foldl (fun t l => ?_) _ _
  split
  · exact ((State.Switched.refl t).passLock l false).withFab _
  · exact .refl t

theorem State.Switched.takeHeld (s : State) : s.takeHeld.Switched s := by
  refine State.Switched.trans (State.Switched.foldl (fun t l => ?_) _ _) ((State.Switched.refl s).withFab _)
  dsimp only
  refine State.Switched.own ?_ l 0
  split
  · exact ((State.Switched.refl t).set _ fun g hg => Fld.ne_lock (f := LCK.COUNTS.BROKEN) hg (by decide) (by decide)).post ..
  · exact .refl t

theorem State.vot_refreshPair (s : State) : s.refreshPair.vot = s.vot := by
  have hpost : (if (s.bit PAR.STATUS.ELIGIBLE && s.ineligible != 0 && s.judged.isTrail) = true
      then s.judged.post 170 s.ineligible else s.judged).vot = s.vot := by
    split <;> rfl
  fun_cases State.refreshPair s <;> exact hpost

theorem State.Switched.refreshPair (s : State) : s.refreshPair.Switched s := by
  obtain ⟨e, he⟩ := s.refreshPair_par
  have hcar : s.refreshPair.car = s.car := s.refreshPair_notified.part State.car
  refine ⟨?_, fun g hg => ?_, ?_, s.refreshPair_notified.part State.clock⟩
  · unfold State.known
    rw [he, hcar]
  · exact s.refreshPair_rest.2 g (Fld.ne_pairState (by decide) hg) (Fld.ne_pairState (by decide) hg)
  · unfold State.voter
    rw [s.vot_refreshPair]

theorem State.setPairState_switched (s : State) (new reason : Nat) : (s.setPairState new reason).Switched s := by
  unfold State.setPairState
  extract_lets old t u
  have ht : t.Switched s := by
    unfold t
    split
    · exact .refl s
    · exact (State.Switched.hartQuiet _ _).trans (State.Switched.canSilence s)
  have hu : u.Switched s := by
    unfold u
    split
    · exact ht
    · split
      · exact (State.Switched.giveHeld t).trans ht
      · exact (State.Switched.takeHeld t).trans ht
  clear_value u
  split
  · exact State.Switched.refreshPair s
  · have htold : ((u.set PAR.STATUS.STATE new).set PAR.STATUS.UNTETHER_REASON reason).Switched s :=
      (hu.set _ fun _ => Fld.ne_pairState (by decide)).set _ fun _ => Fld.ne_pairState (by decide)
    exact (State.Switched.refreshPair _).trans ((htold.post _ _).setB _ fun _ => Fld.ne_pairState (by decide))

end PairState

theorem State.tetherIn_installs {b d : Nat} {img : TetherImage} (hdrive : s.isDriving = false) (hout : s.pairState ≠ 5)
    (h : Config.tetherDigest img s.par.tetherData % 2 ^ 32 = d) :
    (s.tetherIn b d img).pairState = 3 ∧ (s.tetherIn b d img).par.tetherFrom = some b := by
  have hfrom (t : State) : (t.installImage b img).par.tetherFrom = some b := rfl
  have hinstall : ∃ u : State, s.tetherIn b d img = (u.setPairState 3).refreshPair ∧ u.par.tetherFrom = some b := by
    refine ⟨_, (if_neg (by simp [hdrive, hout])).trans (if_neg (not_not_intro h)), ?_⟩
    rw [State.set2, State.set_par, State.set_par, State.par_motRegs, State.par_loopMasks, State.par_loopCounts,
      State.par_setLoopQueue, hfrom]
  obtain ⟨u, hu, hb⟩ := hinstall
  obtain ⟨e, he⟩ := (u.setPairState 3).refreshPair_par
  rw [hu, State.pairState_refreshPair, he]
  exact ⟨(State.setPairState_told (by decide) (by decide)).1, (congrArg (·.1.tetherFrom) (State.setPairState_switched u 3 0).known).trans hb⟩

end PairMessages

open State in
/-- Settles O40: each of the other messages is one of the lemmas above. -/
theorem ranselPairMessages : Obligations.RanselPairMessages := by
  unfold Obligations.RanselPairMessages
  refine fun s l => ⟨fun u sl pr ca ge dg hsl hpr hca hst => helloIn_opens hsl hpr hca hst, fun el le ep cy ti dn h3 => ?_,
    fun q m h => congrArg State.sent (nakIn_answers h), fun i => mem_addOnce.2 (.inr rfl), fun n q b hcls h => frameRequest_answers hcls h,
    fun c f hon hc h1 h2 => relayed_sends hon hc h1 h2, fun g c => rfl,
    fun c => ⟨handoverRequestIn_refused, handoverRequestIn_begins⟩, fun e c h => yieldIn_trail h e c,
    fun b d img hdrive hout => ⟨fun h => ?_, fun h => tetherIn_installs hdrive hout h⟩⟩
  · rw [show s.act1 l (.heartbeat 2 el le ep cy ti dn) = s.heartbeatIn l 2 el le ep cy ti dn from rfl, heartbeatIn_lead el le ep cy ti dn h3]
    exact leadBeat_effect el le ep cy ti dn
  · rw [show s.act1 l (.tether b d img) = s.tetherIn b d img from rfl, tetherIn_restarts hdrive hout h]
    exact ⟨rfl, rfl⟩

end Sys2Proof.Machine
end

/-! PROOFS. The lease: answers of the witness, this unit as witness, and the lease's clocks (spec/11). -/

section

namespace Sys2Proof.Machine

section Lease

variable {s : State} {port : Nat} {f : List Nat}

/-! ## Frames and the steps they take (R340, R364) -/

/-- A LEASE frame that leaves takes its SEQUENCE and, without a key, a free value; nothing else changes. -/
theorem State.sendLease_effect (s : State) (port dst source epoch op unit carrier leaseEpoch ticks nonce : Nat) : ∃ q b n m,
    s.sendLease port dst source epoch op unit carrier leaseEpoch ticks nonce =
      State.send { s with par := { s.par with leaseSeq := q, seqBase := b }, free := n } m := by
  unfold State.sendLease State.nextLeaseSeq State.fresh
  dsimp only
  split <;> exact ⟨_, _, _, _, rfl⟩

/-- R366, R368. A frame to the witness: a RENEW opens its nonce, an EPOCH_REQUEST becomes the open request. -/
theorem State.toWitness_effect {op epoch ticks : Nat} (hw : s.hasWitness = true) (hdom : s.domOn 4 = true) : ∃ q b n m,
    s.toWitness op epoch ticks = State.send { s with
      par := { s.par with
        nonce := (s.par.nonce + 1) % 2 ^ 32, leaseSeq := q, seqBase := b
        openRenews := if op = 1 then s.par.openRenews ++ [((s.par.nonce + 1) % 2 ^ 32, s.now, ticks)] else s.par.openRenews
        openRequest := if op = 1 then s.par.openRequest else some ((s.par.nonce + 1) % 2 ^ 32) }
      free := n } m := by
  unfold State.toWitness
  rw [if_neg (by simp [hw, hdom])]
  extract_lets nonce _ s1 s2
  obtain ⟨q, b, n, m, hsend⟩ := State.sendLease_effect s1 s1.witnessPort s1.witnessMac s1.source s1.par.ownEpoch op s1.unit
    s1.car.carrierId epoch ticks nonce
  have hs2 : s2 = State.send { s1 with par := { s1.par with leaseSeq := q, seqBase := b }, free := n } m := hsend
  clear_value s2
  subst hs2
  refine ⟨q, b, n, m, ?_⟩
  split
  · next h =>
    simp only
    rfl
  · next h =>
    simp only
    rfl

theorem State.toWitness_unable {op epoch ticks : Nat} (h : (s.hasWitness && s.domOn 4) = false) :
    s.toWitness op epoch ticks = s :=
  if_pos (by rw [← Bool.not_and, h]; rfl)

theorem State.toWitness_rest (s : State) (op epoch ticks : Nat) : (s.toWitness op epoch ticks).now = s.now ∧
    (s.toWitness op epoch ticks).par.aloneAsked = s.par.aloneAsked := by
  cases h : s.hasWitness && s.domOn 4 with
  | false =>
    rw [State.toWitness_unable h]
    exact ⟨rfl, rfl⟩
  | true =>
    obtain ⟨hw, hdom⟩ := Bool.and_eq_true_iff.1 h
    obtain ⟨q, b, n, m, hsend⟩ := State.toWitness_effect (op := op) (epoch := epoch) (ticks := ticks) hw hdom
    rw [hsend]
    exact ⟨rfl, rfl⟩

/-! ## Answers (R365 to R368) -/

/-- The clauses that make an answer good, apart. -/
theorem State.answerGood_iff : s.answerGood port f = true ↔ s.domOn 4 = true ∧ beAt f 12 2 = s.get FLD.ETHERTYPE.VALUE ∧
    f.getD 15 0 = 3 ∧ headerOk f = true ∧ ucpLength f = 40 ∧ s.hasWitness = true ∧ port = s.witnessPort ∧ ucpSource f = 0xF0FF ∧
    s.leaseAuthOk f = true ∧ leaseCarrier f = s.car.carrierId ∧ (∀ q, s.par.witnessSeq = some q → q < ucpSeq f) := by
  unfold State.answerGood
  cases s.par.witnessSeq <;> simp [-List.getD_eq_getElem?_getD, and_assoc]

/-- A frame in form goes to the requests, or to the answers. -/
theorem State.leaseFrame_bad (hdom : s.domOn 4 = true) (h : headerOk f = false) : s.leaseFrame port f = s.leaseBad port :=
  (if_neg (by simp [hdom])).trans (if_pos (by simp [h]))

section Form

variable (hdom : s.domOn 4 = true) (htype : beAt f 12 2 = s.get FLD.ETHERTYPE.VALUE) (hkind : f.getD 15 0 = 3)
  (hhead : headerOk f = true) (hlen : ucpLength f = 40)

include hdom htype hkind hhead hlen

theorem State.leaseFrame_request (hop : leaseOp f = 1 ∨ leaseOp f = 3) : s.leaseFrame port f = s.requestIn port f :=
  (if_neg (by simp [hdom])).trans ((if_neg (by simp [-List.getD_eq_getElem?_getD, htype, hkind, hhead, hlen])).trans (if_pos hop))

theorem State.leaseFrame_answer (hop : ¬(leaseOp f = 1 ∨ leaseOp f = 3)) : s.leaseFrame port f = s.answerIn port f :=
  (if_neg (by simp [hdom])).trans ((if_neg (by simp [-List.getD_eq_getElem?_getD, htype, hkind, hhead, hlen])).trans (if_neg hop))

end Form

theorem State.leaseBad_noCrossing (h : 4 ≤ port ∨ s.crossOn port = false) : s.leaseBad port = s.leaseDiscard := by
  refine if_neg ?_
  have hon : s.leaseDiscard.crossOn port = s.crossOn port := rfl
  rw [hon]
  obtain h | h := h
  · simp [Nat.not_lt.2 h]
  · simp [h]

theorem State.answerIn_badAuth (h : s.leaseAuthOk f = false) : s.answerIn port f = s.leaseDiscard := if_pos (by simp [h])

/-- The state in which a good answer acts. -/
def State.answered (s : State) (f : List Nat) : State :=
  { s with par := { s.par with
    witnessSeq := some (ucpSeq f), openRenews := s.par.openRenews.filter fun r => r.1 != leaseNonce f } }

theorem State.answerIn_good (hgood : s.answerGood port f = true)
    (hopen : s.par.openRequest = some (leaseNonce f) ∨ ∃ r, s.par.openRenews.find? (fun r => r.1 == leaseNonce f) = some r) :
    s.answerIn port f = (s.answered f).witnessHeard.leaseAnswer f (s.par.openRequest == some (leaseNonce f))
      ((s.par.openRenews.find? fun r => r.1 == leaseNonce f).map (·.2)) := by
  obtain ⟨-, -, -, -, -, hw, hport, hsource, hauth, hcarrier, hseq⟩ := State.answerGood_iff.1 hgood
  have hopen' : (s.par.openRequest == some (leaseNonce f) ||
      ((s.par.openRenews.find? fun r => r.1 == leaseNonce f).map (·.2)).isSome) = true := by
    obtain h | ⟨r, hr⟩ := hopen
    · simp [h]
    · simp [hr]
  unfold State.answerIn
  refine if_neg ?_
  rw [hw, hauth, hopen']
  cases hlast : s.par.witnessSeq with
  | none => simp [hport, hsource, hcarrier]
  | some q => simp [hport, hsource, hcarrier, hseq q hlast]

theorem State.leaseFrame_good (hgood : s.answerGood port f = true) (hop : ¬(leaseOp f = 1 ∨ leaseOp f = 3)) :
    s.leaseFrame port f = s.answerIn port f := by
  obtain ⟨hdom, htype, hkind, hhead, hlen, -⟩ := State.answerGood_iff.1 hgood
  exact State.leaseFrame_answer hdom htype hkind hhead hlen hop

/-- R364. What a good answer does, by its OP. -/
theorem State.leaseFrame_renewed {n t k : Nat} (hgood : s.answerGood port f = true) (hop : leaseOp f = 2)
    (hno : s.par.openRequest ≠ some (leaseNonce f)) (hr : s.par.openRenews.find? (fun r => r.1 == leaseNonce f) = some (n, t, k)) :
    s.leaseFrame port f = ((s.answered f).witnessHeard.renewAcked t k).epochAbove (leaseEpoch f) := by
  rw [State.leaseFrame_good hgood (by rw [hop]; decide), State.answerIn_good hgood (.inr ⟨_, hr⟩), hr, beq_false_of_ne hno]
  unfold State.leaseAnswer
  rw [hop]
  rfl

section Requested

variable (hgood : s.answerGood port f = true) (hreq : s.par.openRequest = some (leaseNonce f))

include hgood hreq

theorem State.leaseFrame_granted (hop : leaseOp f = 2 ∨ leaseOp f = 4) :
    s.leaseFrame port f = (s.answered f).witnessHeard.granted (leaseEpoch f) := by
  rw [State.leaseFrame_good hgood (by omega), State.answerIn_good hgood (.inl hreq), hreq]
  unfold State.leaseAnswer
  obtain hop | hop := hop <;> simp [hop]

theorem State.leaseFrame_refused (hop : leaseOp f = 5) :
    s.leaseFrame port f = (s.answered f).witnessHeard.refused.epochAbove (leaseEpoch f) := by
  rw [State.leaseFrame_good hgood (by rw [hop]; decide), State.answerIn_good hgood (.inl hreq), hreq]
  unfold State.leaseAnswer
  simp [hop]

end Requested

/-! ## What an answer does (R365 to R368, R381) -/

theorem State.witnessHeard_par (s : State) : s.witnessHeard.par = { s.par with answers := some s.now } := by
  unfold State.witnessHeard
  dsimp only
  split <;> rfl

theorem State.witnessHeard_now (s : State) : s.witnessHeard.now = s.now := by
  unfold State.witnessHeard
  dsimp only
  split <;> rfl

theorem State.get_witnessHeard {g : Fld} (s : State) (h : g.id ≠ PAR.STATUS.WITNESS_REACHABLE.id) : s.witnessHeard.get g = s.get g := by
  unfold State.witnessHeard
  dsimp only
  split
  · rfl
  · exact State.get_set_ne (f := PAR.STATUS.WITNESS_REACHABLE) (s := { s with par := { s.par with answers := some s.now } }) 1 h

theorem State.bit_witnessHeard (s : State) : s.witnessHeard.bit PAR.STATUS.WITNESS_REACHABLE = true := by
  unfold State.witnessHeard
  dsimp only
  split
  case isTrue h => exact h
  case isFalse => exact State.bit_set_one _ _ le_rfl

theorem State.isDriving_congr {t : State} (h : t.get PAR.STATUS.STATE = s.get PAR.STATUS.STATE) : t.isDriving = s.isDriving := by
  unfold State.isDriving State.pairState
  rw [h]

/-- A driving unit's own epoch that is not below an epoch heard stays in force. -/
theorem State.epochAbove_low {e : Nat} (hdrive : s.isDriving = true) (he : e ≤ s.par.ownEpoch) : s.epochAbove e = s.seeEpoch e := by
  unfold State.epochAbove
  simp [hdrive, Nat.not_lt.2 he]

/-- Another unit keeps to the epoch register. -/
theorem State.epochAbove_other {e : Nat} (hdrive : s.isDriving = false) : ∃ t : State, s.epochAbove e = t.seeEpoch e ∧
    (∃ n, t.par = { s.par with told54 := n }) ∧ ∀ g, t.get g = s.get g := by
  have hsee (t : State) : (t.seeEpoch e).isDriving = t.isDriving := State.isDriving_congr (State.get_seeEpoch e (by decide))
  unfold State.epochAbove
  extract_lets own _ t u
  have ht : (∃ n, t.par = { s.par with told54 := n }) ∧ ∀ g, t.get g = s.get g := by
    unfold t
    split
    · exact ⟨⟨e, rfl⟩, fun g => rfl⟩
    · exact ⟨⟨s.par.told54, rfl⟩, fun g => rfl⟩
  have hno : u.isDriving = false := (hsee t).trans ((State.isDriving_congr (ht.2 _)).trans hdrive)
  exact ⟨t, if_neg (by simp [hno]), ht⟩

theorem State.renewAcked_holds {t k : Nat} (hk : k ≠ 0) (hdrive : s.isDriving = true) (hmax : s.par.leaseEnd ≤ t + k)
    (hnow : s.now < t + k) : s.renewAcked t k = State.set { s with par := { s.par with leaseEnd := t + k } } PAR.STATUS.LEASE_HELD 1 := by
  have hlater : decide (s.now < t + k) = true := decide_eq_true hnow
  refine (if_neg (by simp [hk, hdrive])).trans ?_
  dsimp only
  rw [Nat.max_eq_right hmax, hlater]
  rfl

theorem State.leaseFrame_holds {t k : Nat} (hgood : s.answerGood port f = true) (hop : leaseOp f = 2) (hreq : s.par.openRequest = none)
    (hopen : s.par.openRenews = [(leaseNonce f, t, k)]) (hk : k ≠ 0) (hdrive : s.isDriving = true) (hmax : s.par.leaseEnd ≤ t + k)
    (hnow : s.now < t + k) (he : leaseEpoch f ≤ s.par.ownEpoch) : (s.leaseFrame port f).par.leaseEnd = t + k ∧
      (s.leaseFrame port f).bit PAR.STATUS.LEASE_HELD = true ∧ (s.leaseFrame port f).bit PAR.STATUS.WITNESS_REACHABLE = true := by
  have hfind : s.par.openRenews.find? (fun r => r.1 == leaseNonce f) = some (leaseNonce f, t, k) := by simp [hopen]
  generalize hu : (s.answered f).witnessHeard = u
  have hpar : u.par = { s.par with
      witnessSeq := some (ucpSeq f), openRenews := s.par.openRenews.filter fun r => r.1 != leaseNonce f, answers := some s.now } := by
    rw [← hu, State.witnessHeard_par]
    rfl
  have hunow : u.now = s.now := by rw [← hu, State.witnessHeard_now]; rfl
  have hudrive : u.isDriving = true :=
    (State.isDriving_congr (by rw [← hu, State.get_witnessHeard _ (by decide)]; rfl)).trans hdrive
  have hreach : u.bit PAR.STATUS.WITNESS_REACHABLE = true := by rw [← hu]; exact State.bit_witnessHeard _
  have hacked := State.renewAcked_holds (s := u) hk hudrive (by rw [hpar]; exact hmax) (by rw [hunow]; exact hnow)
  have hdrive' : (u.renewAcked t k).isDriving = true := by
    rw [hacked]
    exact (State.isDriving_congr (State.get_set_ne _ _ (by decide))).trans hudrive
  have hframe : s.leaseFrame port f = (u.renewAcked t k).seeEpoch (leaseEpoch f) := by
    rw [State.leaseFrame_renewed hgood hop (by simp [hreq]) hfind, hu, State.epochAbove_low hdrive']
    rw [hacked, State.set_par, hpar]
    exact he
  have hbit (g : Fld) (hg : g.id ≠ PAR.EPOCH.EPOCH.id) : (s.leaseFrame port f).bit g = (u.renewAcked t k).bit g := by
    rw [hframe]
    exact State.bit_congr _ _ (State.get_seeEpoch _ hg)
  refine ⟨?_, ?_, ?_⟩
  · rw [hframe, State.seeEpoch_par, hacked, State.set_par]
  · rw [hbit _ (by decide), hacked]
    exact State.bit_set_one _ _ le_rfl
  · rw [hbit _ (by decide), hacked, State.bit_set_ne _ _ (by decide)]
    exact hreach

theorem State.takeEpoch_par (e : Nat) : (s.takeEpoch e).par = { s.par with ownEpoch := e } :=
  State.seeEpoch_par e

theorem State.tokenRaise_rest (s : State) : s.tokenRaise.pairState = s.pairState ∧ s.tokenRaise.par.ownEpoch = s.par.ownEpoch ∧
    s.tokenRaise.par.openRequest = s.par.openRequest := by
  unfold State.tokenRaise
  split
  · exact ⟨rfl, rfl, rfl⟩
  · exact ⟨State.get_set_ne (f := PAR.STATUS.TOKEN_RAISED) (g := PAR.STATUS.STATE) s 1 (by decide), rfl, rfl⟩

/-- R381. A unit without a slot fault drives alone, with the epoch given. -/
theorem State.driveAlone_drives {e : Nat} (h : s.bit SYS.CARRIER_STATUS.SLOT_FAULT = false) : (s.driveAlone e).pairState = 0 ∧
    (s.driveAlone e).par.ownEpoch = e ∧ (s.driveAlone e).par.openRequest = s.par.openRequest := by
  have hdrive : s.driveAlone e = ((s.noAlone.takeEpoch e).setPairState 0).tokenRaise := if_neg (by simp [h])
  obtain ⟨hstate, hepoch, hreq⟩ := State.tokenRaise_rest ((s.noAlone.takeEpoch e).setPairState 0)
  have hknown := (State.setPairState_switched (s.noAlone.takeEpoch e) 0 0).known
  have hpar := s.noAlone.takeEpoch_par e
  rw [hdrive, hstate, hepoch, hreq]
  exact ⟨(State.setPairState_told (by decide) (by decide)).1, (congrArg (·.1.ownEpoch) hknown).trans (congrArg (·.ownEpoch) hpar),
    (congrArg (·.1.openRequest) hknown).trans (congrArg (·.openRequest) hpar)⟩

theorem State.granted_alone {e : Nat} (halone : s.par.aloneAsked = true) (hdrive : s.isDriving = false)
    (hslot : s.bit SYS.CARRIER_STATUS.SLOT_FAULT = false) : (s.granted e).pairState = 0 ∧ (s.granted e).par.ownEpoch = e ∧
      (s.granted e).par.openRequest = none := by
  have hclosed : s.closeRequest.isDriving = false := (State.isDriving_congr (State.get_set_ne _ _ (by decide))).trans hdrive
  have hgrant : s.granted e = s.closeRequest.driveAlone e :=
    if_pos (Bool.and_eq_true_iff.2 ⟨halone, by rw [hclosed]; rfl⟩)
  rw [hgrant]
  exact State.driveAlone_drives ((State.bit_set_ne _ _ (by decide)).trans hslot)

theorem State.untether_switched (h : s.pairState = 3) (reason : Nat) : (s.untether reason).Switched
    { s with par := { s.par with tetherFrom := none, tetherData := [], handIn := none } } := by
  unfold State.untether
  rw [if_pos h]
  exact State.setPairState_switched _ _ _

/-- R368. A tethered trail whose request is refused is untethered. -/
theorem State.refused_untethers (h : s.pairState = 3) (e : Nat) : (s.refused.epochAbove e).pairState = 4 ∧
    (s.refused.epochAbove e).get PAR.STATUS.UNTETHER_REASON = 1 ∧ (s.refused.epochAbove e).par.openRequest = none ∧
      (s.refused.epochAbove e).par.refusedAt = s.now := by
  have hstate : (State.closeRequest { s with par := { s.par with refusedAt := s.now } }).pairState = 3 :=
    (State.get_set_ne (f := PAR.STATUS.REQUEST_PENDING) (g := PAR.STATUS.STATE) _ 0 (by decide)).trans h
  obtain ⟨hfour, hreason⟩ := State.untether_told hstate (reason := 1) (by decide)
  have hknown := (State.untether_switched hstate 1).known
  have hfour : s.refused.pairState = 4 := hfour
  obtain ⟨t, heq, ⟨n, hn⟩, hget⟩ := State.epochAbove_other (s := s.refused) (e := e) (by simp [State.isDriving, hfour])
  rw [heq, State.seeEpoch_par, hn, State.get_seeEpoch _ (by decide), hget, show (t.seeEpoch e).pairState = s.refused.pairState from
    (State.get_seeEpoch e (by decide)).trans (hget _)]
  exact ⟨hfour, hreason, congrArg (·.1.openRequest) hknown, congrArg (·.1.refusedAt) hknown⟩

/-! ## This unit as witness (R365, R369) -/

theorem State.requestGood_iff {w : WitnessEntry} : s.requestGood f w = true ↔ s.domOn 4 = true ∧
    beAt f 12 2 = s.get FLD.ETHERTYPE.VALUE ∧ f.getD 15 0 = 3 ∧ headerOk f = true ∧ ucpLength f = 40 ∧ s.isDriving = true ∧
    s.leaseAuthOk f = true ∧ ucpSource f = 0xF000 + leaseUnit f ∧ leaseCarrier f = w.carrier ∧
    Sparse.get 0 w.lastSeq (leaseUnit f) < ucpSeq f := by
  simp [State.requestGood, -List.getD_eq_getElem?_getD, and_assoc]

/-- The entry of a pair whose unit has asked, and what it asked. -/
def WitnessEntry.heard (w : WitnessEntry) (f : List Nat) : WitnessEntry :=
  { w with lastSeq := Sparse.insert w.lastSeq (leaseUnit f) (ucpSeq f) }

def askedOf (port : Nat) (f : List Nat) : WitnessReq :=
  ⟨leaseUnit f, leaseEpoch f, leaseTicksOf f, leaseNonce f, port, ucpMac f⟩

section Request

variable {w : WitnessEntry} (hgood : s.requestGood f w = true)
  (hfind : s.par.witnessFor.find? (fun x => x.carrier == leaseCarrier f) = some w)

include hgood hfind

theorem State.requestIn_good : s.requestIn port f = if leaseOp f = 1 then (s.putWitness (w.heard f)).witnessRenew (w.heard f) (askedOf port f)
    else (s.putWitness (w.heard f)).witnessRequest (w.heard f) (askedOf port f) := by
  obtain ⟨-, -, -, -, -, hdrive, hauth, hsource, -, hseq⟩ := State.requestGood_iff.1 hgood
  unfold State.requestIn
  rw [hfind]
  exact (if_neg (by simp [hdrive])).trans (if_neg (by simp [hauth, hsource, hseq]))

theorem State.leaseFrame_renews (hop : leaseOp f = 1) :
    s.leaseFrame port f = (s.putWitness (w.heard f)).witnessRenew (w.heard f) (askedOf port f) := by
  obtain ⟨hdom, htype, hkind, hhead, hlen, -⟩ := State.requestGood_iff.1 hgood
  rw [State.leaseFrame_request hdom htype hkind hhead hlen (.inl hop), State.requestIn_good hgood hfind, if_pos hop]

theorem State.leaseFrame_requests (hop : leaseOp f = 3) :
    s.leaseFrame port f = (s.putWitness (w.heard f)).witnessRequest (w.heard f) (askedOf port f) := by
  obtain ⟨hdom, htype, hkind, hhead, hlen, -⟩ := State.requestGood_iff.1 hgood
  rw [State.leaseFrame_request hdom htype hkind hhead hlen (.inr hop), State.requestIn_good hgood hfind, if_neg (by omega)]

end Request

section OnlyPair

variable {w : WitnessEntry} (hone : s.par.witnessFor = [w])

theorem State.witnessFor_putWitness {v : WitnessEntry} (hone : s.par.witnessFor = [w]) (hv : v.carrier = w.carrier) :
    (s.putWitness v).par.witnessFor = [v] := by
  unfold State.putWitness
  simp [hone, hv]

theorem State.witnessFor_witnessSend (s : State) (w : WitnessEntry) (port mac unit op ticks nonce : Nat) :
    (s.witnessSend w port mac unit op ticks nonce).par.witnessFor = s.par.witnessFor := by
  obtain ⟨q, b, n, m, hsend⟩ := State.sendLease_effect s port mac 0xF0FF s.par.ownEpoch op unit w.carrier w.epoch ticks nonce
  unfold State.witnessSend
  rw [hsend]
  rfl

include hone

theorem State.find_onlyPair (hgood : s.requestGood f w = true) :
    s.par.witnessFor.find? (fun x => x.carrier == leaseCarrier f) = some w := by
  obtain ⟨-, -, -, -, -, -, -, -, hcarrier, -⟩ := State.requestGood_iff.1 hgood
  simp [hone, hcarrier]

theorem State.witnessFor_renewed (hticks : 0 < leaseTicksOf f) (hepoch : leaseEpoch f = w.epoch)
    (hholder : w.holder = some (leaseUnit f)) (hpend : w.pend = []) :
    ((s.putWitness (w.heard f)).witnessRenew (w.heard f) (askedOf port f)).par.witnessFor =
      [{ w.heard f with expiry := s.now + leaseTicksOf f, pend := [] }] := by
  have hput := State.witnessFor_putWitness (v := w.heard f) hone rfl
  have hothers : (w.heard f).pend = [] := hpend
  unfold State.witnessRenew
  dsimp only
  rw [if_pos ⟨hticks, hepoch, by simp [WitnessEntry.heard, askedOf, hholder]⟩, hothers]
  dsimp only [List.filter, List.foldl]
  rw [State.witnessFor_witnessSend]
  exact State.witnessFor_putWitness hput rfl

theorem State.witnessRequest_waits (hlater : s.now < w.expiry) (hholder : w.holder ≠ some (leaseUnit f)) (hpend : w.pend = []) :
    ((s.putWitness (w.heard f)).witnessRequest (w.heard f) (askedOf port f)).par.witnessFor =
        [{ w.heard f with pend := [askedOf port f] }] ∧
      ((s.putWitness (w.heard f)).witnessRequest (w.heard f) (askedOf port f)).sent = s.sent := by
  have hput := State.witnessFor_putWitness (v := w.heard f) hone rfl
  have hothers : (w.heard f).pend = [] := hpend
  have hwaits : (s.putWitness (w.heard f)).witnessRequest (w.heard f) (askedOf port f) =
      (s.putWitness (w.heard f)).putWitness { w.heard f with pend := [askedOf port f] } := by
    refine ((if_neg (Nat.not_le.2 hlater)).trans (if_neg hholder)).trans ?_
    rw [hothers]
    rfl
  rw [hwaits]
  exact ⟨State.witnessFor_putWitness hput rfl, rfl⟩

end OnlyPair

theorem State.witnessRequest_free {w : WitnessEntry} (h : w.expiry ≤ s.now) :
    (s.putWitness (w.heard f)).witnessRequest (w.heard f) (askedOf port f) =
      (s.putWitness (w.heard f)).witnessGrant (w.heard f) (askedOf port f) :=
  if_pos h

theorem State.witnessExpiry_entry {i : Nat} {w : WitnessEntry} {q : WitnessReq} {qs : List WitnessReq}
    (hw : s.par.witnessFor[i]? = some w) (hpend : w.pend = q :: qs) (hdrive : s.isDriving = true) :
    s.witnessExpiry i = if w.expiry ≤ s.now then s.witnessGrant w q else s := by
  unfold State.witnessExpiry
  rw [hw]
  dsimp only
  rw [hpend]
  simp [hdrive]

/-! ## The lease's clocks (R366 to R368) -/

/-- What a renewal or a probe leaves beside the frame: the tick of the last one, and the sixteen newest open renewals. -/
theorem State.renewalDue_renews (hw : s.hasWitness = true) (hdrive : s.isDriving = true)
    (hdue : ∀ t, s.par.renewAt = some t → t + s.get PAR.LEASE.TICKS / 4 ≤ s.now) :
    s.renewalDue = { s.renew s.leaseTicks with par := { (s.renew s.leaseTicks).par with
      renewAt := some s.now
      openRenews := (s.renew s.leaseTicks).par.openRenews.drop ((s.renew s.leaseTicks).par.openRenews.length - 16) } } := by
  have hnow : (s.renew s.leaseTicks).now = s.now := (s.toWitness_rest _ _ _).1
  unfold State.renewalDue
  extract_lets early t
  have hearly : early = false := by
    unfold early
    split
    · next t ht => exact decide_eq_false (Nat.not_lt.2 (hdue t ht))
    · rfl
  rw [if_neg (by simp [hw, hdrive, hearly]), ← hnow]

theorem State.renewalDue_first (hw : s.hasWitness = true) (hdom : s.domOn 4 = true) (hat : s.par.renewAt = none)
    (hdrive : s.isDriving = true) (hopen : s.par.openRenews = []) : s.renewalDue.par.renewAt = some s.now ∧
      s.renewalDue.par.openRenews = [((s.par.nonce + 1) % 2 ^ 32, s.now, s.leaseTicks)] ∧
      s.renewalDue.sent.length = s.sent.length + 1 := by
  obtain ⟨q, b, n, m, hsend⟩ := State.toWitness_effect (op := 1) (epoch := s.par.ownEpoch) (ticks := s.leaseTicks) hw hdom
  rw [State.renewalDue_renews hw hdrive (by simp [hat]), State.renew, hsend]
  refine ⟨rfl, ?_, List.length_append⟩
  simp [State.send, hopen]

theorem State.probe_asks (hw : s.hasWitness = true) (hdrive : s.isDriving = false) (halone : s.par.aloneAsked = false)
    (hdue : ∀ t, s.par.probeAt = some t → t + 200000 ≤ s.now) :
    s.probe = { s.toWitness 1 (s.get PAR.EPOCH.EPOCH) 0 with par := { (s.toWitness 1 (s.get PAR.EPOCH.EPOCH) 0).par with
      probeAt := some s.now
      openRenews := (s.toWitness 1 (s.get PAR.EPOCH.EPOCH) 0).par.openRenews.drop
        ((s.toWitness 1 (s.get PAR.EPOCH.EPOCH) 0).par.openRenews.length - 16) } } := by
  obtain ⟨hnow, hasked⟩ := s.toWitness_rest 1 (s.get PAR.EPOCH.EPOCH) 0
  unfold State.probe
  extract_lets early t _ u
  have hearly : early = false := by
    unfold early
    split
    · next t ht => exact decide_eq_false (Nat.not_lt.2 (hdue t ht))
    · rfl
  have hu : u.par.aloneAsked = false := hasked.trans halone
  rw [if_neg (by simp [hw, hdrive, hearly]), if_neg (by simp [hu]), ← hnow]

theorem State.probe_first (hw : s.hasWitness = true) (hdom : s.domOn 4 = true) (hat : s.par.probeAt = none)
    (hdrive : s.isDriving = false) (hopen : s.par.openRenews = []) (halone : s.par.aloneAsked = false) :
    s.probe.par.probeAt = some s.now ∧ s.probe.par.openRenews = [((s.par.nonce + 1) % 2 ^ 32, s.now, 0)] ∧
      s.probe.sent.length = s.sent.length + 1 := by
  obtain ⟨q, b, n, m, hsend⟩ := State.toWitness_effect (op := 1) (epoch := s.get PAR.EPOCH.EPOCH) (ticks := 0) hw hdom
  rw [State.probe_asks hw hdrive halone (by simp [hat]), hsend]
  refine ⟨rfl, ?_, List.length_append⟩
  simp [State.send, hopen]

section Lapse

variable (hheld : s.bit PAR.STATUS.LEASE_HELD = true) (hend : s.par.leaseEnd ≤ s.now)

include hheld hend

theorem State.leaseLapsed_effect : s.leaseLapsed = if s.isDriving then (s.set PAR.STATUS.LEASE_HELD 0).post 163 s.par.ownEpoch
    else s.set PAR.STATUS.LEASE_HELD 0 := by
  have hsame : (s.set PAR.STATUS.LEASE_HELD 0).isDriving = s.isDriving := State.isDriving_congr (State.get_set_ne _ _ (by decide))
  refine (if_neg (by simp [hheld, hend])).trans ?_
  dsimp only
  rw [hsame, State.set_par]

end Lapse

theorem State.witnessChange_lost (h : s.bit PAR.STATUS.WITNESS_REACHABLE = true)
    (hsilent : ∀ t, s.par.answers = some t → t + 4 * s.leaseInterval ≤ s.now) :
    s.witnessChange = (s.set PAR.STATUS.WITNESS_REACHABLE 0).post 162 0 := by
  unfold State.witnessChange
  extract_lets silent
  have hs : silent = true := by
    unfold silent
    split
    · next t ht => exact decide_eq_true (hsilent t ht)
    · rfl
  exact if_pos (by simp [h, hs])

theorem State.witnessChange_kept {t : Nat} (ht : s.par.answers = some t) (h : s.now < t + 4 * s.leaseInterval) :
    s.witnessChange = s := by
  unfold State.witnessChange
  rw [ht]
  exact if_neg (by simp [Nat.not_le.2 h])

theorem State.silence_asks (h4 : s.pairState = 4) (hcfg : s.bit PAR.CFG.UNTETHERED_TAKEOVER = true) (hmay : s.mayRequest = true)
    (hdom : s.domOn 4 = true)
    (hsilent : max (max s.par.evidenceTick s.par.lastMsg) s.par.refusedAt + max 100 (s.get PAR.UNTETHERED_SILENCE.US) * 200 ≤ s.now) :
    s.silence.par.openRequest = some ((s.par.nonce + 1) % 2 ^ 32) ∧ s.silence.bit PAR.STATUS.REQUEST_PENDING = true := by
  have hw : s.hasWitness = true := by
    simp only [State.mayRequest, Bool.and_eq_true] at hmay
    exact hmay.1.1.1.2
  obtain ⟨q, b, n, m, hsend⟩ := State.toWitness_effect (op := 3) (epoch := s.get PAR.EPOCH.EPOCH) (ticks := s.leaseTicks) hw hdom
  have hearly : decide (s.now < max (max s.par.evidenceTick s.par.lastMsg) s.par.refusedAt +
      max 100 (s.get PAR.UNTETHERED_SILENCE.US) * ticksPerUs) = false := decide_eq_false (Nat.not_lt.2 hsilent)
  have hasks : s.silence = (s.toWitness 3 (s.get PAR.EPOCH.EPOCH) s.leaseTicks).set PAR.STATUS.REQUEST_PENDING 1 :=
    (if_neg (by simp only [h4, hcfg, hmay, hearly]; decide)).trans
      (if_neg (by simp [hw, hdom]))
  rw [hasks]
  refine ⟨?_, State.bit_set_one _ _ le_rfl⟩
  rw [State.set_par, hsend]
  rfl

end Lease

open State in
/-- Settles O42: answers, requests and clocks of the lease are the lemmas above. -/
theorem witnessProtocol : Obligations.WitnessProtocol := by
  unfold Obligations.WitnessProtocol
  refine ⟨fun s port f => ⟨fun hgood => ⟨?_, ⟨?_, fun hreq => ⟨fun hop => ?_, fun hop => ?_, fun hop => ?_⟩⟩, fun hreq => ⟨?_, ?_⟩⟩,
      fun hdom hhead i hi => ?_, fun hdom htype hkind hhead hlen h1 h3 hauth i hi => ?_⟩,
    fun s port f w => ⟨fun hgood hfind => ⟨fun hop => ?_, fun hop => ?_⟩, fun hone => ⟨fun hgood => ⟨?_, fun hop hfree => ?_, ?_⟩,
      fun q qs hpend hdrive hfree => ?_⟩⟩,
    fun s i w q qs hw hpend hdrive => ⟨fun h => ?_, fun h => ?_⟩,
    fun s => ⟨fun hw hdom hat hdrive hopen => ?_, fun hw hdrive hdue => ?_, fun hw hdom hat hdrive hopen halone => ?_,
      fun hw hdrive halone hdue => ?_, fun hheld hend => ⟨fun h => ?_, fun h => ?_⟩,
      fun h => ⟨fun hno => ?_, fun t ht hlate => ?_, fun t ht hin => ?_⟩, fun h4 hcfg hmay hdom hsilent => ?_⟩⟩
  · intro t k hop hreq hopen hk hdrive hmax hnow he
    exact ⟨s.leaseFrame port f, State.done_eq rfl, leaseFrame_holds hgood hop hreq hopen hk hdrive hmax hnow he⟩
  · intro n t k hop hno hfind
    exact State.done_eq (leaseFrame_renewed hgood hop hno hfind)
  · exact State.done_eq (leaseFrame_granted hgood hreq (.inl hop))
  · exact State.done_eq (leaseFrame_granted hgood hreq (.inr hop))
  · exact State.done_eq (leaseFrame_refused hgood hreq hop)
  · intro hop halone hdrive hslot
    refine ⟨_, State.done_eq (leaseFrame_granted hgood hreq (.inr hop)), granted_alone ?_ ?_ ?_⟩
    · rw [State.witnessHeard_par]
      exact halone
    · exact (State.isDriving_congr (State.get_witnessHeard _ (by decide))).trans hdrive
    · exact (State.bit_congr _ _ (State.get_witnessHeard _ (by decide))).trans hslot
  · intro hop hstate
    have h3 : (s.answered f).witnessHeard.pairState = 3 := (State.get_witnessHeard _ (by decide)).trans hstate
    obtain ⟨h4, hreason, hclosed, hat⟩ := refused_untethers h3 (leaseEpoch f)
    exact ⟨_, State.done_eq (leaseFrame_refused hgood hreq hop), h4, hreason, hclosed, hat.trans (State.witnessHeard_now _)⟩
  · have hrow : exec i s = (s.leaseFrame port f).done := by fin_cases hi <;> rfl
    rw [hrow]
    exact ⟨State.done_eq (leaseFrame_bad hdom hhead),
      fun hport => State.done_eq ((leaseFrame_bad hdom hhead).trans (leaseBad_noCrossing hport))⟩
  · have hrow : exec i s = (s.leaseFrame port f).done := by fin_cases hi <;> rfl
    rw [hrow]
    exact State.done_eq ((leaseFrame_answer hdom htype hkind hhead hlen (by simp [h1, h3])).trans (answerIn_badAuth hauth))
  · exact State.done_eq (leaseFrame_renews hgood hfind hop)
  · exact State.done_eq (leaseFrame_requests hgood hfind hop)
  · intro hop hticks hepoch hholder hpend
    exact ⟨_, State.done_eq (leaseFrame_renews hgood (find_onlyPair hone hgood) hop), witnessFor_renewed hone hticks hepoch hholder hpend⟩
  · exact State.done_eq ((leaseFrame_requests hgood (find_onlyPair hone hgood) hop).trans (witnessRequest_free hfree))
  · intro hop hlater hholder hpend
    exact ⟨_, State.done_eq (leaseFrame_requests hgood (find_onlyPair hone hgood) hop), witnessRequest_waits hone hlater hholder hpend⟩
  · exact State.done_eq ((witnessExpiry_entry (by rw [hone]; rfl) hpend hdrive).trans (if_pos hfree))
  · exact State.done_eq ((witnessExpiry_entry hw hpend hdrive).trans (if_pos h))
  · exact State.done_eq ((witnessExpiry_entry hw hpend hdrive).trans (if_neg (Nat.not_le.2 h)))
  · exact ⟨_, State.done_eq rfl, renewalDue_first hw hdom hat hdrive hopen⟩
  · exact State.done_eq (renewalDue_renews hw hdrive hdue)
  · exact ⟨_, State.done_eq rfl, probe_first hw hdom hat hdrive hopen halone⟩
  · exact State.done_eq (probe_asks hw hdrive halone hdue)
  · exact State.done_eq ((leaseLapsed_effect hheld hend).trans (if_pos h))
  · exact State.done_eq ((leaseLapsed_effect hheld hend).trans (if_neg (by simp [h])))
  · exact State.done_eq (witnessChange_lost h (by simp [hno]))
  · exact State.done_eq (witnessChange_lost h fun u hu => by rw [ht] at hu; cases hu; exact hlate)
  · exact State.done_eq (witnessChange_kept ht hin)
  · exact ⟨_, State.done_eq rfl, silence_asks h4 hcfg hmay hdom hsilent⟩

end Sys2Proof.Machine
end

/-! PROOFS. PAR.CMD, the links, tokens and supply (spec/11). -/

section

namespace Sys2Proof.Machine

section LinkLoss

/-- Whether link 0 is trained, after a step. -/
def trainedLink : Answer → Bool
  | .next s => s.par.linkA.trained
  | _ => false

/-- A link that has trained and never gone up, LINK_LOSS after reset. -/
def trainedAtReset : State :=
  { State.reset with tick := 2000, par := { State.reset.par with linkA := { trained := true } } }

/-- Silence leaves a link that is not up as it is; the loss of block lock takes its training. -/
theorem trainedLink_silence : trainedLink (exec (.ranselLinkDown 0 false) trainedAtReset) = true := by decide +kernel

theorem trainedLink_lockLost : trainedLink (exec (.ranselLinkDown 0 true) trainedAtReset) = false := by decide +kernel

end LinkLoss

/-- Refutes O41: the statement has a silence of LINK_LOSS and a loss of block lock do the same to every link; link 0, trained and not
yet up, 2,000 ticks after reset, keeps its training in silence and loses it with its block lock (R343, R346). -/
theorem not_linksAndPairClocks : ¬ Obligations.LinksAndPairClocks := by
  unfold Obligations.LinksAndPairClocks
  intro h
  obtain ⟨-, -, -, -, -, -, hloss, -⟩ := h.1 trainedAtReset 0
  have hsame := congrArg trainedLink (hloss (by decide +kernel))
  rw [trainedLink_silence, trainedLink_lockLost] at hsame
  exact Bool.noConfusion hsame

section PairCommands

variable {s : State}

/-! ## PAR.CMD (R382) -/

theorem State.parEnd_par (s : State) (op status reason origin priv session : Nat) :
    (s.parEnd op status reason origin priv session).par = s.par := rfl

theorem State.get_parEnd {g : Fld} (s : State) (op status reason origin priv session : Nat)
    (hs : g.id ≠ PAR.CMD_STATUS.STATUS.id) (hr : g.id ≠ PAR.CMD_STATUS.REASON.id) (hp : g.id ≠ PAR.CMD_STATUS.PENDING.id)
    (hq : g.id ≠ REC.STATUS.QUEUE.id) : (s.parEnd op status reason origin priv session).get g = s.get g := by
  unfold State.parEnd State.recordCommand State.parStatus
  rw [State.get_recordChange_ne _ _ _ _ _ _ _ hq, State.get_setB_ne _ _ hp, State.get_set_ne _ _ hr, State.get_set_ne _ _ hs]

theorem State.parEnd_status (s : State) (op reason origin priv session : Nat) :
    (s.parEnd op 0 reason origin priv session).get PAR.CMD_STATUS.STATUS = 0 := by
  unfold State.parEnd State.recordCommand State.parStatus
  rw [State.get_recordChange_ne _ _ _ _ _ _ _ (by decide), State.get_setB_ne _ _ (by decide), State.get_set_ne _ _ (by decide),
    State.get_set_self, Nat.zero_mod]

theorem State.parCmd_answers {init op session r : Nat} {f : State → State × Nat} {t : State} (h : op < 5) (hf : f s = (t, r)) :
    s.parCmd init op 1 session f = t.parEnd op (if r = 0 then 0 else 0x60) r (originOf init) 1 session := by
  unfold State.parCmd
  rw [if_neg (Nat.not_le.2 h), if_neg (not_not_intro rfl), hf]

theorem State.parWrite_goOut {init priv session : Nat} : s.parWrite init 2 priv session =
    s.parCmd init 2 priv session fun s => if s.pairState = 5 then (s, 2) else (s.goOut 5, 0) := rfl

theorem State.parWrite_rejoin {init priv session : Nat} : s.parWrite init 3 priv session =
    s.parCmd init 3 priv session fun s => if s.pairState = 5 then (s.joinPair, 0) else (s, 2) := rfl

theorem State.parWrite_clear {init priv session : Nat} : s.parWrite init 4 priv session =
    s.parCmd init 4 priv session fun s => (s.set PAR.DIVERGENCE.COUNT 0, 0) := rfl

theorem State.parCmd_privilege {init op priv session : Nat} {f : State → State × Nat} (h : op < 5) (hp : priv ≠ 1) :
    s.parCmd init op priv session f = s.parEnd op 0x60 1 (originOf init) priv session :=
  (if_neg (Nat.not_le.2 h)).trans (if_pos hp)

theorem State.parCmd_reserved {init op priv session : Nat} {f : State → State × Nat} (h : 5 ≤ op) :
    s.parCmd init op priv session f = s.parEnd op 0x60 5 (originOf init) priv session := if_pos h

theorem State.parWrite_reserved {init op priv session : Nat} :
    s.parWrite init (5 + op) priv session = s.parEnd (5 + op) 0x60 5 (originOf init) priv session := by
  rw [Nat.add_comm 5 op]
  exact State.parCmd_reserved (f := fun s => (s, 0)) (Nat.le_add_left 5 op)

theorem State.parHandover_refused {init session : Nat} (h : s.handoverReason ≠ 0) :
    s.parHandover init 1 session = s.parEnd 1 0x60 s.handoverReason (originOf init) 1 session := by
  unfold State.parHandover
  rw [State.startHandover_refused h, if_neg (not_not_intro rfl)]
  split
  · next heq => exact absurd (congrArg Prod.snd heq) h
  · next heq => cases heq; rfl

theorem State.parHandover_waits {init session : Nat} (h : s.handoverReason = 0) :
    (s.parHandover init 1 session).bit PAR.CMD_STATUS.PENDING = true ∧
      (s.parHandover init 1 session).par.cmd = some (originOf init, 1, session) ∧
      (s.parHandover init 1 session).par.handover.map (fun h => (h.due, h.epoch, h.cause)) =
        some (s.cycle + 1, s.par.ownEpoch + 1, 0) := by
  unfold State.parHandover State.startHandover
  simp only [h, ne_eq, not_true_eq_false, if_false]
  exact ⟨State.bit_setB_self _ _ _ le_rfl, rfl, State.handoverSend_keeps _ _ fun _ _ => rfl⟩

/-! ## A unit goes OUT, or starts (R375, R381) -/

theorem State.get_tokenStop {g : Fld} (h : g.id ≠ PAR.STATUS.TOKEN_RAISED.id) : s.tokenStop.get g = s.get g := by
  unfold State.tokenStop
  split
  · rfl
  · exact State.get_set_ne (f := PAR.STATUS.TOKEN_RAISED) s 0 h

theorem State.tokenStop_lowered (s : State) : s.tokenStop.get PAR.STATUS.TOKEN_RAISED = 0 := by
  unfold State.tokenStop
  split
  · next h => simpa [State.bit] using h
  · exact (State.get_set_self s PAR.STATUS.TOKEN_RAISED 0).trans (Nat.zero_mod _)

theorem State.tokenStop_car (s : State) : s.tokenStop.car = s.car := by
  unfold State.tokenStop
  split <;> rfl

theorem State.sendYield_rest (cause : Nat) : (s.sendYield cause).car = s.car ∧ (s.sendYield cause).isDriving = s.isDriving :=
  ⟨rfl, rfl⟩

theorem State.releaseLease_car (s : State) : s.releaseLease.car = s.car := by
  cases h : s.hasWitness && s.domOn 4 with
  | false =>
    unfold State.releaseLease State.renew
    rw [State.toWitness_unable h]
    rfl
  | true =>
    obtain ⟨hw, hdom⟩ := Bool.and_eq_true_iff.1 h
    obtain ⟨q, b, n, m, hsend⟩ := State.toWitness_effect (op := 1) (epoch := s.par.ownEpoch) (ticks := 0) hw hdom
    unfold State.releaseLease State.renew
    rw [hsend]
    rfl

theorem State.get_noAlone (g : Fld) : s.noAlone.get g = s.get g := rfl

theorem State.get_dropHandover (g : Fld) : s.dropHandover.get g = s.get g := rfl

theorem State.get_closeRequest {g : Fld} (h : g.id ≠ PAR.STATUS.REQUEST_PENDING.id) : s.closeRequest.get g = s.get g :=
  State.get_set_ne (f := PAR.STATUS.REQUEST_PENDING) { s with par := { s.par with openRequest := none } } 0 h

theorem State.closeRequest_car (s : State) : s.closeRequest.car = s.car := rfl

/-- R375. A unit that goes OUT lowers its token; what it held before is dropped. -/
theorem State.goOut_out (s : State) (cause : Nat) : (s.goOut cause).pairState = 5 ∧
    (s.goOut cause).get PAR.STATUS.TOKEN_RAISED = 0 ∧ (s.goOut cause).car = s.car := by
  unfold State.goOut
  split
  case isTrue h =>
    refine ⟨?_, ?_, s.tokenStop_car⟩
    · rw [State.pairState, State.get_noAlone, State.get_closeRequest (by decide), State.get_tokenStop (by decide)]
      exact h
    · rw [State.get_noAlone, State.get_closeRequest (by decide), State.tokenStop_lowered]
  case isFalse =>
    extract_lets t u
    have ht : t.car = s.car := by
      unfold t
      split <;> rfl
    have hcar : u.car = s.car := by
      unfold u
      split
      · exact (State.releaseLease_car t).trans ht
      · exact ht
    clear_value u
    have hswitch := State.setPairState_switched (u.tokenStop.dropHandover.closeRequest.noAlone) 5 0
    refine ⟨(State.setPairState_told (by decide) (by decide)).1, ?_, ?_⟩
    · rw [hswitch.get _ (by decide), State.get_noAlone, State.get_closeRequest (by decide), State.get_dropHandover,
        State.tokenStop_lowered]
    · exact (congrArg (·.2) hswitch.known).trans (u.tokenStop_car.trans hcar)

theorem State.goAlone_drives (hslot : s.bit SYS.CARRIER_STATUS.SLOT_FAULT = false) (hw : s.hasWitness = false) :
    s.goAlone.pairState = 0 ∧ s.goAlone.par.ownEpoch = s.nextEpoch := by
  have halone : s.goAlone = s.driveAlone s.nextEpoch := if_neg (by simp [hw])
  obtain ⟨hstate, hepoch, -⟩ := State.driveAlone_drives (e := s.nextEpoch) hslot
  rw [halone]
  exact ⟨hstate, hepoch⟩

/-- R381. A unit whose start-up is complete. -/
def State.ready (s : State) : State :=
  let t := if s.hasWitness then s else s.post 172 0
  { t with par := { t.par with startDone := true, aloneAsked := false } }

theorem State.get_ready (s : State) (g : Fld) : s.ready.get g = s.get g := by
  unfold State.ready
  dsimp only
  split <;> rfl

theorem State.ownEpoch_ready (s : State) : s.ready.par.ownEpoch = s.par.ownEpoch := by
  unfold State.ready
  dsimp only
  split <;> rfl

theorem State.nextEpoch_ready (s : State) : s.ready.nextEpoch = s.nextEpoch := by
  unfold State.nextEpoch
  rw [State.ownEpoch_ready, State.get_ready]

section Join

variable (hslot : s.bit SYS.CARRIER_STATUS.SLOT_FAULT = false)

include hslot

theorem State.joinPair_ready : s.joinPair = if s.ready.partnerSeated then s.ready.setPairState 1 else s.ready.goAlone :=
  if_neg (by simp [hslot])

theorem State.joinPair_joins (hseated : s.partnerSeated = true) : s.joinPair.pairState = 1 := by
  have hseated' : s.ready.partnerSeated = true := (State.bit_congr _ _ (s.get_ready _)).trans hseated
  rw [State.joinPair_ready hslot, if_pos hseated']
  exact (State.setPairState_told (by decide) (by decide)).1

theorem State.joinPair_alone (hseated : s.partnerSeated = false) (hw : s.hasWitness = false) :
    s.joinPair.pairState = 0 ∧ s.joinPair.par.ownEpoch = s.nextEpoch := by
  have hseated' : s.ready.partnerSeated = false := (State.bit_congr _ _ (s.get_ready _)).trans hseated
  rw [State.joinPair_ready hslot, if_neg (by simp [hseated']), ← s.nextEpoch_ready]
  exact State.goAlone_drives ((State.bit_congr _ _ (s.get_ready _)).trans hslot) ((State.bit_congr _ _ (s.get_ready _)).trans hw)

end Join

end PairCommands

open State in
/-- Settles O43: each operation of PAR.CMD is one of the lemmas above. -/
theorem pairCommands : Obligations.PairCommands := by
  unfold Obligations.PairCommands
  refine fun s init x => ⟨fun h => ⟨s.parHandover init 1 x, State.done_eq rfl, parHandover_waits h⟩,
    fun h => State.done_eq (parHandover_refused h), fun h => ?_, fun h => ?_, fun h hslot hseated => ?_,
    fun h hslot hseated hw => ?_, fun h => ?_, ?_, fun op priv => State.done_eq parWrite_reserved, fun priv hp p hmem => ?_,
    State.done_eq rfl⟩
  · have hout := (parWrite_goOut (s := s) (init := init) (session := x)).trans (parCmd_answers (by decide) (if_neg h))
    obtain ⟨hstate, htoken, -⟩ := s.goOut_out 5
    exact ⟨_, State.done_eq hout, (get_parEnd _ _ _ _ _ _ _ (by decide) (by decide) (by decide) (by decide)).trans hstate,
      (get_parEnd _ _ _ _ _ _ _ (by decide) (by decide) (by decide) (by decide)).trans htoken, parEnd_status ..⟩
  · exact State.done_eq (parWrite_goOut.trans (parCmd_answers (by decide) (if_pos h)))
  · have hjoin := (parWrite_rejoin (s := s) (init := init) (session := x)).trans (parCmd_answers (by decide) (if_pos h))
    exact ⟨_, State.done_eq hjoin,
      (get_parEnd _ _ _ _ _ _ _ (by decide) (by decide) (by decide) (by decide)).trans (joinPair_joins hslot hseated),
      parEnd_status ..⟩
  · have hjoin := (parWrite_rejoin (s := s) (init := init) (session := x)).trans (parCmd_answers (by decide) (if_pos h))
    obtain ⟨hstate, hepoch⟩ := joinPair_alone hslot hseated hw
    exact ⟨_, State.done_eq hjoin, (get_parEnd _ _ _ _ _ _ _ (by decide) (by decide) (by decide) (by decide)).trans hstate,
      (congrArg (·.ownEpoch) (parEnd_par ..)).trans hepoch, parEnd_status ..⟩
  · exact State.done_eq (parWrite_rejoin.trans (parCmd_answers (by decide) (if_neg h)))
  · exact State.done_eq (parWrite_clear.trans (parCmd_answers (by decide) rfl))
  · have hpriv : (priv : Nat) ≠ 1 := fun h => hp (Fin.ext h)
    fin_cases hmem
    · exact State.done_eq (if_pos hpriv)
    · exact State.done_eq (parWrite_goOut.trans (parCmd_privilege (by decide) hpriv))
    · exact State.done_eq (parWrite_rejoin.trans (parCmd_privilege (by decide) hpriv))
    · exact State.done_eq (parWrite_clear.trans (parCmd_privilege (by decide) hpriv))

section Tokens

variable {s : State}

/-! ## Token lines and the gate of the drivers (R33, R34) -/

theorem State.get_stagesShut (g : Fld) : s.stagesShut.get g = s.get g := by
  unfold State.stagesShut
  refine State.get_foldl (fun u n => ?_) _ _
  rfl

theorem State.known_stagesShut : s.stagesShut.known = s.known := by
  unfold State.stagesShut
  refine State.foldl_keeps State.known (fun u n => ?_) _ _
  rfl

theorem State.known_set (f : Fld) (v : Nat) : (s.set f v).known = s.known := rfl

theorem State.known_setB (f : Fld) (b : Bool) : (s.setB f b).known = s.known := rfl

theorem State.get_gate {g : Fld} (h : g.id ≠ SYS.CARRIER_STATUS.DRIVERS_ENABLED.id) : s.gate.get g = s.get g := by
  unfold State.gate
  dsimp only
  rw [State.get_setB_ne _ _ h]
  split
  · rfl
  · exact State.get_stagesShut g

theorem State.gate_known (s : State) : s.gate.known = s.known := by
  unfold State.gate
  dsimp only
  rw [State.known_setB]
  split
  · rfl
  · exact State.known_stagesShut

theorem State.gate_now (s : State) : s.gate.now = s.now := by
  have hshut : s.stagesShut.now = s.now := by
    unfold State.stagesShut
    refine State.foldl_keeps State.now (fun u n => ?_) _ _
    rfl
  unfold State.gate
  dsimp only
  split
  · rfl
  · exact hshut

/-- R34. The drivers are shut while the own token is dead. -/
theorem State.gate_shut (h : s.bit SYS.CARRIER_STATUS.TOKEN_SELF_LIVE = false) :
    s.gate.bit SYS.CARRIER_STATUS.DRIVERS_ENABLED = false := by
  unfold State.gate
  dsimp only
  rw [State.bit_setB_self _ _ _ le_rfl, h]
  rfl

/-- R370. A driving unit that is demoted is untethered with reason 6, and its claim window is over. -/
theorem State.demote_untethers (h : s.isDriving = true) (cause : Nat) : (s.demote cause).pairState = 4 ∧
    (s.demote cause).get PAR.STATUS.UNTETHER_REASON = 6 ∧
      (s.par.claimUntil = none → (s.demote cause).par.claimUntil = none) := by
  have hdemote : s.demote cause = (s.tokenStop.dropHandover.closeRequest.setPairState 4 6).post 173 cause := if_neg (by simp [h])
  obtain ⟨hstate, hreason⟩ := State.setPairState_told (s := s.tokenStop.dropHandover.closeRequest) (new := 4) (reason := 6)
    (by decide) (by decide)
  have hknown := (State.setPairState_switched s.tokenStop.dropHandover.closeRequest 4 6).known
  have hstop (hc : s.par.claimUntil = none) : s.tokenStop.par.claimUntil = none := by
    unfold State.tokenStop
    split
    · exact hc
    · rfl
  rw [hdemote]
  exact ⟨hstate, hreason, fun hc => (congrArg (·.1.claimUntil) hknown).trans (hstop hc)⟩

section PartnerLive

variable (hheld : s.rst.held = none)

include hheld

/-- The partner's token that comes alive demotes a driving unit, but for its claim window. -/
theorem State.tokenLive_partner (h : s.isDriving = false ∨ ∃ t, s.par.claimUntil = some t ∧ s.now < t) :
    s.tokenLive true = (s.set SYS.CARRIER_STATUS.TOKEN_PARTNER_LIVE 1).gate := by
  have hdrive : (s.set SYS.CARRIER_STATUS.TOKEN_PARTNER_LIVE 1).gate.isDriving = s.isDriving :=
    State.isDriving_congr ((State.get_gate (by decide)).trans (State.get_set_ne _ _ (by decide)))
  have hclaim : (s.set SYS.CARRIER_STATUS.TOKEN_PARTNER_LIVE 1).gate.par.claimUntil = s.par.claimUntil :=
    congrArg (·.1.claimUntil) ((State.gate_known _).trans (State.known_set _ _))
  have hnow : (s.set SYS.CARRIER_STATUS.TOKEN_PARTNER_LIVE 1).gate.now = s.now := State.gate_now _
  unfold State.tokenLive
  rw [if_neg (by simp [hheld]), if_pos rfl]
  dsimp only
  rw [hdrive, hclaim, hnow]
  obtain h | ⟨t, ht, hlt⟩ := h
  · rw [h]
    rfl
  · rw [ht]
    exact if_neg (by simp [hlt])

theorem State.tokenLive_demotes (h : s.isDriving = true) (hclaim : s.par.claimUntil = none) :
    (s.tokenLive true).pairState = 4 ∧ (s.tokenLive true).get PAR.STATUS.UNTETHER_REASON = 6 := by
  have hdrive : (s.set SYS.CARRIER_STATUS.TOKEN_PARTNER_LIVE 1).gate.isDriving = true :=
    (State.isDriving_congr ((State.get_gate (by decide)).trans (State.get_set_ne _ _ (by decide)))).trans h
  have hclaim' : (s.set SYS.CARRIER_STATUS.TOKEN_PARTNER_LIVE 1).gate.par.claimUntil = none :=
    (congrArg (·.1.claimUntil) ((State.gate_known _).trans (State.known_set _ _))).trans hclaim
  have hlive : s.tokenLive true = (s.set SYS.CARRIER_STATUS.TOKEN_PARTNER_LIVE 1).gate.demote 1 := by
    unfold State.tokenLive
    rw [if_neg (by simp [hheld]), if_pos rfl]
    dsimp only
    rw [hdrive, hclaim']
    rfl
  obtain ⟨hstate, hreason, -⟩ := State.demote_untethers hdrive 1
  rw [hlive]
  exact ⟨hstate, hreason⟩

end PartnerLive

theorem State.tokenDead_own (hraised : s.bit PAR.STATUS.TOKEN_RAISED = true) (hsince : s.par.selfDeadAt = none) :
    (s.tokenDead false).par.selfDeadAt = some s.now ∧ (s.tokenDead false).bit SYS.CARRIER_STATUS.TOKEN_SELF_LIVE = false ∧
      (s.tokenDead false).bit SYS.CARRIER_STATUS.DRIVERS_ENABLED = false := by
  generalize ht : (s.set SYS.CARRIER_STATUS.TOKEN_SELF_LIVE 0).gate = t
  have hraised' : t.bit PAR.STATUS.TOKEN_RAISED = true := by
    rw [← ht]
    exact (State.bit_congr _ _ ((State.get_gate (by decide)).trans (State.get_set_ne _ _ (by decide)))).trans hraised
  have hsince' : t.par.selfDeadAt = none := by
    rw [← ht]
    exact (congrArg (·.1.selfDeadAt) ((State.gate_known _).trans (State.known_set _ _))).trans hsince
  have hlow : (s.set SYS.CARRIER_STATUS.TOKEN_SELF_LIVE 0).bit SYS.CARRIER_STATUS.TOKEN_SELF_LIVE = false := State.bit_set_zero _ _
  have hself : t.bit SYS.CARRIER_STATUS.TOKEN_SELF_LIVE = false := by
    rw [← ht]
    exact (State.bit_congr _ _ (State.get_gate (by decide))).trans hlow
  have hdead : s.tokenDead false = { t with par := { t.par with selfDeadAt := some t.now } } := by
    unfold State.tokenDead
    rw [if_neg Bool.false_ne_true]
    dsimp only
    rw [ht]
    exact if_pos (by simp [hraised', hsince'])
  have hnow : t.now = s.now := by
    rw [← ht]
    exact State.gate_now _
  rw [hdead]
  exact ⟨congrArg some hnow, hself, ht ▸ State.gate_shut hlow⟩

theorem State.tokenDead_partner (h : s.bit SYS.CARRIER_STATUS.TOKEN_PARTNER_LIVE = false) :
    s.tokenDead true = (s.set SYS.CARRIER_STATUS.TOKEN_PARTNER_LIVE 0).gate := by
  unfold State.tokenDead
  rw [if_pos rfl]
  exact if_neg (by simp [h])

/-! ## The clocks of a driving unit (R370, R371, R375) -/

theorem State.ownTokenDead_late {t : Nat} (hsince : s.par.selfDeadAt = some t) (hdrive : s.isDriving = true)
    (hraised : s.bit PAR.STATUS.TOKEN_RAISED = true) (hlate : t + 400 ≤ s.now) : s.ownTokenDead = s.goOut 2 := by
  unfold State.ownTokenDead
  rw [hsince]
  exact if_pos (by rw [hdrive, hraised]; exact decide_eq_true hlate)

theorem State.claimEnd_demotes {t : Nat} (hclaim : s.par.claimUntil = some t) (hend : t ≤ s.now)
    (hlive : s.bit SYS.CARRIER_STATUS.TOKEN_PARTNER_LIVE = true) :
    s.claimEnd = State.demote { s with par := { s.par with claimUntil := none } } 1 := by
  unfold State.claimEnd
  rw [hclaim]
  exact (if_neg (Nat.not_lt.2 hend)).trans (if_pos hlive)

end Tokens

open State in
/-- Settles O13: each change of a token line and each clock is one of the lemmas above. -/
theorem tokensAndSupply : Obligations.TokensAndSupply := by
  unfold Obligations.TokensAndSupply
  refine ⟨fun s hheld => ⟨State.done_eq (if_neg (by simp [hheld])), fun h => State.done_eq (tokenLive_partner hheld (.inl h)),
      fun h hclaim => ⟨s.tokenLive true, State.done_eq rfl, tokenLive_demotes hheld h hclaim⟩,
      fun hraised hsince => ⟨s.tokenDead false, State.done_eq rfl, tokenDead_own hraised hsince⟩,
      fun h => State.done_eq (tokenDead_partner h), fun t hdrive hclaim hlt =>
        State.done_eq (tokenLive_partner hheld (.inr ⟨t, hclaim, hlt⟩))⟩,
    fun s => State.done_eq rfl,
    fun s => ⟨fun t hsince hdrive hraised hlate => ?_, fun hdrive => ?_, State.done_eq rfl, fun t hclaim hend hlive hdrive => ?_,
      fun hdrive hepoch => ?_, fun hdrive hlive hclaim => ?_, fun hdrive => State.done_eq (if_neg ?_)⟩⟩
  · obtain ⟨hstate, htoken, -⟩ := s.goOut_out 2
    exact ⟨_, State.done_eq (ownTokenDead_late hsince hdrive hraised hlate), hstate, by simp [State.bit, htoken]⟩
  · obtain ⟨hstate, -, hcar⟩ := State.goOut_out { s with car := { s.car with supplyLow := true } } 4
    have hlow : s.supplyIsLow = State.goOut { s with car := { s.car with supplyLow := true } } 4 := if_pos hdrive
    exact ⟨_, State.done_eq hlow, hstate, congrArg Car.supplyLow hcar⟩
  · obtain ⟨hstate, hreason, hover⟩ := State.demote_untethers (s := { s with par := { s.par with claimUntil := none } }) hdrive 1
    exact ⟨_, State.done_eq (claimEnd_demotes hclaim hend hlive), hstate, hover rfl, hreason⟩
  · obtain ⟨hstate, hreason, -⟩ := State.demote_untethers hdrive 0
    exact ⟨_, State.done_eq (if_pos hepoch), hstate, hreason⟩
  · obtain ⟨hstate, hreason, -⟩ := State.demote_untethers hdrive 1
    have hlost : (s.bit SYS.CARRIER_STATUS.TOKEN_PARTNER_LIVE && s.par.claimUntil.isNone) = true := by simp [hlive, hclaim]
    exact ⟨_, State.done_eq ((if_pos rfl).trans (if_pos hlost)), hstate, hreason⟩
  · exact fun h => absurd (hdrive.symm.trans h) Bool.false_ne_true

end Sys2Proof.Machine
end

/-! PROOFS. The empty queue, registers, carrier lines (spec/00 to spec/02, spec/13, spec/19). -/

section

namespace Sys2Proof.Machine

section Tick

variable {s t : State}

theorem State.heldTick_idle (hheld : s.pwr.held = []) (hnone : s.vot.presented = []) : s.heldTick = s := by
  have hwrites : s.heldWrites = s := by
    unfold State.heldWrites
    rw [hheld]
    show { s with pwr := { s.pwr with held := [] } } = s
    rw [← hheld]
  have hvote : s.voteOne = (s, false) := by
    unfold State.voteOne
    rw [hnone]
  rw [State.heldTick, hwrites, State.voteAll, State.voteN, hvote]

theorem State.chainTick_idle (h : s.fio.chainDue = []) : s.chainTick = s := if_pos h

theorem State.resetDue_idle (h : s.rst.due = none) : s.resetDue = s := by rw [State.resetDue, h]

theorem State.busRetry_idle (h : s.pwr.retryAt = none) : s.busRetry = s := by rw [State.busRetry, h]

/-- What the tick does where no chained unit, reset, bus command or access waits for it. -/
theorem State.tickRest_idle (hchain : s.fio.chainDue = []) (hdue : s.rst.due = none) (hretry : s.pwr.retryAt = none)
    (hheld : s.pwr.held = []) (hnone : s.vot.presented = []) : s.chainTick.resetDue.busRetry.heldTick = s := by
  rw [State.chainTick_idle hchain, State.resetDue_idle hdue, State.busRetry_idle hretry, State.heldTick_idle hheld hnone]

theorem step_tick (h : s.pending = []) : step s = .next s.passTick := by
  rw [step, h]
  rfl

theorem State.resetOutEnd_none (h : s.car.resetOutUntil = none) : s.resetOutEnd = s := by rw [State.resetOutEnd, h]

theorem State.resetOutEnd_due {u : Nat} (h : s.car.resetOutUntil = some u) (hu : u ≤ s.now) : s.resetOutEnd =
    State.send { s with car := { s.car with resetOutUntil := none } } (.pin "PARTNER_RESET_OUT" true) := by
  rw [State.resetOutEnd, h]
  exact if_neg (Nat.not_lt.2 hu)

theorem State.indexZero_none (h : s.fio.zeroDue = []) : s.indexZero = s := if_pos h

theorem State.indexZero_one {c : Nat} (h : s.fio.zeroDue = [c]) :
    s.indexZero = State.set { s with fio := { s.fio with zeroDue := [] } } (FIO.CNT_VALUE.VALUE c) 0 := by
  rw [State.indexZero, if_neg (by simp [h]), h]
  rfl

end Tick

open State in
/-- Settles O2: nothing waits for the tick, or one thing does and the others leave the state as it is. -/
theorem emptyQueueIsOneTick : Obligations.EmptyQueueIsOneTick := by
  unfold Obligations.EmptyQueueIsOneTick
  refine ⟨fun s hq hwait => ?_, fun s t u hq hchain hdue hretry hheld hnone ht => ⟨fun hzero hout hu => ?_, fun hout c hzero => ?_⟩⟩
  · exact (step_tick hq).trans (congrArg Host.Outcome.next (if_neg (by simp [hwait])))
  all_goals
    have hdo (h : s.tickWaits = true) : s.passTick =
        t.resetOutEnd.indexZero.chainTick.resetDue.busRetry.heldTick.settle := by
      rw [ht]
      exact if_pos h
    obtain ⟨hcar, hfio, hrst, hpwr, hvot⟩ :
        t.car = s.car ∧ t.fio = s.fio ∧ t.rst = s.rst ∧ t.pwr = s.pwr ∧ t.vot = s.vot := by
      rw [ht]
      exact ⟨rfl, rfl, rfl, rfl, rfl⟩
    rw [← hfio] at hchain hzero
    rw [← hcar] at hout
    rw [← hrst] at hdue
    rw [← hpwr] at hretry hheld
    rw [← hvot] at hnone
    refine (step_tick hq).trans (congrArg Host.Outcome.next ((hdo ?_).trans (congrArg State.settle ?_)))
  · simp [State.tickWaits, ← hcar, hout]
  · rw [State.resetOutEnd_due hout hu, State.indexZero_none, State.tickRest_idle]
    all_goals assumption
  · simp [State.tickWaits, ← hfio, hzero]
  · rw [State.resetOutEnd_none hout, State.indexZero_one hzero]
    exact State.tickRest_idle hchain hdue hretry hheld hnone

/-- Settles O6: each is a constant of the state at first supply. -/
theorem resetState : Obligations.ResetState := by
  unfold Obligations.ResetState
  exact ⟨fun _ => rfl, rfl, rfl, rfl, rfl, rfl, rfl, rfl⟩

section Registers

variable {s : State} {init b off v : Nat} {f : Fld}

theorem State.quiesces_of_on {d : Nat} (h : s.domOn d = true) : s.quiesces d = false := by
  have h0 : s.domState d = 0 := by simpa [State.domOn] using h
  simp [State.quiesces, h0]

section Grant

variable {a n : Nat} (hok : s.check { init := init } .write (0x10000000 + a) n = none)

theorem State.regWrite_refused {r : Refused} (h : s.check { init := init } .write (0x10000000 + a) n = some r) :
    (s.regWrite init a n v).1 = s.noteRefused r .write := by
  rw [State.regWrite, h]

include hok

theorem State.regWrite_held (h : s.quiesces (blockDomain (a / 65536)) = true) : (s.regWrite init a n v).1 =
    { s with pwr := { s.pwr with held := s.pwr.held ++ [(init, a / 65536, a % 65536, v % 2 ^ 32)] } } := by
  rw [State.regWrite, hok]
  exact congrArg Prod.fst (if_pos h)

theorem State.regWrite_down (h : s.domOn (blockDomain (a / 65536)) = false)
    (hno : s.quiesces (blockDomain (a / 65536)) = false) :
    (s.regWrite init a n v).1 = s.accessDown init (blockDomain (a / 65536)) := by
  rw [State.regWrite, hok]
  exact congrArg Prod.fst ((if_neg (by simp [hno])).trans (if_pos (by simp [h])))

theorem State.regWrite_performed (h : s.domOn (blockDomain (a / 65536)) = true) :
    (s.regWrite init a n v).1 = s.regPut init (a / 65536) (a % 65536) (v % 2 ^ 32) := by
  rw [State.regWrite, hok]
  exact congrArg Prod.fst ((if_neg (by simp [State.quiesces_of_on h])).trans (if_neg (by simp [h])))

end Grant

section Field

variable (hown : ownWrite b off f.lo = false)

theorem State.fieldWrite_locked (h : s.locked b = true) : s.fieldWrite b off v f .RWS = s := by
  unfold State.fieldWrite
  dsimp only
  split
  · rfl
  · exact if_pos (.inl ⟨rfl, h⟩)

include hown

theorem State.fieldWrite_RO : s.fieldWrite b off v f .RO = s := by
  unfold State.fieldWrite
  simp [hown]

theorem State.fieldWrite_WO : s.fieldWrite b off v f .WO = s := by
  unfold State.fieldWrite
  simp [hown]

theorem State.fieldWrite_W1C : s.fieldWrite b off v f .W1C = s.set f (s.get f - Nat.land (s.get f) (bitsOf v f.lo f.w)) :=
  if_neg (by simp [hown])

theorem State.fieldWrite_W1S : s.fieldWrite b off v f .W1S = s.set f (Nat.lor (s.get f) (bitsOf v f.lo f.w)) :=
  if_neg (by simp [hown])

section Stored

variable (hb : b ≠ 17) (hkeep : s.ignores b off f.lo (bitsOf v f.lo f.w) = false)

include hb hkeep

theorem State.fieldWrite_RW : s.fieldWrite b off v f .RW = s.set f (s.stored b off f.lo (bitsOf v f.lo f.w)) := by
  unfold State.fieldWrite Fld.of
  simp [hown, hb, hkeep]

theorem State.fieldWrite_RWS (hopen : s.locked b = false) :
    s.fieldWrite b off v f .RWS = s.set f (s.stored b off f.lo (bitsOf v f.lo f.w)) := by
  unfold State.fieldWrite Fld.of
  simp [hown, hb, hkeep, hopen]

end Stored

end Field

/-! ## The lock of a block's set-up -/

/-- SETUP_LOCK.CLOSED of a block, where it has one. -/
def setupLock (b : Nat) : Fld := ⟨b * 0x10000, 0, 1, 0⟩

theorem fieldsAt_setupLock (b : Fin 26) (h : blockHasLock b = true) :
    (fieldsAt b 0).map (fun p => (p.1, p.2.acc)) = [(setupLock b, .W1S)] := by
  revert b
  decide +kernel

theorem ownWrite_setupLock (b : Fin 26) : ownWrite b 0 0 = false := by
  revert b
  decide +kernel

theorem State.foldl_fieldWrite (b off v : Nat) (l : List (Fld × FieldRow)) (s : State) :
    l.foldl (fun s (p : Fld × FieldRow) => s.fieldWrite b off v p.1 p.2.acc) s =
      (l.map fun p => (p.1, p.2.acc)).foldl (fun s p => s.fieldWrite b off v p.1 p.2) s :=
  (List.foldl_map (f := fun p : Fld × FieldRow => (p.1, p.2.acc))
    (g := fun (s : State) (p : Fld × Access) => s.fieldWrite b off v p.1 p.2)).symm

theorem State.clIdle_setupLock (t : State) (b : Nat) : t.clIdle s b 0 = t := by
  unfold State.clIdle
  split <;> rfl

theorem State.writeActs_setupLock (t : State) {b : Nat} (h : blockHasLock b = true) (init : Nat) :
    t.writeActs init b 0 1 = t := by
  have hb : b ∈ [1, 2, 3, 5, 7, 9, 10, 11, 12, 13, 14, 15, 16, 17, 18, 19, 20, 21, 25] := by
    simpa [blockHasLock] using h
  fin_cases hb <;> rfl

/-- R561. Writing 1 to the lock closes it, and does nothing else. -/
theorem State.regPut_setupLock (b : Fin 26) (h : blockHasLock b = true) (init : Nat) :
    s.regPut init b 0 1 = s.set (setupLock b) (Nat.lor (s.get (setupLock b)) 1) := by
  unfold State.regPut
  rw [State.foldl_fieldWrite, fieldsAt_setupLock b h]
  show (State.clIdle _ s b 0).writeActs init b 0 1 = _
  rw [State.clIdle_setupLock, State.writeActs_setupLock _ h]
  have hone : bitsOf 1 (setupLock b).lo (setupLock b).w = 1 := by simp [bitsOf, setupLock]
  have hwrite := State.fieldWrite_W1S (s := s) (v := 1) (f := setupLock b) (ownWrite_setupLock b)
  rwa [hone] at hwrite

theorem State.regWrite_setupLock (b : Fin 26) (h : blockHasLock b = true)
    (hok : s.check { init := init } .write (0x10000000 + b * 65536) 4 = none) (hon : s.domOn (blockDomain b) = true) :
    (s.regWrite init (b * 65536) 4 1).1 = s.set (setupLock b) (Nat.lor (s.get (setupLock b)) 1) := by
  have hblock : b.val * 65536 / 65536 = b := Nat.mul_div_cancel _ (by decide)
  have hoff : b.val * 65536 % 65536 = 0 := Nat.mul_mod_left _ _
  rw [State.regWrite_performed hok (hblock.symm ▸ hon), hblock, hoff]
  exact State.regPut_setupLock b h init

theorem State.locked_set (b : Nat) (h : blockHasLock b = true) (old : Nat) :
    (s.set (setupLock b) (Nat.lor old 1)).locked b = true := by
  have hodd : Nat.lor old 1 % 2 ^ 1 = 1 := Nat.or_mod_two_eq_one.2 (.inr rfl)
  show (blockHasLock b && (s.set (setupLock b) (Nat.lor old 1)).bit (setupLock b)) = true
  rw [h, Bool.true_and, State.bit, State.get_set_self]
  exact bne_iff_ne.2 (by rw [show (setupLock b).w = 1 from rfl, hodd]; decide)

/-! ## FLD.ETHERTYPE -/

theorem fieldsAt_ethertype : (fieldsAt 11 4).map (fun p => (p.1, p.2.acc)) = [(FLD.ETHERTYPE.VALUE, .RWS)] := by decide +kernel

theorem State.regPut_ethertype (hopen : s.bit FLD.SETUP_LOCK.CLOSED = false) (hv : v < 65536) :
    s.regPut init 11 4 v = s.set FLD.ETHERTYPE.VALUE v := by
  have hbits : bitsOf v 0 16 = v := by simp [bitsOf, hv]
  have hfield : s.fieldWrite 11 4 v FLD.ETHERTYPE.VALUE .RWS = s.set FLD.ETHERTYPE.VALUE v := by
    have hfield := State.fieldWrite_RWS (s := s) (b := 11) (off := 4) (v := v) (f := FLD.ETHERTYPE.VALUE) rfl (by decide) rfl hopen
    rw [hfield]
    exact congrArg (s.set FLD.ETHERTYPE.VALUE) hbits
  unfold State.regPut
  rw [State.foldl_fieldWrite, fieldsAt_ethertype]
  exact hfield

end Registers

open State in
/-- Settles O11: the check, then the domain of the block, then each field by its access kind. -/
theorem registerWrites : Obligations.RegisterWrites := by
  unfold Obligations.RegisterWrites
  refine ⟨fun s init off size v => ⟨fun r hr => State.done_eq (regWrite_refused hr), fun hok =>
      ⟨fun hq => State.done_eq (regWrite_held hok hq), fun hdown hno => State.done_eq (regWrite_down hok hdown hno),
        fun hon => State.done_eq (regWrite_performed hok hon)⟩⟩,
    fun s b off v f hown => ⟨fieldWrite_RO hown, fieldWrite_WO hown, fun x hx => ?_, fieldWrite_W1C hown, fieldWrite_W1S hown,
      fun hb hkeep => ⟨fieldWrite_RW hown hb hkeep, fieldWrite_RWS hown hb hkeep⟩⟩,
    fun s init b => ⟨fun hlock hok hon => ⟨_, State.done_eq ((if_pos hlock).trans (regWrite_setupLock b hlock hok hon)),
      locked_set b hlock _⟩, fun hno => State.done_eq (if_neg (by simp [hno]))⟩,
    ⟨fun s init v hv hon hopen hok => ?_, fun s init v r hr => State.done_eq (regWrite_refused hr)⟩,
    ⟨fun s init hok hon => State.done_eq (regWrite_setupLock 13 rfl hok hon), fun s b off v f hlock => fieldWrite_locked hlock⟩,
    fun s => ⟨rfl, rfl, fun _ => rfl, fun _ => rfl, rfl, rfl, rfl, rfl, rfl, rfl⟩⟩
  · rw [fieldWrite_W1S hown]
    exact State.get_set_ne _ _ (Ne.symm hx)
  · refine State.done_eq ((regWrite_performed hok hon).trans ?_)
    have hmod : v % 2 ^ 32 = v := Nat.mod_eq_of_lt (hv.trans (by decide))
    rw [hmod]
    exact regPut_ethertype hopen hv

section Carrier

variable {s : State}

/-! ## A seat lost, or found (R32 to R40) -/

theorem State.get_releaseLease {g : Fld} (h : g.id ≠ PAR.STATUS.LEASE_HELD.id) : s.releaseLease.get g = s.get g := by
  refine (State.get_set_ne (f := PAR.STATUS.LEASE_HELD) _ 0 h).trans ?_
  cases hto : s.hasWitness && s.domOn 4 with
  | false =>
    unfold State.renew
    rw [State.toWitness_unable hto]
    rfl
  | true =>
    obtain ⟨hw, hdom⟩ := Bool.and_eq_true_iff.1 hto
    obtain ⟨q, b, n, m, hsend⟩ := State.toWitness_effect (op := 1) (epoch := s.par.ownEpoch) (ticks := 0) hw hdom
    unfold State.renew
    rw [hsend]
    rfl

/-- The fields that a unit going OUT writes beside those that its state tells. -/
def goOutFields : List Fld := [PAR.STATUS.TOKEN_RAISED, PAR.STATUS.REQUEST_PENDING, PAR.STATUS.LEASE_HELD]

/-- What a unit that goes OUT keeps of the registers. -/
theorem State.get_goOut {g : Fld} (hg : g.apartFromPair = true) (hout : ∀ f ∈ goOutFields, g.id ≠ f.id) (cause : Nat) :
    (s.goOut cause).get g = s.get g := by
  have hraised := hout _ (.head _)
  have hrequest := hout PAR.STATUS.REQUEST_PENDING (by decide)
  have hlease := hout PAR.STATUS.LEASE_HELD (by decide)
  have hlower (u : State) : u.tokenStop.dropHandover.closeRequest.noAlone.get g = u.get g := by
    rw [State.get_noAlone, State.get_closeRequest hrequest, State.get_dropHandover, State.get_tokenStop hraised]
  unfold State.goOut
  split
  · rw [State.get_noAlone, State.get_closeRequest hrequest, State.get_tokenStop hraised]
  · extract_lets t u
    have ht : t.get g = s.get g := by
      unfold t
      split <;> rfl
    have hu : u.get g = s.get g := by
      unfold u
      split
      · exact (State.get_releaseLease hlease).trans ht
      · exact ht
    clear_value u
    exact ((State.setPairState_switched _ 5 0).get g hg).trans ((hlower u).trans hu)

/-- R34. The drivers are enabled where the own token is live, the partner's is not, and the unit is seated. -/
theorem State.gate_drivers (s : State) : s.gate.bit SYS.CARRIER_STATUS.DRIVERS_ENABLED =
    (s.bit SYS.CARRIER_STATUS.TOKEN_SELF_LIVE && !s.bit SYS.CARRIER_STATUS.TOKEN_PARTNER_LIVE &&
      s.bit SYS.CARRIER_STATUS.SEATED) := State.bit_setB_self _ _ _ le_rfl

theorem State.gate_car (s : State) : s.gate.car = s.car := congrArg (·.2) (State.gate_known s)

/-- R24. The change of the seat, noted. -/
def State.seatNoted (s : State) (seated : Bool) : State :=
  let t := { s with car := { s.car with
    seatedAt := if seated then some (s.car.seatedAt.getD s.now) else none
    clReady := s.car.clReady && seated } }
  if seated then t else (List.range 8).foldl (fun s n => s.set (CLP.CH_STATUS.VALID n) 0) t

/-- R32. Its line followed, the driver gate with it. -/
def State.seatFollowed (s : State) (seated : Bool) : State :=
  ((s.seatNoted seated).lineSet SYS.CARRIER_STATUS.SEATED seated).gate

theorem State.foldl_invalid_keeps {α : Type} (part : State → α) (hpart : ∀ (t : State) n, part (t.set (CLP.CH_STATUS.VALID n) 0) = part t)
    (l : List Nat) (t : State) : part (l.foldl (fun s n => s.set (CLP.CH_STATUS.VALID n) 0) t) = part t :=
  State.foldl_keeps part hpart l t

theorem State.seatNoted_rst (seated : Bool) : (s.seatNoted seated).rst = s.rst := by
  unfold State.seatNoted
  dsimp only
  split
  · rfl
  · exact State.foldl_invalid_keeps State.rst (fun _ _ => rfl) _ _

theorem State.seatNoted_at (seated : Bool) : (s.seatNoted seated).car.seatedAt.isSome = seated := by
  unfold State.seatNoted
  cases seated with
  | true => rfl
  | false => exact congrArg (·.seatedAt.isSome) (State.foldl_invalid_keeps State.car (fun _ _ => rfl) _ _)

theorem State.get_seatNoted {g : Fld} (hg : g.id < 0x110000 * 32) (seated : Bool) : (s.seatNoted seated).get g = s.get g := by
  have hne (n : Nat) : g.id ≠ (CLP.CH_STATUS.VALID n).id := by
    have hid : 0x110000 * 32 ≤ (CLP.CH_STATUS.VALID n).id := by
      simp only [Fld.id, CLP.CH_STATUS.VALID]
      omega
    omega
  unfold State.seatNoted
  dsimp only
  split
  · rfl
  · exact State.foldl_invalid_keeps (·.get g) (fun _ n => State.get_set_ne _ _ (hne n)) _ _

theorem State.seatedChange_eq (seated : Bool) : s.seatedChange seated =
    (if seated || (s.seatFollowed seated).pairState == 5 then s.seatFollowed seated
      else ((s.seatFollowed seated).recordEvent 3 [(s.seatFollowed seated).pairState, 0, 0, 0, 0, 0, 0, 0]).goOut 3).refreshPair :=
  (apply_ite State.refreshPair _ _ _).symm

theorem State.seatFollowed_at (seated : Bool) : (s.seatFollowed seated).car.seatedAt.isSome = seated := by
  have hline (t : State) : (t.lineSet SYS.CARRIER_STATUS.SEATED seated).car = t.car := by
    unfold State.lineSet
    split <;> rfl
  rw [State.seatFollowed, State.gate_car, hline, State.seatNoted_at]

/-- The state of the seat line, where no reset holds it. -/
theorem State.seatFollowed_lines (hheld : s.rst.held = none) (seated : Bool) :
    (s.seatFollowed seated).bit SYS.CARRIER_STATUS.SEATED = seated ∧
      (s.seatFollowed seated).bit SYS.CARRIER_STATUS.DRIVERS_ENABLED =
        (s.bit SYS.CARRIER_STATUS.TOKEN_SELF_LIVE && !s.bit SYS.CARRIER_STATUS.TOKEN_PARTNER_LIVE && seated) := by
  have hset : (s.seatNoted seated).lineSet SYS.CARRIER_STATUS.SEATED seated =
      (s.seatNoted seated).setB SYS.CARRIER_STATUS.SEATED seated := if_neg (by simp [State.seatNoted_rst, hheld])
  rw [State.seatFollowed, hset, State.gate_drivers, State.bit_congr _ _ (State.get_gate (by decide)),
    State.bit_setB_self _ _ _ le_rfl, State.bit_setB_ne _ _ (by decide), State.bit_setB_ne _ _ (by decide),
    State.bit_congr _ _ (State.get_seatNoted (by decide) seated), State.bit_congr _ _ (State.get_seatNoted (by decide) seated)]
  exact ⟨rfl, rfl⟩

theorem State.seatedChange_keeps {g : Fld} (hg : g.apartFromPair = true) (hset : g.settled = false)
    (hout : ∀ f ∈ goOutFields, g.id ≠ f.id) (seated : Bool) :
    (s.seatedChange seated).get g = (s.seatFollowed seated).get g ∧
      (s.seatedChange seated).car = (s.seatFollowed seated).car := by
  rw [State.seatedChange_eq]
  generalize s.seatFollowed seated = u
  generalize hv : (if (seated || u.pairState == 5) = true then u
    else (u.recordEvent 3 [u.pairState, 0, 0, 0, 0, 0, 0, 0]).goOut 3) = v
  have hkeep : v.get g = u.get g ∧ v.car = u.car := by
    have hrec := (State.Notified.refl u).recordEvent 3 [u.pairState, 0, 0, 0, 0, 0, 0, 0]
    rw [← hv]
    split
    · exact ⟨rfl, rfl⟩
    · exact ⟨(State.get_goOut hg hout 3).trans (hrec.get g hset),
        (State.goOut_out _ 3).2.2.trans (hrec.part State.car)⟩
  exact ⟨(v.refreshPair_notified.get g hset).trans hkeep.1, (v.refreshPair_notified.part State.car).trans hkeep.2⟩

theorem State.seatedChange_out : (s.seatedChange false).pairState = 5 := by
  rw [State.seatedChange_eq, State.pairState_refreshPair]
  split
  · next h => simpa using h
  · exact (State.goOut_out _ 3).1

/-- What the seat's change leaves of its own lines. -/
theorem State.seatedChange_lines (hheld : s.rst.held = none) (seated : Bool) :
    (s.seatedChange seated).bit SYS.CARRIER_STATUS.SEATED = seated ∧
      (s.seatedChange seated).bit SYS.CARRIER_STATUS.DRIVERS_ENABLED =
        (s.bit SYS.CARRIER_STATUS.TOKEN_SELF_LIVE && !s.bit SYS.CARRIER_STATUS.TOKEN_PARTNER_LIVE && seated) := by
  obtain ⟨hseat, hdrive⟩ := State.seatFollowed_lines hheld seated
  have hkeep {g : Fld} (hg : g.apartFromPair = true) (hset : g.settled = false) (hout : ∀ f ∈ goOutFields, g.id ≠ f.id) :
      (s.seatedChange seated).bit g = (s.seatFollowed seated).bit g :=
    State.bit_congr _ _ (State.seatedChange_keeps hg hset hout seated).1
  exact ⟨(hkeep (by decide) (by decide) (by decide)).trans hseat, (hkeep (by decide) (by decide) (by decide)).trans hdrive⟩

/-! ## The presence and latch lines -/

theorem State.presence_held (b : Bool) (h : s.rst.held.isSome = true) :
    s.presence b = { s with car := { s.car with partnerLine := b } } := if_pos (by simp [h])

theorem State.latch_held (b : Bool) (h : s.rst.held.isSome = true) :
    s.latch b = { s with car := { s.car with latchLine := b } } := if_pos (by simp [h])

theorem State.presence_changes {b : Bool} (hheld : s.rst.held = none) (h : s.bit SYS.CARRIER_STATUS.PARTNER_SEATED = !b) :
    s.presence b = State.roleWithPartner
      ((State.setB { s with car := { s.car with partnerLine := b } } SYS.CARRIER_STATUS.PARTNER_SEATED b).post 7 (b2n b)) := by
  have hno : ¬ (s.rst.held.isSome || s.partnerSeated == b) = true := by
    rw [State.partnerSeated, h, hheld]
    cases b <;> decide
  exact if_neg hno

theorem State.latch_changes {on : Bool} (hheld : s.rst.held = none) (h : s.bit SYS.CARRIER_STATUS.LATCH_REQUEST = !on) :
    s.latch on = if on then State.latchActs
        ((State.setB { s with car := { s.car with latchLine := on } } SYS.CARRIER_STATUS.LATCH_REQUEST on).post 6 (b2n on))
      else (State.setB { s with car := { s.car with latchLine := on } } SYS.CARRIER_STATUS.LATCH_REQUEST on).post 6 (b2n on) := by
  have hno : ¬ (s.rst.held.isSome || s.bit SYS.CARRIER_STATUS.LATCH_REQUEST == on) = true := by
    rw [h, hheld]
    cases on <;> decide
  exact if_neg hno

theorem State.roleWithPartner_out (h : s.pairState = 5) : s.roleWithPartner = s := by
  unfold State.roleWithPartner
  rw [if_neg (by simp [h]), if_neg (by simp [h])]

theorem State.latchActs_trail (h : s.pairState = 3) : s.latchActs = { s with par := { s.par with latchAt := some s.cycle } } := by
  unfold State.latchActs
  rw [h]
  rfl

theorem State.latch_trail (hheld : s.rst.held = none) (h : s.bit SYS.CARRIER_STATUS.LATCH_REQUEST = false)
    (htrail : s.pairState = 3) : s.latch true =
      { (State.setB { s with car := { s.car with latchLine := true } } SYS.CARRIER_STATUS.LATCH_REQUEST true).post 6 1 with
        par := { s.par with latchAt := some s.cycle } } := by
  refine (State.latch_changes (on := true) hheld h).trans ((if_pos rfl).trans ?_)
  generalize hu : State.post _ 6 (b2n true) = u
  have hget (g : Fld) (hg : g.id ≠ SYS.CARRIER_STATUS.LATCH_REQUEST.id) : u.get g = s.get g := by
    rw [← hu]
    exact State.get_setB_ne (f := SYS.CARRIER_STATUS.LATCH_REQUEST) _ true hg
  have hcycle : u.cycle = s.cycle := by
    unfold State.cycle State.get2
    rw [hget _ (by decide), hget _ (by decide)]
  have hpar : u.par = s.par := by
    rw [← hu]
    rfl
  rw [State.latchActs_trail ((hget PAR.STATUS.STATE (by decide)).trans htrail), hcycle, hpar, ← hu]
  rfl

theorem State.porRelease_starts {t : Nat} (hseat : s.car.seatedAt = some t)
    (hlate : max t s.car.supplyAt + 20 * ticksPerMs ≤ s.now) (hlow : s.car.supplyLow = false) :
    s.porRelease = { s with car := { s.car with converters := true } } := by
  unfold State.porRelease
  rw [hseat]
  exact if_neg (by simp [hlow, Nat.not_lt.2 hlate])

theorem State.oscillator_changes {b : Bool} (h : s.car.fallback = !b) : s.oscillator b =
    (State.setB { s with car := { s.car with fallback := b } } TIM.STATUS.UNCALIBRATED b).post 178 (b2n b) :=
  if_neg (by cases b <;> simp [h])

/-! ## Speed windows (R56, R60 to R62) -/

theorem SYS.SPEED.not_settled (d : Fin 8) : ∀ g ∈ [SYS.SPEED.COUNT d, SYS.SPEED.VALID d, SYS.SPEED.BELOW_FLOOR d, SYS.SPEED.SEQ d],
    g.settled = false ∧ g.id ≠ SYS.SPEED_STATUS.LOW_SEEN.id := by
  revert d
  decide +kernel

/-- The fields that the end of a window writes, before what a low speed asks for. -/
def State.speedWritten (s : State) (d count : Nat) : State :=
  (((s.set (SYS.SPEED.COUNT d) (if Nat.testBit (s.get SYS.SPEED_CTRL.ENABLE) d then count else 0)).setB (SYS.SPEED.VALID d)
    (s.speedFull d)).setB (SYS.SPEED.BELOW_FLOOR d) (s.speedFull d && decide (count < s.speedFloor d))).wrap (SYS.SPEED.SEQ d)

theorem State.speedUpdate_rest (d t count : Nat) : (∀ g : Fld, g.settled = false → g.id ≠ SYS.SPEED_STATUS.LOW_SEEN.id →
      (s.speedUpdate d t count).get g = (s.speedWritten d count).get g) ∧
    (s.speedUpdate d t count).car.speedFrom = Sparse.insert s.car.speedFrom d (t + 65536) := by
  unfold State.speedUpdate
  extract_lets ok on low u _ v _ w seen
  have hw : (∀ g, w.get g = u.get g) ∧ w.car = v.car := by
    unfold w
    split <;> exact ⟨fun _ => rfl, rfl⟩
  have hset (g : Fld) (hg : g.settled = false) (hne : g.id ≠ SYS.SPEED_STATUS.LOW_SEEN.id) (data : Nat) (l : List Nat) :
      (((w.set SYS.SPEED_STATUS.LOW_SEEN (setBit seen d)).post 8 data).recordEvent 5 l).get g = w.get g :=
    (((State.Notified.refl (w.set SYS.SPEED_STATUS.LOW_SEEN (setBit seen d))).post 8 data).recordEvent 5 l).get g hg
      |>.trans (State.get_set_ne _ _ hne)
  split
  · refine ⟨fun g hg hne => (hset g hg hne _ _).trans (hw.1 g), ?_⟩
    exact congrArg Car.speedFrom ((((State.Notified.refl (w.set SYS.SPEED_STATUS.LOW_SEEN (setBit seen d))).post 8
      _).recordEvent 5 _).part State.car |>.trans hw.2)
  · exact ⟨fun g _ _ => hw.1 g, congrArg Car.speedFrom hw.2⟩

/-- R60, R61. The four fields that a window's end writes. -/
theorem State.speedUpdate_fields (d : Fin 8) (t : Nat) {count : Nat} (hc : count < 2 ^ 20) :
    (s.speedUpdate d t count).get (SYS.SPEED.COUNT d) = (if Nat.testBit (s.get SYS.SPEED_CTRL.ENABLE) d then count else 0) ∧
    (s.speedUpdate d t count).get (SYS.SPEED.VALID d) = b2n (s.speedFull d) ∧
    (s.speedUpdate d t count).get (SYS.SPEED.BELOW_FLOOR d) = b2n (s.speedFull d && decide (count < s.speedFloor d)) ∧
    (s.speedUpdate d t count).get (SYS.SPEED.SEQ d) = (s.get (SYS.SPEED.SEQ d) + 1) % 256 := by
  have hkeep (g : Fld) (hg : g ∈ [SYS.SPEED.COUNT d, SYS.SPEED.VALID d, SYS.SPEED.BELOW_FLOOR d, SYS.SPEED.SEQ d]) :
      (s.speedUpdate d t count).get g = (s.speedWritten d count).get g :=
    (s.speedUpdate_rest d t count).1 g (SYS.SPEED.not_settled d g hg).1 (SYS.SPEED.not_settled d g hg).2
  refine ⟨(hkeep _ (.head _)).trans ?_, (hkeep _ (.tail _ (.head _))).trans ?_, (hkeep _ (.tail _ (.tail _ (.head _)))).trans ?_,
    (hkeep _ (.tail _ (.tail _ (.tail _ (.head _))))).trans ?_⟩
  · rw [State.speedWritten, State.get_wrap_ne _ (by simp [Fld.id, SYS.SPEED.COUNT, SYS.SPEED.SEQ]),
      State.get_setB_ne _ _ (by simp [Fld.id, SYS.SPEED.COUNT, SYS.SPEED.BELOW_FLOOR]),
      State.get_setB_ne _ _ (by simp [Fld.id, SYS.SPEED.COUNT, SYS.SPEED.VALID]), State.get_set_self]
    exact Nat.mod_eq_of_lt (by split <;> [exact hc; exact Nat.two_pow_pos _])
  · rw [State.speedWritten, State.get_wrap_ne _ (by simp [Fld.id, SYS.SPEED.VALID, SYS.SPEED.SEQ]),
      State.get_setB_ne _ _ (by simp [Fld.id, SYS.SPEED.VALID, SYS.SPEED.BELOW_FLOOR]), State.get_setB_self _ _ _ le_rfl]
  · rw [State.speedWritten, State.get_wrap_ne _ (by simp [Fld.id, SYS.SPEED.BELOW_FLOOR, SYS.SPEED.SEQ]),
      State.get_setB_self _ _ _ le_rfl]
  · rw [State.speedWritten, State.get_wrap_self, State.get_setB_ne _ _ (by simp [Fld.id, SYS.SPEED.BELOW_FLOOR, SYS.SPEED.SEQ]),
      State.get_setB_ne _ _ (by simp [Fld.id, SYS.SPEED.VALID, SYS.SPEED.SEQ]),
      State.get_set_ne _ _ (by simp [Fld.id, SYS.SPEED.COUNT, SYS.SPEED.SEQ])]
    rfl

theorem State.speedWindow_ends {d t : Nat} (count : Nat) (h : Sparse.find s.car.speedFrom d = some t) (hend : t + 65536 ≤ s.now) :
    s.speedWindow d count = s.speedUpdate d t count := by
  unfold State.speedWindow
  rw [h]
  exact if_pos (by simp [State.speedDue, h, hend])

end Carrier

open State in
/-- Settles O12: each line as it stands, held, followed or changed, and the window of the monitor. -/
theorem carrierEvents : Obligations.CarrierEvents := by
  unfold Obligations.CarrierEvents
  refine ⟨fun s => ⟨rfl, rfl⟩,
    fun s b => ⟨⟨_, rfl, ?_, ?_⟩, fun hheld => ⟨State.done_eq (presence_held b hheld), State.done_eq (latch_held b hheld)⟩,
      fun hheld h => State.done_eq (presence_changes hheld h), fun hheld h => State.done_eq (latch_changes (on := true) hheld h)⟩,
    fun s t hseat hlate hlow => State.done_eq (porRelease_starts hseat hlate hlow),
    fun s hheld => ⟨⟨_, rfl, (seatedChange_lines hheld true).1, ?_⟩,
      ⟨_, rfl, (seatedChange_lines hheld false).1, ?_, seatedChange_out⟩,
      fun b h hout => State.done_eq ((presence_changes hheld h).trans (roleWithPartner_out ?_)),
      fun h => State.done_eq (latch_changes (on := false) hheld h),
      fun h htrail => ⟨_, State.done_eq (latch_trail hheld h htrail), ?_⟩⟩,
    fun s => ⟨fun h => State.done_eq (oscillator_changes (b := true) h), fun h => State.done_eq (oscillator_changes (b := false) h)⟩,
    fun s d whole part => ⟨fun hnone => State.done_eq ?_, fun t ht hend => ⟨_, State.done_eq (speedWindow_ends _ ht hend), ?_⟩⟩⟩
  · have hcar : (s.seatedChange b).car = (s.seatFollowed b).car :=
      (seatedChange_keeps (g := SYS.CARRIER_STATUS.SEATED) (by decide) (by decide) (by decide) b).2
    rw [hcar, seatFollowed_at]
  · intro hb
    subst hb
    exact seatedChange_out
  · rw [(seatedChange_lines hheld true).2, Bool.and_true]
  · rw [(seatedChange_lines hheld false).2, Bool.and_false]
  · exact (State.get_setB_ne (f := SYS.CARRIER_STATUS.PARTNER_SEATED) _ b (by decide)).trans hout
  · exact ⟨State.bit_setB_self { s with car := { s.car with latchLine := true } } SYS.CARRIER_STATUS.LATCH_REQUEST true le_rfl,
      rfl, evq_post_of_lt (data := 1) s 6 (by decide)⟩
  · unfold State.speedWindow
    rw [hnone]
  · have hcount : 65536 * whole.val + part.val < 2 ^ 20 := by omega
    obtain ⟨hc, hv, hb, hs⟩ := speedUpdate_fields (s := s) d t hcount
    refine ⟨hc, hv, hb, hs, ?_⟩
    rw [(speedUpdate_rest _ _ _).2, Sparse.find_insert_self]

end Sys2Proof.Machine
end

/-! PROOFS. Rings, events and their commands (spec/03). -/

section

namespace Sys2Proof.Machine

section Bits

/-- Bits written 1 clear, and no other. -/
theorem Nat.testBit_sub_land (v m i : Nat) : (v - Nat.land v m).testBit i = (v.testBit i && !m.testBit i) := by
  have hle : Nat.land v m ≤ v := Nat.and_le_left
  have hodd : Nat.land v m % 2 = 1 ↔ v % 2 = 1 ∧ m % 2 = 1 := Nat.and_mod_two_eq_one
  induction i generalizing v m with
  | zero =>
    generalize Nat.land v m = a at hle hodd
    rw [Nat.testBit_zero, Nat.testBit_zero, Nat.testBit_zero, Bool.eq_iff_iff]
    simp only [Bool.and_eq_true, Bool.not_eq_true', decide_eq_true_eq, decide_eq_false_iff_not]
    omega
  | succ i ih =>
    have hand : Nat.land v m / 2 = Nat.land (v / 2) (m / 2) := Nat.and_div_two
    have hhalf : (v - Nat.land v m) / 2 = v / 2 - Nat.land (v / 2) (m / 2) := by
      rw [← hand]
      omega
    rw [Nat.testBit_succ, Nat.testBit_succ, Nat.testBit_succ, hhalf]
    exact ih _ _ Nat.and_le_left Nat.and_mod_two_eq_one

end Bits

section Pending

variable {s : State}

/-- The external interrupt of core `c` taken back. -/
def State.mipOff (s : State) (c : Nat) : State := if (s.core c).mip then s.setCore c { s.core c with mip := false } else s

theorem State.pendClear_eq (t w mask : Nat) : s.pendClear t w mask =
    if t = 0 ∧ !(s.set (EVT.PEND.BITS t w) (s.get (EVT.PEND.BITS t w) - Nat.land (s.get (EVT.PEND.BITS t w)) mask)).irq0 then
      (List.range 3).foldl State.mipOff
        (s.set (EVT.PEND.BITS t w) (s.get (EVT.PEND.BITS t w) - Nat.land (s.get (EVT.PEND.BITS t w)) mask))
    else s.set (EVT.PEND.BITS t w) (s.get (EVT.PEND.BITS t w) - Nat.land (s.get (EVT.PEND.BITS t w)) mask) := rfl

theorem State.get_mipOff (c : Nat) (g : Fld) : (s.mipOff c).get g = s.get g := by
  unfold State.mipOff
  split <;> rfl

theorem State.core_mipOff_self (c : Nat) : ((s.mipOff c).core c).mip = false := by
  unfold State.mipOff
  split
  · next h =>
    by_cases hc : c < s.vot.cores.length
    · show (((s.vot.cores.set c _).getD c {})).mip = false
      rw [List.getD_eq_getElem?_getD, List.getElem?_set_self hc]
      rfl
    · have hnone : s.core c = {} := by
        rw [State.core, List.getD_eq_getElem?_getD, List.getElem?_eq_none (Nat.le_of_not_lt hc)]
        rfl
      rw [hnone] at h
      exact Bool.noConfusion h
  · next h => simpa using h

theorem State.core_mipOff_ne {c d : Nat} (h : d ≠ c) : (s.mipOff c).core d = s.core d := by
  unfold State.mipOff
  split
  · show (s.vot.cores.set c _).getD d {} = s.vot.cores.getD d {}
    rw [List.getD_eq_getElem?_getD, List.getElem?_set_ne (Ne.symm h), List.getD_eq_getElem?_getD]
  · rfl

theorem State.mip_mipOff {c d : Nat} (h : (s.core d).mip = false) : ((s.mipOff c).core d).mip = false := by
  by_cases hd : d = c
  · rw [hd, State.core_mipOff_self]
  · rw [State.core_mipOff_ne hd, h]

theorem State.mip_foldl_mipOff (l : List Nat) (s : State) : ∀ c ∈ l, ((l.foldl State.mipOff s).core c).mip = false := by
  have hkeep (l : List Nat) (t : State) (c : Nat) (h : (t.core c).mip = false) : ((l.foldl State.mipOff t).core c).mip = false :=
    List.foldlRecOn (motive := fun u => (u.core c).mip = false) l State.mipOff h fun u hu d _ => State.mip_mipOff hu
  induction l generalizing s with
  | nil => exact fun c hc => absurd hc List.not_mem_nil
  | cons d l ih =>
    intro c hc
    rcases List.mem_cons.1 hc with rfl | hc
    · exact hkeep l _ c (State.core_mipOff_self c)
    · exact ih _ c hc

theorem State.pendClear_bits {t w mask : Nat} (h : s.get (EVT.PEND.BITS t w) < 2 ^ 32) (i : Nat) :
    ((s.pendClear t w mask).get (EVT.PEND.BITS t w)).testBit i = ((s.get (EVT.PEND.BITS t w)).testBit i && !mask.testBit i) := by
  have hset : (s.pendClear t w mask).get (EVT.PEND.BITS t w) =
      s.get (EVT.PEND.BITS t w) - Nat.land (s.get (EVT.PEND.BITS t w)) mask := by
    have hmod := Nat.mod_eq_of_lt ((Nat.sub_le (s.get (EVT.PEND.BITS t w)) (Nat.land (s.get (EVT.PEND.BITS t w)) mask)).trans_lt h)
    rw [State.pendClear_eq]
    split
    · rw [State.get_foldl fun u c => State.get_mipOff c _]
      exact (State.get_set_self _ _ _).trans hmod
    · exact (State.get_set_self _ _ _).trans hmod
  rw [hset, Nat.testBit_sub_land]

/-- R120. With no bit of target 0 pending no core has its external interrupt pending. -/
theorem State.pendClear_mip {w mask : Nat} (h : (s.pendClear 0 w mask).irq0 = false) :
    ∀ c < 3, ((s.pendClear 0 w mask).core c).mip = false := by
  have hirq (l : List Nat) (t : State) : (l.foldl State.mipOff t).irq0 = t.irq0 := by
    unfold State.irq0 State.irq
    congr 1
    funext w
    exact State.bit_congr _ _ (State.get_foldl (fun u c => State.get_mipOff c _) l t)
  rw [State.pendClear_eq] at h ⊢
  split
  · exact fun c hc => State.mip_foldl_mipOff _ _ c (List.mem_range.2 hc)
  · next hno =>
    rw [if_neg hno] at h
    exact absurd ⟨rfl, by rw [h]; rfl⟩ hno

theorem State.eringEnable_starts {n : Nat} (hoff : s.bit (EVT.ERING_BASE_HI.ENABLE n) = false)
    (hmin : 4 ≤ s.get (EVT.ERING_BASE_HI.ENTRIES_LOG2 n)) (hmax : s.get (EVT.ERING_BASE_HI.ENTRIES_LOG2 n) ≤ 14)
    (hbase : inSramDram (s.get (EVT.ERING_BASE_LO.ADDR n) * 16 + s.get (EVT.ERING_BASE_HI.ADDR n) * 2 ^ 32)
      (16 * 2 ^ s.get (EVT.ERING_BASE_HI.ENTRIES_LOG2 n)) = true)
    (hhead : inSramDram (s.get (EVT.ERING_HEAD_LO.ADDR n) * 4 + s.get (EVT.ERING_HEAD_HI.ADDR n) * 2 ^ 32) 4 = true) :
    s.eringEnable n = ((((s.set (EVT.ERING_BASE_HI.ENABLE n) 1).set (EVT.ERING_STATUS.WRITE_INDEX n) 0).set
      (EVT.ERING_LOST.LOST_TOTAL n) 0).setERing n {}) := by
  refine (if_neg (by simp [hoff])).trans (if_neg ?_)
  rw [hbase, hhead]
  rintro (h | h | h | h)
  · omega
  · omega
  · exact Bool.noConfusion h
  · exact Bool.noConfusion h

end Pending

open State in
/-- Settles O18: each bit of the pending word, then the interrupt of the cores. -/
theorem eventCommands : Obligations.EventCommands := by
  unfold Obligations.EventCommands
  refine ⟨fun s src => rfl, fun s t w mask h => ⟨_, rfl, pendClear_bits h, fun ht => ?_⟩,
    fun s n hoff hmin hmax hbase hhead => State.done_eq (eringEnable_starts hoff hmin hmax hbase hhead)⟩
  rw [ht]
  exact pendClear_mip

section Rings

variable {s t : State} {n : Nat}

/-! ## Ring enable (R70, R76) -/

/-- The fields of a ring's state, as its enable writes them. -/
def State.ringStarted (s : State) (n p : Nat) : State :=
  let s := (s.set (RNG.RING_CTRL.ENABLE n) 1).set (RNG.RING_STATUS.STATE n) 1
  let s := (s.set (RNG.RING_STATUS.CFG_ERR n) 0).set (RNG.RING_STATUS.CFG_CAUSE n) 0
  let s := (s.set (RNG.RING_INDEX.CONS n) p).set (RNG.RING_INDEX.PROD n) p
  let s := ((s.set (RNG.RING_FAULT.REASON n) 0).set (RNG.RING_FAULT.STATUS n) 0).set (RNG.RING_FAULT.INDEX n) 0
  s.setRing n {}

theorem State.ringEnable_starts {bs : List Nat} (hstate : s.get (RNG.RING_STATUS.STATE n) = 0) (hcause : s.ringCause n = 0)
    (hread : s.read { init := 8, owner := some (s.get (RNG.RING_CFG.OWNER n)) } (s.bellAddr n) 4 = (t, .ok bs)) :
    s.ringEnable n = t.ringStarted n (leAt bs 0 2) := by
  unfold State.ringEnable
  rw [if_neg (not_not.2 hstate), if_neg (not_not.2 hcause), hread]
  rfl

theorem State.ringEnable_refuses {c : Nat} (hstate : s.get (RNG.RING_STATUS.STATE n) = 0) (hc : c ≠ 0) (hcause : s.ringCause n = c) :
    s.ringEnable n = s.ringRefuse n c := by
  unfold State.ringEnable
  rw [if_neg (not_not.2 hstate), hcause, if_pos hc]

theorem State.ringStarted_fields (p : Nat) : (t.ringStarted n p).get (RNG.RING_STATUS.STATE n) = 1 ∧
    (t.ringStarted n p).get (RNG.RING_CTRL.ENABLE n) = 1 ∧ (t.ringStarted n p).get (RNG.RING_STATUS.CFG_ERR n) = 0 ∧
    (t.ringStarted n p).get (RNG.RING_INDEX.CONS n) = p % 65536 ∧ (t.ringStarted n p).get (RNG.RING_INDEX.PROD n) = p % 65536 ∧
    (t.ringStarted n p).get (RNG.RING_FAULT.REASON n) = 0 := by
  have hget (u : State) (g : Fld) : (u.setRing n {}).get g = u.get g := rfl
  unfold State.ringStarted
  refine ⟨?_, ?_, ?_, ?_, ?_, ?_⟩ <;> rw [hget] <;>
  simp (disch := simp only [Fld.id, RNG.RING_CTRL.ENABLE, RNG.RING_STATUS.STATE, RNG.RING_STATUS.CFG_ERR, RNG.RING_STATUS.CFG_CAUSE,
    RNG.RING_INDEX.CONS, RNG.RING_INDEX.PROD, RNG.RING_FAULT.REASON, RNG.RING_FAULT.STATUS, RNG.RING_FAULT.INDEX]; omega) only
    [State.get_set_ne, State.get_set_self] <;> rfl

theorem State.ringSettle_settles (hstate : s.get (RNG.RING_STATUS.STATE n) = 2) (hstarted : s.rng.started = [])
    (hfinished : s.rng.finished = []) :
    s.ringSettle n = (s.set (RNG.RING_STATUS.STATE n) (if (s.ring n).toDisabled then 0 else 3)).post 233 n :=
  if_neg (by simp [hstate, hstarted, hfinished])

/-! ## The descriptors of a ring that is aborted (R88): the engines' fields, and no set-up of a ring -/

theorem State.JudgedAs.captureEnd (h : t.JudgedAs s) (j : AcqJob) (status detail : Nat) :
    (t.captureEnd j status detail).JudgedAs s := by
  have hacq (a : Acq) : State.Served (t.setAcq a) t := (State.Served.refl t).of_eq rfl rfl rfl rfl rfl
  refine State.JudgedAs.trans (State.Served.toJudgedAs ?_) h
  exact (((((hacq _).set (f := ACQ.STATUS.STATE) (by decide) 0).set (f := ACQ.STATUS.SEGMENT) (by decide) 0).set
    (f := ACQ.STATUS.GAP_ACTIVE) (by decide) 0).set (f := ACQ.QUEUE.LEVEL) (by decide) 0).finishAt (some (j.ring, j.idx)) status
    j.done detail

theorem State.JudgedAs.captureFault (h : t.JudgedAs s) (j : AcqJob) (e : Err) : (t.captureFault j e).JudgedAs s := by
  unfold State.captureFault
  dsimp only
  split
  · next heq => exact ((h.write _ _ _).fst heq).captureEnd _ _ _
  · next heq => exact ((h.write _ _ _).fst heq).captureEnd _ _ _

theorem State.JudgedAs.acqDrain (j : AcqJob) (all : Bool) (fuel : Nat) (h : t.JudgedAs s) :
    (t.acqDrain j all fuel).1.JudgedAs s := by
  induction fuel generalizing t j with
  | zero => exact h
  | succ fuel ih =>
    unfold State.acqDrain
    split
    · exact h
    · dsimp only
      split
      · next heq => exact (h.write _ _ _).fst heq
      · next heq => exact ih _ ((h.write _ _ _).fst heq)

theorem State.JudgedAs.finish (h : t.JudgedAs s) (d : Started) (status bytes detail : Nat) :
    (t.finish d status bytes detail).JudgedAs s := ((State.Served.refl t).finish d status bytes detail).toJudgedAs.trans h

theorem State.JudgedAs.acqAbort (d : Started) : (s.acqAbort d).JudgedAs s := by
  have h := State.JudgedAs.refl s
  unfold State.acqAbort
  split
  · exact h.finish _ _ _ _
  · split
    · exact h.finish _ _ _ _
    · split
      · exact h.captureEnd _ _ _
      · split
        · next heq => exact ((h.acqDrain _ _ _).fst heq).captureFault _ _
        · next heq =>
          have hdrain := (h.acqDrain _ _ _).fst heq
          split
          · next heq => exact ((hdrain.write _ _ _).fst heq).captureEnd _ _ _
          · next heq => exact ((hdrain.write _ _ _).fst heq).captureEnd _ _ _

theorem State.JudgedAs.captureAbort (d : Started) (status : Nat) : (s.captureAbort d status).JudgedAs s := by
  have h := State.JudgedAs.refl s
  unfold State.captureAbort State.acqDown
  split
  · split
    · split
      · exact State.JudgedAs.acqAbort d
      · split
        · exact h
        · exact h.captureEnd _ _ _
    · exact h.finish _ _ _ _
  · exact h.finish _ _ _ _

theorem State.Served.canAbort (d : Started) (status detail : Nat) : (s.canAbort d status detail).Served s := by
  have hcan (c : Nat) (ch : CanCh) : (s.setCanCh c ch).Served s := (State.Served.refl s).of_eq rfl rfl rfl rfl rfl
  have hqueued (c b : Nat) : (CAN.MB_STAT.QUEUED c b).unjudged := by
    refine Fld.unjudged_of_reg 0x14 ?_ ?_ ?_ ?_ <;> simp only [CAN.MB_STAT.QUEUED] <;> omega
  unfold State.canAbort State.canFinish State.canQueued
  dsimp only
  split
  · split
    · exact hcan _ _
    · exact ((hcan _ _).set (hqueued _ _) _).finishAt _ _ _ _
  · exact (hcan _ _).finish _ _ _ _

theorem State.Served.hartAbort (d : Started) (status : Nat) : (s.hartAbort d status).Served s := by
  have hclp (c : Clp) : State.Served { s with clp := c } s := (State.Served.refl s).of_eq rfl rfl rfl rfl rfl
  have hbusy (c : Nat) : (CLP.CH_STATUS.HART_BUSY c).unjudged := by
    refine Fld.unjudged_of_reg 0x11 ?_ ?_ ?_ ?_ <;> simp only [CLP.CH_STATUS.HART_BUSY] <;> omega
  exact (State.Served.ite ((hclp _).set (hbusy _) _) (.refl s)).finish _ _ _ _

theorem State.Served.endActivate (status detail : Nat) : (s.endActivate status detail).Served s := by
  have hupd (u : Upd) : State.Served { s with upd := u } s := (State.Served.refl s).of_eq rfl rfl rfl rfl rfl
  unfold State.endActivate
  split
  · exact .refl s
  · exact ((hupd _).set (f := UPD.ACTIVE.ACTIVATE_PENDING) (by decide) 0).finishAt _ _ _ _

theorem State.Served.appendAbort (d : Started) (status : Nat) : (s.appendAbort d status).Served s := by
  have hlog (l : Recorder) : State.Served { s with log := l } s := (State.Served.refl s).of_eq rfl rfl rfl rfl rfl
  exact ((hlog _).set (f := REC.STATUS.QUEUE) (by decide) _).finish _ _ _ _

/-- The descriptors of any engine but the ferry's. -/
theorem State.JudgedAs.abortDesc (d : Started) (status : Nat) (h : s.get (RNG.RING_CFG.ENGINE d.ring) ≠ 8) :
    (s.abortDesc d status).JudgedAs s := by
  have hfinish {t : State} (ht : t.Served s) : (t.finish d status 0 0).JudgedAs s := (ht.finish d status 0 0).toJudgedAs
  have hcrs (c : Cross) : State.Served { s with crs := c } s := (State.Served.refl s).of_eq rfl rfl rfl rfl rfl
  have hmot (m : Mot) : State.Served { s with mot := m } s := (State.Served.refl s).of_eq rfl rfl rfl rfl rfl
  have hlop (l : Lop) : State.Served { s with lop := l } s := (State.Served.refl s).of_eq rfl rfl rfl rfl rfl
  unfold State.abortDesc
  split
  · exact hfinish (.refl s)
  · split
    case h_1 => exact hfinish (hcrs _)
    case h_2 => exact hfinish (hmot _)
    case h_3 => exact hfinish (hlop _)
    case h_4 => exact (State.Served.hartAbort d status).toJudgedAs
    case h_5 => exact (State.Served.canAbort d status 0).toJudgedAs
    case h_6 => exact (State.Served.canAbort d status 0).toJudgedAs
    case h_7 => exact State.JudgedAs.captureAbort d status
    case h_8 heq => exact absurd heq h
    case h_9 =>
      split
      · exact (State.Served.endActivate status 0).toJudgedAs
      · exact hfinish (.refl s)
    case h_10 => exact (State.Served.appendAbort d status).toJudgedAs
    case h_11 => exact hfinish (.refl s)

theorem State.JudgedAs.abortStarted (status : Nat) (h : s.get (RNG.RING_CFG.ENGINE n) ≠ 8) :
    (s.abortStarted n status).JudgedAs s := by
  unfold State.abortStarted
  refine List.foldlRecOn (motive := fun t => State.JudgedAs t s) _ _ (.refl s) fun t ht d hd => ?_
  split
  · have hring : d.ring = n := by simpa using (List.mem_filter.1 hd).2
    exact (State.JudgedAs.abortDesc d status (by rw [hring, ht.engine]; exact h)).trans ht
  · exact ht

theorem State.abortStarted_none (status : Nat) (h : s.rng.started = []) : s.abortStarted n status = s := by
  unfold State.abortStarted
  rw [h]
  rfl

/-! ## STOP, ABORT, a cleared ENABLE, RESUME (R88) -/

theorem State.ringStop_running (h : s.get (RNG.RING_STATUS.STATE n) = 1) :
    s.ringStop n = (s.set (RNG.RING_STATUS.STATE n) 2).ringSettle n := if_neg (not_not.2 h)

theorem State.ringAbort_running (h : s.get (RNG.RING_STATUS.STATE n) = 1) (heng : s.get (RNG.RING_CFG.ENGINE n) ≠ 8)
    (disable : Bool) : s.ringAbort n disable = (((s.set (RNG.RING_STATUS.STATE n) 2).setRing n
      { s.ring n with toDisabled := disable }).abortStarted n 0x33).ringSettle n := by
  have hne : (RNG.RING_CFG.ENGINE n).id ≠ (RNG.RING_STATUS.STATE n).id := by
    simp only [Fld.id, RNG.RING_CFG.ENGINE, RNG.RING_STATUS.STATE]
    omega
  unfold State.ringAbort
  rw [if_neg (not_not.2 h)]
  generalize ht : (s.set (RNG.RING_STATUS.STATE n) 2).setRing n { s.ring n with toDisabled := disable } = t
  have hkeep : t.get (RNG.RING_CFG.ENGINE n) = s.get (RNG.RING_CFG.ENGINE n) := by
    rw [← ht]
    exact State.get_set_ne s 2 hne
  have habort := (State.JudgedAs.abortStarted (s := t) (n := n) 0x33 (hkeep ▸ heng)).engine n
  dsimp only
  rw [if_neg fun hc => heng (hkeep ▸ habort ▸ hc.1)]

theorem State.get_disabled {g : Fld} (h : g.id ≠ (RNG.RING_CTRL.ENABLE n).id) : (s.set (RNG.RING_CTRL.ENABLE n) 0).get g = s.get g :=
  State.get_set_ne _ _ h

theorem RNG.ids (n : Nat) : (RNG.RING_STATUS.STATE n).id ≠ (RNG.RING_CTRL.ENABLE n).id ∧
    (RNG.RING_CFG.ENGINE n).id ≠ (RNG.RING_CTRL.ENABLE n).id := by
  simp only [Fld.id, RNG.RING_CTRL.ENABLE, RNG.RING_STATUS.STATE, RNG.RING_CFG.ENGINE]
  omega

theorem State.ringDisable_running (h : s.get (RNG.RING_STATUS.STATE n) = 1) (heng : s.get (RNG.RING_CFG.ENGINE n) ≠ 8) :
    s.ringDisable n = ((((s.set (RNG.RING_CTRL.ENABLE n) 0).set (RNG.RING_STATUS.STATE n) 2).setRing n
      { s.ring n with toDisabled := true }).abortStarted n 0x33).ringSettle n := by
  have hstate := (State.get_disabled (RNG.ids n).1).trans h
  have hengine : (s.set (RNG.RING_CTRL.ENABLE n) 0).get (RNG.RING_CFG.ENGINE n) ≠ 8 := by
    rwa [State.get_disabled (RNG.ids n).2]
  unfold State.ringDisable
  dsimp only
  rw [hstate]
  exact State.ringAbort_running hstate hengine true

theorem State.ringDisable_stopping (h : s.get (RNG.RING_STATUS.STATE n) = 2) :
    s.ringDisable n = (s.set (RNG.RING_CTRL.ENABLE n) 0).setRing n { s.ring n with toDisabled := true } := by
  unfold State.ringDisable
  dsimp only
  rw [State.get_disabled (RNG.ids n).1, h]
  rfl

theorem State.ringDisable_stopped (h : s.get (RNG.RING_STATUS.STATE n) = 3 ∨ s.get (RNG.RING_STATUS.STATE n) = 4) :
    s.ringDisable n = (s.set (RNG.RING_CTRL.ENABLE n) 0).set (RNG.RING_STATUS.STATE n) 0 := by
  unfold State.ringDisable
  dsimp only
  rw [State.get_disabled (RNG.ids n).1]
  rcases h with h | h <;> rw [h] <;> rfl

/-- A ring with nothing started and nothing finished goes on to STOPPED or DISABLED at once. -/
theorem State.ringSettle_empty (hstarted : s.rng.started = []) (hfinished : s.rng.finished = []) :
    ((s.set (RNG.RING_STATUS.STATE n) 2).ringSettle n).get (RNG.RING_STATUS.STATE n) = (if (s.ring n).toDisabled then 0 else 3) ∧
      (n < 64 → ((s.set (RNG.RING_STATUS.STATE n) 2).ringSettle n).rng.evq = s.rng.evq ++ [⟨233, n, true⟩]) ∧
      ∀ g, g.id ≠ (RNG.RING_STATUS.STATE n).id → ((s.set (RNG.RING_STATUS.STATE n) 2).ringSettle n).get g = s.get g := by
  have hset := State.ringSettle_settles (n := n) (s := s.set (RNG.RING_STATUS.STATE n) 2) (State.get_set_self s _ 2) hstarted hfinished
  rw [hset]
  refine ⟨(State.get_set_self (s.set (RNG.RING_STATUS.STATE n) 2) (RNG.RING_STATUS.STATE n) _).trans ?_, fun hn => ?_, fun g hg => ?_⟩
  · show (if (s.ring n).toDisabled then 0 else 3) % 2 ^ 3 = _
    split <;> rfl
  · exact State.evq_post_of_lt _ _ (hn.trans (by decide))
  · exact (State.get_set_ne _ _ hg).trans (State.get_set_ne _ _ hg)

theorem State.ringResume_fields (h : s.get (RNG.RING_STATUS.STATE n) = 3 ∨ s.get (RNG.RING_STATUS.STATE n) = 4) :
    (s.ringResume n).get (RNG.RING_STATUS.STATE n) = 1 ∧ (s.ringResume n).get (RNG.RING_FAULT.REASON n) = 0 ∧
      (s.ringResume n).get (RNG.RING_INDEX.CONS n) = s.get (RNG.RING_INDEX.CONS n) ∧
      (s.ringResume n).get (RNG.RING_INDEX.PROD n) = s.get (RNG.RING_INDEX.PROD n) := by
  have hget (u : State) (r : RingRt) (g : Fld) : (u.setRing n r).get g = u.get g := rfl
  have hno : ¬ (s.get (RNG.RING_STATUS.STATE n) ≠ 3 ∧ s.get (RNG.RING_STATUS.STATE n) ≠ 4) := by omega
  unfold State.ringResume
  rw [if_neg hno]
  refine ⟨?_, ?_, ?_, ?_⟩ <;> rw [hget] <;>
  simp (disch := simp only [Fld.id, RNG.RING_STATUS.STATE, RNG.RING_INDEX.CONS, RNG.RING_INDEX.PROD, RNG.RING_FAULT.REASON,
    RNG.RING_FAULT.STATUS, RNG.RING_FAULT.INDEX]; omega) only [State.get_set_ne, State.get_set_self] <;> rfl

end Rings

open State in
/-- Settles O14: the ring's enable, and its states one by one. -/
theorem ringStates : Obligations.RingStates := by
  unfold Obligations.RingStates
  refine ⟨fun s n h => ⟨fun s' bs hcause hread => ⟨_, State.done_eq (ringEnable_starts h hcause hread), ?_⟩,
      fun c hc hcause => State.done_eq (ringEnable_refuses h hc hcause)⟩,
    fun s n => ⟨fun h hstarted hfinished heng => ⟨⟨_, State.done_eq (ringStop_running h), ?_⟩,
        ⟨_, State.done_eq (ringAbort_running h heng false), ?_⟩, ⟨_, State.done_eq (ringDisable_running h heng), ?_⟩⟩,
      fun h => ⟨State.done_eq (ringStop_running h), fun heng => ⟨State.done_eq (ringAbort_running h heng false),
        State.done_eq (ringDisable_running h heng)⟩⟩,
      fun h => State.done_eq (ringDisable_stopping h), fun h => State.done_eq (ringDisable_stopped h),
      fun h => ⟨_, rfl, ringResume_fields h⟩⟩⟩
  · obtain ⟨hstate, henable, herr, hcons, hprod, hfault⟩ := ringStarted_fields (t := s') (n := n) (leAt bs 0 2)
    exact ⟨hstate, henable, herr, hcons, hprod, hfault, ring_setRing_self _ n {}, rfl⟩
  · obtain ⟨hstate, hevq, -⟩ := ringSettle_empty (s := s) (n := n) hstarted hfinished
    exact ⟨hstate, hevq n.isLt⟩
  · rw [abortStarted_none _ (by exact hstarted)]
    obtain ⟨hstate, hevq, -⟩ := ringSettle_empty (s := s.setRing n { s.ring n with toDisabled := false }) (n := n) hstarted hfinished
    rw [ring_setRing_self] at hstate
    exact ⟨hstate, hevq n.isLt⟩
  · rw [abortStarted_none _ (by exact hstarted)]
    obtain ⟨hstate, -, hget⟩ := ringSettle_empty (s := (s.set (RNG.RING_CTRL.ENABLE n) 0).setRing n
      { s.ring n with toDisabled := true }) (n := n) hstarted hfinished
    rw [ring_setRing_self] at hstate
    exact ⟨hstate, (hget _ (RNG.ids n).1.symm).trans (State.get_set_self s (RNG.RING_CTRL.ENABLE n) 0)⟩

end Sys2Proof.Machine
end

/-! PROOFS. The voted complex: minorities, FAILSTOP, the rejoin (spec/04). -/

section

namespace Sys2Proof.Machine

section RejoinMode

/-- VOT.STATUS.MODE after a step. -/
def modeOf : Answer → Nat
  | .next s => s.get VOT.STATUS.MODE
  | _ => 0

/-- The transfer of a rejoin out of DEBUG, with a mode before DEBUG that is none of the four. -/
def rejoinAtReset : State :=
  { State.reset with vot := { rejoin := some { cores := [1, 2], src := 0, kendTick := 0, transfer := true, debug := true }, prior := 4 } }

theorem modeOf_rejoinAtReset : modeOf (exec .rejoinDone rejoinAtReset) = 0 := by decide +kernel

/-- The delivery of events leaves the mode of the voter as it is. -/
theorem State.mode_settle (s : State) : s.settle.get VOT.STATUS.MODE = s.get VOT.STATUS.MODE :=
  (((State.JudgedAs.refl s.refreshPair).flushN 4096).get _ (by decide)).trans (s.refreshPair_rest.2 _ (by decide) (by decide))

end RejoinMode

/-- Refutes O22: the statement has a rejoin out of DEBUG leave MODE at the mode noted before DEBUG, whatever was noted; MODE has two
bits, and a noted 4 reads back as 0. -/
theorem not_interruptsAndRejoin : ¬ Obligations.InterruptsAndRejoin := by
  unfold Obligations.InterruptsAndRejoin
  intro h
  obtain ⟨-, hdebug, -⟩ := h.2 rejoinAtReset _ rfl
  obtain ⟨x, hx, -, hmode, -⟩ := hdebug rfl rfl rfl rfl rfl
  have hzero := modeOf_rejoinAtReset
  rw [hx] at hzero
  exact absurd ((x.mode_settle.symm.trans hzero).symm.trans hmode) (by decide)

section Failstop

variable {s : State}

/-! ## The voter of a unit that goes OUT, and FAILSTOP (R116, R118) -/

theorem State.tokenStop_voter (s : State) : s.tokenStop.voter = s.voter := by
  unfold State.tokenStop
  split <;> rfl

theorem State.releaseLease_voter (s : State) : s.releaseLease.voter = s.voter := by
  cases h : s.hasWitness && s.domOn 4 with
  | false =>
    unfold State.releaseLease State.renew
    rw [State.toWitness_unable h]
    rfl
  | true =>
    obtain ⟨hw, hdom⟩ := Bool.and_eq_true_iff.1 h
    obtain ⟨q, b, n, m, hsend⟩ := State.toWitness_effect (op := 1) (epoch := s.par.ownEpoch) (ticks := 0) hw hdom
    unfold State.releaseLease State.renew
    rw [hsend]
    rfl

theorem State.goOut_voter (s : State) (cause : Nat) : (s.goOut cause).voter = s.voter := by
  unfold State.goOut
  split
  · exact s.tokenStop_voter
  · extract_lets t u
    have ht : t.voter = s.voter := by
      unfold t
      split <;> rfl
    have hu : u.voter = s.voter := by
      unfold u
      split
      · exact t.releaseLease_voter.trans ht
      · exact ht
    clear_value u
    exact (State.setPairState_switched _ 5 0).voter.trans (u.tokenStop_voter.trans hu)

/-- The fields that FAILSTOP writes beside those of a unit that goes OUT. -/
def failstopFields : List Fld :=
  [VOT.STATUS.FAILSTOP, VOT.STATUS.REJOIN_ACTIVE, VOT.LAST_EVENT.CORE, VOT.LAST_EVENT.KIND, VOT.LAST_EVENT_TIME.TICK,
    VOT.LAST_EVENT_ADDR.ADDR]

/-- The state of FAILSTOP before the unit goes OUT. -/
def State.failstopped (s : State) (kind addr : Nat) : State :=
  (((State.set { s with vot := { s.vot with rejoin := none } } VOT.STATUS.FAILSTOP 1).set VOT.STATUS.REJOIN_ACTIVE 0).voterEvent
    (s.get VOT.LAST_EVENT.CORE) kind addr).post 20 kind

theorem State.failstop_eq (h : s.bit VOT.STATUS.FAILSTOP = false) (kind addr : Nat) :
    s.failstop kind addr = (s.failstopped kind addr).goOut 0 := by
  unfold State.failstop
  rw [if_neg (by simp [h])]
  rfl

theorem State.get_failstop {g : Fld} (hg : g.apartFromPair = true) (hout : ∀ f ∈ goOutFields ++ failstopFields, g.id ≠ f.id)
    (kind addr : Nat) : (s.failstop kind addr).get g = s.get g := by
  cases h : s.bit VOT.STATUS.FAILSTOP with
  | true =>
    unfold State.failstop
    rw [if_pos h]
  | false =>
    have hne (f : Fld) (hf : f ∈ failstopFields) : g.id ≠ f.id := hout f (List.mem_append_right _ hf)
    rw [State.failstop_eq h, State.get_goOut hg fun f hf => hout f (List.mem_append_left _ hf)]
    unfold State.failstopped State.voterEvent
    refine (State.get_set_ne _ _ (hne VOT.LAST_EVENT_ADDR.ADDR (by decide))).trans ?_
    rw [State.get_set_ne _ _ (hne _ (by decide)), State.get_set_ne _ _ (hne _ (by decide)), State.get_set_ne _ _ (hne _ (by decide)),
      State.get_set_ne _ _ (hne _ (by decide)), State.get_set_ne _ _ (hne _ (by decide))]
    rfl

/-- R116, R118. FAILSTOP is set, its kind noted, and the unit goes OUT. -/
theorem State.failstop_stops (h : s.bit VOT.STATUS.FAILSTOP = false) {kind : Nat} (hk : kind < 8) (addr : Nat) :
    (s.failstop kind addr).bit VOT.STATUS.FAILSTOP = true ∧ (s.failstop kind addr).pairState = 5 ∧
      (s.failstop kind addr).get VOT.LAST_EVENT.KIND = kind := by
  have hfail : (s.failstopped kind addr).get VOT.STATUS.FAILSTOP = 1 := by
    unfold State.failstopped State.voterEvent
    refine (State.get_set_ne (f := VOT.LAST_EVENT_ADDR.ADDR) _ _ (by decide)).trans ?_
    rw [State.get_set_ne _ _ (by decide), State.get_set_ne _ _ (by decide), State.get_set_ne _ _ (by decide),
      State.get_set_ne _ _ (by decide)]
    exact State.get_set_self _ _ _
  have hkind : (s.failstopped kind addr).get VOT.LAST_EVENT.KIND = kind := by
    unfold State.failstopped State.voterEvent
    refine (State.get_set_ne (f := VOT.LAST_EVENT_ADDR.ADDR) _ _ (by decide)).trans ?_
    rw [State.get_set_ne _ _ (by decide)]
    exact (State.get_set_self _ _ _).trans (Nat.mod_eq_of_lt hk)
  rw [State.failstop_eq h]
  refine ⟨?_, (State.goOut_out _ 0).1, ?_⟩
  · rw [State.bit_congr _ _ (State.get_goOut (by decide) (by decide) 0), State.bit, hfail]
    rfl
  · rw [State.get_goOut (by decide) (by decide) 0, hkind]

theorem State.failstop_marked (kind addr : Nat) : (s.failstop kind addr).vot.marked = s.vot.marked := by
  cases h : s.bit VOT.STATUS.FAILSTOP with
  | true =>
    unfold State.failstop
    rw [if_pos h]
  | false =>
    rw [State.failstop_eq h]
    have hvoter : ((s.failstopped kind addr).goOut 0).voter.marked = (s.failstopped kind addr).voter.marked :=
      congrArg Vot.marked ((s.failstopped kind addr).goOut_voter 0)
    exact hvoter

/-! ## The complex goes on with two cores (R127) -/

theorem State.get_vote2Held {g : Fld} (hg : g.apartFromPair = true) (hout : ∀ f ∈ goOutFields ++ failstopFields, g.id ≠ f.id) :
    s.vote2Held.get g = s.get g := by
  unfold State.vote2Held
  split
  · exact State.get_failstop hg hout _ _
  · rfl

theorem State.vote2Held_marked : s.vote2Held.vot.marked = s.vot.marked := by
  unfold State.vote2Held
  split
  · exact State.failstop_marked _ _
  · rfl

theorem State.toVote2_goes {c reason : Nat} (hc : c < 4) (hr : reason < 8) : (s.toVote2 c reason).get VOT.STATUS.MODE = 1 ∧
    (s.toVote2 c reason).get VOT.STATUS.OUT_CORE = c ∧ (s.toVote2 c reason).get VOT.STATUS.VOTE2_REASON = reason ∧
    (s.toVote2 c reason).vot.marked = (if reason = 1 then some c else none) := by
  unfold State.toVote2
  extract_lets t u
  have hend {g : Fld} (hg : g.apartFromPair = true) (hset : g.settled = false)
      (hout : ∀ f ∈ goOutFields ++ failstopFields, g.id ≠ f.id) (w : State) : w.vote2Held.refreshPair.get g = w.get g :=
    (w.vote2Held.refreshPair_notified.get g hset).trans (State.get_vote2Held hg hout)
  refine ⟨?_, ?_, ?_, ?_⟩
  · rw [hend (by decide) (by decide) (by decide), State.get_set_ne _ _ (by decide), State.get_set_ne _ _ (by decide), State.get_set_self]
    rfl
  · rw [hend (by decide) (by decide) (by decide), State.get_set_ne _ _ (by decide), State.get_set_self]
    exact Nat.mod_eq_of_lt hc
  · rw [hend (by decide) (by decide) (by decide), State.get_set_self]
    exact Nat.mod_eq_of_lt hr
  · rw [State.vot_refreshPair, State.vote2Held_marked]
    rfl

section Clocks

variable (hvote : s.voting = true)

include hvote

theorem State.not_failstop_of_voting : s.bit VOT.STATUS.FAILSTOP = false := by
  simp only [State.voting, Bool.and_eq_true, Bool.not_eq_true'] at hvote
  exact hvote.1.1.2

/-- R115. The core whose copy is late is out. -/
theorem State.minorityLate_out {c : Fin 3} {r : Released} (hrel : s.vot.released = [r]) (howed : r.owed.contains c.val = true)
    (hlate : r.tick + 64 ≤ s.now) (hmode : s.get VOT.STATUS.MODE = 0) (hrejoin : s.vot.rejoin = none) :
    (s.minorityLate c).get VOT.STATUS.MODE = 1 ∧ (s.minorityLate c).get VOT.STATUS.OUT_CORE = c ∧
      (s.minorityLate c).get VOT.STATUS.VOTE2_REASON = 1 ∧ (s.minorityLate c).vot.marked = some c.val := by
  have hminority : s.minorityLate c = s.minority c true r.req.addr := by
    unfold State.minorityLate
    rw [if_neg (by simp [hvote]), hrel, List.find?_cons_of_pos (by simpa [hlate] using howed)]
    exact if_pos hmode
  have hout : s.minority c true r.req.addr = (((s.bump (VOT.MINORITY.EGRESS c)).voterEvent c 1 r.req.addr).toVote2 c 1).post 16
      (c + 4 * b2n true + r.req.addr / 256 * 256) := if_neg (by simp [hmode, hrejoin])
  obtain ⟨hm, ho, hr, hk⟩ := State.toVote2_goes (s := (s.bump (VOT.MINORITY.EGRESS c)).voterEvent c 1 r.req.addr) (c := c)
    (reason := 1) (by omega) (by decide)
  rw [hminority, hout]
  generalize State.toVote2 _ _ _ = t at hm ho hr hk ⊢
  exact ⟨hm, ho, hr, hk⟩

theorem State.voteTimeout_stops {p : Presented} (hp : s.vot.presented = [p]) (hmode : s.get VOT.STATUS.MODE = 1)
    (hlate : p.tick + 64 ≤ s.now) (hsince : s.vot.vote2Since + 64 ≤ s.now) : s.voteTimeout = s.failstop 5 p.req.addr := by
  have hmax : max p.tick s.vot.vote2Since + 64 ≤ s.now := by omega
  unfold State.voteTimeout
  rw [if_neg (by simp [hvote, hmode]), hp, List.find?_cons_of_pos (by simp [hmax])]

theorem State.progress_stops {p : Presented} (hp : s.vot.presented = [p]) (hlate : p.tick + 4096 ≤ s.now)
    (hheld : s.accessHeld p.req = false) : s.progress = s.failstop 6 p.req.addr := by
  unfold State.progress
  rw [if_neg (by simp [hvote]), hp, List.find?_cons_of_pos (by simp [hlate, hheld])]

end Clocks

/-- R128. A domain that is reset is waking. -/
theorem State.domainReset_wakes (hheld : s.rst.held = none) (hno : (s.dom 1).resetting = false) : (s.domainReset 1).domState 1 = 5 := by
  unfold State.domainReset
  rw [if_neg (by simp [hheld, hno])]
  dsimp only
  generalize State.speedStop _ 1 = t
  show (t.startWake 1).get (PWR.D_STATUS.STATE 1) = 5
  unfold State.startWake
  rw [State.get_railTo, State.get_set_ne _ _ (by decide), State.get_set_self]
  rfl

/-- R124. What has passed 60 minutes is forgotten. -/
theorem State.latentHour_keeps (c : Fin 3) :
    (s.latentHour c).vot.latent = (s.vot.latent.filter fun l => l.1 != c.val || decide (s.now < l.2 + 3600 * ticksPerSec)) ∧
    (s.latentHour c).get (VOT.MINORITY.LATENT_HOUR c) = min 15 ((s.latentHour c).vot.latent.filter fun l => l.1 == c.val).length := by
  refine ⟨rfl, (State.get_set_self _ _ _).trans ?_⟩
  have hcount : State.latentCount { s with vot := { s.vot with
      latent := s.vot.latent.filter fun l => l.1 != c.val || decide (s.now < l.2 + 3600 * ticksPerSec) } } c =
        ((s.latentHour c).vot.latent.filter fun l => l.1 == c.val).length := by
    unfold State.latentCount
    refine congrArg List.length (List.filter_congr fun l hl => ?_)
    have hin := (List.mem_filter.1 hl).2
    by_cases hc : l.1 = c.val
    · have hnow : s.now < l.2 + 3600 * ticksPerSec := by simpa [hc] using hin
      rw [hc, beq_self_eq_true, Bool.true_and]
      exact decide_eq_true hnow
    · simp [hc]
  rw [hcount]
  exact Nat.mod_eq_of_lt ((Nat.min_le_left _ _).trans_lt (show 15 < 2 ^ 4 by decide))

end Failstop

open State in
/-- Settles O20: each clock finds its entry, and the fault is FAILSTOP or the minority. -/
theorem voterFaults : Obligations.VoterFaults := by
  unfold Obligations.VoterFaults
  refine ⟨fun s hvote => ⟨fun c r hrel howed hlate hmode hrejoin => ⟨_, rfl, minorityLate_out hvote hrel howed hlate hmode hrejoin⟩,
      fun p hp hmode hlate hsince => ⟨_, State.done_eq (voteTimeout_stops hvote hp hmode hlate hsince), ?_⟩,
      fun p hp hlate hheld => ⟨_, State.done_eq (progress_stops hvote hp hlate hheld),
        failstop_stops (not_failstop_of_voting hvote) (by decide) _⟩⟩,
    fun s hfail => ⟨State.done_eq (if_pos hfail), domainReset_wakes⟩,
    fun s c hold => ⟨_, rfl, ?_⟩, fun s c => ⟨_, rfl, latentHour_keeps c⟩⟩
  · obtain ⟨hfail, hout, -⟩ := failstop_stops (not_failstop_of_voting hvote) (kind := 5) (by decide) p.req.addr
    exact ⟨hfail, hout⟩
  · obtain ⟨hlatent, hcount⟩ := latentHour_keeps (s := s) c
    have hnone : (s.latentHour c).vot.latent = [] := by
      rw [hlatent, List.filter_eq_nil_iff]
      intro l hl
      obtain ⟨hc, ht⟩ := hold l hl
      simp [hc, ht]
    exact ⟨hnone, by rw [hcount, hnone]; rfl⟩

end Sys2Proof.Machine
end

/-! PROOFS. Instructions of the voted complex (spec/04 R105 to R111). -/

section

namespace Sys2Proof.Machine

section Arbiters

/-- A field of neither SYS nor PAR, or the bit by which SYS tells of a staged map. -/
abbrev Fld.routine (f : Fld) : Prop := (f.id / 0x200000 ≠ 0 ∧ f.id / 0x200000 ≠ 0x12) ∨ f.id = SYS.STATUS.FERRY_ACTIVE.id

theorem Fld.routine_of_block {f : Fld} (b : Nat) (h : f.id / 0x200000 = b) (hb : b ≠ 0 ∧ b ≠ 0x12 := by decide) : f.routine :=
  .inl (h ▸ hb)

/-- A part of the state that rings and arbiters are none of, nor any register that a transfer may write. -/
structure State.Apart {α : Type} (part : State → α) : Prop where
  regs : ∀ (t : State) (f : Fld) (v : Nat), f.routine → part (t.set f v) = part t
  rng : ∀ (t : State) (r : Rng), part { t with rng := r } = part t
  fab : ∀ (t : State) (f : Fabric), part { t with fab := f } = part t

variable {α : Type} {part : State → α} (h : State.Apart part) (s : State)

include h

theorem State.Apart.post (src data : Nat) : part (s.post src data) = part s := h.rng s _

theorem State.Apart.setArb (n : Nat) (a : Arbiter) : part (s.setArb n a) = part s := h.fab s _

omit h in
theorem State.Apart.ite {c : Prop} [Decidable c] {t u : State} {x : α} (ht : part t = x) (hu : part u = x) :
    part (if c then t else u) = x := by
  split <;> assumption

theorem State.Apart.grant (n : Nat) (x : Txn) (counted : Bool) : part (s.grant n x counted) = part s := by
  have harb {off lo w rst : Nat} (hlo : lo < 32) (hoff : off < 0x300) : (Fld.mk (0x050000 + off + 0x10 * (n % 10)) lo w rst).routine :=
    Fld.routine_of_block 5 (by simp only [Fld.id]; omega)
  unfold State.grant
  extract_lets wait s1 s2 quiet _ s3 q a g a2 s4
  have h1 : part s1 = part s := State.Apart.ite (h.regs s _ _ (harb (off := 0x20C) (by decide) (by decide))) rfl
  have h2 : part s2 = part s := (h.regs s1 _ _ (harb (off := 0x200) (by decide) (by decide))).trans h1
  have h3 : part s3 = part s := State.Apart.ite h1 (State.Apart.ite h2 ((h.rng _ _).trans ((h.fab s2 _).trans h2)))
  have h4 : part s4 = part s := (h.regs _ _ _ (harb (off := 0x208) (by decide) (by decide))).trans ((h.setArb s3 n _).trans h3)
  exact State.Apart.ite h3 (State.Apart.ite ((h.setArb s3 n _).trans h3) (State.Apart.ite h4 ((h.rng _ _).trans ((h.fab s4 _).trans h4))))

theorem State.Apart.serve (n : Nat) (x : Txn) (counted : Bool) : part (s.serve n x counted) = part s :=
  (h.setArb _ _ _).trans (h.grant s n x counted)

theorem State.Apart.arrive (n : Nat) (x : Txn) : part (s.arrive n x) = part s := by
  have hrevokes : (ARB.TARGET_REVOKES.COUNT n).routine :=
    Fld.routine_of_block 5 (by simp only [Fld.id, ARB.TARGET_REVOKES.COUNT]; omega)
  unfold State.arrive
  dsimp only
  split
  · exact h.serve s n x true
  · refine State.Apart.ite ((h.serve _ n x true).trans (State.Apart.ite ((h.post _ _ _).trans ?_) ?_)) ?_
    · exact (h.regs _ _ _ hrevokes).trans (h.setArb s n _)
    · exact (h.regs _ _ _ hrevokes).trans (h.setArb s n _)
    · split <;> exact h.setArb s n _

/-- An access of an initiator that holds no tag. -/
theorem State.Apart.present {v : Via} (hv : v.ring = none) (a n : Nat) (write atomic bell : Bool) :
    part (s.present v a n write atomic bell) = part s := by
  unfold State.present
  split
  · rfl
  · next heq => exact absurd (hv.symm.trans heq) (by simp)
  · rw [hv]
    exact h.arrive s _ _

end Arbiters

theorem State.apart_vot : State.Apart State.vot := ⟨fun _ _ _ _ => rfl, fun _ _ => rfl, fun _ _ => rfl⟩

section Together

variable {s t : State} {k : Core} {q : Req}

/-! ## Three cores in step (R114) -/

/-- The cores of a complex whose three cores are alike. -/
theorem State.core_alike (hcores : s.vot.cores = [k, k, k]) {c : Nat} (hc : c < 3) : s.core c = k := by
  unfold State.core
  rw [hcores]
  interval_cases c <;> rfl

theorem State.running_alike (hcores : s.vot.cores = [k, k, k]) (hrun : k.running = true) : s.running = [0, 1, 2] := by
  have hall : s.running = List.range 3 := List.filter_eq_self.2 fun c hc => by
    rw [State.core_alike hcores (List.mem_range.1 hc)]
    exact hrun
  rw [hall]
  rfl

theorem State.vote_alike (hcores : s.vot.cores = [k, k, k]) (hrun : k.running = true) (f : Core → Intent) :
    s.vote f = (s, some (f k)) := by
  unfold State.vote
  rw [State.running_alike hcores hrun]
  simp [State.core_alike hcores]

theorem State.vot_setCore (c : Nat) (k : Core) : (s.setCore c k).vot = { s.vot with cores := s.vot.cores.set c k } := rfl

/-- What each of the three does leaves them alike. -/
theorem State.eachOfThree (hcores : s.vot.cores = [k, k, k]) (g : Core → Core) :
    ([0, 1, 2].foldl (fun s c => s.setCore c (g (s.core c))) s).vot = { s.vot with cores := List.replicate 3 (g k) } := by
  simp [State.vot_setCore, State.core, hcores]

theorem State.eachCore_alike (hcores : s.vot.cores = [k, k, k]) (hrun : k.running = true) (g : Core → Core) :
    (s.eachCore g).vot = { s.vot with cores := List.replicate 3 (g k) } := by
  unfold State.eachCore
  rw [State.running_alike hcores hrun]
  exact State.eachOfThree hcores g

/-- An instruction that asks, and what the three cores make of its answer. -/
theorem State.together_asks {intent : Core → Intent} {act : State → Nat → Req → State × Except Nat (Core → Core)} {g : Core → Core}
    (hvote : s.voting = true) (hcores : s.vot.cores = [k, k, k]) (hrun : k.running = true) (hreq : intent k = .req q)
    (hact : act s 0 q = (t, .ok g)) (hkeep : t.vot.cores = [k, k, k]) :
    (s.together intent act).vot = { t.vot with cores := List.replicate 3 (g k) } := by
  unfold State.together
  dsimp only
  rw [if_pos hvote, State.vote_alike hcores hrun, hreq]
  dsimp only
  rw [hact]
  dsimp only
  rw [State.running_alike hkeep hrun]
  exact State.eachOfThree hkeep g

/-! ## KPLS, KPCHK, KPRAW (R109 to R111) -/

theorem State.pairLoad_vot {v w : Nat} (h : s.pairLoad 0 q.addr 8 = (t, .words v w)) : t.vot = s.vot := by
  have hpresent := State.apart_vot.present s (v := { init := 0 }) rfl q.addr 8 false false false
  unfold State.pairLoad at h
  split at h
  · exact absurd (congrArg Prod.snd h) (by simp)
  · dsimp only at h
    split at h
    · exact (congrArg (fun p => p.1.vot) h).symm.trans hpresent
    · split at h
      · exact absurd (congrArg Prod.snd h) (by simp)
      · exact (congrArg (fun p => p.1.vot) h).symm.trans hpresent

theorem State.pairInstr_ends {m rd rs1 rs2 v w : Nat} (hvote : s.voting = true) (hcores : s.vot.cores = [k, k, k])
    (hrun : k.running = true) (hreq : k.pairIntent m rs1 (keafyBits m 0x0B rd rs1 rs2) rd = .req q)
    (hload : s.pairLoad 0 q.addr 8 = (t, .words v w)) :
    (s.pairInstr m rd rs1 rs2).vot.cores = List.replicate 3 (k.pairEnd m rd rs2 v w) := by
  have hkeep : t.vot.cores = [k, k, k] := by rw [State.pairLoad_vot hload, hcores]
  unfold State.pairInstr
  rw [State.together_asks (g := fun k => k.pairEnd m rd rs2 v w) hvote hcores hrun hreq (by rw [hload]) hkeep]

/-! ## What a core makes of the pair-word (R110) -/

theorem Core.kflags_setReg (k : Core) (r v : Nat) : (k.setReg r v).kflags = k.kflags := by
  unfold Core.setReg
  split <;> rfl

theorem Core.reg_shadow (k : Core) (l : List Nat) (r : Nat) : Core.reg { k with shadow := l } r = k.reg r := rfl

theorem Core.pairEnd_kpls (rd rs2 v w : Nat) : k.pairEnd 0 rd rs2 v w =
    if w = compl32 v then (Core.setReg { k with shadow := k.shadow ++ [v] } rd v).retire
    else Core.retire { Core.setReg { k with shadow := k.shadow ++ [v] } rd (k.reg rs2) with
      kflags := if k.kflags.testBit 0 then k.kflags else k.kflags + 1 } := by
  unfold Core.pairEnd
  by_cases h : w = compl32 v
  · rw [if_pos h, show pairValid v w = true from beq_iff_eq.2 h]
    rfl
  · rw [if_neg h, show pairValid v w = false from beq_eq_false_iff_ne.2 h]
    simp only [Bool.false_eq_true, if_false, Core.kflags_setReg]
    rfl

theorem Core.pairEnd_kpchk (rd rs2 v w : Nat) : k.pairEnd 1 rd rs2 v w =
    if w = compl32 v then (Core.setReg { k with shadow := k.shadow ++ [v] } rd v).retire
    else Core.retire { Core.setReg { k with shadow := k.shadow ++ [v] } rd 0 with
      kflags := if k.kflags.testBit 1 then k.kflags else k.kflags + 2 } := by
  unfold Core.pairEnd
  by_cases h : w = compl32 v
  · rw [if_pos h, show pairValid v w = true from beq_iff_eq.2 h]
    rfl
  · rw [if_neg h, show pairValid v w = false from beq_eq_false_iff_ne.2 h]
    simp only [Bool.false_eq_true, if_false, Core.kflags_setReg]

/-! ## KTICK and fence.i (R105, R110) -/

theorem State.ktick_reads {rd : Nat} (hvote : s.voting = true) (hcores : s.vot.cores = [k, k, k]) (hrun : k.running = true)
    (hmode : k.mmode = true ∨ s.bit VOT.KEAFY_CTRL.U_TICK = true) (heven : rd % 2 = 0) (hrd : rd ≠ 0) (hlead : s.pairState = 0)
    (halone : s.streams = false) (hnone : s.nextRead = none) :
    (s.ktick rd).vot = { s.vot with
      readIdx := s.vot.readIdx + 1
      cores := List.replicate 3 ((k.setReg rd s.now).setReg (rd + 1) (s.now / 2 ^ 32)).retire } := by
  have hwait : s.readWaits = false := by simp [State.readWaits, State.isTrail, hlead]
  have hreq : k.tickIntent (s.bit VOT.KEAFY_CTRL.U_TICK) rd (keafyBits 0 0x2B rd 0 0) = .req { kind := .sampleTick, mmode := k.mmode } := by
    have hpriv : (!k.mmode && !s.bit VOT.KEAFY_CTRL.U_TICK) = false := by
      rcases hmode with h | h <;> simp [h]
    unfold Core.tickIntent
    rw [hpriv, if_neg Bool.false_ne_true, if_neg (by simp [heven, hrd])]
  have hread : s.sampled 0 s.now = ({ s with
      vot := { s.vot with readIdx := s.vot.readIdx + 1 }
      par := { s.par with follow := { s.par.follow with
        reads := s.par.follow.reads.filter fun r => decide (s.vot.readIdx < r.1) } } }, s.now) := by
    unfold State.sampled
    rw [if_neg (not_not.2 rfl), hnone, halone]
    rfl
  unfold State.ktick
  rw [if_neg (by simp [hwait])]
  refine (State.together_asks (t := (s.sampled 0 s.now).1) (intent := fun k => k.tickIntent (s.bit VOT.KEAFY_CTRL.U_TICK) rd
    (keafyBits 0 0x2B rd 0 0)) (g := fun k => ((k.setReg rd s.now).setReg (rd + 1) (s.now / 2 ^ 32)).retire) hvote hcores hrun hreq
    ?_ ?_).trans ?_
  · dsimp only
    rw [hread]
  · rw [hread]
    exact hcores
  · rw [hread]

theorem State.fenceI_retires (hvote : s.voting = true) (hcores : s.vot.cores = [k, k, k]) (hrun : k.running = true) :
    s.fenceI.vot = { s.vot with icache := [[], [], []], cores := List.replicate 3 k.retire } := by
  unfold State.fenceI
  rw [if_neg (by simp [hvote])]
  exact State.eachCore_alike (s := { s with vot := { s.vot with icache := [[], [], []] } }) hcores hrun Core.retire

end Together

open State in
/-- Settles O21: three cores in step ask once, and each makes the same of the answer. -/
theorem pairInstructions : Obligations.PairInstructions := by
  unfold Obligations.PairInstructions
  refine ⟨fun s s' k q rd rs1 rs2 v w hvote hcores hrun => ⟨fun hreq hload => ⟨_, rfl, ?_⟩, fun hreq hload => ⟨_, rfl, ?_⟩,
      fun hreq hload => ⟨_, rfl, pairInstr_ends hvote hcores hrun hreq hload⟩⟩,
    fun s k hvote hcores hrun => ⟨fun rd hmode heven hrd hlead halone hnone => ⟨_, rfl, ?_⟩, _, rfl, ?_⟩⟩
  · rw [pairInstr_ends hvote hcores hrun hreq hload, Core.pairEnd_kpls]
  · rw [pairInstr_ends hvote hcores hrun hreq hload, Core.pairEnd_kpchk]
  · rw [ktick_reads hvote hcores hrun hmode heven hrd hlead halone hnone]
    exact ⟨rfl, rfl⟩
  · rw [fenceI_retires hvote hcores hrun]
    exact ⟨rfl, rfl⟩

end Sys2Proof.Machine
end

/-! PROOFS. The debug module's halt, and the cores at their program (spec/04 R101 to R114, R127). -/

section

namespace Sys2Proof.Machine

section HaltWithoutCores

/-- Three requests presented by cores that the list of cores does not hold; a debug halt is allowed. -/
def haltAtReset : State :=
  { State.reset with
    regs := [((PWR.D_STATUS.STATE 1).id, 0), (VOT.DEBUG_CTRL.ALLOW.id, 1)]
    vot := { cores := [], presented := [⟨0, 0, { kind := .fence }, 0⟩, ⟨1, 0, { kind := .fence }, 0⟩, ⟨2, 0, { kind := .fence }, 0⟩] } }

theorem haltAtReset_granted : haltAtReset.voting = true ∧ haltAtReset.bit VOT.DEBUG_CTRL.ALLOW = true ∧ haltAtReset.pairState ≠ 2 := by
  decide +kernel

theorem modeOf_haltAtReset : modeOf (exec .debugHaltRequest haltAtReset) = 0 := by decide +kernel

end HaltWithoutCores

/-- Refutes O23: the statement has a granted halt reach DEBUG where every running core of the list waits for an interrupt; a core that
the list does not hold counts as running too, and with requests of such cores presented the halt does not come. -/
theorem not_voterAndDebugCommands : ¬ Obligations.VoterAndDebugCommands := by
  unfold Obligations.VoterAndDebugCommands
  intro h
  obtain ⟨hvote, hallow, htrail⟩ := haltAtReset_granted
  obtain ⟨x, hx, hmode, -⟩ := (h.2 haltAtReset).1 hvote hallow (.inl htrail) fun k hk => absurd hk List.not_mem_nil
  have hzero := modeOf_haltAtReset
  rw [hx] at hzero
  exact absurd ((x.mode_settle.symm.trans hzero).symm.trans hmode) (by decide)

section Instructions

variable {k : Core}

/-! ## What an instruction comes to (R101, R103) -/

/-- The fields of an instruction word of the R form. -/
theorem bitsOf_encR {f7 rs2 rs1 f3 rd op : Nat} (hop : op < 128) (hrd : rd < 32) (hf3 : f3 < 8) (hrs1 : rs1 < 32) (hrs2 : rs2 < 32)
    (hf7 : f7 < 128) : encR f7 rs2 rs1 f3 rd op % 128 = op ∧ bitsOf (encR f7 rs2 rs1 f3 rd op) 7 5 = rd ∧
      bitsOf (encR f7 rs2 rs1 f3 rd op) 12 3 = f3 ∧ bitsOf (encR f7 rs2 rs1 f3 rd op) 15 5 = rs1 ∧
      bitsOf (encR f7 rs2 rs1 f3 rd op) 20 5 = rs2 ∧ bitsOf (encR f7 rs2 rs1 f3 rd op) 25 7 = f7 := by
  unfold bitsOf encR
  omega

theorem Core.exec_add (hart : Nat) (u : Bool) (rd rs1 rs2 : Fin 32) : k.exec hart u (encR 0 rs2 rs1 0 rd 0x33) 4 (encR 0 rs2 rs1 0 rd 0x33) =
    .done ((k.setReg rd ((k.reg rs1 + k.reg rs2) % 2 ^ 32)).retireBy 4) := by
  obtain ⟨hop, hrd, hf3, hrs1, hrs2, hf7⟩ := bitsOf_encR (f7 := 0) (rs2 := rs2) (rs1 := rs1) (f3 := 0) (rd := rd) (op := 0x33)
    (by decide) rd.isLt (by decide) rs1.isLt rs2.isLt (by decide)
  unfold Core.exec
  rw [hop, hrd, hf3, hrs1, hrs2, hf7]
  rfl

theorem Core.exec_mhartid (hart : Nat) (u : Bool) (rd : Fin 32) (hm : k.mmode = true) :
    k.exec hart u (encI 0xF14 0 2 rd 0x73) 4 (encI 0xF14 0 2 rd 0x73) = .done ((k.setReg rd hart).retireBy 4) := by
  have hrd := rd.isLt
  have hfields : encI 0xF14 0 2 rd 0x73 % 128 = 0x73 ∧ bitsOf (encI 0xF14 0 2 rd 0x73) 7 5 = rd ∧
      bitsOf (encI 0xF14 0 2 rd 0x73) 12 3 = 2 ∧ bitsOf (encI 0xF14 0 2 rd 0x73) 15 5 = 0 ∧
      bitsOf (encI 0xF14 0 2 rd 0x73) 20 12 = 0xF14 := by
    unfold bitsOf encI
    omega
  obtain ⟨hop, hrd, hf3, hrs1, hcsr⟩ := hfields
  unfold Core.exec
  rw [hop, hrd, hf3, hrs1, hcsr]
  simp [Core.csrInstr, Core.csrAllowed, hm, bitsOf, sampledCsr]

theorem Core.exec_reserved (hart : Nat) (u : Bool) (rd rs1 rs2 : Fin 32) :
    k.exec hart u (keafyBits 3 0x0B rd rs1 rs2) 4 (keafyBits 3 0x0B rd rs1 rs2) = .trap 2 (keafyBits 3 0x0B rd rs1 rs2) := by
  have hrd := rd.isLt
  have hrs1 := rs1.isLt
  have hrs2 := rs2.isLt
  have hfields : keafyBits 3 0x0B rd rs1 rs2 % 128 = 0x0B ∧ bitsOf (keafyBits 3 0x0B rd rs1 rs2) 12 3 = 3 ∧
      bitsOf (keafyBits 3 0x0B rd rs1 rs2) 25 7 = 0 := by
    unfold bitsOf keafyBits
    omega
  obtain ⟨hop, hf3, hf7⟩ := hfields
  unfold Core.exec
  rw [hop]
  dsimp only
  unfold Core.keafy
  rw [hop, hf3, hf7]
  rfl

/-! ## What a core makes of its answer (R103, R105) -/

theorem Core.reg_setReg {rd v : Nat} (h : 0 < rd) : (k.setReg rd v).reg rd = v % 2 ^ 32 := by
  unfold Core.reg Core.setReg
  rw [if_neg (by omega), if_neg (by omega), Sparse.get_put_self]

theorem Core.minstret_setReg (rd v : Nat) : (k.setReg rd v).minstret = k.minstret := by
  unfold Core.setReg
  split <;> rfl

theorem Core.reg_retireBy (n r : Nat) : (k.retireBy n).reg r = k.reg r := rfl

theorem ofSigned_lt (w : Nat) (v : Int) : ofSigned w v < 2 ^ w := by
  have hpos : (0 : Int) < ((2 ^ w : Nat) : Int) := Int.natCast_pos.2 (Nat.two_pow_pos w)
  have hlt := Int.emod_lt_of_pos v hpos
  have hnn := Int.emod_nonneg v hpos.ne'
  unfold ofSigned
  omega

theorem Core.takeAnswer_byte {r : Req} {rd : Nat} (v : Nat) (h : 0 < rd) (hdest : r.dest = .x rd 1 true) :
    (k.takeAnswer false r (.value v)).reg rd = ofSigned 32 (toSigned 8 v) := by
  unfold Core.takeAnswer
  rw [hdest]
  exact (Core.reg_setReg h).trans (Nat.mod_eq_of_lt (ofSigned_lt 32 _))

theorem Core.takeAnswer_word {r : Req} {rd : Nat} (v : Nat) (h : 0 < rd) (hdest : r.dest = .x rd 4 false) :
    (k.takeAnswer false r (.value v)).reg rd = v % 2 ^ 32 := by
  unfold Core.takeAnswer
  rw [hdest]
  exact (Core.reg_setReg h).trans (Nat.mod_mod _ _)

theorem Core.takeAnswer_freg {r : Req} {rd : Nat} (v : Nat) (hdest : r.dest = .f rd) :
    (k.takeAnswer false r (.value v)).freg rd = v % 2 ^ 32 := by
  unfold Core.takeAnswer
  rw [hdest]
  exact Sparse.get_put_self _ _ _ _

theorem Core.takeAnswer_both {r : Req} {rd : Nat} (v : Nat) (hdest : r.dest = .both rd) :
    (k.takeAnswer false r (.value v)).reg (rd + 1) = v / 2 ^ 32 % 2 ^ 32 := by
  unfold Core.takeAnswer
  rw [hdest]
  exact Core.reg_setReg (Nat.succ_pos rd)

theorem Core.takeAnswer_minstret (r : Req) (v : Nat) :
    (k.takeAnswer false r (.value v)).minstret = (k.minstret + 1) % 2 ^ 64 := by
  unfold Core.takeAnswer
  show (Core.retireBy _ _).minstret = _
  unfold Core.retireBy
  dsimp only
  split
  · rw [Core.minstret_setReg]
    rfl
  · rfl
  · rw [Core.minstret_setReg, Core.minstret_setReg]
    rfl
  · rfl

end Instructions

section OneInstruction

variable {s t : State} {c bits : Nat} {k : Core}

theorem State.hit_none (h : ∀ i < 4, (s.core c).triggers i [2] (s.core c).pc = false) : s.hit (s.core c) [2] (s.core c).pc = none := by
  have hnone : (List.range 4).find? (fun i => (s.core c).triggers i [2] (s.core c).pc) = none :=
    List.find?_eq_none.2 fun i hi => by simp [h i (List.mem_range.1 hi)]
  unfold State.hit
  rw [hnone]

/-- R101. An instruction of four bytes that asks nothing of the module. -/
theorem State.oneInstr_done (hon : s.domOn 1 = true) (hfail : s.bit VOT.STATUS.FAILSTOP = false) (hrun : (s.core c).running = true)
    (hwfi : (s.core c).wfi = false) (hout : s.vot.presented.any (·.core == c) = false)
    (htrig : ∀ i < 4, (s.core c).triggers i [2] (s.core c).pc = false) (hfetch : s.instruction c = (t, .ok (bits, 4)))
    (hexec : (s.core c).exec (t.hartId c) (t.bit VOT.KEAFY_CTRL.U_TICK) bits 4 bits = .done k) :
    s.oneInstr c = (t.setCore c k, .on) := by
  unfold State.oneInstr
  dsimp only
  rw [if_neg (by simp [hon, hfail, hrun, hwfi, hout]), State.hit_none htrig]
  dsimp only
  rw [hfetch]
  dsimp only
  rw [if_pos rfl]
  dsimp only
  rw [hexec]
  rfl

end OneInstruction

section Presented

variable {s : State} {c : Fin 3} {r : Req}

/-- A request that a core of a voting complex presents, alone. -/
theorem State.egress_presents (hon : s.domOn 1 = true) (hvote : s.voting = true) (hrun : (s.core c).running = true)
    (hown : s.ownFault c r = none) : s.egress c r = s.presentReq c r := by
  unfold State.egress
  rw [if_neg (by simp [hon, hrun, State.not_failstop_of_voting hvote]), hown]
  exact if_pos hvote

theorem State.voteN_waits (fuel : Nat) (h : s.voteOne = (s, false)) : s.voteN fuel = s := by
  cases fuel with
  | zero => rfl
  | succ fuel => rw [State.voteN, h]

/-- One core's request waits for a second. -/
theorem State.voteOne_alone {p : Presented} (hp : s.vot.presented = [p]) (hmore : 2 ≤ s.running.length) (hvote : s.voting = true) :
    s.voteOne = (s, false) := by
  have hshort : ¬ s.running.length ≤ 1 := by omega
  unfold State.voteOne
  rw [hp]
  simp [hvote, hshort]

/-- Two identical requests of two cores are released. -/
theorem State.voteOne_pair {p q : Presented} (hp : s.vot.presented = [p, q]) (hvote : s.voting = true) (hidx : q.idx = p.idx)
    (hcore : q.core ≠ p.core) (hsame : q.req.same p.req = true) (hsample : s.samples p.req = false)
    (hheld : s.accessHeld p.req = false) : s.voteOne = (s.releaseReq p.idx p.req [p, q], true) := by
  unfold State.voteOne
  rw [hp]
  simp [hvote, hidx, hcore, hsame, hsample, hheld]

/-- A request that no released one awaits joins those presented. -/
theorem State.presentReq_joins (hfew : (s.vot.presented.filter (·.core == c.val)).length < 8) (hrel : s.vot.released = []) :
    s.presentReq c r = State.voteAll { s with vot := { s.vot with
      count := s.vot.count.set c (s.vot.count.getD c 0 + 1)
      presented := s.vot.presented ++ [⟨c, s.vot.count.getD c 0, r, s.now⟩] } } := by
  unfold State.presentReq
  dsimp only
  rw [if_neg (Nat.not_le.2 hfew), hrel]
  rfl

theorem State.egress_waits (hon : s.domOn 1 = true) (hvote : s.voting = true) (hrun : (s.core c).running = true)
    (hrel : s.vot.released = []) (hmore : 2 ≤ s.running.length) (hown : s.ownFault c r = none) (hnone : s.vot.presented = []) :
    s.egress c r = { s with vot := { s.vot with
      count := s.vot.count.set c (s.vot.count.getD c 0 + 1)
      presented := [⟨c, s.vot.count.getD c 0, r, s.now⟩] } } := by
  rw [State.egress_presents hon hvote hrun hown, State.presentReq_joins (by rw [hnone]; exact Nat.succ_pos 7) hrel, hnone]
  exact State.voteN_waits 24 (State.voteOne_alone rfl hmore hvote)

/-! ## Two cores at a fence (R103, R114) -/

/-- The core that has its answer to a fence, and the answer. -/
def State.fenced (s : State) (c i : Nat) : State := s.answer c i { kind := .fence } .done

theorem State.fenced_resps (i c : Nat) : (s.fenced c i).vot.resps = (s.vot.resps.filter fun x => x.1 != c) ++ [(c, i, .done)] := rfl

theorem State.core_setCore_ne {s : State} {c d : Nat} (h : d ≠ c) (k : Core) : (s.setCore c k).core d = s.core d := by
  show (s.vot.cores.set c k).getD d {} = s.vot.cores.getD d {}
  rw [List.getD_eq_getElem?_getD, List.getElem?_set_ne (Ne.symm h), List.getD_eq_getElem?_getD]

theorem State.core_setCore_self {s : State} {c : Nat} (h : c < s.vot.cores.length) (k : Core) : (s.setCore c k).core c = k := by
  show (s.vot.cores.set c k).getD c {} = k
  rw [List.getD_eq_getElem?_getD, List.getElem?_set_self h]
  rfl

theorem State.running_setCore {s : State} (c : Nat) {k : Core} (h : k.running = (s.core c).running) : (s.setCore c k).running = s.running := by
  refine List.filter_congr fun d _ => ?_
  by_cases hd : d = c
  · subst hd
    by_cases hlen : d < s.vot.cores.length
    · rw [State.core_setCore_self hlen, h]
    · have hsame : (s.setCore d k).core d = s.core d := by
        show (s.vot.cores.set d k).getD d {} = s.vot.cores.getD d {}
        rw [List.set_eq_of_length_le (Nat.le_of_not_lt hlen)]
      rw [hsame]
  · rw [State.core_setCore_ne hd]

theorem State.running_fenced (i c : Nat) : (s.fenced c i).running = s.running := by
  refine State.running_setCore c ?_
  unfold Core.takeAnswer
  dsimp only
  split <;> rfl

/-- The request of a fence, presented. -/
def fenceOf (c i t : Nat) : Presented := ⟨c, i, { kind := .fence }, t⟩

/-- A released request that some core owes its copy of. -/
def State.owing (s : State) (x : Released) : State := { s with vot := { s.vot with released := s.vot.released ++ [x] } }

/-- The second copy of a fence releases it: both cores are answered, and the third owes its copy. -/
theorem State.releaseReq_fence {a c i t u b : Nat} (hp : s.vot.presented = [fenceOf a i t, fenceOf c i u])
    (howed : (s.running.filter fun d => !([fenceOf a i t, fenceOf c i u].any (·.core == d))) = [b]) :
    s.releaseReq i { kind := .fence } [fenceOf a i t, fenceOf c i u] =
      State.owing (State.fenced (State.fenced { s with vot := { s.vot with presented := [] } } a i) c i)
        ⟨i, { kind := .fence }, .done, s.now, [b]⟩ := by
  have hnone : s.vot.presented.filter (·.idx != i) = [] := by simp [hp, fenceOf]
  have hrun : (State.fenced (State.fenced { s with vot := { s.vot with presented := [] } } a i) c i).running = s.running :=
    (State.running_fenced i c).trans (State.running_fenced i a)
  have hdo (v : State) : v.perform 0 { kind := .fence } = (v, .done) := rfl
  have hsame : [fenceOf a i t, fenceOf c i u].filter (fun x => x.req.same { kind := .fence }) = [fenceOf a i t, fenceOf c i u] := rfl
  have hother : [fenceOf a i t, fenceOf c i u].filter (fun x => !x.req.same { kind := .fence }) = [] := rfl
  have hfold (v : State) : [fenceOf a i t, fenceOf c i u].foldl (fun s x => s.answer x.core i x.req .done) v =
    (v.fenced a i).fenced c i := rfl
  unfold State.releaseReq
  dsimp only
  rw [hnone, hdo, hsame, hother]
  dsimp only
  rw [hfold, hrun, howed]
  generalize hv : State.fenced _ c i = v
  have hnow : v.now = s.now := by
    rw [← hv]
    rfl
  rw [List.foldl_nil, ← hnow]
  exact if_neg (show ¬ [b].isEmpty = true by simp)

/-- The third of three cores. -/
theorem thirdCore {a b c : Fin 3} (hac : a ≠ c) (hbc : b ≠ c) (hab : a ≠ b) :
    ([0, 1, 2].filter fun d => !(a.val == d || (c.val == d || false))) = [b.val] := by
  revert a b c
  decide

theorem State.voteOne_none (h : s.vot.presented = []) : s.voteOne = (s, false) := by
  unfold State.voteOne
  rw [h]

/-- The cores of a state of which one presents a fence that another presents already. -/
theorem State.egress_fence {a b c : Fin 3} {t : Nat} (hon : s.domOn 1 = true) (hvote : s.voting = true)
    (hrun : (s.core c).running = true) (hrel : s.vot.released = []) (hac : a ≠ c) (hbc : b ≠ c) (hab : a ≠ b)
    (hthree : s.running = [0, 1, 2]) (hp : s.vot.presented = [fenceOf a (s.vot.count.getD c 0) t]) :
    s.egress c { kind := .fence } = State.owing (State.fenced (State.fenced { s with vot := { s.vot with
      count := s.vot.count.set c (s.vot.count.getD c 0 + 1), presented := [] } } a (s.vot.count.getD c 0)) c (s.vot.count.getD c 0))
        ⟨s.vot.count.getD c 0, { kind := .fence }, .done, s.now, [b.val]⟩ := by
  obtain ⟨n, hn⟩ : ∃ n, s.vot.count.getD c 0 = n := ⟨_, rfl⟩
  have hfew : (s.vot.presented.filter (·.core == c.val)).length < 8 := by
    rw [hp]
    exact (List.length_filter_le _ _).trans_lt (show 1 < 8 by decide)
  have howed : ([0, 1, 2].filter fun d => !([fenceOf a n t, fenceOf c n s.now].any (·.core == d))) = [b.val] := thirdCore hac hbc hab
  rw [hn] at hp
  rw [State.egress_presents hon hvote hrun rfl, State.presentReq_joins hfew hrel, hn, hp]
  generalize hu : ({ s with vot := { s.vot with
    count := s.vot.count.set c (n + 1), presented := [fenceOf a n t] ++ [⟨c, n, { kind := .fence }, s.now⟩] } } : State) = u
  have hup : u.vot.presented = [fenceOf a n t, fenceOf c n s.now] := by
    rw [← hu]
    rfl
  have hurun : u.running = s.running := by
    rw [← hu]
    rfl
  have huvote : u.voting = true := by
    rw [← hu]
    exact hvote
  have hstep : u.voteOne = (u.releaseReq n { kind := .fence } [fenceOf a n t, fenceOf c n s.now], true) :=
    State.voteOne_pair hup huvote rfl (fun h => hac (Fin.ext h.symm)) rfl rfl rfl
  have hend := State.releaseReq_fence hup (hurun.symm ▸ hthree ▸ howed)
  rw [State.voteAll, State.voteN, hstep]
  dsimp only
  rw [hend, State.voteN_waits _ (State.voteOne_none rfl), ← hu]
  rfl

theorem State.minstret_fenced {a c i : Nat} (hac : c ≠ a) (hlen : c < s.vot.cores.length) :
    (((s.fenced a i).fenced c i).core c).minstret = ((s.core c).minstret + 1) % 2 ^ 64 := by
  have hkeep : (s.fenced a i).vot.cores.length = s.vot.cores.length := List.length_set
  have hself : ((s.fenced a i).fenced c i).core c = ((s.fenced a i).core c).takeAnswer
      (((s.fenced a i).coreAddr 0).map (fun x => within .pair x 1) |>.getD false) { kind := .fence } .done :=
    State.core_setCore_self (hkeep ▸ hlen) _
  have hother : (s.fenced a i).core c = s.core c := State.core_setCore_ne hac _
  have hmore (k : Core) (inPair : Bool) : (k.takeAnswer inPair { kind := .fence } .done).minstret = (k.minstret + 1) % 2 ^ 64 := by
    cases inPair <;> rfl
  rw [hself, hmore, hother]

theorem exec_egressRequest_asks (h : r.run = 0) : exec (.egressRequest c r) s = (s.egress c r).done := if_pos h

end Presented

open State in
/-- Settles O19: a request that runs instructions, one instruction, the answer that a core takes, and the vote. -/
theorem egressVote : Obligations.EgressVote := by
  unfold Obligations.EgressVote
  refine ⟨fun s c r hrun hmode => ?_,
    fun s t c bits k hon hfail hrun hwfi hout htrig hfetch hcore hexec => oneInstr_done hon hfail hrun hwfi hout htrig hfetch hexec,
    fun k hart u rd rs1 rs2 => ⟨Core.exec_add hart u rd rs1 rs2, Core.exec_mhartid hart u rd, Core.exec_reserved hart u rd rs1 rs2⟩,
    fun k r rd v hrd hlt hlen => ⟨Core.takeAnswer_byte v hrd, Core.takeAnswer_word v hrd, Core.takeAnswer_freg v,
      Core.takeAnswer_both v, Core.takeAnswer_minstret r v, fun cause => rfl⟩,
    fun s c r hon hvote hrun hrel hzero => ⟨fun hmore hown hnone => ?_, fun a b t hac hbc hab hthree hr hp => ?_⟩⟩
  · have hno : ¬ (!s.voting && s.get VOT.STATUS.MODE != 2) = true := by
      rcases hmode with h | h <;> simp [h]
    show execEgressRequest c r s = _
    unfold execEgressRequest
    rw [if_neg (Nat.pos_iff_ne_zero.1 hrun), if_neg hno]
    rfl
  · exact (exec_egressRequest_asks hzero).trans (State.done_eq (egress_waits hon hvote hrun hrel hmore hown hnone))
  · subst hr
    refine ⟨_, (exec_egressRequest_asks hzero).trans (State.done_eq (egress_fence hon hvote hrun hrel hac hbc hab hthree hp)), ?_⟩
    have hne : (a.val != c.val) = true := bne_iff_ne.2 fun h => hac (Fin.ext h)
    refine ⟨rfl, ?_, ?_, ?_, ?_⟩
    · show s.vot.released ++ _ = _
      rw [hrel]
      rfl
    · exact List.mem_append_right _ (List.mem_singleton_self _)
    · exact List.mem_append_left _ (List.mem_filter.2 ⟨List.mem_append_right _ (List.mem_singleton_self _), hne⟩)
    · intro hlen
      exact minstret_fenced (fun h => hac (Fin.ext h.symm)) (by rw [hlen]; exact c.isLt)

end Sys2Proof.Machine
end

/-! PROOFS. SYS.CMD and the force descriptors (spec/05 R136, R149, R153, R154, R165). -/

section

namespace Sys2Proof.Machine

section Commands

variable {s : State}

/-! ## SYS.CMD (R149) -/

theorem State.sysReason_run_eq_zero (priv : Nat) : s.sysReason 1 0 priv = 0 ↔
    (priv = 1 ∧ s.isDriving = true ∧ s.inRun = false ∧ s.runChecks = true ∧ s.get VOT.STATUS.MODE < 2) := by
  have hapart : s.isDriving = true → s.isTrail = false := by
    unfold State.isDriving State.isTrail
    simp only [Bool.or_eq_true, beq_iff_eq, Bool.or_eq_false_iff, beq_eq_false_iff_ne]
    omega
  unfold State.sysReason
  cases htrail : s.isTrail with
  | true => simp [mt hapart (by simp [htrail])]
  | false =>
    by_cases hpriv : priv = 1
    · cases s.isDriving <;> cases s.inRun <;> cases s.runChecks <;> simp [hpriv]
    · simp [hpriv]

/-- The command `op` of an initiator, as it waits for its boundary. -/
def SysCmd.asked (init : Fin 22) (priv : Fin 8) (session : Fin 65536) (op task : Nat) : SysCmd :=
  ⟨op, task, session, originOf init, priv, none⟩

/-- A SYS.CMD accepted: it waits with PENDING set. -/
def State.cmdTaken (s : State) (c : SysCmd) : State :=
  State.cmdStatus { s with cyc := { s.cyc with cmd := some c, cmdLast := true } } 0 0 true

theorem State.pending_cmdTaken (c : SysCmd) : (s.cmdTaken c).get SYS.CMD_STATUS.PENDING = 1 :=
  State.get_setB_self _ _ true (le_refl 1)

/-- A SYS.CMD refused: its status and the change log say why. -/
def State.cmdRefused (s : State) (op task reason : Nat) (init : Fin 22) (priv : Fin 8) (session : Fin 65536) : State :=
  (State.cmdStatus { s with cyc := { s.cyc with cmdLast := false } } 0x60 reason (s.bit SYS.CMD_STATUS.PENDING)).recordCommand
    0 op task 0x60 reason (originOf init) priv session

variable {init : Fin 22} {priv : Fin 8} {session : Fin 65536} {op task : Nat}

theorem State.sysCmd_first (hop : op ≠ 0) (hr : s.sysReason op task priv = 0) (hnone : s.cyc.cmd = none) :
    s.sysCmd init op task priv session = s.cmdTaken (.asked init priv session op task) := by
  unfold State.sysCmd
  rw [if_neg hop]
  dsimp only
  rw [if_neg (not_not_intro hr), hnone]
  rfl

theorem State.sysCmd_superseding (hop : op ≠ 0) (hr : s.sysReason op task priv = 0) {m : SysCmd} (hm : s.cyc.cmd = some m) :
    s.sysCmd init op task priv session =
      (s.recordCommand 0 m.op m.task 0x32 0 m.origin m.priv m.session).cmdTaken (.asked init priv session op task) := by
  unfold State.sysCmd
  rw [if_neg hop]
  dsimp only
  rw [if_neg (not_not_intro hr), hm]
  rfl

theorem State.sysCmd_refused (hop : op ≠ 0) (hr : s.sysReason op task priv ≠ 0) :
    s.sysCmd init op task priv session = s.cmdRefused op task (s.sysReason op task priv) init priv session :=
  (if_neg hop).trans (if_pos hr)

theorem State.sysReason_reserved (s : State) (op task priv : Nat) : s.sysReason (6 + op) task priv = 7 := if_pos (Nat.le_add_right 6 op)

end Commands

/-- Settles O25: SYS.CMD accepted, replacing, refused and reserved, and when RUN is accepted. -/
theorem sysCommands : Obligations.SysCommands := by
  unfold Obligations.SysCommands
  refine ⟨fun s init priv x => ⟨fun c op t hc => ?_, fun op => ?_⟩, fun s priv => State.sysReason_run_eq_zero priv⟩
  · have hrow : op ≠ 0 ∧ exec c s = (s.sysCmd init op t priv x).done := by
      rcases hc with hc | ⟨k, hc⟩
      · simp only [List.mem_cons, Prod.mk.injEq, List.not_mem_nil, or_false] at hc
        rcases hc with ⟨rfl, rfl, rfl⟩ | ⟨rfl, rfl, rfl⟩ | ⟨rfl, rfl, rfl⟩ <;> exact ⟨by decide, rfl⟩
      · simp only [List.mem_cons, Prod.mk.injEq, List.not_mem_nil, or_false] at hc
        rcases hc with ⟨rfl, rfl, rfl⟩ | ⟨rfl, rfl, rfl⟩ <;> exact ⟨by decide, rfl⟩
    obtain ⟨hop, hexec⟩ := hrow
    rw [hexec]
    exact ⟨fun hr hnone => State.done_eq (State.sysCmd_first hop hr hnone),
      fun m hr hm => ⟨_, State.done_eq (State.sysCmd_superseding hop hr hm), rfl, State.pending_cmdTaken _, rfl⟩,
      fun hr => State.done_eq (State.sysCmd_refused hop hr)⟩
  · refine State.done_eq ((State.sysCmd_refused (by omega) ?_).trans ?_)
    · rw [State.sysReason_reserved]
      decide
    · rw [State.sysReason_reserved]
      rfl

section Writes

/-! ## What a write of an engine leaves alone -/

/-- A part of the state that nothing a write sets off belongs to. -/
structure State.Aside {α : Type} (part : State → α) : Prop extends State.Apart part where
  sent : ∀ (t : State) (l : List Sent), part { t with sent := l } = part t
  pwr : ∀ (t : State) (p : PwrS), part { t with pwr := p } = part t
  fer : ∀ (t : State) (f : Ferry), part { t with fer := f } = part t
  upd : ∀ (t : State) (u : Upd), part { t with upd := u } = part t
  par : ∀ (t : State) (p : Par), part { t with par := p } = part t
  vot : ∀ (t : State) (v : Vot), part { t with vot := v } = part t
  fio : ∀ (t : State) (f : Fio), part { t with fio := f } = part t
  mot : ∀ (t : State) (m : Mot), part { t with mot := m } = part t
  lop : ∀ (t : State) (l : Lop), part { t with lop := l } = part t
  clp : ∀ (t : State) (c : Clp), part { t with clp := c } = part t
  store : ∀ (t : State) (a : Nat) (bs : List Nat), part (t.store a bs) = part t

theorem RNG.routine {off lo w rst : Nat} (n : Nat) (hlo : lo < 32) (hoff : off < 0x2000) :
    (Fld.mk (0x070000 + off + 0x40 * (n % 64)) lo w rst).routine :=
  Fld.routine_of_block 7 (by simp only [Fld.id]; omega)

theorem State.aside_cyc : State.Aside State.cyc where
  regs _ _ _ _ := rfl
  rng _ _ := rfl
  fab _ _ := rfl
  sent _ _ := rfl
  pwr _ _ := rfl
  fer _ _ := rfl
  upd _ _ := rfl
  par _ _ := rfl
  vot _ _ := rfl
  fio _ _ := rfl
  mot _ _ := rfl
  lop _ _ := rfl
  clp _ _ := rfl
  store _ _ _ := rfl

/-- The fields of SYS and of PAR, but for the bit that tells of a staged map. -/
theorem State.aside_get {g : Fld} (hblock : g.id / 0x200000 = 0 ∨ g.id / 0x200000 = 0x12) (hne : g.id ≠ SYS.STATUS.FERRY_ACTIVE.id) :
    State.Aside (·.get g) where
  regs t f v hf := t.get_set_ne v fun heq => by
    rcases hf with hf | hf
    · rw [← heq] at hf
      omega
    · exact hne (heq.trans hf)
  rng _ _ := rfl
  fab _ _ := rfl
  sent _ _ := rfl
  pwr _ _ := rfl
  fer _ _ := rfl
  upd _ _ := rfl
  par _ _ := rfl
  vot _ _ := rfl
  fio _ _ := rfl
  mot _ _ := rfl
  lop _ _ := rfl
  clp _ _ := rfl
  store _ _ _ := rfl

variable {α : Type} {part : State → α} (h : State.Aside part) (s : State)

include h

/-- One field more, of those that a transfer may write. -/
theorem State.Aside.set {t : State} {x : α} (ht : part t = x) {f : Fld} {v : Nat} (hf : f.routine := by decide) : part (t.set f v) = x :=
  (h.regs t f v hf).trans ht

theorem State.Aside.finish (d : Started) (status bytes detail : Nat) : part (s.finish d status bytes detail) = part s :=
  (h.rng _ _).trans (State.Apart.ite (h.rng s _) rfl)

theorem State.Aside.finishAt (p : Option (Nat × Nat)) (status bytes detail : Nat) :
    part (s.finishAt p status bytes detail) = part s := by
  obtain ⟨r, hr⟩ := s.finishAt_eq p status bytes detail
  exact hr ▸ h.rng s r

theorem State.Aside.railTo (d mv : Nat) : part (s.railTo d mv) = part s := by
  unfold State.railTo State.busAdd State.busSend
  dsimp only
  split
  · split
    · exact (h.sent _ _).trans (h.pwr s _)
    · exact h.pwr s _
  · exact h.pwr s _

theorem State.Aside.wakeEvent (d : Nat) : part (s.wakeEvent d) = part s := by
  obtain ⟨hstate, hstage, hentries⟩ : (PWR.D_STATUS.STATE d).routine ∧ (PWR.D_STATUS.STAGE d).routine ∧
      (PWR.D_ENTRIES.WAKE_IN_ENTRY d).routine := by
    refine ⟨Fld.routine_of_block 1 ?_, Fld.routine_of_block 1 ?_, Fld.routine_of_block 1 ?_⟩ <;>
      simp only [Fld.id, PWR.D_STATUS.STATE, PWR.D_STATUS.STAGE, PWR.D_ENTRIES.WAKE_IN_ENTRY] <;> omega
  have hwake : part (s.startWake d) = part s :=
    (h.railTo _ _ _).trans ((h.regs _ _ _ hstage).trans ((h.regs _ _ _ hstate).trans (h.pwr s _)))
  unfold State.wakeEvent
  split
  · exact hwake
  · exact hwake
  · have hnoted : part ((s.setDom d { s.dom d with wakeAfter := true, wakeNoted := true }).bump (PWR.D_ENTRIES.WAKE_IN_ENTRY d)) =
        part s := (h.regs _ _ _ hentries).trans (h.pwr s _)
    exact State.Apart.ite hnoted ((h.post _ _ _).trans hnoted)
  · rfl

theorem State.Aside.dramUp (init a n : Nat) : part (s.dramUp init a n).2 = part s := by
  have hdown : part (s.accessDown init 3) = part s := h.set (h.set (h.set rfl))
  unfold State.dramUp
  split
  · rfl
  · split
    · rfl
    · exact hdown
    · exact hdown
    · exact h.wakeEvent s 3

theorem State.Aside.bellIgnored (n cause init : Nat) : part (s.bellIgnored n cause init) = part s :=
  (h.post _ _ _).trans (h.set (h.set (h.set rfl)))

theorem State.Aside.noteRefused (r : Refused) (k : Kind) : part (s.noteRefused r k) = part s := by
  have hnoted : part (((((((s.set PRT.FAULT_INFO.INITIATOR r.id).set PRT.FAULT_INFO.LEVEL r.level).set PRT.FAULT_INFO.KIND k.code).setB
      PRT.FAULT_INFO.AS_OWNER r.owner).bump PRT.FAULT_COUNT.COUNT).set2 PRT.FAULT_ADDR_LO.ADDR PRT.FAULT_ADDR_HI.ADDR r.addr)) = part s :=
    h.set (h.set (h.set (h.set (h.set (h.set (h.set rfl))))))
  exact State.Apart.ite hnoted ((h.post _ _ _).trans ((h.fab _ _).trans hnoted))

theorem State.Aside.bellsRefused (init a len : Nat) : part (s.bellsRefused init a len) = part s :=
  State.foldl_keeps part (fun t n => State.Apart.ite rfl (h.bellIgnored t n _ init)) _ s

theorem State.Aside.present (v : Via) (a n : Nat) (write atomic bell : Bool) : part (s.present v a n write atomic bell) = part s := by
  have hheld (r : Nat) : (RNG.RING_STATUS.TAGS_HELD r).routine := RNG.routine (off := 0x1024) r (by decide) (by decide)
  have htake (t : State) (r : Nat) : part (t.takeTag r) = part t :=
    State.Apart.ite (h.set (h.set (h.set rfl) (hheld r))) (h.set (h.set rfl) (hheld r))
  unfold State.present
  split
  · rfl
  · exact h.set (h.set (htake s _)) (hheld _)
  · split
    · exact h.arrive s _ _
    · exact State.Apart.ite ((h.arrive _ _ _).trans (htake s _)) (h.rng s _)

theorem State.Aside.bellWrite (init a : Nat) (bs : List Nat) (n : Nat) : part (s.bellWrite init a bs n) = part s := by
  have hring {off lo w rst : Nat} (hlo : lo < 32) (hoff : off < 0x2000) : (Fld.mk (0x070000 + off + 0x40 * (n % 64)) lo w rst).routine :=
    RNG.routine n hlo hoff
  have hfault (reason status index : Nat) : part (s.ringFault n reason status index) = part s := by
    have hstate : part (s.set (RNG.RING_STATUS.STATE n) 4) = part s := h.set rfl (hring (off := 0x1024) (by decide) (by decide))
    have hkept : part ((((s.set (RNG.RING_STATUS.STATE n) 4).set (RNG.RING_FAULT.REASON n) reason).set (RNG.RING_FAULT.STATUS n)
        status).set (RNG.RING_FAULT.INDEX n) index) = part s :=
      h.set (h.set (h.set hstate (hring (off := 0x102C) (by decide) (by decide))) (hring (off := 0x102C) (by decide) (by decide)))
        (hring (off := 0x102C) (by decide) (by decide))
    exact State.Apart.ite rfl ((h.post _ _ _).trans (State.Apart.ite hkept hstate))
  have haccept (prod : Nat) : part (s.bellAccept n prod init) = part s := by
    have hrung (r : RingRt) : part ((s.set (RNG.RING_INDEX.PROD n) prod).setRing n r) = part s :=
      (h.rng _ _).trans (h.set rfl (hring (off := 0x1028) (by decide) (by decide)))
    exact State.Apart.ite (hfault 4 0 _) (State.Apart.ite (h.bellIgnored s n 3 init)
      (State.Apart.ite ((h.wakeEvent _ 7).trans (hrung _)) (hrung _)))
  exact State.Apart.ite rfl (State.Apart.ite (h.bellIgnored s n 0 init) (State.Apart.ite (h.bellIgnored s n 1 init)
    (State.Apart.ite (h.bellIgnored s n 2 init) (haccept _))))

theorem State.Aside.dropVerified (v : Nat) (byWrite : Bool) : part (s.dropVerified v byWrite) = part s := by
  have hdrop : part (s.ferryDrop 0x33) = part s :=
    h.set (h.set (h.set ((h.fer _ _).trans ((h.finishAt _ _ _ _ _).trans (h.finishAt s _ _ _ _)))))
  have hvalid : (UPD.VERIFIED.VALID v).routine := Fld.routine_of_block 0x17 (by simp only [Fld.id, UPD.VERIFIED.VALID]; omega)
  exact (h.post _ _ _).trans (h.set ((h.upd _ _).trans (State.Apart.ite hdrop rfl)) hvalid)

theorem State.Aside.written (init a : Nat) (bs : List Nat) : part (s.written init a bs) = part s := by
  have hbefore : part (s.beforeMarks init a bs) = part s :=
    (State.foldl_keeps part (fun t (e : Nat × Verified) => State.Apart.ite (h.dropVerified t e.1 true) rfl) _ _).trans
      (State.foldl_keeps part (fun t i => h.bellWrite t init a bs i) _ s)
  have hdirty (t : State) : part (t.markDirty a bs.length) = part t := by
    cases hmap : t.fer.map with
    | none => rw [t.markDirty_none hmap]
    | some m => rw [t.markDirty_some hmap]; exact h.set (h.fer t _)
  have htether (t : State) : part (t.markTether a bs.length) = part t := State.Apart.ite rfl (h.par t _)
  obtain ⟨r, hwritten⟩ := s.written_eq init a bs
  rw [hwritten]
  exact (h.vot _ _).trans ((htether _).trans ((hdirty _).trans hbefore))

theorem State.Aside.write (v : Via) (a : Nat) (bs : List Nat) : part (s.write v a bs).1 = part s := by
  have hup := h.dramUp s v.init a bs.length
  have hpresent := (h.present (s.dramUp v.init a bs.length).2 v a bs.length true false
    ((s.dramUp v.init a bs.length).2.sideEffect a bs.length)).trans hup
  unfold State.write
  dsimp only
  split
  · dsimp only
    exact (h.bellsRefused _ _ _ _).trans (h.noteRefused s _ _)
  · split
    · rfl
    · split
      · rfl
      · split
        · rfl
        · split
          · exact hup
          · split
            · exact hpresent
            · dsimp only
              exact (h.written _ _ _ _).trans ((h.store _ _ _).trans hpresent)

theorem State.Aside.read (v : Via) (a n : Nat) (k : Kind) : part (s.read v a n k).1 = part s := by
  have hup := h.dramUp s v.init a n
  unfold State.read
  split
  · exact h.noteRefused s _ _
  · split
    · rfl
    · dsimp only
      split
      · exact hup
      · split <;> exact (h.present _ _ _ _ _ _ _).trans hup

theorem State.Aside.readBuf (v : Via) (a n : Nat) : part (s.readBuf v a n).1 = part s := by
  have hall (fuel : Nat) : ∀ (s : State) (a n : Nat), part (s.readAll v fuel a n).1 = part s := by
    induction fuel with
    | zero => exact fun _ _ _ => rfl
    | succ fuel ih =>
      intro s a n
      unfold State.readAll
      split
      · rfl
      · have hread := h.read s v a (span a n) .read
        split
        next heq => exact (heq ▸ hread :)
        next heq => exact (ih _ _ _).trans (heq ▸ hread :)
  exact hall _ s a n

theorem State.Aside.writeBuf (v : Via) (a : Nat) (bs : List Nat) : part (s.writeBuf v a bs).1 = part s := by
  have hall (fuel : Nat) : ∀ (s : State) (a : Nat) (bs : List Nat), part (s.writeAll v fuel a bs).1 = part s := by
    induction fuel with
    | zero => exact fun _ _ _ => rfl
    | succ fuel ih =>
      intro s a bs
      unfold State.writeAll
      split
      · rfl
      · dsimp only
        have hwrite := h.write s v a (bs.take (span a bs.length))
        split
        next heq => exact (heq ▸ hwrite :)
        next heq => exact (ih _ _ _).trans (heq ▸ hwrite :)
  exact hall _ s a bs

end Writes

section ForceTable

/-! ## Force descriptors (R153, R154, R165) -/

variable {s : State} {d : Started}

/-- A force descriptor as it waits for its boundary. -/
def State.forceAccepted (s : State) (d : Started) : State :=
  State.accept { s with cyc := { s.cyc with
    waits := s.cyc.waits ++ [⟨d.ring, d.idx, d.d.opcode, ⟨d.d.eflags, d.d.forceAt, d.d.w4, d.d.w1, d.d.session⟩, none⟩] } } d

theorem State.forceDesc_waits (hbad : forceBad d.d = false) (hpriv : d.d.priv = 1) (hdrives : s.isDriving = true) :
    s.forceDesc d = s.forceAccepted d := by
  unfold State.forceDesc
  rw [if_neg (by simp [hbad]), if_neg (by simp [hpriv]), if_neg (by simp [hdrives])]
  rfl

theorem State.forceDesc_bad (hbad : forceBad d.d = true) : s.forceDesc d = s.finish d 0x10 := if_pos hbad

theorem State.forceDesc_unprivileged (hbad : forceBad d.d = false) (hpriv : d.d.priv ≠ 1) : s.forceDesc d = s.finish d 0x60 0 12 :=
  (if_neg (by simp [hbad])).trans (if_pos hpriv)

theorem State.forceDesc_notDriving (hbad : forceBad d.d = false) (hpriv : d.d.priv = 1) (hout : s.isDriving = false) :
    s.forceDesc d = s.finish d 0x60 :=
  (if_neg (by simp [hbad])).trans ((if_neg (not_not_intro hpriv)).trans (if_pos (by simp [hout])))

theorem State.forceRead_bad (h : bitsOf d.d.w5 19 13 ≠ 0 ∨ d.d.eflags ≠ 0 ∨ d.d.w4 ≠ 0) : s.forceRead d = s.finish d 0x10 :=
  if_pos (by simpa [or_assoc] using h)

variable (hw5 : bitsOf d.d.w5 19 13 = 0) (heflags : d.d.eflags = 0) (hw4 : d.d.w4 = 0)

include hw5 heflags hw4

theorem State.forceRead_unprivileged (hpriv : d.d.priv ≠ 1) : s.forceRead d = s.finish d 0x60 0 12 :=
  (if_neg (by simp [hw5, heflags, hw4])).trans (if_pos hpriv)

theorem State.forceRead_writes (hpriv : d.d.priv = 1) {s' : State} {m : Nat}
    (hbuf : s.writeBuf (s.via 20 d) d.d.primary
      ((s.cyc.forces.take (min s.cyc.forces.length (d.d.w1 / 16))).flatMap Force.bytes) = (s', m, none)) :
    s.forceRead d = s'.finish d (b2n (decide (min s.cyc.forces.length (d.d.w1 / 16) < s.cyc.forces.length))) m := by
  have hcyc : s'.cyc = s.cyc := by
    simpa only [hbuf] using State.aside_cyc.writeBuf s (s.via 20 d) d.d.primary
      ((s.cyc.forces.take (min s.cyc.forces.length (d.d.w1 / 16))).flatMap Force.bytes)
  unfold State.forceRead
  dsimp only
  rw [if_neg (by simp [hw5, heflags, hw4]), if_neg (not_not_intro hpriv), hbuf]
  dsimp only
  rw [hcyc]

omit hw5 heflags hw4

/-! ## The force table (R153) -/

theorem State.cyc_clRefresh (s : State) : s.clRefresh.cyc = s.cyc :=
  State.foldl_keeps (·.cyc) (fun s n => by split <;> rfl) _ s

theorem State.forces_putForces (s : State) (fs : List Force) : (s.putForces fs).cyc.forces = fs := by
  unfold State.putForces
  dsimp only
  rw [State.cyc_clRefresh]
  split <;> rfl

theorem Force.same_self (f : Force) : f.same f.kind f.target = true := by simp [Force.same]

variable (s) (f : Force)

theorem State.mem_forceSet (g : Force) : g ∈ (s.forceSet f).cyc.forces ↔
    g = f ∨ (g ∈ s.cyc.forces ∧ g.same f.kind f.target = false) := by
  unfold State.forceSet
  dsimp only
  rw [State.forces_putForces]
  split
  case isTrue hany =>
    rw [List.any_eq_true] at hany
    obtain ⟨x, hx, hsame⟩ := hany
    rw [List.mem_map]
    constructor
    · rintro ⟨y, hy, rfl⟩
      split
      · exact .inl rfl
      case isFalse hother => exact .inr ⟨hy, by simpa using hother⟩
    · rintro (rfl | ⟨hg, hother⟩)
      · exact ⟨x, hx, if_pos hsame⟩
      · exact ⟨g, hg, if_neg (by simp [hother])⟩
  case isFalse hany =>
    have hother : g ∈ s.cyc.forces → g.same f.kind f.target = false := by
      intro hg
      by_contra hsame
      exact hany (List.any_eq_true.mpr ⟨g, hg, by simpa using hsame⟩)
    rw [List.mem_append, List.mem_singleton]
    exact ⟨fun h => h.elim (fun hg => .inr ⟨hg, hother hg⟩) .inl, fun h => h.elim .inr (fun hg => .inl hg.1)⟩

theorem State.forces_forceClear (kind target : Nat) :
    (s.forceClear kind target).cyc.forces = s.cyc.forces.filter fun g => !g.same kind target := by
  unfold State.forceClear
  rw [State.forces_putForces]

theorem State.forceSet_only : ((s.forceSet f).cyc.forces.filter (·.same f.kind f.target)).all (· = f) = true := by
  simp only [List.all_eq_true, List.mem_filter, decide_eq_true_eq]
  rintro g ⟨hg, hsame⟩
  obtain rfl | ⟨-, hother⟩ := (s.mem_forceSet f g).mp hg
  · rfl
  · exact absurd hsame (by simp [hother])

end ForceTable

/-- Settles O26: the force descriptors and FORCE_READ, and what FORCE_SET and FORCE_CLEAR make of the table. -/
theorem forces : Obligations.Forces := by
  unfold Obligations.Forces
  refine ⟨fun s n d hbad hpriv hdrives => ?_, fun s n d c hc hd => ?_, fun s n d hd => ⟨fun h => ?_, fun h5 he h4 hp => ?_⟩,
    fun s s' n d m hd h5 he h4 hp hbuf => ?_, fun s f => ⟨s.forceSet_only f, (s.mem_forceSet f f).mpr (.inl rfl),
      fun g hg hother => (s.mem_forceSet f g).mpr (.inr ⟨hg, hother⟩), s.forces_forceClear f.kind f.target⟩⟩
  · have hwaits := State.forceDesc_waits hbad hpriv hdrives
    exact ⟨fun hd => State.done_eq ((State.onOffer_of_offered hd).trans hwaits),
      fun hd => State.done_eq ((State.onOffer_of_offered hd).trans hwaits),
      fun hd => State.done_eq ((State.onOffer_of_offered hd).trans hwaits)⟩
  · have hrow : exec c.1 s = (s.forceDesc d).done := by
      fin_cases hc <;> exact congrArg State.done (State.onOffer_of_offered hd)
    rw [hrow]
    exact ⟨fun hbad => State.done_eq (State.forceDesc_bad hbad),
      fun hbad hpriv => State.done_eq (State.forceDesc_unprivileged hbad hpriv),
      fun hbad hpriv hout => State.done_eq (State.forceDesc_notDriving hbad hpriv hout)⟩
  · exact State.done_eq ((State.onOffer_of_offered hd).trans (State.forceRead_bad h))
  · exact State.done_eq ((State.onOffer_of_offered hd).trans (State.forceRead_unprivileged h5 he h4 hp))
  · exact State.done_eq ((State.onOffer_of_offered hd).trans (State.forceRead_writes h5 he h4 hp hbuf))

end Sys2Proof.Machine

end

/-! PROOFS. KEND, output commit, the STOP of an overrun, the base-cycle boundary (spec/05 R134 to R146, spec/04 R111, R127). -/

section

namespace Sys2Proof.Machine

section Tables

/-! ## The tables of the engines (R258, R284) -/

/-- The entries `i` to `i + k - 1` of a table, each read by `rb`: what the tables of the loop and of the motion engine are read by.
Kept apart from State.readBuf, whose reading of a fixed length the kernel would try to evaluate. -/
def rowsBy {β : Type} (rb : State → Via → Nat → Nat → State × List Nat × Option Err) (base : State → Nat) (size : Nat)
    (entry : List Nat → β) (s : State) (v : Via) : Nat → Nat → State × Except Err (List (Nat × β))
  | _, 0 => (s, .ok [])
  | i, k + 1 =>
    match rb s v (base s + size * i) size with
    | (s, _, some e) => (s, .error e)
    | (s, bs, none) => match rowsBy rb base size entry s v (i + 1) k with
      | (s, .ok r) => (s, .ok ((i, entry bs) :: r))
      | (s, .error e) => (s, .error e)

theorem State.loopRead_eq (s : State) (v : Via) (i k : Nat) :
    s.loopRead v i k = rowsBy State.readBuf State.loopTable 80 (fun bs => { entry := bs }) s v i k := by
  delta State.loopRead State.loopRead._f Nat.brecOn Nat.brecOn.go
  obtain ⟨rb, hrb⟩ : ∃ rb, rb = State.readBuf := ⟨_, rfl⟩
  rw [← hrb]
  induction k generalizing s i with
  | zero => rfl
  | succ k ih =>
    dsimp only at ih ⊢
    rw [rowsBy]
    rcases hrow : rb s v (s.loopTable + 80 * i) 80 with ⟨t, bs, _ | e⟩
    · dsimp only
      rw [ih]
      rcases rowsBy rb _ 80 _ t v (i + 1) k with ⟨u, _ | _⟩ <;> rfl
    · rfl

theorem State.axesRead_eq (s : State) (v : Via) (i k : Nat) :
    s.axesRead v i k = rowsBy State.readBuf State.motTable 64 (fun bs => { entry := bs }) s v i k := by
  delta State.axesRead State.axesRead._f Nat.brecOn Nat.brecOn.go
  obtain ⟨rb, hrb⟩ : ∃ rb, rb = State.readBuf := ⟨_, rfl⟩
  rw [← hrb]
  induction k generalizing s i with
  | zero => rfl
  | succ k ih =>
    dsimp only at ih ⊢
    rw [rowsBy]
    rcases hrow : rb s v (s.motTable + 64 * i) 64 with ⟨t, bs, _ | e⟩
    · dsimp only
      rw [ih]
      rcases rowsBy rb _ 64 _ t v (i + 1) k with ⟨u, _ | _⟩ <;> rfl
    · rfl
end Tables

section Engines

/-! ## What the engines leave alone when a class commits, and in a STOP -/

variable {α : Type} {part : State → α} (h : State.Aside part) (s : State)

include h

theorem State.Aside.putPair (init a v : Nat) : part (s.putPair init a v) = part s := (h.written _ _ _ _).trans (h.store s _ _)

theorem State.Aside.motCommit : part s.motCommit = part s :=
  (State.foldl_keeps part (fun _ _ => h.putPair _ _ _ _) _ _).trans (h.mot s _)

theorem State.Aside.forceInto (p : Nat → Bool) : part (s.forceInto p) = part s :=
  State.foldl_keeps part (fun _ _ => State.Apart.ite (h.putPair _ _ _ _) rfl) _ s

theorem State.Aside.applyOut (i v : Nat) : part (s.applyOut i v) = part s := by
  have hspur (t : State) (u : Nat) (on : Bool) : part (t.setSpurArmed u on) = part t := by
    have harmed : (SPR.UNIT_STATUS.ARMED u).routine := Fld.routine_of_block 0x0E (by simp only [Fld.id, SPR.UNIT_STATUS.ARMED]; omega)
    exact h.set (State.Apart.ite rfl (h.fio t _)) harmed
  have hprobe (t : State) (p : Nat) (on : Bool) : part (t.setProbeArmed p on) = part t := by
    have harmed : (FIO.PRB_STATUS.ARMED p).routine := Fld.routine_of_block 0x0D (by simp only [Fld.id, FIO.PRB_STATUS.ARMED]; omega)
    exact h.set (State.Apart.ite rfl (h.fio t _)) harmed
  unfold State.applyOut
  split
  · exact h.fio s _
  · exact (State.foldl_keeps part (fun t u => State.Apart.ite rfl (State.Apart.ite (hspur t u _)
      (State.Apart.ite (hspur t u true) rfl))) _ _).trans (h.fio s _)
  · exact (State.foldl_keeps part (fun t p => State.Apart.ite rfl (State.Apart.ite (hprobe t p _)
      (State.Apart.ite (hprobe t p true) rfl))) _ _).trans (h.fio s _)
  · have hparam : (SPR.UNIT_PARAM.PARAM (i - 4)).routine :=
      Fld.routine_of_block 0x0E (by simp only [Fld.id, SPR.UNIT_PARAM.PARAM]; omega)
    exact State.Apart.ite (h.set (State.Apart.ite rfl (h.fio s _)) hparam) rfl

theorem State.Aside.outputFault (i : Nat) : part (s.outputFault i) = part s := (h.post _ _ _).trans (h.set rfl)

theorem State.Aside.fioApply : part s.fioApply = part s :=
  State.Apart.ite rfl ((State.foldl_keeps part (fun t i => State.Apart.ite (h.applyOut t i _) (h.outputFault t _)) _ _).trans (h.fio s _))

theorem State.Aside.clRefresh : part s.clRefresh = part s := by
  have hvalue (n : Nat) : (CLP.CH_VALUE.VALUE n).routine := Fld.routine_of_block 0x11 (by simp only [Fld.id, CLP.CH_VALUE.VALUE]; omega)
  exact State.foldl_keeps part (fun _ n => State.Apart.ite (h.set rfl (hvalue n)) rfl) _ s

theorem State.Aside.clpApply : part s.clpApply = part s := by
  have hprogram (t : State) (n : Nat) : part (t.clProgram n) = part t :=
    State.Apart.ite (h.clp t _) (State.Apart.ite ((h.outputFault _ _).trans (h.clp t _))
      (State.Apart.ite (h.clp t _) (h.clp t _)))
  exact State.Apart.ite rfl ((h.clRefresh _).trans (State.foldl_keeps part hprogram _ s))

theorem State.Aside.rowsBy {β : Type} (base : State → Nat) (size : Nat) (entry : List Nat → β) (v : Via) (i k : Nat) :
    part (rowsBy State.readBuf base size entry s v i k).1 = part s := by
  induction k generalizing s i with
  | zero => rfl
  | succ k ih =>
    have hread := h.readBuf s v (base s + size * i) size
    unfold Machine.rowsBy
    split
    next heq => exact (heq ▸ hread :)
    next heq =>
      have hrest := (ih _ (i + 1)).trans (heq ▸ hread :)
      split
      next hmore => exact (hmore ▸ hrest :)
      next hmore => exact (hmore ▸ hrest :)

/-! ### The loop engine (R299, R304 to R307) -/

theorem State.Aside.setLoopQueue (q : List LoopSample) : part (s.setLoopQueue q) = part s := by
  have hdepth : part (State.set { s with lop := { s.lop with queue := q } } LOP.QUEUE.DEPTH q.length) = part s := h.set (h.lop s _)
  exact State.Apart.ite (h.set hdepth) hdepth

theorem State.Aside.loopMode (i mode : Nat) : part (s.loopMode i mode) = part s := by
  have hcounts (t : State) : part t.loopCounts = part t := h.set (h.set (h.set rfl))
  have htold (l : Loop) : part (((s.setLoop i l).loopCounts).post 133 (i + 4096 * mode + 16384 * (s.loop i).mode)) = part s :=
    (h.post _ _ _).trans ((hcounts _).trans (h.lop s _))
  exact State.Apart.ite rfl (State.Apart.ite (htold _) ((h.setLoopQueue _ _).trans (htold _)))

theorem State.Aside.loopCascadeLost (before : State) : part (s.loopCascadeLost before) = part s := by
  have hlost (t : State) (i : Nat) : part (t.loopLost i) = part t :=
    State.Apart.ite rfl ((h.post _ _ _).trans ((h.loopMode _ _ _).trans (h.lop t _)))
  exact State.foldl_keeps part (fun t i => State.Apart.ite (hlost t i) rfl) _ s

theorem State.Aside.loopRead (v : Via) (i k : Nat) : part (s.loopRead v i k).1 = part s :=
  s.loopRead_eq v i k ▸ h.rowsBy s _ _ _ v i k

theorem State.Aside.loopLoad (d : Started) : part (s.loopLoad d) = part s := by
  have happly (t : State) (preset : Bool) (e : Nat × Loop) : part (t.loopApply preset e) = part t :=
    State.Apart.ite ((h.lop _ _).trans (h.loopMode t _ _)) (h.lop t _)
  have hread := h.loopRead s (s.via 12 d) d.d.loopInst d.d.loopCount
  unfold State.loopLoad
  split
  next heq => exact (h.finish _ _ _ _ _).trans (heq ▸ hread :)
  next t es heq =>
    have ht : part t = part s := (heq ▸ hread :)
    refine State.Apart.ite ((h.finish _ _ _ _ _).trans ht) (State.Apart.ite ((h.finish _ _ _ _ _).trans ht) ?_)
    exact (h.finish _ _ _ _ _).trans ((h.loopCascadeLost _ _).trans
      ((State.foldl_keeps part (fun t e => happly t _ e) _ t).trans ht))

theorem State.Aside.loopEffect (d : Started) : part (s.loopEffect d) = part s := by
  have hfinish (status detail : Nat) : part (s.finish d status 0 detail) = part s := h.finish s d status 0 detail
  have hset : part (s.loopSetMode d) = part s :=
    State.Apart.ite (hfinish _ _) (State.Apart.ite (hfinish _ _) (State.Apart.ite ((h.finish _ _ _ _ _).trans (h.lop s _))
      ((h.finish _ _ _ _ _).trans ((h.loopCascadeLost _ _).trans (h.loopMode s _ _)))))
  have hfault (i : Nat) : (LOP.FAULT.INSTANCE i).routine := Fld.routine_of_block 0x10 (by simp only [Fld.id, LOP.FAULT.INSTANCE]; omega)
  have hreset : part (s.loopReset d) = part s :=
    State.Apart.ite (hfinish _ _) (State.Apart.ite (hfinish _ _)
      ((h.finish _ _ _ _ _).trans (h.set (h.lop s _) (hfault _))))
  refine State.Apart.ite (hfinish _ _) ?_
  split
  · exact h.loopLoad s d
  · exact hset
  · exact hreset

theorem State.Aside.loopsAtCommit (k cycle : Nat) (before : List (Nat × Nat)) : part (s.loopsAtCommit k cycle before) = part s :=
  State.Apart.ite (h.par s _) (State.foldl_keeps part (fun t d => (h.loopEffect _ d).trans (h.lop t _)) _ s)

theorem State.Aside.loopAbandon (k : Nat) : part (s.loopAbandon k) = part s :=
  State.foldl_keeps part (fun t d => (h.finish _ d 0x33 0 0).trans (h.lop t _)) _ s

/-! ### The outputs and the motion engine in a STOP (R149, R265) -/

theorem State.Aside.fioStop : part s.fioStop = part s := by
  have hunit (u : Nat) : (SPR.UNIT_LOST.SUPPRESSED u).routine ∧ (SPR.UNIT_STATUS.QUEUED u).routine :=
    ⟨Fld.routine_of_block 0x0E (by simp only [Fld.id, SPR.UNIT_LOST.SUPPRESSED]; omega),
      Fld.routine_of_block 0x0E (by simp only [Fld.id, SPR.UNIT_STATUS.QUEUED]; omega)⟩
  have hsuppress (t : State) (u : Nat) : part (t.suppress u 3) = part t := (h.post _ _ _).trans (h.set rfl (hunit u).1)
  exact (State.foldl_keeps part (fun t u => State.Apart.ite rfl (h.set ((h.fio _ _).trans
    (State.foldl_keeps part (fun t _ => hsuppress t u) _ t)) (hunit u).2)) _ _).trans (h.fio s _)

theorem State.Aside.clpStop : part s.clpStop = part s := State.foldl_keeps part (fun t _ => h.clp t _) _ s

theorem State.Aside.axesRead (v : Via) (i k : Nat) : part (s.axesRead v i k).1 = part s :=
  s.axesRead_eq v i k ▸ h.rowsBy s _ _ _ v i k

theorem State.Aside.finishAtTick (d : Started) (t status detail : Nat) : part (s.finishAtTick d t status detail) = part s :=
  (h.rng _ _).trans (h.finish s d status 0 detail)

theorem State.Aside.motNow (t : Nat) (d : Started) : part (s.motNow t d) = part s := by
  have hzero (u : State) (a : Axis) : part (u.motZero a) = part u :=
    State.Apart.ite rfl (State.foldl_keeps part (fun u _ => h.mot u _) _ u)
  have happly (u : State) (p : Nat × Axis) : part (u.axisApply p) = part u :=
    State.Apart.ite (State.Apart.ite (h.mot u _) ((h.mot _ _).trans (hzero u _))) (State.Apart.ite (h.mot u _) (h.mot u _))
  have hload : part (s.axisLoad t d) = part s := by
    have hread := h.axesRead s (s.via 11 d) d.d.motIndex d.d.motCount
    unfold State.axisLoad
    split
    next heq => exact (h.finish _ _ _ _ _).trans (heq ▸ hread :)
    next u es heq =>
      have hu : part u = part s := (heq ▸ hread :)
      exact State.Apart.ite ((h.finishAtTick _ _ _ _ _).trans hu)
        ((h.finishAtTick _ _ _ _ _).trans ((State.foldl_keeps part happly _ u).trans hu))
  have heffect : part (s.motEffect d) = part s := by
    unfold State.motEffect
    dsimp only
    split
    case h_5 => exact State.Apart.ite (h.mot s _) (h.mot s _)
    all_goals exact h.mot s _
  exact State.Apart.ite (h.finishAtTick s _ _ _ _) (State.Apart.ite hload ((h.finishAtTick _ _ _ _ _).trans heffect))

theorem State.Aside.motRegs : part s.motRegs = part s := by
  have hfault (w : Nat) : (MOT.FAULT.AXIS w).routine := Fld.routine_of_block 0x0F (by simp only [Fld.id, MOT.FAULT.AXIS]; omega)
  have hshaft {off : Nat} (hoff : off < 0x1000) (j w : Nat) : (Fld.mk (0x0F0000 + off + 0x10 * (j % 8)) 0 w 0).routine :=
    Fld.routine_of_block 0x0F (by simp only [Fld.id]; omega)
  have hcounted (present faulted : Nat) : part ((s.set MOT.AXES.PRESENT present).set MOT.AXES.FAULTED faulted) = part s := h.set (h.set rfl)
  exact (State.foldl_keeps part (fun _ j => h.set (h.set (h.set (h.set rfl (hshaft (off := 0x100) (by decide) j 32))
    (hshaft (off := 0x104) (by decide) j 32)) (hshaft (off := 0x108) (by decide) j 32)) (hshaft (off := 0x10C) (by decide) j 3)) _ _).trans
    ((State.foldl_keeps part (fun _ w => h.set rfl (hfault w)) _ _).trans (hcounted _ _))

theorem State.Aside.motStop : part s.motStop = part s := by
  unfold State.motStop
  extract_lets ds _ s1 s2
  have h1 : part s1 = part s := h.mot s _
  have h2 : part s2 = part s1 := State.foldl_keeps part (fun t d => h.motNow t t.now d) ds s1
  exact (h.motRegs s2).trans (h2.trans h1)

end Engines

section Kend

variable {s : State} {k : Core} {n : Nat}

/-! ## KEND (R111, R145, R149) -/

theorem State.running_phase (h : s.runClass = some n) : n < 8 ∧ s.phase n = 2 := by
  unfold State.runClass at h
  exact ⟨List.mem_range.1 (List.mem_of_find?_eq_some h), by simpa [State.phase] using List.find?_some h⟩

/-- What KEND of class `n` notes of its execution time, before the class begins its commit. -/
def State.timed (s : State) (n ticks : Nat) : State :=
  let t := s.set (CYC.CLASS_EXEC_LAST.TICKS n) ticks
  let t := if t.get (CYC.CLASS_EXEC_MAX.TICKS n) < ticks then t.set (CYC.CLASS_EXEC_MAX.TICKS n) ticks else t
  let t := if (s.cls n).overran then t else t.set (CYC.CLASS_STATUS.CONSEC n) 0
  if n = 0 ∧ t.motBusy then { t with mot := { t.mot with held := some t.now } } else t

theorem State.endClass_kept (habandoned : (s.cls n).abandoned = false) :
    s.endClass n = (s.timed n (min (s.pairTick - (s.cls n).release) (2 ^ 31 - 1))).set (CYC.CLASS_STATUS.PHASE n) 3 := by
  unfold State.endClass State.timed
  dsimp only
  generalize min (s.pairTick - (s.cls n).release) (2 ^ 31 - 1) = ticks
  exact if_neg (show ¬(s.cls n).abandoned = true by simp [habandoned])

theorem State.timed_notes (s : State) (n ticks : Nat) : (s.timed n ticks).vot = s.vot ∧
    (s.timed n ticks).get (CYC.CLASS_EXEC_LAST.TICKS n) = ticks % 2 ^ 31 := by
  have hmax : (CYC.CLASS_EXEC_LAST.TICKS n).id ≠ (CYC.CLASS_EXEC_MAX.TICKS n).id := by
    simp [Fld.id, CYC.CLASS_EXEC_LAST.TICKS, CYC.CLASS_EXEC_MAX.TICKS]
  have hconsec : (CYC.CLASS_EXEC_LAST.TICKS n).id ≠ (CYC.CLASS_STATUS.CONSEC n).id := by
    simp only [Fld.id, CYC.CLASS_EXEC_LAST.TICKS, CYC.CLASS_STATUS.CONSEC]; omega
  unfold State.timed
  extract_lets t1 t2 t3
  have h1 : t1.vot = s.vot ∧ t1.get (CYC.CLASS_EXEC_LAST.TICKS n) = ticks % 2 ^ 31 := ⟨rfl, State.get_set_self _ _ _⟩
  have h2 : t2.vot = s.vot ∧ t2.get (CYC.CLASS_EXEC_LAST.TICKS n) = ticks % 2 ^ 31 := by
    unfold t2
    split
    · exact ⟨h1.1, (State.get_set_ne _ _ hmax).trans h1.2⟩
    · exact h1
  have h3 : t3.vot = s.vot ∧ t3.get (CYC.CLASS_EXEC_LAST.TICKS n) = ticks % 2 ^ 31 := by
    unfold t3
    split
    · exact h2
    · exact ⟨h2.1, (State.get_set_ne _ _ hconsec).trans h2.2⟩
  split
  · exact h3
  · exact h3

theorem State.endClass_committing (habandoned : (s.cls n).abandoned = false) : (s.endClass n).vot = s.vot ∧ (s.endClass n).phase n = 3 ∧
    (s.endClass n).get (CYC.CLASS_EXEC_LAST.TICKS n) = min (s.pairTick - (s.cls n).release) (2 ^ 31 - 1) := by
  have hphase : (CYC.CLASS_EXEC_LAST.TICKS n).id ≠ (CYC.CLASS_STATUS.PHASE n).id := by
    simp only [Fld.id, CYC.CLASS_EXEC_LAST.TICKS, CYC.CLASS_STATUS.PHASE]; omega
  rw [State.endClass_kept habandoned]
  have hfits : min (s.pairTick - (s.cls n).release) (2 ^ 31 - 1) % 2 ^ 31 = min (s.pairTick - (s.cls n).release) (2 ^ 31 - 1) := by
    omega
  generalize min (s.pairTick - (s.cls n).release) (2 ^ 31 - 1) = ticks at hfits ⊢
  obtain ⟨hvot, hlast⟩ := s.timed_notes n ticks
  exact ⟨hvot, State.get_set_self _ _ _, (State.get_set_ne _ _ hphase).trans (hlast.trans hfits)⟩

theorem State.endClass_abandoned (habandoned : (s.cls n).abandoned = true) :
    (s.endClass n).vot = s.vot ∧ (s.endClass n).phase n = 0 ∧ ((s.endClass n).cls n).pend = [] := by
  have hend : s.endClass n = (s.setCls n { s.cls n with abandoned := false, pend := [] }).set (CYC.CLASS_STATUS.PHASE n) 0 := if_pos habandoned
  rw [hend]
  exact ⟨rfl, State.get_set_self _ _ _, congrArg ClassRt.pend (Sparse.get_put_self _ _ _ _)⟩

/-- What KEND of the running class leaves: the class has ended, and each core retires. -/
def State.kended (s : State) (n : Nat) : State := [0, 1, 2].foldl (fun s c => s.setCore c (s.core c).retire) (s.endClass n)

theorem State.get_kended (g : Fld) : (s.kended n).get g = (s.endClass n).get g := rfl

theorem State.cyc_kended : (s.kended n).cyc = (s.endClass n).cyc := rfl

theorem State.cores_kended (hcores : s.vot.cores = [k, k, k]) (hvot : (s.endClass n).vot = s.vot) :
    (s.kended n).vot.cores = List.replicate 3 k.retire := by
  have heach := State.eachOfThree (s := s.endClass n) (k := k) (by rw [hvot]; exact hcores) Core.retire
  exact congrArg Vot.cores heach

variable {rs1 : Fin 32}

/-- The three cores ask for the end of the running class together. -/
theorem State.kend_ends (hvote : s.voting = true) (hcores : s.vot.cores = [k, k, k]) (hrun : k.running = true) (hm : k.mmode = true)
    (hclass : s.runClass = some n) (hreg : k.reg rs1 = n) (hvot : (s.endClass n).vot = s.vot) (hphase : (s.endClass n).phase n ≠ 2) :
    s.kend rs1 = if n = 0 then (s.kended n).kendZero else s.kended n := by
  have hintent : s.kendIntent rs1 k = .req { kind := .fence, addr := n, mmode := k.mmode } := by
    unfold State.kendIntent
    rw [if_neg (by simp [hm]), hclass]
    exact if_pos hreg
  have htogether : (s.together (s.kendIntent rs1) fun s _ q => (s.endClass q.addr, .ok Core.retire)) = s.kended n := by
    unfold State.together
    dsimp only
    rw [if_pos hvote, State.vote_alike hcores hrun, hintent]
    dsimp only
    rw [State.running_alike (k := k) (by rw [hvot]; exact hcores) hrun]
    rfl
  unfold State.kend
  dsimp only
  rw [htogether, hclass]
  by_cases hzero : n = 0
  · subst hzero
    rw [if_pos rfl]
    exact if_pos (by simpa [State.phase, State.get_kended] using hphase)
  · rw [if_neg hzero]
    exact if_neg (by simp [hzero])

theorem State.kend_traps (hvote : s.voting = true) (hcores : s.vot.cores = [k, k, k]) (hrun : k.running = true) (hm : k.mmode = false) :
    ∃ x : State, s.kend rs1 = (if s.runClass = some 0 ∧ s.phase 0 ≠ 2 then x.kendZero else x) ∧
      x.vot.cores = List.replicate 3 (k.trap 27 (keafyBits 1 0x2B 0 rs1 0)) := by
  have hintent : s.kendIntent rs1 k = .trap 27 (keafyBits 1 0x2B 0 rs1 0) := if_pos (by simp [hm])
  have htogether : (s.together (s.kendIntent rs1) fun s _ q => (s.endClass q.addr, .ok Core.retire)) =
      s.eachCore fun k => k.trap 27 (keafyBits 1 0x2B 0 rs1 0) := by
    unfold State.together
    dsimp only
    rw [if_pos hvote, State.vote_alike hcores hrun, hintent]
  have hget : (s.eachCore fun k => k.trap 27 (keafyBits 1 0x2B 0 rs1 0)).phase 0 = s.phase 0 := by
    unfold State.eachCore State.phase
    refine State.foldl_keeps (·.get (CYC.CLASS_STATUS.PHASE 0)) ?_ _ s
    exact fun _ _ => rfl
  refine ⟨s.eachCore fun k => k.trap 27 (keafyBits 1 0x2B 0 rs1 0), ?_, congrArg Vot.cores (State.eachCore_alike hcores hrun _)⟩
  unfold State.kend
  dsimp only
  rw [htogether, hget]
  simp

end Kend

section Ends

variable {s : State} {k : Nat}

/-! ## Output commit (R127, R144) -/

theorem State.pairStatus_aside : State.Aside (·.get PAR.STATUS.STATE) := State.aside_get (by decide) (by decide)

/-- The outputs of class `k` up to the end of its cycle. -/
def State.committed (s : State) (k : Nat) : State :=
  let c := s.cls k
  let before := (c.pend ++ if k = 0 then s.mot.pend else []).map fun (p : Nat × Nat) => (p.1, s.word (outAddr p.1))
  let s := c.pend.foldl (fun s (p : Nat × Nat) => s.putPair 10 (outAddr p.1) p.2) s
  let s := if k = 0 then s.motCommit else s
  let s := s.forceInto fun a => outputImage a || critical a
  let s := if s.owner (s.get FIO.IMAGE.OUT_BASE) = k then s.fioApply else s
  let s := if s.owner (s.get CLP.IMAGE.OUT_BASE) = k then s.clpApply else s
  s.loopsAtCommit k c.cycle before

theorem State.Aside.committed {α : Type} {part : State → α} (h : State.Aside part) (s : State) (k : Nat) :
    part (s.committed k) = part s := by
  unfold State.committed
  extract_lets c before s1 s2 s3 s4 s5
  have h1 : part s1 = part s := State.foldl_keeps part (fun t (p : Nat × Nat) => h.putPair t 10 (outAddr p.1) p.2) c.pend s
  have h2 : part s2 = part s := State.Apart.ite ((h.motCommit s1).trans h1) h1
  have h3 : part s3 = part s := (h.forceInto s2 _).trans h2
  have h4 : part s4 = part s := State.Apart.ite ((h.fioApply s3).trans h3) h3
  have h5 : part s5 = part s := State.Apart.ite ((h.clpApply s4).trans h4) h4
  exact (h.loopsAtCommit s5 k c.cycle before).trans h5

/-- The cycle of class `k` ended: its pending set is empty, and it is the last committed. -/
def State.cycleEnded (s : State) (k cycle : Nat) : State :=
  (s.setCls k { s.cls k with pend := [], lastCommit := some cycle }).set (CYC.CLASS_STATUS.PHASE k) 0

theorem State.pairState_cycleEnded (s : State) (k cycle : Nat) : (s.cycleEnded k cycle).pairState = s.get PAR.STATUS.STATE :=
  State.get_set_ne _ _ (by simp only [Fld.id, PAR.STATUS.STATE, CYC.CLASS_STATUS.PHASE]; omega)

/-- What a unit sends at a commit: a lead its COMMIT and the DOWN frames; a trail compares its digest. -/
def State.commitTold (s : State) (k cycle dig : Nat) : State :=
  let s := if s.streams then
      s.ransel 0x11 ([k, 0, 0, 0] ++ leBytes 8 cycle ++ leBytes 4 dig ++ leBytes 4 s.pairTick)
    else if s.isTrail then s.trailCommit k cycle dig else s
  (if s.isDriving && !s.takeoverPending then s.launch k cycle else s).handoverSend

theorem State.commit_eq (s : State) (k : Nat) :
    s.commit k = ((s.committed k).cycleEnded k (s.cls k).cycle).commitTold k (s.cls k).cycle (outputDigest (s.commitWords k)) := rfl

theorem State.commitTold_out (hout : s.pairState = 5) (cycle dig : Nat) : s.commitTold k cycle dig = s := by
  have hhand : s.handoverSend = s := by
    unfold State.handoverSend
    split
    · rfl
    · exact if_pos (by simp [hout])
  unfold State.commitTold State.streams State.isTrail State.isDriving
  simp [hout, hhand]

/-- A unit that is OUT tells nobody of a commit. -/
theorem State.commit_out (hout : s.pairState = 5) : s.commit k = (s.committed k).cycleEnded k (s.cls k).cycle := by
  have hcommitted : (s.committed k).get PAR.STATUS.STATE = 5 := (State.pairStatus_aside.committed s k).trans hout
  rw [State.commit_eq]
  generalize s.committed k = t at hcommitted ⊢
  exact State.commitTold_out ((State.pairState_cycleEnded t k _).trans hcommitted) _ _

theorem State.cycleEnded_ends (s : State) (k cycle : Nat) : (s.cycleEnded k cycle).phase k = 0 ∧
    ((s.cycleEnded k cycle).cls k).pend = [] ∧ ((s.cycleEnded k cycle).cls k).lastCommit = some cycle := by
  have hcls : (s.cycleEnded k cycle).cls k = { s.cls k with pend := [], lastCommit := some cycle } := Sparse.get_put_self _ _ _ _
  exact ⟨State.get_set_self _ _ _, hcls ▸ rfl, hcls ▸ rfl⟩

theorem State.outputCommit_commits (hphase : s.phase k = 3) (hhalt : s.vot.halted = false) (hmot : k = 0 → s.motBusy = false)
    (hmode : s.get VOT.STATUS.MODE ≠ 2) : s.outputCommit k = s.commit k := by
  have hready : ¬(s.phase k ≠ 3 || s.vot.halted || (k == 0 && s.motBusy)) = true := by
    by_cases hk : k = 0
    · simp [hhalt, hk, hmot hk, hk ▸ hphase]
    · simp [hphase, hhalt, hk]
  exact (if_neg hready).trans (if_neg hmode)

theorem State.outputCommit_split (hphase : s.phase k = 3) (hhalt : s.vot.halted = false) (hmot : k = 0 → s.motBusy = false)
    (hmode : s.get VOT.STATUS.MODE = 2) :
    s.outputCommit k = (s.setCls k { s.cls k with pend := [] }).set (CYC.CLASS_STATUS.PHASE k) 0 := by
  have hready : ¬(s.phase k ≠ 3 || s.vot.halted || (k == 0 && s.motBusy)) = true := by
    by_cases hk : k = 0
    · simp [hhalt, hk, hmot hk, hk ▸ hphase]
    · simp [hphase, hhalt, hk]
  exact (if_neg hready).trans (if_pos hmode)

/-! ## The STOP of an overrun (R146) -/

theorem State.stopDue_abandonCycles (s : State) : s.abandonCycles.cyc.stopDue = s.cyc.stopDue := by
  unfold State.abandonCycles
  refine State.foldl_keeps (·.cyc.stopDue) (fun t k => ?_) _ s
  dsimp only
  have hloops := State.aside_cyc.loopAbandon (t.setCls k { t.cls k with abandoned := true, pend := [] }) k
  generalize State.loopAbandon _ _ = u at hloops ⊢
  have hdue : u.cyc.stopDue = t.cyc.stopDue := by
    rw [hloops]
    rfl
  split
  · rfl
  · split <;> exact hdue

/-- The registers that tell of a STOP. -/
def State.stopTold (s : State) (cause : Nat) : State := ((s.set SYS.STATUS.RUN 0).set SYS.STATUS.STOP_CAUSE cause).post 41 (16 * cause)

theorem State.setRun_stop (hrun : s.inRun = true) (cause : Nat) :
    s.setRun false cause = (((s.fioStop.clpStop.abandonCycles.stopTold cause).loopStop).motStop).clRefresh := by
  have hcall : ¬s.inRun = false := by simp [hrun]
  exact (if_neg hcall).trans (if_neg Bool.false_ne_true)

theorem State.stopTold_tells (s : State) (cause : Nat) : (s.stopTold cause).get SYS.STATUS.RUN = 0 ∧
    (s.stopTold cause).get SYS.STATUS.STOP_CAUSE = cause % 2 ^ 4 :=
  ⟨(State.get_set_ne _ _ (by decide)).trans (State.get_set_self _ _ _), State.get_set_self _ _ _⟩

/-- After the STOP is told, the engines keep every part that they stand beside. -/
theorem State.Aside.stopped {α : Type} {part : State → α} (h : State.Aside part) (t : State) :
    part ((t.loopStop).motStop).clRefresh = part t :=
  (h.clRefresh _).trans ((h.motStop _).trans (h.setLoopQueue t []))

theorem State.setRun_stops (hrun : s.inRun = true) (cause : Nat) :
    (s.setRun false cause).inRun = false ∧ (s.setRun false cause).get SYS.STATUS.STOP_CAUSE = cause % 2 ^ 4 ∧
      (s.setRun false cause).cyc.stopDue = s.cyc.stopDue := by
  have hbefore : s.fioStop.clpStop.abandonCycles.cyc.stopDue = s.cyc.stopDue :=
    (State.stopDue_abandonCycles _).trans (congrArg Cyc.stopDue ((State.aside_cyc.clpStop _).trans (State.aside_cyc.fioStop s)))
  rw [State.setRun_stop hrun]
  generalize s.fioStop.clpStop.abandonCycles = u at hbefore ⊢
  obtain ⟨hstop, hcause⟩ := u.stopTold_tells cause
  have hcyc : (u.stopTold cause).cyc = u.cyc := rfl
  generalize u.stopTold cause = t at hstop hcause hcyc ⊢
  have hkept := ((State.aside_get (g := SYS.STATUS.RUN) (by decide) (by decide)).stopped t).trans hstop
  refine ⟨?_, ((State.aside_get (g := SYS.STATUS.STOP_CAUSE) (by decide) (by decide)).stopped t).trans hcause, ?_⟩
  · unfold State.inRun State.bit
    rw [hkept]
    rfl
  · rw [State.aside_cyc.stopped t, hcyc, hbefore]

theorem State.overrunStop_stops {b : Nat} (hdue : s.cyc.stopDue = some b) (hcycle : b ≤ s.cycle) (hrun : s.inRun = true) :
    s.overrunStop.inRun = false ∧ s.overrunStop.get SYS.STATUS.STOP_CAUSE = 2 ∧ s.overrunStop.cyc.stopDue = none := by
  have hstop : s.overrunStop = State.setRun { s with cyc := { s.cyc with stopDue := none } } false 2 := by
    unfold State.overrunStop
    rw [hdue]
    exact if_neg (Nat.not_lt.2 hcycle)
  rw [hstop]
  exact State.setRun_stops (s := { s with cyc := { s.cyc with stopDue := none } }) hrun 2

end Ends

section QuietBoundary

variable {s t : State}

/-! ## A boundary of a unit that is OUT and in STOP, with nothing waiting for it (R134) -/

/-- The registers that a boundary asks before it acts. -/
def boundaryFields : List Fld := [PAR.STATUS.STATE, SYS.STATUS.RUN, PWR.D_STATUS.STATE 5, FIO.CTRL.ENABLE, CLP.CTRL.ENABLE] ++
  ((List.range 8).map CYC.CLASS_CFG.ENABLE ++ (List.range 8).map CYC.CLASS_STATUS.PHASE)

/-- A unit that is OUT and in STOP, with no class enabled and nothing waiting for a boundary. -/
structure State.Quiet (s : State) : Prop where
  out : s.pairState = 5
  stop : s.inRun = false
  disabled : ∀ k < 8, s.get (CYC.CLASS_CFG.ENABLE k) = 0
  idle : ∀ k < 8, s.get (CYC.CLASS_STATUS.PHASE k) = 0
  fioDown : s.domOn 5 = false
  fio : s.get FIO.CTRL.ENABLE = 0
  clp : s.get CLP.CTRL.ENABLE = 0
  stopDue : s.cyc.stopDue = none
  cmd : s.cyc.cmd = none
  announced : s.cyc.announced = []
  waits : s.cyc.waits = []
  auto : s.cyc.auto = false
  forces : s.cyc.forces = []
  timCmd : s.tim.cmd = none
  timPend : s.tim.pend = none
  timFollow : s.tim.follow = []
  crs : s.crs = {}
  fer : s.fer = {}
  par : s.par = {}
  waiting : s.rst.waiting = none
  held : s.rst.held = none
  activate : s.upd.activate = none

namespace State.Quiet

/-- Registers that no boundary asks, the count of boundaries and the plant time of the last one are free. -/
theorem of_same (h : s.Quiet) (hget : ∀ g ∈ boundaryFields, t.get g = s.get g)
    (hcyc : t.cyc = { s.cyc with boundary := t.cyc.boundary }) (htim : t.tim = { s.tim with bpt := t.tim.bpt }) (hcrs : t.crs = s.crs)
    (hfer : t.fer = s.fer) (hpar : t.par = s.par) (hrst : t.rst = s.rst) (hupd : t.upd = s.upd) : t.Quiet where
  out := (hget _ (by decide)).trans h.out
  stop := (State.bit_congr _ _ (hget _ (by decide))).trans h.stop
  disabled k hk := (hget _ (List.mem_append_right _ (List.mem_append_left _ (List.mem_map_of_mem (List.mem_range.2 hk))))).trans (h.disabled k hk)
  idle k hk := (hget _ (List.mem_append_right _ (List.mem_append_right _ (List.mem_map_of_mem (List.mem_range.2 hk))))).trans (h.idle k hk)
  fioDown := (congrArg (· == 0) (State.domState_congr (hget _ (by decide)))).trans h.fioDown
  fio := (hget _ (by decide)).trans h.fio
  clp := (hget _ (by decide)).trans h.clp
  stopDue := hcyc ▸ h.stopDue
  cmd := hcyc ▸ h.cmd
  announced := hcyc ▸ h.announced
  waits := hcyc ▸ h.waits
  auto := hcyc ▸ h.auto
  forces := hcyc ▸ h.forces
  timCmd := htim ▸ h.timCmd
  timPend := htim ▸ h.timPend
  timFollow := htim ▸ h.timFollow
  crs := hcrs.trans h.crs
  fer := hfer.trans h.fer
  par := hpar.trans h.par
  waiting := hrst ▸ h.waiting
  held := hrst ▸ h.held
  activate := hupd ▸ h.activate

theorem set (h : s.Quiet) {f : Fld} (hf : ∀ g ∈ boundaryFields, g.id ≠ f.id) (v : Nat) : (s.set f v).Quiet :=
  h.of_same (fun g hg => s.get_set_ne v (hf g hg)) rfl rfl rfl rfl rfl rfl rfl

theorem notDriving (h : s.Quiet) : s.isDriving = false := by simp [State.isDriving, h.out]

theorem notTrail (h : s.Quiet) : s.isTrail = false := by simp [State.isTrail, h.out]

/-! ### What changes: the count, the plant time, the relays -/

theorem countBoundary (h : s.Quiet) : s.countBoundary.Quiet := by
  have hcount : State.Quiet { s with cyc := { s.cyc with boundary := s.cyc.boundary + s.p0 } } :=
    h.of_same (fun _ _ => rfl) rfl rfl rfl rfl rfl rfl rfl
  exact (hcount.set (by decide) _).set (by decide) _

theorem timBoundary_eq (h : s.Quiet) : s.timBoundary = { s with tim := { s.tim with bpt := s.plant } } := by
  have hfind : s.tim.follow.find? (fun f => f.due == s.cycle) = none := by
    rw [h.timFollow]
    rfl
  have hkeep : s.tim.follow.filter (fun f => decide (s.cycle < f.due)) = s.tim.follow := by
    rw [h.timFollow]
    rfl
  generalize htold : ({ s with tim := { s.tim with bpt := s.plant } } : State) = told
  unfold State.timBoundary
  rw [h.timPend]
  dsimp only
  rw [h.timCmd]
  dsimp only
  rw [hfind]
  dsimp only
  rw [hkeep]
  exact htold

theorem timBoundary (h : s.Quiet) : s.timBoundary.Quiet := by
  rw [h.timBoundary_eq]
  exact h.of_same (fun _ _ => rfl) rfl rfl rfl rfl rfl rfl rfl

/-- What the relays of the crossings leave: registers alone are written, and none that a boundary asks. -/
theorem relayBoundary (h : s.Quiet) : s.relayBoundary.Quiet ∧ s.relayBoundary.cyc = s.cyc ∧ s.relayBoundary.cycle = s.cycle := by
  have hrelay : ∀ c < 4, (∀ g ∈ boundaryFields, g.id ≠ (FLD.CROSS_STATUS.RELAY c).id) ∧
      CYC.CYCLE_LO.NUMBER.id ≠ (FLD.CROSS_STATUS.RELAY c).id ∧ CYC.CYCLE_HI.NUMBER.id ≠ (FLD.CROSS_STATUS.RELAY c).id := by decide
  unfold State.relayBoundary
  refine List.foldlRecOn (motive := fun t : State => t.Quiet ∧ t.cyc = s.cyc ∧ t.cycle = s.cycle) _ _ ⟨h, rfl, rfl⟩
    fun t ht c hc => ?_
  obtain ⟨hfields, hlo, hhi⟩ := hrelay c (List.mem_range.1 hc)
  obtain ⟨hquiet, hcyc, hcycle⟩ := ht
  split
  · exact ⟨hquiet, hcyc, hcycle⟩
  · unfold State.setRelay
    split
    · exact ⟨hquiet, hcyc, hcycle⟩
    · refine ⟨?_, hcyc, ?_⟩
      · exact (hquiet.set hfields (b2n false)).of_same (fun _ _ => rfl) rfl rfl rfl rfl rfl rfl rfl
      · have hsame : (t.setB (FLD.CROSS_STATUS.RELAY c) false).cycle = t.cycle :=
          congrArg₂ (fun lo hi => lo + hi * 2 ^ 32) (State.get_set_ne _ _ hlo) (State.get_set_ne _ _ hhi)
        exact hsame.trans hcycle

/-! ### What changes nothing -/

theorem finishCommits (h : s.Quiet) : s.finishCommits = s := by
  have hidle : s.phase 0 = 0 := h.idle 0 (by decide)
  have hmot : ¬(s.phase 0 = 3 ∧ s.motBusy) := by simp [hidle]
  unfold State.finishCommits
  dsimp only
  rw [if_neg hmot]
  refine List.foldlRecOn (motive := fun t => t = s) _ _ rfl fun t ht k hk => ?_
  have hk : s.phase k = 0 := h.idle k (List.mem_range.1 hk)
  rw [ht]
  exact if_pos (by simp [hk])

theorem canBoundary (h : s.Quiet) : s.canBoundary = s := if_pos (by simp [h.fioDown])

theorem crossBoundary (h : s.Quiet) : s.crossBoundary = s.relayBoundary := by
  have hcrs : ({ s.crs with updates := [] } : Cross) = s.crs := by rw [h.crs]
  have hsame : ({ s with crs := { s.crs with updates := [] } } : State) = s := by rw [hcrs]
  have hnone : s.crs.updates = [] := by rw [h.crs]
  unfold State.crossBoundary
  dsimp only
  rw [hsame, hnone]
  rfl

theorem waitingReset (h : s.Quiet) : s.waitingReset = s := by
  unfold State.waitingReset
  rw [h.waiting]

theorem activationBoundary (h : s.Quiet) : s.activationBoundary = s := by
  unfold State.activationBoundary
  rw [h.activate]

theorem pairBoundary (h : s.Quiet) : s.pairBoundary = s := by
  have hskips : ({ s.par with skipsDue := false } : Par) = s.par := by rw [h.par]
  have hhand : s.handoverBoundary = s := by
    unfold State.handoverBoundary
    rw [h.par]
  have hin : s.handInBoundary = s := by
    unfold State.handInBoundary
    rw [h.par]
  have hskip : s.takeoverSkips = s := by
    unfold State.takeoverSkips
    dsimp only
    rw [hskips]
    exact if_pos (by simp [h.stop])
  have hlatch : s.latchBoundary = s := by
    unfold State.latchBoundary
    rw [h.par]
  unfold State.pairBoundary
  dsimp only
  rw [hhand, hin, if_neg (show ¬(s.isTrail && s.isDriving) = true by simp [h.notDriving]), hskip,
    if_neg (show ¬(s.par.takeoverDue && s.isDriving) = true by simp [h.notDriving]), hlatch]

theorem overrunStop (h : s.Quiet) : s.overrunStop = s := by
  unfold State.overrunStop
  rw [h.stopDue]

theorem cmdBoundary (h : s.Quiet) : s.cmdBoundary = s := by
  have hann : ({ s.cyc with announced := [] } : Cyc) = s.cyc := by rw [← h.announced]
  unfold State.cmdBoundary
  dsimp only
  rw [hann, h.announced]
  dsimp only [List.foldl_nil]
  rw [h.cmd]

theorem autostart (h : s.Quiet) : s.autostart = s := if_pos (by simp [h.auto])

theorem controlBoundary (h : s.Quiet) : s.controlBoundary = s := by
  unfold State.controlBoundary State.putFollow
  dsimp only
  rw [h.par]
  show { s with par := {} } = s
  rw [← h.par]

theorem forceBoundary (h : s.Quiet) : s.forceBoundary = s := by
  have hwaits : ({ s.cyc with waits := [] } : Cyc) = s.cyc := by rw [← h.waits]
  unfold State.forceBoundary
  dsimp only
  rw [hwaits, h.waits]
  simp [h.out, State.streams]

theorem leadCross (h : s.Quiet) : s.leadCross = s := by
  unfold State.leadCross
  rw [h.par]

theorem crossBudget (h : s.Quiet) : s.crossBudget = s := by
  unfold State.crossBudget
  rw [h.fer]

theorem crossTry (h : s.Quiet) : s.crossTry = s := by
  unfold State.crossTry
  rw [h.fer]

theorem boundaryRelease (h : s.Quiet) : s.boundaryRelease = s := by
  have hdue : (List.range 8).filter (s.classDue s.cycle) = [] := by
    rw [List.filter_eq_nil_iff]
    intro k hk
    simp [State.classDue, State.bit, h.disabled k (List.mem_range.1 hk)]
  have hland : s.landLocal = s := by
    unfold State.landLocal
    simp [State.bit, h.fio, h.clp]
  have hforce : s.forceInto critical = s := by
    unfold State.forceInto
    rw [h.forces]
    rfl
  have hcuts : s.cuts [] = s := by
    unfold State.cuts
    dsimp only [List.foldl_nil]
    rw [hland, hforce]
  unfold State.boundaryRelease
  rw [if_pos (by simp [h.stop])]
  unfold State.stopCuts
  dsimp only
  rw [hdue, if_neg (by simp [h.out])]
  exact (congrArg State.launchDue hcuts).trans (if_pos (by simp [h.notDriving]))

theorem followCuts (h : s.Quiet) : s.followCuts = s := if_neg (by simp [h.out, h.notDriving])

theorem lagBoundary (h : s.Quiet) : s.lagBoundary = s := if_neg (by simp [h.out])

/-- The whole of a boundary: its count, the plant time, the relays. -/
theorem baseBoundary (h : s.Quiet) (hdue : s.cyc.boundary + s.p0 ≤ s.now) :
    s.baseBoundary = s.countBoundary.timBoundary.relayBoundary := by
  have htim := h.countBoundary.timBoundary
  have hend := htim.relayBoundary.1
  unfold State.baseBoundary
  rw [if_neg (Nat.not_lt.2 hdue)]
  dsimp only
  rw [h.finishCommits, if_neg (show ¬s.isDriving = true by simp [h.notDriving]), htim.canBoundary, htim.crossBoundary, hend.waitingReset, hend.activationBoundary]
  rw [if_neg (by simp [hend.held]), hend.pairBoundary, hend.overrunStop, hend.cmdBoundary, hend.autostart, hend.controlBoundary,
    hend.forceBoundary, hend.leadCross, hend.crossBudget, hend.crossTry, hend.boundaryRelease, hend.followCuts, hend.lagBoundary]

theorem cycle_countBoundary (s : State) : s.countBoundary.cycle = (s.cycle + 1) % 2 ^ 64 := by
  unfold State.countBoundary
  generalize s.cycle + 1 = n
  unfold State.cycle
  rw [State.get2_set2 _ _ (by decide)]
  rfl

/-- The plant time kept for the boundary is no part of the count. -/
theorem count_keeps (s : State) (p : Tim) :
    State.cycle { s with tim := p } = s.cycle ∧ ({ s with tim := p } : State).cyc.boundary = s.cyc.boundary := ⟨rfl, rfl⟩

theorem baseBoundary_counts (h : s.Quiet) (hdue : s.cyc.boundary + s.p0 ≤ s.now) :
    s.baseBoundary.cycle = (s.cycle + 1) % 2 ^ 64 ∧ s.baseBoundary.cyc.boundary = s.cyc.boundary + s.p0 := by
  have hboundary : s.countBoundary.cyc.boundary = s.cyc.boundary + s.p0 := rfl
  obtain ⟨-, hcyc, hcycle⟩ := h.countBoundary.timBoundary.relayBoundary
  rw [h.baseBoundary hdue, hcycle, hcyc, h.countBoundary.timBoundary_eq]
  obtain ⟨hsame, hplace⟩ := count_keeps s.countBoundary { s.countBoundary.tim with bpt := s.countBoundary.plant }
  exact ⟨hsame.trans (cycle_countBoundary s), hplace.trans hboundary⟩

end State.Quiet

end QuietBoundary

/-- Settles O24: KEND, output commit, the STOP of an overrun and the base-cycle boundary. -/
theorem cycleEnds : Obligations.CycleEnds := by
  unfold Obligations.CycleEnds
  refine ⟨fun s k rs1 n hvote hcores hrun hm hclass hreg => ⟨fun hkept => ?_, fun hgone => ?_⟩,
    fun s k rs1 hvote hcores hrun hm => ?_, fun s k hphase hhalt hmot => ⟨fun hmode => ?_, fun hmode => ?_⟩,
    fun s b hdue hcycle hrun => ?_, fun s t => ⟨fun hearly => ?_, fun hdue ht hheld => ?_⟩, ?_⟩
  · obtain ⟨hvot, hphase, hlast⟩ := State.endClass_committing hkept
    have hkend := State.kend_ends hvote hcores hrun hm hclass hreg hvot (by rw [hphase]; decide)
    exact ⟨s.kended n, State.done_eq hkend, hphase, hlast, State.cores_kended hcores hvot⟩
  · obtain ⟨hvot, hphase, hpend⟩ := State.endClass_abandoned hgone
    have hkend := State.kend_ends hvote hcores hrun hm hclass hreg hvot (by rw [hphase]; decide)
    exact ⟨s.kended n, State.done_eq hkend, hphase, hpend, State.cores_kended hcores hvot⟩
  · obtain ⟨x, hkend, htrap⟩ := State.kend_traps (rs1 := rs1) hvote hcores hrun hm
    exact ⟨x, State.done_eq hkend, htrap⟩
  · refine ⟨State.done_eq (State.outputCommit_commits hphase hhalt hmot hmode), fun hout _ => ?_⟩
    rw [State.commit_out hout]
    exact State.cycleEnded_ends _ _ _
  · exact State.done_eq (State.outputCommit_split hphase hhalt hmot hmode)
  · obtain ⟨hstop, hcause, hnone⟩ := State.overrunStop_stops hdue hcycle hrun
    exact ⟨s.overrunStop, rfl, hstop, hcause, hnone⟩
  · exact State.done_eq (if_pos hearly)
  · refine State.done_eq ((if_neg (Nat.not_lt.2 hdue)).trans ?_)
    dsimp only
    rw [ht]
    exact if_neg (by simp [hheld])
  · intro s hdue hout hstop hdisabled hidle hstopDue hcmd hann hwaits hauto htimCmd htimPend htimFollow _ hcrs hfer hpar hwaiting hheld
      hact hfioDown hfio hclp hforces
    have hquiet : s.Quiet := ⟨hout, hstop, hdisabled, hidle, hfioDown, hfio, hclp, hstopDue, hcmd, hann, hwaits, hauto, hforces, htimCmd,
      htimPend, htimFollow, hcrs, hfer, hpar, hwaiting, hheld, hact⟩
    exact ⟨s.baseBoundary, rfl, hquiet.baseBoundary_counts hdue⟩

end Sys2Proof.Machine

end

/-! PROOFS. Frames of the crossings: stations and epochs (spec/06 R187, R192 to R194, R203, R210; spec/11 R340, R368). -/

section

namespace Sys2Proof.Machine

section Frames

variable {s : State} {c : Fin 4} {f : List Nat} {kind : Nat} {void : Bool}

/-! ## Reception (R187) -/

/-- The frame sent on to a partner whose bank does not reach the station (R210). -/
def State.relayedUp (s : State) (c : Nat) (f : List Nat) : State :=
  if s.bit (FLD.CROSS_STATUS.RELAY c) && s.cutOff (ucpSource f) then s.ransel 0x30 ([c, 0, 0, 0] ++ f) else s

/-- A frame in order is taken by its kind. -/
theorem State.crossFrame_good (h : s.frameGood c f kind = true) : f.getD 15 0 = kind ∧ s.crossFrame c true void f =
    (if f.getD 15 0 == 2 && s.bit (FLD.CROSS_STATUS.RELAY c) && s.cutOff (ucpSource f) then s.ransel 0x30 ([c.val, 0, 0, 0] ++ f)
      else s).ucpFrame c void f := by
  unfold State.frameGood at h
  simp only [Bool.and_eq_true, bne_iff_ne, ne_eq, beq_iff_eq, decide_eq_true_eq] at h
  obtain ⟨⟨⟨⟨⟨⟨⟨hon, hlease⟩, htype⟩, hshort⟩, hlong⟩, hheader⟩, hblocks⟩, hkind⟩ := h
  refine ⟨hkind, ?_⟩
  unfold State.crossFrame
  dsimp only
  rw [if_neg (by simp [hon, hlease]), if_neg (by simp), if_neg (by simp only [htype]; simp; omega), if_neg (by simp [hheader, hblocks])]

theorem State.crossFrame_up (h : s.frameGood c f 2 = true) : s.crossFrame c true void f = (s.relayedUp c f).upFrame c void f := by
  obtain ⟨hkind, hframe⟩ := State.crossFrame_good (void := void) h
  rw [hframe, hkind]
  unfold State.ucpFrame
  rw [hkind]
  rfl

theorem State.crossFrame_down (h : s.frameGood c f 1 = true) : s.crossFrame c true void f = s.downFrame c f := by
  obtain ⟨hkind, hframe⟩ := State.crossFrame_good (void := void) h
  rw [hframe, hkind]
  unfold State.ucpFrame
  rw [hkind]
  rfl

theorem State.crossFrame_badFcs (hon : s.crossOn c = true) (hlease : beAt f 12 2 ≠ 0x88F7) : s.crossFrame c false void f =
    s.frameBad c 0 (FLD.CROSS_FCS_ERRORS.COUNT c) (if ucpSource f < 0x800 then some (ucpSource f) else none) :=
  (if_neg (by simp [hon, hlease])).trans (if_pos rfl)

end Frames

section Stations

variable {s t u : State} {c : Nat} {f : List Nat} {void : Bool} {e e' : Station}

/-! ## UP frames of a station (R192 to R194, R203, R204) -/

theorem State.upFrame_unknown (h : s.station (ucpSource f) = none) :
    s.upFrame c void f = s.frameBad c 2 (FLD.CROSS_DISCARDS.COUNT c) none := by
  unfold State.upFrame
  dsimp only
  rw [h]

theorem State.upFrame_elsewhere (h : s.station (ucpSource f) = some e) (hcross : ucpSource f / 512 ≠ c) :
    s.upFrame c void f = s.frameBad c 2 (FLD.CROSS_DISCARDS.COUNT c) none := by
  unfold State.upFrame
  dsimp only
  rw [h]
  exact if_pos hcross

section Heard

variable (h : s.station (ucpSource f) = some e) (hcross : ucpSource f / 512 = c)
  (hheard : (if slowPort ((ucpBody f).getD 1 0) then (s.heard c (ucpSource f) e f).slowDown c else s.heard c (ucpSource f) e f) = t)
  (hst : t.station (ucpSource f) = some e')

include h hcross hheard hst

theorem State.upFrame_otherMac (hdevice : e'.device ≠ 0) (hsome : e'.mac.isSome = true) (hmac : e'.mac ≠ some (ucpMac f))
    (hstate : e'.st ≠ 4 ∨ e'.code = 2) : s.upFrame c void f = t.otherMac (ucpSource f) := by
  unfold State.upFrame
  dsimp only
  rw [h]
  dsimp only
  rw [if_neg (not_not_intro hcross), hheard, hst]
  exact if_pos ⟨hdevice, hsome, hmac, hstate⟩

theorem State.upFrame_checked (hmac : e'.device = 0 ∨ e'.mac = none ∨ e'.mac = some (ucpMac f)) (hstate : e'.st ≠ 4) :
    s.upFrame c void f = t.checkUp (ucpSource f) e' void f := by
  have hsame : ¬(e'.device ≠ 0 ∧ e'.mac.isSome ∧ e'.mac ≠ some (ucpMac f) ∧ (e'.st ≠ 4 ∨ e'.code = 2)) := by
    rintro ⟨hdevice, hsome, hother, -⟩
    rcases hmac with hmac | hmac | hmac
    · exact hdevice hmac
    · simp [hmac] at hsome
    · exact hother hmac
  unfold State.upFrame
  dsimp only
  rw [h]
  dsimp only
  rw [if_neg (not_not_intro hcross), hheard, hst]
  dsimp only
  rw [if_neg hsame, if_neg fun hbad => hstate hbad.1]

end Heard

/-! ### The checks, in their order (R194) -/

section Checks

variable {node : Nat} (hstate : e.st ≠ 4)

include hstate

theorem State.checkUp_length (hlen : ucpLength f ≠ e.upBytes) : s.checkUp node e void f = s.mismatch node 0 := by
  unfold State.checkUp
  dsimp only
  rw [if_pos hlen, if_neg hstate]

omit hstate in
theorem State.checkUp_pairs (hlen : ucpLength f = e.upBytes) (hpairs : (upValues e (ucpBody f)).1 = false) :
    s.checkUp node e void f = s.frameBad (node / 512) 1 (FLD.CROSS_PAIR_ERRORS.COUNT (node / 512)) (some node) := by
  unfold State.checkUp
  dsimp only
  rw [if_neg (not_not_intro hlen)]
  exact if_pos (by simp [hpairs])

theorem State.checkUp_config (hlen : ucpLength f = e.upBytes) (hpairs : (upValues e (ucpBody f)).1 = true)
    (hcrc : beAt (ucpBody f) 12 4 ≠ e.crc) : s.checkUp node e void f = s.mismatch node 1 := by
  unfold State.checkUp
  dsimp only
  rw [if_neg (not_not_intro hlen), if_neg (show ¬(!(upValues e (ucpBody f)).1) = true by simp [hpairs]), if_pos hcrc, if_neg hstate]

theorem State.checkUp_passes (hlen : ucpLength f = e.upBytes) (hpairs : (upValues e (ucpBody f)).1 = true)
    (hcrc : beAt (ucpBody f) 12 4 = e.crc) : s.checkUp node e void f =
      if void then (s.bump PIM.VERSION_ECC.COUNT).post 65 node else s.land node f (upValues e (ucpBody f)).2 := by
  unfold State.checkUp
  dsimp only
  rw [if_neg (not_not_intro hlen), if_neg (show ¬(!(upValues e (ucpBody f)).1) = true by simp [hpairs]),
    if_neg (not_not_intro hcrc), if_neg hstate]

end Checks

/-! ## DOWN frames (R340, R368) -/

theorem State.epoch_seeEpoch (s : State) {n : Nat} (hn : n < 2 ^ 32) :
    (s.seeEpoch n).get PAR.EPOCH.EPOCH = max (s.get PAR.EPOCH.EPOCH) n := by
  unfold State.seeEpoch
  split
  case isTrue hlt => rw [State.get_set_self, Nat.max_eq_right hlt.le]; exact Nat.mod_eq_of_lt hn
  case isFalse hge => exact (Nat.max_eq_left (Nat.not_lt.1 hge)).symm

theorem State.epoch_untether (s : State) (reason : Nat) : (s.untether reason).get PAR.EPOCH.EPOCH = s.get PAR.EPOCH.EPOCH := by
  unfold State.untether
  split
  · exact (State.setPairState_switched _ 4 reason).get _ (by decide)
  · rfl

theorem State.epoch_noteEvidence (s : State) : s.noteEvidence.get PAR.EPOCH.EPOCH = s.get PAR.EPOCH.EPOCH := by
  unfold State.noteEvidence
  dsimp only
  split
  · exact (State.epoch_untether _ 1).trans (State.get_closeRequest (by decide))
  · rfl

theorem State.epoch_downFrame (s : State) (c : Nat) (hepoch : ucpEpoch f < 2 ^ 32) :
    (s.downFrame c f).get PAR.EPOCH.EPOCH = max (s.get PAR.EPOCH.EPOCH) (ucpEpoch f) := by
  unfold State.downFrame
  dsimp only
  split
  · exact (State.epoch_noteEvidence _).trans (s.epoch_seeEpoch hepoch)
  · exact s.epoch_seeEpoch hepoch

end Stations

/-- Settles O29: the UP frames of a station, in the order of their checks, and the epoch of a DOWN frame. -/
theorem stationFrames : Obligations.StationFrames := by
  unfold Obligations.StationFrames
  refine ⟨⟨fun s s' c f e e' hgood hrelay hst hcross hheard hfast hst' hmac hadm hlen hpairs hcrc => ?_,
    fun s t u c void f e e' hgood hrelay => ?_, fun s c void f hon hlease => State.done_eq (State.crossFrame_badFcs hon hlease)⟩,
    fun s c f hgood hepoch => ⟨s.downFrame c f, State.done_eq (State.crossFrame_down hgood), s.epoch_downFrame c hepoch⟩⟩
  · have hsame : s.relayedUp c f = s := if_neg (by simp [hrelay])
    have hnot4 : e'.st ≠ 4 := by omega
    have hup := State.upFrame_checked (void := false) hst hcross ((if_neg (by rw [hfast]; decide)).trans hheard) hst' (.inr (.inr hmac)) hnot4
    refine State.done_eq ((State.crossFrame_up hgood).trans ?_)
    rw [hsame, hup, State.checkUp_passes hnot4 hlen hpairs hcrc]
    rfl
  · have hup := (State.crossFrame_up (void := void) hgood).trans (congrArg (·.upFrame c void f) hrelay)
    refine ⟨fun hst => State.done_eq (hup.trans (State.upFrame_unknown hst)),
      fun hst hcross => State.done_eq (hup.trans (State.upFrame_elsewhere hst hcross)), fun hst hcross hheard hst' => ⟨?_, ?_⟩⟩
    · exact fun hdevice hsome hmac hstate =>
        State.done_eq (hup.trans (State.upFrame_otherMac hst hcross hheard hst' hdevice hsome hmac hstate))
    · intro hmac hstate
      have hchecked := hup.trans (State.upFrame_checked hst hcross hheard hst' hmac hstate)
      refine ⟨fun hlen => State.done_eq (hchecked.trans (State.checkUp_length hstate hlen)), fun hlen hpairs => ?_,
        fun hlen hpairs hcrc => State.done_eq (hchecked.trans (State.checkUp_config hstate hlen hpairs hcrc)),
        fun hlen hpairs hcrc => State.done_eq (hchecked.trans (State.checkUp_passes hstate hlen hpairs hcrc))⟩
      have hbad := State.checkUp_pairs (s := u) (void := void) (node := ucpSource f) hlen hpairs
      rw [hcross] at hbad
      exact State.done_eq (hchecked.trans hbad)

end Sys2Proof.Machine

end

/-! PROOFS. Fast inputs, diagnoses, group supplies, the enable of FIO (spec/07 R222 to R232, R241, R250). -/

section

namespace Sys2Proof.Machine

section Inputs

variable {s : State} {n v : Nat}

theorem setBit_testBit (v i : Nat) : (setBit v i).testBit i = true := by
  unfold setBit
  split
  · assumption
  · next h => rw [Nat.add_comm, Nat.testBit_two_pow_add_eq, Bool.eq_false_of_not_eq_true h, Bool.not_false]

/-! ## Inputs (R222, R224, R225, R232) -/

theorem State.inputOn_low (htype : s.bit (FIO.CH_CFG.TYPE n) = false) : s.inputOn n v =
    (decide (1000 ≤ v) || (decide (900 < v) && s.bit (FIO.CH_STATUS.RAW n))) := by
  unfold State.inputOn
  rw [htype]
  simp only [Bool.false_eq_true, if_false]
  split
  next hon => simp [hon]
  next hon =>
    split
    next hoff => simp [hon, Nat.not_lt.2 hoff]
    next hoff => simp [hon, Nat.not_le.1 hoff]

theorem State.inputOn_high (htype : s.bit (FIO.CH_CFG.TYPE n) = true) : s.inputOn n v =
    (decide (800 ≤ v) || (decide (700 < v) && s.bit (FIO.CH_STATUS.RAW n))) := by
  unfold State.inputOn
  rw [htype]
  simp only [if_true]
  split
  next hon => simp [hon]
  next hon =>
    split
    next hoff => simp [hon, Nat.not_lt.2 hoff]
    next hoff => simp [hon, Nat.not_le.1 hoff]

theorem State.get_filterLook {g : Fld} (hg : g.id ≠ (FIO.CH_STATUS.STATE n).id) (t : Nat) : (s.filterLook n t).get g = s.get g := by
  unfold State.filterLook
  dsimp only
  split
  · rfl
  · exact State.get_setB_ne _ _ hg

/-- What a look at a terminal makes of its raw state. -/
theorem State.raw_sense (hon : s.domOn 5 = true) (held : Nat) : (s.sense n v held).bit (FIO.CH_STATUS.RAW n) = s.inputOn n v := by
  have hread : (FIO.CH_STATUS.RAW n).id ≠ (FIO.CH_STATUS.READBACK n).id := by
    simp [Fld.id, FIO.CH_STATUS.RAW, FIO.CH_STATUS.READBACK]
  have htype : (FIO.CH_CFG.TYPE n).id ≠ (FIO.CH_STATUS.READBACK n).id := by
    simp only [Fld.id, FIO.CH_CFG.TYPE, FIO.CH_STATUS.READBACK]; omega
  unfold State.sense
  rw [if_neg (by simp [hon])]
  extract_lets s1 level
  have hlevel : level = s.inputOn n v := by
    unfold level s1
    split
    · unfold State.inputOn
      rw [State.bit_set_ne _ _ htype, State.bit_set_ne _ _ hread]
    · rfl
  split
  next hraw => exact hraw.trans hlevel
  next => exact (State.bit_setB_self _ _ _ le_rfl).trans hlevel

theorem State.readback_sense (hon : s.domOn 5 = true) (hout : isOutput s n = true) (held : Nat) :
    (s.sense n v held).get (FIO.CH_STATUS.READBACK n) = s.band n v := by
  have hraw : (FIO.CH_STATUS.READBACK n).id ≠ (FIO.CH_STATUS.RAW n).id := by
    simp [Fld.id, FIO.CH_STATUS.RAW, FIO.CH_STATUS.READBACK]
  have hstate : (FIO.CH_STATUS.READBACK n).id ≠ (FIO.CH_STATUS.STATE n).id := by
    simp [Fld.id, FIO.CH_STATUS.STATE, FIO.CH_STATUS.READBACK]
  have hband : s.band n v % 2 ^ 2 = s.band n v := by
    unfold State.band
    split
    · rfl
    · split <;> rfl
  unfold State.sense
  rw [if_neg (by simp [hon]), hout]
  extract_lets s1
  have hset : s1.get (FIO.CH_STATUS.READBACK n) = s.band n v := (State.get_set_self _ _ _).trans hband
  split
  · exact hset
  · exact (State.get_setB_ne _ _ hraw).trans ((State.get_filterLook hstate _).trans hset)

theorem State.filterChange_follows (hon : s.domOn 5 = true) : (s.filterChange n v).bit (FIO.CH_STATUS.RAW n) = s.inputOn n v ∧
    (isOutput s n = true → (s.filterChange n v).get (FIO.CH_STATUS.READBACK n) = s.band n v) := by
  refine ⟨(State.bit_congr _ _ (State.get_filterLook ?_ _)).trans (State.raw_sense hon 0),
    fun hout => (State.get_filterLook ?_ _).trans (State.readback_sense hon hout 0)⟩
  · simp [Fld.id, FIO.CH_STATUS.RAW, FIO.CH_STATUS.STATE]
  · simp [Fld.id, FIO.CH_STATUS.READBACK, FIO.CH_STATUS.STATE]

/-- An input whose raw state stays is asked for its filter only. -/
theorem State.filterChange_stays (hon : s.domOn 5 = true) (hin : isOutput s n = false)
    (hraw : s.bit (FIO.CH_STATUS.RAW n) = s.inputOn n v) : s.filterChange n v = s.filterLook n s.now := by
  have hsame : s.sense n v 0 = s := by
    unfold State.sense
    rw [if_neg (by simp [hon]), hin]
    exact if_pos hraw
  unfold State.filterChange
  rw [hsame]

theorem State.filterLook_takes {t : Nat} (hon : s.domOn 5 = true) (hup : s.groupUp n = true)
    (hstate : s.bit (FIO.CH_STATUS.STATE n) = !s.bit (FIO.CH_STATUS.RAW n)) (hdone : s.filterDone n t = true) :
    s.filterLook n t = (s.setB (FIO.CH_STATUS.STATE n) (s.bit (FIO.CH_STATUS.RAW n))).noteEdge n false (s.bit (FIO.CH_STATUS.RAW n))
      (s.states false) :=
  if_neg (by simp [hon, hup, hstate, hdone])

theorem State.filterLook_waits {t : Nat} (h : s.bit (FIO.CH_STATUS.STATE n) = s.bit (FIO.CH_STATUS.RAW n) ∨ s.filterDone n t = false ∨
    s.groupUp n = false) : s.filterLook n t = s :=
  if_pos (by rcases h with h | h | h <;> simp [h])

theorem State.wireBreak_tells {b : Bool} (hon : s.domOn 5 = true) (hup : s.groupUp n = true) (hdir : s.get (FIO.CH_CFG.DIR n) = 0)
    (hwb : s.bit (FIO.CH_CFG.WB_ENABLE n) = true) (hold : s.bit (FIO.CH_STATUS.WIRE_BREAK n) = !b) :
    s.wireBreak n b = ((s.setB (FIO.CH_STATUS.WIRE_BREAK n) b).refreshValid n).post 81 (n + 256 * b2n b) :=
  if_neg (by simp [hon, hup, hdir, hwb, hold])

theorem State.refreshValid_told (s : State) (n : Nat) :
    (s.refreshValid n).bit (FIO.CH_STATUS.VALID n) = (s.groupUp n && s.fio.settled.testBit n && !s.bit (FIO.CH_STATUS.WIRE_BREAK n)) ∧
      (s.refreshValid n).bit (FIO.CH_STATUS.WIRE_BREAK n) = s.bit (FIO.CH_STATUS.WIRE_BREAK n) :=
  ⟨State.bit_setB_self _ _ _ le_rfl, State.bit_setB_ne _ _ (by simp [Fld.id, FIO.CH_STATUS.WIRE_BREAK, FIO.CH_STATUS.VALID])⟩

theorem State.groupUp_setB {f : Fld} (hf : (FIO.GROUP_STATUS.STATE (n / 8)).id ≠ f.id) (b : Bool) : (s.setB f b).groupUp n = s.groupUp n := by
  unfold State.groupUp State.groupState
  rw [State.get_setB_ne _ _ hf]

theorem State.filterSettled_settles (hon : s.domOn 5 = true) (hup : s.groupUp n = true)
    (hdue : Sparse.get s.fio.start s.fio.recovered (n / 8) + s.settleTicks n ≤ s.now) :
    s.filterSettled n = State.refreshValid { s with fio := { s.fio with settled := setBit s.fio.settled n } } n :=
  if_neg (by simp [hon, hup, hdue])

end Inputs

section Latches

variable {s : State} {n m : Nat}

/-! ## Diagnoses and releases (R229, R230) -/

theorem State.tellMirror_same (s : State) : s.tellMirror.rng = s.rng ∧ s.tellMirror.regs = s.regs := by
  unfold State.tellMirror
  split <;> exact ⟨rfl, rfl⟩

theorem State.get_tellMirror (s : State) (g : Fld) : s.tellMirror.get g = s.get g := by
  unfold State.get
  rw [s.tellMirror_same.2]

theorem State.get_told (s : State) (src data : Nat) (g : Fld) : (s.post src data).tellMirror.get g = s.get g :=
  State.get_tellMirror _ g

theorem State.bit_tellMirror (s : State) (g : Fld) : s.tellMirror.bit g = s.bit g := State.bit_congr _ _ (s.get_tellMirror g)

/-- The fields of a latch. -/
theorem State.get_latchOff (s : State) (n diag partner : Nat) : (s.latchOff n diag partner).bit (FIO.CH_STATUS.LATCHED_OFF n) = true ∧
    (s.latchOff n diag partner).get (FIO.CH_STATUS.DIAG n) = diag % 8 ∧
    (s.latchOff n diag partner).get (FIO.CH_STATUS.PARTNER n) = partner % 32 := by
  refine ⟨?_, ?_, State.get_set_self _ _ _⟩
  · refine (State.bit_set_ne _ _ ?_).trans ((State.bit_set_ne _ _ ?_).trans (State.bit_set_one _ _ le_rfl)) <;>
      simp [Fld.id, FIO.CH_STATUS.LATCHED_OFF, FIO.CH_STATUS.DIAG, FIO.CH_STATUS.PARTNER]
  · exact (State.get_set_ne _ _ (by simp [Fld.id, FIO.CH_STATUS.DIAG, FIO.CH_STATUS.PARTNER])).trans (State.get_set_self _ _ _)

theorem State.get_latchOff_ne (diag partner : Nat) {g : Fld} (hlatched : g.id ≠ (FIO.CH_STATUS.LATCHED_OFF n).id)
    (hdiag : g.id ≠ (FIO.CH_STATUS.DIAG n).id) (hpartner : g.id ≠ (FIO.CH_STATUS.PARTNER n).id) :
    (s.latchOff n diag partner).get g = s.get g :=
  (State.get_set_ne _ _ hpartner).trans ((State.get_set_ne _ _ hdiag).trans (State.get_set_ne _ _ hlatched))

/-- The fields that a release writes. -/
theorem State.get_release_eq (s : State) (n : Nat) (auto : Bool) (g : Fld) : (s.release n auto).get g =
    (((s.set (FIO.CH_STATUS.LATCHED_OFF n) 0).set (FIO.CH_STATUS.DIAG n) 0).set (FIO.CH_STATUS.PARTNER n) 0).get g := rfl

/-- The fields of a latch released. -/
theorem State.get_release (s : State) (n : Nat) (auto : Bool) : (s.release n auto).bit (FIO.CH_STATUS.LATCHED_OFF n) = false ∧
    (s.release n auto).get (FIO.CH_STATUS.DIAG n) = 0 := by
  refine ⟨(State.bit_congr _ _ (s.get_release_eq n auto _)).trans ?_, (s.get_release_eq n auto _).trans ?_⟩
  · refine (State.bit_set_ne _ _ ?_).trans ((State.bit_set_ne _ _ ?_).trans (State.bit_set_zero _ _)) <;>
      simp [Fld.id, FIO.CH_STATUS.LATCHED_OFF, FIO.CH_STATUS.DIAG, FIO.CH_STATUS.PARTNER]
  · refine (State.get_set_ne _ _ ?_).trans ((State.get_set_self _ _ _).trans (Nat.zero_mod _))
    simp [Fld.id, FIO.CH_STATUS.DIAG, FIO.CH_STATUS.PARTNER]

theorem State.get_release_ne (auto : Bool) {g : Fld} (hlatched : g.id ≠ (FIO.CH_STATUS.LATCHED_OFF n).id)
    (hdiag : g.id ≠ (FIO.CH_STATUS.DIAG n).id) (hpartner : g.id ≠ (FIO.CH_STATUS.PARTNER n).id) :
    (s.release n auto).get g = s.get g :=
  (s.get_release_eq n auto g).trans
    ((State.get_set_ne _ _ hpartner).trans ((State.get_set_ne _ _ hdiag).trans (State.get_set_ne _ _ hlatched)))

theorem State.evq_release (s : State) (n : Nat) (auto : Bool) (hn : n < 32) :
    (s.release n auto).rng.evq = s.rng.evq ++ [⟨87, n + 256 * b2n auto, true⟩] := by
  have hb : b2n auto ≤ 1 := by cases auto <;> decide
  have hfits : (n + 256 * b2n auto) % 2 ^ 32 = n + 256 * b2n auto := Nat.mod_eq_of_lt (by omega)
  show s.rng.evq ++ [⟨87, (n + 256 * b2n auto) % 2 ^ 32, true⟩] = _
  rw [hfits]

theorem State.paired_suspect {sus : Nat} (h : s.paired n sus = some m) : m < 32 ∧ m ≠ n ∧ sus.testBit n = true ∧ sus.testBit m = true ∧
    s.pushPull n = true ∧ s.pushPull m = true ∧ s.command m = !s.command n ∧
    ∀ b < m, b ≠ n → sus.testBit b = true → s.pushPull b = true → s.command b = s.command n := by
  unfold State.paired at h
  split at h
  · exact absurd h (by simp)
  case isFalse hself =>
    simp only [Bool.or_eq_true, Bool.not_eq_true', not_or, Bool.not_eq_false] at hself
    obtain ⟨hsus, hpush⟩ := hself
    obtain ⟨hfound, hmem, hlower⟩ := List.find?_range_eq_some.1 h
    simp only [Bool.and_eq_true, bne_iff_ne, ne_eq] at hfound
    obtain ⟨⟨⟨hne, hsusm⟩, hpushm⟩, hcmd⟩ := hfound
    refine ⟨List.mem_range.1 hmem, hne, hsus, hsusm, hpush, hpushm, Bool.eq_not.2 hcmd, fun b hb hbn hbs hbp => ?_⟩
    simpa [hbn, hbs, hbp] using hlower b hb

theorem State.contention_latches (s : State) {sus : Nat} (h : s.paired n sus = some m) (hn : n < 32) :
    (s.contention n sus).bit (FIO.CH_STATUS.LATCHED_OFF n) = true ∧ (s.contention n sus).bit (FIO.CH_STATUS.LATCHED_OFF m) = true ∧
      (s.contention n sus).get (FIO.CH_STATUS.DIAG n) = 3 ∧ (s.contention n sus).get (FIO.CH_STATUS.DIAG m) = 3 ∧
      (s.contention n sus).get (FIO.CH_STATUS.PARTNER n) = m ∧ (s.contention n sus).get (FIO.CH_STATUS.PARTNER m) = n := by
  obtain ⟨hm, hne, _⟩ := State.paired_suspect h
  unfold State.contention
  rw [h]
  dsimp only
  have hkeep (g : Fld) (hself : g.id ≠ (FIO.CH_STATUS.READBACK n).id) (hother : g.id ≠ (FIO.CH_STATUS.READBACK m).id) (t : State) (d : Nat) :
      ((((t.set (FIO.CH_STATUS.READBACK n) 1).set (FIO.CH_STATUS.READBACK m) 1).post 80 d).tellMirror).get g = t.get g :=
    (State.get_told _ _ _ g).trans ((State.get_set_ne _ _ hother).trans (State.get_set_ne _ _ hself))
  obtain ⟨hlatched, hdiag, hpartner⟩ := s.get_latchOff n 3 m
  obtain ⟨hlatched', hdiag', hpartner'⟩ := (s.latchOff n 3 m).get_latchOff m 3 n
  have hfirst (g : Fld) (hl : g.id ≠ (FIO.CH_STATUS.LATCHED_OFF m).id) (hd : g.id ≠ (FIO.CH_STATUS.DIAG m).id)
      (hp : g.id ≠ (FIO.CH_STATUS.PARTNER m).id) : ((s.latchOff n 3 m).latchOff m 3 n).get g = (s.latchOff n 3 m).get g :=
    State.get_latchOff_ne _ _ hl hd hp
  refine ⟨?_, ?_, ?_, ?_, ?_, ?_⟩
  · refine (State.bit_congr _ _ ((hkeep _ ?_ ?_ _ _).trans (hfirst _ ?_ ?_ ?_))).trans hlatched <;>
      simp only [Fld.id, FIO.CH_STATUS.LATCHED_OFF, FIO.CH_STATUS.DIAG, FIO.CH_STATUS.PARTNER, FIO.CH_STATUS.READBACK] <;> omega
  · refine (State.bit_congr _ _ (hkeep _ ?_ ?_ _ _)).trans hlatched' <;>
      simp only [Fld.id, FIO.CH_STATUS.LATCHED_OFF, FIO.CH_STATUS.READBACK] <;> omega
  · refine (hkeep _ ?_ ?_ _ _).trans ((hfirst _ ?_ ?_ ?_).trans hdiag) <;>
      simp only [Fld.id, FIO.CH_STATUS.LATCHED_OFF, FIO.CH_STATUS.DIAG, FIO.CH_STATUS.PARTNER, FIO.CH_STATUS.READBACK] <;> omega
  · refine (hkeep _ ?_ ?_ _ _).trans hdiag' <;> simp only [Fld.id, FIO.CH_STATUS.DIAG, FIO.CH_STATUS.READBACK] <;> omega
  · refine (hkeep _ ?_ ?_ _ _).trans ((hfirst _ ?_ ?_ ?_).trans (hpartner.trans (Nat.mod_eq_of_lt hm))) <;>
      simp only [Fld.id, FIO.CH_STATUS.LATCHED_OFF, FIO.CH_STATUS.DIAG, FIO.CH_STATUS.PARTNER, FIO.CH_STATUS.READBACK] <;> omega
  · refine (hkeep _ ?_ ?_ _ _).trans (hpartner'.trans (Nat.mod_eq_of_lt hn)) <;>
      simp only [Fld.id, FIO.CH_STATUS.PARTNER, FIO.CH_STATUS.READBACK] <;> omega

theorem State.shortToSupply_latches (hdiag : s.diagnosed n = true) (hdir : s.get (FIO.CH_CFG.DIR n) = 1) (hcmd : s.command n = false)
    (hn : n < 32) : (s.shortToSupply n).bit (FIO.CH_STATUS.LATCHED_OFF n) = true ∧ (s.shortToSupply n).get (FIO.CH_STATUS.DIAG n) = 1 ∧
      (s.shortToSupply n).rng.evq = s.rng.evq ++ [⟨80, n + 256, true⟩] := by
  have hrun : s.shortToSupply n = (((s.latchOff n 1 0).set (FIO.CH_STATUS.READBACK n) 2).post 80 (n + 256)).tellMirror :=
    if_neg (by simp [hdiag, hdir, hcmd])
  obtain ⟨hlatched, hcode, _⟩ := s.get_latchOff n 1 0
  rw [hrun]
  refine ⟨(State.bit_congr _ _ (State.get_told _ _ _ _)).trans ((State.bit_set_ne _ _ ?_).trans hlatched),
    (State.get_told _ _ _ _).trans ((State.get_set_ne _ _ ?_).trans hcode), ?_⟩
  · simp [Fld.id, FIO.CH_STATUS.LATCHED_OFF, FIO.CH_STATUS.READBACK]
  · simp [Fld.id, FIO.CH_STATUS.DIAG, FIO.CH_STATUS.READBACK]
  · rw [(State.tellMirror_same _).1]
    show s.rng.evq ++ [⟨80, (n + 256) % 2 ^ 32, true⟩] = _
    rw [Nat.mod_eq_of_lt (by omega)]

theorem State.overload_latches (hdiag : s.diagnosed n = true) (hcmd : s.command n = true) (hn : n < 32) :
    (s.overload n).bit (FIO.CH_STATUS.LATCHED_OFF n) = true ∧ (s.overload n).get (FIO.CH_STATUS.DIAG n) = 2 ∧
      (s.overload n).rng.evq = s.rng.evq ++ [⟨80, n + 512, true⟩] := by
  have hrun : s.overload n = ((s.latchOff n 2 0).post 80 (n + 512)).tellMirror := if_neg (by simp [hdiag, hcmd])
  obtain ⟨hlatched, hcode, _⟩ := s.get_latchOff n 2 0
  rw [hrun]
  refine ⟨(State.bit_congr _ _ (State.get_told _ _ _ _)).trans hlatched, (State.get_told _ _ _ _).trans hcode, ?_⟩
  rw [(State.tellMirror_same _).1]
  show s.rng.evq ++ [⟨80, (n + 512) % 2 ^ 32, true⟩] = _
  rw [Nat.mod_eq_of_lt (by omega)]

theorem State.undiagnosed (h : s.diagnosed n = false) : s.shortToSupply n = s ∧ s.overload n = s :=
  ⟨if_pos (by simp [h]), if_pos (by simp [h])⟩

theorem State.channelClear_single (hlatched : s.bit (FIO.CH_STATUS.LATCHED_OFF n) = true) (hlost : s.get (FIO.CH_STATUS.DIAG n) ≠ 4)
    (htrail : s.isTrail = false) (hpair : s.get (FIO.CH_STATUS.DIAG n) ≠ 3) : s.channelClear n = (s.release n false).tellMirror := by
  unfold State.channelClear
  dsimp only
  rw [if_neg (by simp [hlatched, hlost, htrail]), if_neg (by simp [hpair])]

theorem State.channelClear_pair (hne : (FIO.CH_STATUS.LATCHED_OFF m).reg ≠ (FIO.CH_STATUS.LATCHED_OFF n).reg)
    (hlatched : s.bit (FIO.CH_STATUS.LATCHED_OFF n) = true) (htrail : s.isTrail = false)
    (hdiag : s.get (FIO.CH_STATUS.DIAG n) = 3) (hpartner : s.get (FIO.CH_STATUS.PARTNER n) = m)
    (hdiag' : s.get (FIO.CH_STATUS.DIAG m) = 3) (hpartner' : s.get (FIO.CH_STATUS.PARTNER m) = n) :
    s.channelClear n = ((s.release n false).release m false).tellMirror := by
  have hcode : (s.release n false).get (FIO.CH_STATUS.DIAG m) = 3 := by
    refine (State.get_release_ne false ?_ ?_ ?_).trans hdiag' <;>
      simp only [Fld.id, FIO.CH_STATUS.LATCHED_OFF, FIO.CH_STATUS.DIAG, FIO.CH_STATUS.PARTNER] at hne ⊢ <;> omega
  have hback : (s.release n false).get (FIO.CH_STATUS.PARTNER m) = n := by
    refine (State.get_release_ne false ?_ ?_ ?_).trans hpartner' <;>
      simp only [Fld.id, FIO.CH_STATUS.LATCHED_OFF, FIO.CH_STATUS.DIAG, FIO.CH_STATUS.PARTNER] at hne ⊢ <;> omega
  unfold State.channelClear
  dsimp only
  rw [if_neg (by simp [hlatched, hdiag, htrail]), hpartner, if_pos (by simp [hdiag, hcode, hback])]

theorem State.channelClear_stays (h : s.bit (FIO.CH_STATUS.LATCHED_OFF n) = false ∨ s.get (FIO.CH_STATUS.DIAG n) = 4 ∨
    s.isTrail = true) : s.channelClear n = s :=
  if_pos (by rcases h with h | h | h <;> simp [h])

theorem State.autoRetry_releases (hlatched : s.bit (FIO.CH_STATUS.LATCHED_OFF n) = true) (hlost : s.get (FIO.CH_STATUS.DIAG n) ≠ 4)
    (hon : s.domOn 5 = true) (htrail : s.isTrail = false) (hretry : s.bit (FIO.GROUP_CFG.AUTO_RETRY (n / 8)) = true)
    (hdue : Sparse.get 0 s.fio.latched n + 20000000 ≤ s.now) : s.autoRetry n = (s.release n true).tellMirror :=
  if_neg (by simp [hlatched, hlost, hon, htrail, hretry]; exact hdue)

/-- One channel released: its latch, its diagnosis, and the event. -/
theorem State.released (s : State) (n : Nat) (auto : Bool) (hn : n < 32) :
    (s.release n auto).tellMirror.bit (FIO.CH_STATUS.LATCHED_OFF n) = false ∧ (s.release n auto).tellMirror.get (FIO.CH_STATUS.DIAG n) = 0 ∧
      (s.release n auto).tellMirror.rng.evq = s.rng.evq ++ [⟨87, n + 256 * b2n auto, true⟩] := by
  obtain ⟨hlatched, hdiag⟩ := s.get_release n auto
  exact ⟨(State.bit_tellMirror _ _).trans hlatched, (State.get_tellMirror _ _).trans hdiag,
    (congrArg Rng.evq (State.tellMirror_same _).1).trans (s.evq_release n auto hn)⟩

/-- Both channels of a contention released. -/
theorem State.released_pair (s : State) (hne : (FIO.CH_STATUS.LATCHED_OFF m).reg ≠ (FIO.CH_STATUS.LATCHED_OFF n).reg)
    (hn : n < 32) (hm : m < 32) :
    ((s.release n false).release m false).tellMirror.bit (FIO.CH_STATUS.LATCHED_OFF n) = false ∧
      ((s.release n false).release m false).tellMirror.bit (FIO.CH_STATUS.LATCHED_OFF m) = false ∧
      ((s.release n false).release m false).tellMirror.rng.evq = s.rng.evq ++ [⟨87, n, true⟩, ⟨87, m, true⟩] := by
  obtain ⟨hsecond, _, hevq⟩ := (s.release n false).released m false hm
  refine ⟨(State.bit_tellMirror _ _).trans ((State.bit_congr _ _ (State.get_release_ne false ?_ ?_ ?_)).trans (s.get_release n false).1),
    hsecond, hevq.trans ?_⟩
  · simp only [Fld.id, FIO.CH_STATUS.LATCHED_OFF] at hne ⊢; omega
  · simp only [Fld.id, FIO.CH_STATUS.LATCHED_OFF, FIO.CH_STATUS.DIAG] at hne ⊢; omega
  · simp only [Fld.id, FIO.CH_STATUS.LATCHED_OFF, FIO.CH_STATUS.PARTNER] at hne ⊢; omega
  · rw [s.evq_release n false hn, List.append_assoc]
    rfl

end Latches

section Groups

variable {s : State} {g : Nat}

/-! ## Group supplies (R231, R232) -/

/-- A field outside the channels' registers. -/
def Fld.offChannels (f : Fld) : Prop := f.id < 0xD0100 * 32 ∨ 0xD0300 * 32 ≤ f.id

theorem Fld.offChannels.status {f : Fld} (h : f.offChannels) (n : Nat) : f.id ≠ (FIO.CH_STATUS.LATCHED_OFF n).id ∧
    f.id ≠ (FIO.CH_STATUS.DIAG n).id ∧ f.id ≠ (FIO.CH_STATUS.PARTNER n).id ∧ f.id ≠ (FIO.CH_STATUS.VALID n).id := by
  unfold Fld.offChannels at h
  simp only [Fld.id, FIO.CH_STATUS.LATCHED_OFF, FIO.CH_STATUS.DIAG, FIO.CH_STATUS.PARTNER, FIO.CH_STATUS.VALID] at h ⊢
  omega

theorem Fld.offChannels_group (g : Nat) : (FIO.GROUP_STATUS.STATE g).offChannels ∧ (FIO.GROUP_STATUS.VOLTAGE g).offChannels ∧
    (FIO.GROUP_STATUS.AWAIT_ACK g).offChannels ∧ (FIO.CNT_STATUS.HELD g).offChannels := by
  simp only [Fld.offChannels, Fld.id, FIO.GROUP_STATUS.STATE, FIO.GROUP_STATUS.VOLTAGE, FIO.GROUP_STATUS.AWAIT_ACK, FIO.CNT_STATUS.HELD]
  omega

theorem State.get_latchOff_off {f : Fld} (hf : f.offChannels) (n d p : Nat) : (s.latchOff n d p).get f = s.get f := by
  obtain ⟨hlatched, hdiag, hpartner, _⟩ := hf.status n
  exact State.get_latchOff_ne d p hlatched hdiag hpartner

theorem State.get_supplyLatch {f : Fld} (hf : f.offChannels) (s : State) : (s.supplyLatch g).get f = s.get f := by
  unfold State.supplyLatch
  split
  · rfl
  · refine State.get_foldl (fun t n => ?_) _ s
    split
    · exact State.get_latchOff_off hf _ _ _
    · rfl

theorem State.get_supplyRelease {f : Fld} (hf : f.offChannels) (s : State) : (s.supplyRelease g).get f = s.get f := by
  refine State.get_foldl (fun t n => ?_) _ s
  obtain ⟨hlatched, hdiag, hpartner, _⟩ := hf.status n
  split
  · exact State.get_release_ne false hlatched hdiag hpartner
  · rfl

theorem State.regs_filtersHold (s : State) : (s.filtersHold g).regs = s.regs := by
  refine State.foldl_keeps State.regs ?_ _ s
  exact fun _ _ => rfl

theorem State.get_filtersHold (f : Fld) (s : State) : (s.filtersHold g).get f = s.get f := by
  unfold State.get
  rw [State.regs_filtersHold]

theorem State.get_filtersStart (f : Fld) (s : State) : (s.filtersStart g).get f = s.get f := by
  have hregs : (s.filtersStart g).regs = s.regs := by
    refine State.foldl_keeps State.regs ?_ _ s
    exact fun _ _ => rfl
  unfold State.get
  rw [hregs]

theorem State.get_groupDown_held (s : State) : (s.groupDown g).get (FIO.CNT_STATUS.HELD g) = 1 := State.get_set_self _ _ _

theorem State.get_groupDown {f : Fld} (hf : f.offChannels) (hheld : f.id ≠ (FIO.CNT_STATUS.HELD g).id) (s : State) :
    (s.groupDown g).get f = s.get f :=
  (State.get_set_ne _ _ hheld).trans (State.get_foldl (fun _ n => State.get_set_ne _ _ (hf.status n).2.2.2) _ _)

theorem State.valid_groupDown (s : State) {i : Nat} (hi : i < 8) :
    (s.groupDown g).bit (FIO.CH_STATUS.VALID (8 * g + i)) = false := by
  have hheld : (FIO.CH_STATUS.VALID (8 * g + i)).id ≠ (FIO.CNT_STATUS.HELD g).id := by
    simp only [Fld.id, FIO.CH_STATUS.VALID, FIO.CNT_STATUS.HELD]; omega
  have hzero : (s.groupDown g).get (FIO.CH_STATUS.VALID (8 * g + i)) = 0 := by
    refine (State.get_set_ne _ _ hheld).trans (State.get_foldl_mem (F := FIO.CH_STATUS.VALID) (v := fun _ => 0)
      (f := fun s n => s.set (FIO.CH_STATUS.VALID n) 0) (List.mem_map.2 ⟨i, List.mem_range.2 hi, rfl⟩)
      (fun t => (State.get_set_self _ _ _).trans (Nat.zero_mod _)) (fun n hn hne t => State.get_set_ne _ _ ?_) _)
    obtain ⟨j, hj, rfl⟩ := List.mem_map.1 hn
    rw [List.mem_range] at hj
    simp only [Fld.id, FIO.CH_STATUS.VALID]
    omega
  unfold State.bit
  rw [hzero]
  rfl

/-- What a change of a group's state does after the state is stored (R231, R232). -/
def State.groupMoved (s : State) (g new old : Nat) : State :=
  if new = 2 then (s.groupDown g).bump (FIO.GROUP_COUNTS.UNDER g)
  else if new = 3 then ((s.groupDown g).bump (FIO.GROUP_COUNTS.LOST g)).supplyLatch g
  else if 2 ≤ old then
    if old = 3 then ((s.filtersStart g).set (FIO.CNT_STATUS.HELD g) 0).groupResume g
    else (s.filtersStart g).set (FIO.CNT_STATUS.HELD g) 0
  else s

theorem State.get_groupResume {f : Fld} (hf : f.offChannels) (hawait : f.id ≠ (FIO.GROUP_STATUS.AWAIT_ACK g).id) (s : State) :
    (s.groupResume g).get f = s.get f := by
  unfold State.groupResume
  split
  · rfl
  · split
    · exact State.get_supplyRelease hf s
    · exact (State.get_post ..).trans ((State.get_set_ne _ _ hawait).trans (State.get_supplyLatch hf s))

/-- A group's state and voltage stay while its filters, latches and counter follow the change. -/
theorem State.get_groupMoved {f : Fld} (hf : f.offChannels) (hheld : f.id ≠ (FIO.CNT_STATUS.HELD g).id)
    (hawait : f.id ≠ (FIO.GROUP_STATUS.AWAIT_ACK g).id) (hunder : f.id ≠ (FIO.GROUP_COUNTS.UNDER g).id)
    (hlost : f.id ≠ (FIO.GROUP_COUNTS.LOST g).id) (new old : Nat) (s : State) : (s.groupMoved g new old).get f = s.get f := by
  have hstart : ((s.filtersStart g).set (FIO.CNT_STATUS.HELD g) 0).get f = s.get f :=
    (State.get_set_ne _ _ hheld).trans (State.get_filtersStart f s)
  unfold State.groupMoved
  split
  · exact (State.get_bump_ne _ _ hunder).trans (State.get_groupDown hf hheld s)
  · split
    · exact (State.get_supplyLatch hf _).trans ((State.get_bump_ne _ _ hlost).trans (State.get_groupDown hf hheld s))
    · split
      · split
        · exact (State.get_groupResume hf hawait _).trans hstart
        · exact hstart
      · rfl

/-- The state of a group with its new state stored and told. -/
def State.groupStored (s : State) (g new volts : Nat) : State :=
  let t := (((s.set (FIO.GROUP_STATUS.VOLTAGE g) volts).setB (FIO.GROUP_STATUS.RECOVERING g)
    (decide (2 ≤ new) && decide (1800 < volts))).set (FIO.GROUP_STATUS.STATE g) new).post 82 (g + 4 * new + 16 * s.groupState g)
  if s.groupState g ≤ 1 ∧ 2 ≤ new then t.filtersHold g else t

theorem State.groupChange_moves {new volts : Nat} (hon : s.domOn 5 = true) (hmay : s.groupMay (s.groupState g) new volts = true)
    (hne : new ≠ s.groupState g) :
    s.groupChange g new volts = ((s.groupStored g new volts).groupMoved g new (s.groupState g)).tellMirror := by
  have hmay' : (s.set (FIO.GROUP_STATUS.VOLTAGE g) volts).groupMay (s.groupState g) new volts = true := hmay
  unfold State.groupChange
  dsimp only
  rw [if_neg (by simp [hon]), hmay', if_pos rfl, if_neg hne]
  rfl

theorem State.groupChange_stays {new volts : Nat} (hon : s.domOn 5 = true)
    (h : s.groupMay (s.groupState g) new volts = false ∨ new = s.groupState g) :
    s.groupChange g new volts = (s.set (FIO.GROUP_STATUS.VOLTAGE g) volts).setB (FIO.GROUP_STATUS.RECOVERING g)
      (decide (2 ≤ s.groupState g) && decide (1800 < volts)) := by
  have hnew : (if (s.set (FIO.GROUP_STATUS.VOLTAGE g) volts).groupMay (s.groupState g) new volts then new else s.groupState g) =
      s.groupState g := by
    rcases h with h | h
    · exact if_neg (fun hmay => by rw [show s.groupMay (s.groupState g) new volts = true from hmay] at h; exact absurd h (by simp))
    · split
      · exact h
      · rfl
  unfold State.groupChange
  dsimp only
  rw [if_neg (by simp [hon]), hnew, if_pos rfl]

theorem State.get_groupStored (s : State) (g new volts : Nat) : (s.groupStored g new volts).get (FIO.GROUP_STATUS.STATE g) = new % 2 ^ 2 ∧
    (s.groupStored g new volts).get (FIO.GROUP_STATUS.VOLTAGE g) = volts % 2 ^ 16 := by
  have hstate : (FIO.GROUP_STATUS.VOLTAGE g).id ≠ (FIO.GROUP_STATUS.STATE g).id := by
    simp [Fld.id, FIO.GROUP_STATUS.VOLTAGE, FIO.GROUP_STATUS.STATE]
  have hrec : (FIO.GROUP_STATUS.VOLTAGE g).id ≠ (FIO.GROUP_STATUS.RECOVERING g).id := by
    simp [Fld.id, FIO.GROUP_STATUS.VOLTAGE, FIO.GROUP_STATUS.RECOVERING]
  have hhold (f : Fld) (c : Prop) [Decidable c] (t : State) : (if c then t.filtersHold g else t).get f = t.get f := by
    split
    · exact State.get_filtersHold f t
    · rfl
  exact ⟨(hhold _ _ _).trans (State.get_set_self _ _ _),
    (hhold _ _ _).trans ((State.get_set_ne _ _ hstate).trans ((State.get_setB_ne _ _ hrec).trans (State.get_set_self _ _ _)))⟩

/-- R231, R232. The state and the voltage of a group after a measurement of its supply. -/
theorem State.groupChange_state {new volts : Nat} (hon : s.domOn 5 = true) (hnew : new < 4) :
    (s.groupChange g new volts).groupState g = (if s.groupMay (s.groupState g) new volts then new else s.groupState g) ∧
      (s.groupChange g new volts).get (FIO.GROUP_STATUS.VOLTAGE g) = volts % 2 ^ 16 := by
  obtain ⟨hstate, hvolts, _⟩ := Fld.offChannels_group g
  by_cases hmoves : s.groupMay (s.groupState g) new volts = true ∧ new ≠ s.groupState g
  · obtain ⟨hmay, hne⟩ := hmoves
    obtain ⟨hstored, hstored'⟩ := s.get_groupStored g new volts
    rw [State.groupChange_moves hon hmay hne, if_pos hmay]
    refine ⟨(State.get_tellMirror _ _).trans ((State.get_groupMoved hstate ?_ ?_ ?_ ?_ _ _ _).trans
      (hstored.trans (Nat.mod_eq_of_lt hnew))), (State.get_tellMirror _ _).trans ((State.get_groupMoved hvolts ?_ ?_ ?_ ?_ _ _ _).trans
      hstored')⟩ <;>
      simp only [Fld.id, FIO.GROUP_STATUS.STATE, FIO.GROUP_STATUS.VOLTAGE, FIO.CNT_STATUS.HELD, FIO.GROUP_STATUS.AWAIT_ACK,
        FIO.GROUP_COUNTS.UNDER, FIO.GROUP_COUNTS.LOST] <;> omega
  · have hstay : s.groupMay (s.groupState g) new volts = false ∨ new = s.groupState g := by
      by_contra hnot
      rw [not_or, Bool.not_eq_false] at hnot
      exact hmoves hnot
    have hif : (if s.groupMay (s.groupState g) new volts then new else s.groupState g) = s.groupState g := by
      rcases hstay with h | h
      · rw [h]; rfl
      · split
        · exact h
        · rfl
    rw [State.groupChange_stays hon hstay, hif]
    refine ⟨(State.get_setB_ne _ _ ?_).trans (State.get_set_ne _ _ ?_), (State.get_setB_ne _ _ ?_).trans (State.get_set_self _ _ _)⟩ <;>
      simp [Fld.id, FIO.GROUP_STATUS.STATE, FIO.GROUP_STATUS.VOLTAGE, FIO.GROUP_STATUS.RECOVERING]

/-- R231. A group whose supply falls below 15.00 V: its counter is held and its inputs are invalid. -/
theorem State.groupChange_under {volts : Nat} (hon : s.domOn 5 = true) (hgood : s.groupState g ≤ 1) (hlow : volts < 1500) :
    (s.groupChange g 2 volts).groupState g = 2 ∧ (s.groupChange g 2 volts).get (FIO.CNT_STATUS.HELD g) = 1 ∧
      (∀ i < 8, (s.groupChange g 2 volts).bit (FIO.CH_STATUS.VALID (8 * g + i)) = false) ∧
      (s.groupChange g 2 volts).get (FIO.GROUP_STATUS.VOLTAGE g) = volts % 2 ^ 16 := by
  have hmay : s.groupMay (s.groupState g) 2 volts = true := by simp [State.groupMay, hgood, hlow]
  obtain ⟨hstate, hvolts⟩ := State.groupChange_state (s := s) (g := g) (volts := volts) hon (show 2 < 4 by decide)
  rw [if_pos hmay] at hstate
  have hmoves := State.groupChange_moves hon hmay (show 2 ≠ s.groupState g by omega)
  refine ⟨hstate, ?_, fun i hi => ?_, hvolts⟩ <;> rw [hmoves]
  · refine (State.get_tellMirror _ _).trans ((State.get_bump_ne _ _ ?_).trans (State.get_groupDown_held _))
    simp only [Fld.id, FIO.CNT_STATUS.HELD, FIO.GROUP_COUNTS.UNDER]; omega
  · refine (State.bit_tellMirror _ _).trans ((State.bit_congr _ _ (State.get_bump_ne _ _ ?_)).trans (State.valid_groupDown _ hi))
    simp only [Fld.id, FIO.CH_STATUS.VALID, FIO.GROUP_COUNTS.UNDER]; omega

theorem State.isTrail_of_state {t : State} (h : t.pairState = s.pairState) : t.isTrail = s.isTrail := by
  unfold State.isTrail
  rw [h]

/-- R232. A group that recovers from LOST and does not resume: its counter counts, and it awaits an ack. -/
theorem State.groupChange_recovers {volts : Nat} (hon : s.domOn 5 = true) (hlost : s.groupState g = 3) (hhigh : 1960 < volts)
    (hstart : s.fio.start + 2000000 ≤ s.now) (htrail : s.isTrail = false) (hresume : s.bit (FIO.GROUP_CFG.RESUME g) = false) :
    (s.groupChange g 0 volts).groupState g = 0 ∧ (s.groupChange g 0 volts).get (FIO.CNT_STATUS.HELD g) = 0 ∧
      (s.groupChange g 0 volts).bit (FIO.GROUP_STATUS.AWAIT_ACK g) = true := by
  have hmay : s.groupMay (s.groupState g) 0 volts = true := by
    simp [State.groupMay, hlost, hhigh, ticksPerMs, hstart]
  have hstored : s.groupStored g 0 volts = (((s.set (FIO.GROUP_STATUS.VOLTAGE g) volts).setB (FIO.GROUP_STATUS.RECOVERING g)
      (decide (2 ≤ 0) && decide (1800 < volts))).set (FIO.GROUP_STATUS.STATE g) 0).post 82 (g + 4 * 0 + 16 * s.groupState g) :=
    if_neg (by omega)
  have hstored_get (f : Fld) (hvolts : f.id ≠ (FIO.GROUP_STATUS.VOLTAGE g).id) (hrec : f.id ≠ (FIO.GROUP_STATUS.RECOVERING g).id)
      (hstate : f.id ≠ (FIO.GROUP_STATUS.STATE g).id) : (s.groupStored g 0 volts).get f = s.get f := by
    rw [hstored, State.get_post, State.get_set_ne _ _ hstate, State.get_setB_ne _ _ hrec, State.get_set_ne _ _ hvolts]
  have hbefore_get (f : Fld) (hvolts : f.id ≠ (FIO.GROUP_STATUS.VOLTAGE g).id) (hrec : f.id ≠ (FIO.GROUP_STATUS.RECOVERING g).id)
      (hstate : f.id ≠ (FIO.GROUP_STATUS.STATE g).id) (hheld : f.id ≠ (FIO.CNT_STATUS.HELD g).id) :
      (((s.groupStored g 0 volts).filtersStart g).set (FIO.CNT_STATUS.HELD g) 0).get f = s.get f :=
    (State.get_set_ne _ _ hheld).trans ((State.get_filtersStart f _).trans (hstored_get f hvolts hrec hstate))
  have hmoves : s.groupChange g 0 volts =
      ((((((s.groupStored g 0 volts).filtersStart g).set (FIO.CNT_STATUS.HELD g) 0).supplyLatch g).set
        (FIO.GROUP_STATUS.AWAIT_ACK g) 1).post 83 g).tellMirror := by
    rw [State.groupChange_moves hon hmay (by omega), hlost]
    unfold State.groupMoved
    rw [if_neg (by decide), if_neg (by decide), if_pos (by decide), if_pos rfl]
    unfold State.groupResume
    rw [if_neg, if_neg]
    · refine Bool.not_eq_true _ ▸ (State.bit_congr _ _ (hbefore_get _ ?_ ?_ ?_ ?_)).trans hresume <;>
        simp only [Fld.id, FIO.GROUP_CFG.RESUME, FIO.GROUP_STATUS.VOLTAGE, FIO.GROUP_STATUS.RECOVERING, FIO.GROUP_STATUS.STATE,
          FIO.CNT_STATUS.HELD] <;> omega
    · refine Bool.not_eq_true _ ▸ (State.isTrail_of_state (hbefore_get PAR.STATUS.STATE ?_ ?_ ?_ ?_)).trans htrail <;>
        simp only [Fld.id, PAR.STATUS.STATE, FIO.GROUP_STATUS.VOLTAGE, FIO.GROUP_STATUS.RECOVERING, FIO.GROUP_STATUS.STATE,
          FIO.CNT_STATUS.HELD] <;> omega
  obtain ⟨_, _, _, hheld⟩ := Fld.offChannels_group g
  have hstate := (State.groupChange_state (s := s) (g := g) (volts := volts) hon (show 0 < 4 by decide)).1
  rw [if_pos hmay] at hstate
  refine ⟨hstate, ?_, ?_⟩ <;> rw [hmoves]
  · refine (State.get_told _ _ _ _).trans ((State.get_set_ne _ _ ?_).trans ((State.get_supplyLatch hheld _).trans
      (State.get_set_self _ _ _)))
    simp only [Fld.id, FIO.CNT_STATUS.HELD, FIO.GROUP_STATUS.AWAIT_ACK]; omega
  · exact (State.bit_congr _ _ (State.get_told _ _ _ _)).trans (State.bit_set_one _ _ le_rfl)

theorem State.groupAck_clears (hawait : s.bit (FIO.GROUP_STATUS.AWAIT_ACK g) = true) (htrail : s.isTrail = false) :
    (s.groupAck g).bit (FIO.GROUP_STATUS.AWAIT_ACK g) = false := by
  have hrun : s.groupAck g = ((s.set (FIO.GROUP_STATUS.AWAIT_ACK g) 0).supplyRelease g).tellMirror := if_neg (by simp [hawait, htrail])
  rw [hrun]
  exact (State.bit_tellMirror _ _).trans ((State.bit_congr _ _ (State.get_supplyRelease (Fld.offChannels_group g).2.2.1 _)).trans
    (State.bit_set_zero _ _))

theorem State.groupAck_stays (h : s.bit (FIO.GROUP_STATUS.AWAIT_ACK g) = false ∨ s.isTrail = true) : s.groupAck g = s :=
  if_pos (by rcases h with h | h <;> simp [h])

theorem State.fioEnable_checked (hoff : s.bit FIO.CTRL.ENABLE = false) (htest : s.targetFailed [12] = false) :
    s.fioEnable = ((s.setB FIO.CTRL.ENABLE (s.fioCause == 0)).setB FIO.CTRL.CFG_ERR (s.fioCause != 0)).set FIO.CTRL.CFG_CAUSE s.fioCause :=
  if_neg (by simp [hoff, htest])

end Groups

/-- Settles O31: the inputs, the diagnoses and their releases, the groups' supplies and the enable, each by its own cases. -/
theorem fastChannels : Obligations.FastChannels := by
  unfold Obligations.FastChannels
  refine ⟨fun s n v => ⟨State.inputOn_low, State.inputOn_high, fun hon => ⟨?_, fun hin hraw => ⟨fun hup hstate hdone => ?_, fun h => ?_⟩⟩⟩,
    fun s n hon hup => ⟨fun b hdir hwb hold => ?_, fun hdue => ?_, fun hearly => ?_⟩,
    fun s n => ⟨fun sus m h => ?_, fun sus h => ?_, fun hdiag hdir hcmd => ?_, fun hdiag hcmd => ?_, fun h => ?_,
      fun hlatched hlost htrail => ⟨fun hsingle => ?_, fun m hne hdiag hpartner hdiag' hpartner' => ?_⟩, fun h => ?_,
      fun hlatched hlost hon htrail hretry hdue => ?_⟩,
    fun s g => ⟨fun new v hon => ?_, fun v hon hgood hlow => ?_, fun v hon hlost hhigh hstart htrail hresume => ?_,
      fun hawait htrail => ?_, fun h => State.done_eq (State.groupAck_stays h)⟩,
    fun s hoff htest => ⟨fun hcause => ?_, fun k hk hcause => ?_⟩⟩
  · exact ⟨_, rfl, State.filterChange_follows hon⟩
  · rw [← hraw] at hstate ⊢
    exact State.done_eq ((State.filterChange_stays hon hin hraw).trans (State.filterLook_takes hon hup hstate hdone))
  · rw [← hraw] at h
    exact State.done_eq ((State.filterChange_stays hon hin hraw).trans (State.filterLook_waits h))
  · obtain ⟨hvalid, hbroken⟩ := (s.setB (FIO.CH_STATUS.WIRE_BREAK n) b).refreshValid_told n
    have hself : (s.setB (FIO.CH_STATUS.WIRE_BREAK n) b).bit (FIO.CH_STATUS.WIRE_BREAK n) = b := State.bit_setB_self _ _ _ le_rfl
    have hup' : (s.setB (FIO.CH_STATUS.WIRE_BREAK n) b).groupUp n = true := by
      refine (State.groupUp_setB ?_ b).trans hup
      simp only [Fld.id, FIO.GROUP_STATUS.STATE, FIO.CH_STATUS.WIRE_BREAK]
      omega
    have hb : b2n b ≤ 1 := by cases b <;> decide
    refine ⟨_, State.done_eq (State.wireBreak_tells hon hup hdir hwb hold), hbroken.trans hself, ?_, ?_⟩
    · exact hvalid.trans (by rw [hself, hup', Bool.true_and]; rfl)
    · show s.rng.evq ++ [⟨81, (n + 256 * b2n b) % 2 ^ 32, true⟩] = _
      rw [Nat.mod_eq_of_lt (by omega)]
  · obtain ⟨hvalid, _⟩ := State.refreshValid_told { s with fio := { s.fio with settled := setBit s.fio.settled n } } n
    refine ⟨_, State.done_eq (State.filterSettled_settles hon hup hdue), setBit_testBit _ _, hvalid.trans ?_⟩
    have hup' : State.groupUp { s with fio := { s.fio with settled := setBit s.fio.settled n } } n = true := hup
    rw [hup', setBit_testBit, Bool.true_and, Bool.true_and]
    rfl
  · exact State.done_eq (if_pos (by simp [hearly]))
  · obtain ⟨_, hne, hsus, hsusm, hpush, hpushm, hcmd, hlower⟩ := State.paired_suspect h
    exact ⟨⟨hne, hsus, hsusm, hpush, hpushm, hcmd, hlower⟩, _, rfl, s.contention_latches h n.2⟩
  · exact State.done_eq (by unfold State.contention; rw [h])
  · exact ⟨_, rfl, State.shortToSupply_latches hdiag hdir hcmd n.2⟩
  · exact ⟨_, rfl, State.overload_latches hdiag hcmd n.2⟩
  · exact ⟨State.done_eq (State.undiagnosed h).1, State.done_eq (State.undiagnosed h).2⟩
  · exact ⟨_, State.done_eq (State.channelClear_single hlatched hlost htrail hsingle), s.released n false n.2⟩
  · have hreg : (FIO.CH_STATUS.LATCHED_OFF m).reg ≠ (FIO.CH_STATUS.LATCHED_OFF n).reg := by
      have := Fin.val_ne_of_ne hne
      simp only [FIO.CH_STATUS.LATCHED_OFF]
      omega
    exact ⟨_, State.done_eq (State.channelClear_pair hreg hlatched htrail hdiag hpartner hdiag' hpartner'), s.released_pair hreg n.2 m.2⟩
  · exact State.done_eq (State.channelClear_stays h)
  · exact ⟨_, State.done_eq (State.autoRetry_releases hlatched hlost hon htrail hretry hdue), s.released n true n.2⟩
  · exact ⟨_, rfl, State.groupChange_state hon new.2⟩
  · exact ⟨_, rfl, State.groupChange_under hon hgood hlow⟩
  · exact ⟨_, rfl, State.groupChange_recovers hon hlost hhigh hstart htrail hresume⟩
  · exact ⟨_, rfl, State.groupAck_clears hawait htrail⟩
  · exact State.done_eq ((State.fioEnable_checked hoff htest).trans (by rw [hcause]; rfl))
  · exact State.done_eq ((State.fioEnable_checked hoff htest).trans (by rw [hcause, beq_false_of_ne hk, bne, beq_false_of_ne hk]; rfl))

end Sys2Proof.Machine

end

/-! PROOFS. Counters and touch probes (spec/07 R233 to R237). -/

section

namespace Sys2Proof.Machine

section SameEnd

variable {s x : State} {f : Fld}

/-! ## States with one end -/

theorem State.route_settle (s : State) (src : Nat) : s.settle.get (EVT.ROUTE.TARGETS src) = s.get (EVT.ROUTE.TARGETS src) := by
  have hjudged : s.judged.get (EVT.ROUTE.TARGETS src) = s.get (EVT.ROUTE.TARGETS src) := by
    refine (State.get_set_ne _ _ ?_).trans (State.get_setB_ne _ _ ?_) <;>
      simp only [Fld.id, EVT.ROUTE.TARGETS, PAR.STATUS.INELIGIBLE, PAR.STATUS.ELIGIBLE] <;> omega
  exact (((State.JudgedAs.refl s.refreshPair).flushN 4096).route src).trans ((s.refreshPair_served.toJudgedAs.route src).trans hjudged)

/-- What `settle` leaves alone is the same in two states that it takes to one. -/
theorem State.get_of_settle_eq (h : x.settle = s.settle) (hs : s.NoEventRing) (hf : f.settled = false) : x.get f = s.get f := by
  have hx : x.NoEventRing := fun src => by
    rw [← x.route_settle, h, s.route_settle]
    exact hs src
  rw [← (State.settle_notified hx).get f hf, h, (State.settle_notified hs).get f hf]

end SameEnd

section IndexOfLongValue

/-- An index edge that has passed its filter, on a counter whose value is longer than its register. -/
def longCounter : State :=
  { State.reset with
    tick := 100
    regs := [((PWR.D_STATUS.STATE 5).id, 0), ((FIO.GROUP_STATUS.STATE 0).id, 0), ((FIO.CH_STATUS.RAW 2).id, 1),
      ((FIO.CNT_CFG.INDEX_ENABLE 0).id, 1), ((FIO.CNT_CFG.INDEX_RESET 0).id, 1), ((FIO.CNT_CFG.GLITCH 0).id, 0),
      ((FIO.CNT_VALUE.VALUE 0).id, 2 ^ 32)] }

theorem longCounter_edge : longCounter.domOn 5 = true ∧ longCounter.sense 2 1200 0 = longCounter ∧
    longCounter.glitchReady 0 2 = true ∧ longCounter.groupState 0 ≤ 1 ∧ longCounter.bit (FIO.CNT_CFG.INDEX_ENABLE 0) = true ∧
    longCounter.bit (FIO.CNT_CFG.INDEX_EDGE 0) = (!longCounter.bit (FIO.CH_STATUS.RAW 2)) ∧
    longCounter.bit (FIO.CNT_CFG.INDEX_RESET 0) = true := by
  refine ⟨by decide +kernel, ?_, by decide +kernel, by decide +kernel, by decide +kernel, by decide +kernel, by decide +kernel⟩
  have hin : isOutput longCounter 2 = false := by decide +kernel
  unfold State.sense
  rw [if_neg (by decide +kernel), hin]
  exact if_pos (by decide +kernel)

theorem longCounter_latch : (longCounter.indexSeen 0 1200).get (FIO.CNT_INDEX_LATCH.VALUE 0) = 0 ∧
    longCounter.get (FIO.CNT_VALUE.VALUE 0) = 2 ^ 32 := by
  constructor <;> decide +kernel

theorem longCounter_noEventRing : (longCounter.indexSeen 0 1200).NoEventRing := fun src => by
  have hall : ∀ i < 256, (longCounter.indexSeen 0 1200).get (EVT.ROUTE.TARGETS i) < 32 := by decide +kernel
  have hmod : EVT.ROUTE.TARGETS (src % 256) = EVT.ROUTE.TARGETS src := by simp [EVT.ROUTE.TARGETS]
  exact hmod ▸ hall (src % 256) (Nat.mod_lt _ (by decide))

end IndexOfLongValue

/-- Refutes O32: the statement has the index latch take the value of a counter in every state, one whose value is longer than 32 bits
included; the latch takes its low 32 bits. -/
theorem not_countersAndProbes : ¬ Obligations.CountersAndProbes := by
  unfold Obligations.CountersAndProbes
  intro ⟨_, _, hindex, _⟩
  obtain ⟨hon, hsense, hready, hgroup, henable, hedge, hreset⟩ := longCounter_edge
  obtain ⟨hlatch, hvalue⟩ := longCounter_latch
  obtain ⟨x, hx, hlatched, _⟩ := (hindex longCounter longCounter 0 1200 hon hsense).2 hready hgroup henable hedge |>.2 hreset
  have hend : x.settle = (longCounter.indexSeen 0 1200).settle := (Host.Outcome.next.inj hx).symm
  have hsame := State.get_of_settle_eq (f := FIO.CNT_INDEX_LATCH.VALUE 0) hend longCounter_noEventRing (by decide)
  have hzero : x.get (FIO.CNT_INDEX_LATCH.VALUE 0) = 0 := hsame.trans hlatch
  have hlong : x.get (FIO.CNT_INDEX_LATCH.VALUE 0) = 2 ^ 32 := hlatched.trans hvalue
  omega

end Sys2Proof.Machine

end

/-! PROOFS. Spur units: triggers, actions, pulses and control (spec/07 R242 to R248). -/

section

namespace Sys2Proof.Machine

section Commands

variable {s : State} {u : Nat} {a : SpurAct}

/-! ## One action command (R244, R245) -/

theorem State.spurCommand_eq (s : State) (u : Nat) (a : SpurAct) : ∃ r, s.spurCommand u a =
    { ((s.bump (SPR.UNIT_FIRED.COUNT u)).set2 (SPR.UNIT_LAST_LO.TICK u) (SPR.UNIT_LAST_HI.TICK u) a.trig).spurAct u a.pulse with rng := r } := by
  unfold State.spurCommand
  dsimp only
  split
  · split <;> exact ⟨_, rfl⟩
  · split <;> exact ⟨_, rfl⟩

theorem State.queue_set (s : State) (f : Fld) (v : Nat) : (s.set f v).queue u = s.queue u := rfl

theorem State.queue_setQueue (s : State) (u : Nat) (q : List SpurAct) : (s.setQueue u q).queue u = q :=
  Sparse.get_put_self [] s.fio.queues u q

theorem State.cancelPulse_none (hpulses : s.fio.pulses = []) (n : Nat) : s.cancelPulse n = s := by
  unfold State.cancelPulse
  simp only [hpulses, List.filter_nil, List.foldl_nil]
  rw [← hpulses]

/-- A unit that sets its channel, where nothing else acts on a channel (R245). -/
theorem State.spurAct_sets (hkind : s.get (SPR.UNIT_ACTION.KIND u) = 1) (hpulses : s.fio.pulses = []) (hacted : s.fio.acted = [])
    (len : Nat) : s.spurAct u len = { s with fio := { s.fio with
      acted := [(s.get (SPR.UNIT_ACTION.OUT_CHANNEL u),
        ⟨s.now, s.fio.spur.testBit (s.get (SPR.UNIT_ACTION.OUT_CHANNEL u)), [(u, 1, len)]⟩)]
      spur := setBit s.fio.spur (s.get (SPR.UNIT_ACTION.OUT_CHANNEL u)) } } := by
  unfold State.spurAct
  dsimp only
  rw [hkind, if_neg (by decide), State.cancelPulse_none hpulses, hacted]
  rfl

/-- What the command of a unit that sets its channel changes. -/
theorem State.spurCommand_sets (hkind : s.get (SPR.UNIT_ACTION.KIND u) = 1) (hpulses : s.fio.pulses = []) (hacted : s.fio.acted = []) :
    (∃ acted, (s.spurCommand u a).fio =
      { s.fio with acted := acted, spur := setBit s.fio.spur (s.get (SPR.UNIT_ACTION.OUT_CHANNEL u)) }) ∧
    (s.spurCommand u a).regs =
      ((s.bump (SPR.UNIT_FIRED.COUNT u)).set2 (SPR.UNIT_LAST_LO.TICK u) (SPR.UNIT_LAST_HI.TICK u) a.trig).regs ∧
    (s.spurCommand u a).now = s.now := by
  have hget (g : Fld) (hg : g.id < 0xE0120 * 32 + 0x40 * (u % 16) * 32) :
      ((s.bump (SPR.UNIT_FIRED.COUNT u)).set2 (SPR.UNIT_LAST_LO.TICK u) (SPR.UNIT_LAST_HI.TICK u) a.trig).get g = s.get g := by
    refine (State.get_set2_ne _ _ ?_ ?_).trans (State.get_bump_ne _ _ ?_) <;>
      simp only [Fld.id, SPR.UNIT_FIRED.COUNT, SPR.UNIT_LAST_LO.TICK, SPR.UNIT_LAST_HI.TICK] at hg ⊢ <;> omega
  have hkind' := (hget (SPR.UNIT_ACTION.KIND u) (by simp only [Fld.id, SPR.UNIT_ACTION.KIND]; omega)).trans hkind
  have hout := hget (SPR.UNIT_ACTION.OUT_CHANNEL u) (by simp only [Fld.id, SPR.UNIT_ACTION.OUT_CHANNEL]; omega)
  obtain ⟨r, hrun⟩ := s.spurCommand_eq u a
  rw [hrun, State.spurAct_sets hkind' hpulses hacted, hout]
  exact ⟨⟨_, rfl⟩, rfl, rfl⟩

/-! ## A unit's queue (R244, R245) -/

theorem State.runQueue_none (hq : s.queue u = []) (fuel : Nat) : s.runQueue u (fuel + 1) = (s, 0) := by
  unfold State.runQueue
  rw [hq]

theorem State.runQueue_waits (hq : s.queue u = [a]) (hnot : s.dueNow a = false) (fuel : Nat) : s.runQueue u (fuel + 1) = (s, 0) := by
  unfold State.runQueue
  rw [hq]
  exact if_pos (by rw [hnot]; rfl)

theorem State.runQueue_one (hq : s.queue u = [a]) (hdue : s.dueNow a = true)
    (hempty : ((s.setQueue u []).spurCommand u a).queue u = []) (fuel : Nat) :
    s.runQueue u (fuel + 2) = ((s.setQueue u []).spurCommand u a, 1) := by
  unfold State.runQueue
  rw [hq]
  dsimp only
  rw [if_neg (by simp [hdue]), State.runQueue_none hempty]

/-- R242. The units chained to those that have commanded are due on the tick after. -/
def State.chained (s : State) (fired : List Nat) : State :=
  { s with fio := { s.fio with chainDue := s.fio.chainDue ++
    ((List.range 16).filter fun v => s.get (SPR.UNIT_TRIG.KIND v) == 6).flatMap fun v =>
      (fired.filter (· == s.get (SPR.UNIT_TRIG.CHAIN_UNIT v))).map fun _ => (v, s.now + 1) } }

theorem State.chained_nil (s : State) : s.chained [] = s := by
  have hnone (l : List Nat) : (l.flatMap fun v => (([] : List Nat).filter (· == s.get (SPR.UNIT_TRIG.CHAIN_UNIT v))).map
      fun _ => (v, s.now + 1)) = [] := List.flatMap_eq_nil_iff.2 fun _ _ => rfl
  unfold State.chained
  rw [hnone, List.append_nil]

theorem State.spurRun_one {t : State} {k : Nat} (h : s.runQueue u 9 = (t, k)) : s.spurRun [u] = t.chained (List.replicate k u) := by
  unfold State.spurRun State.chained
  simp only [List.foldl_cons, List.foldl_nil, h, List.nil_append]

theorem State.spurRun_waits (h : s.queue u = [] ∨ ∃ a, s.queue u = [a] ∧ s.dueNow a = false) : s.spurRun [u] = s := by
  have hrun : s.runQueue u 9 = (s, 0) := by
    rcases h with h | ⟨a, h, hnot⟩
    · exact State.runQueue_none h 8
    · exact State.runQueue_waits h hnot 8
  exact (State.spurRun_one hrun).trans s.chained_nil

/-- What the one due action of unit `u`, which sets its channel, leaves. -/
structure State.Fired (x s : State) (u : Nat) (trig : Nat) : Prop where
  queue : x.queue u = []
  spur : x.fio.spur.testBit (s.get (SPR.UNIT_ACTION.OUT_CHANNEL u)) = true
  recognised : x.fio.spurDue = s.fio.spurDue
  times : x.fio.timeDone = s.fio.timeDone
  armed : x.bit (SPR.UNIT_STATUS.ARMED u) = s.bit (SPR.UNIT_STATUS.ARMED u)
  count : x.get (SPR.UNIT_FIRED.COUNT u) = satAdd (s.get (SPR.UNIT_FIRED.COUNT u)) 1 (2 ^ 32 - 1) % 2 ^ 32
  last : x.get2 (SPR.UNIT_LAST_LO.TICK u) (SPR.UNIT_LAST_HI.TICK u) = trig % 2 ^ 64
  chain : ∀ v < 16, s.get (SPR.UNIT_TRIG.KIND v) = 6 → s.get (SPR.UNIT_TRIG.CHAIN_UNIT v) = u → (v, s.now + 1) ∈ x.fio.chainDue

theorem State.mem_chained {v : Nat} (hv : v < 16) (hkind : s.get (SPR.UNIT_TRIG.KIND v) = 6)
    (hchain : s.get (SPR.UNIT_TRIG.CHAIN_UNIT v) = u) : (v, s.now + 1) ∈ (s.chained [u]).fio.chainDue := by
  refine List.mem_append_right _ (List.mem_flatMap.2 ⟨v, List.mem_filter.2 ⟨List.mem_range.2 hv, by simp [hkind]⟩, ?_⟩)
  simp [hchain]

theorem State.spurRun_fires (hkind : s.get (SPR.UNIT_ACTION.KIND u) = 1) (hpulses : s.fio.pulses = []) (hacted : s.fio.acted = [])
    (hq : s.queue u = [a]) (hdue : s.dueNow a = true) : (s.spurRun [u]).Fired s u a.trig := by
  have hqueued (g : Fld) (hg : g.id ≠ (SPR.UNIT_STATUS.QUEUED u).id) : (s.setQueue u []).get g = s.get g := State.get_set_ne _ _ hg
  have hkind' := (hqueued (SPR.UNIT_ACTION.KIND u) (by simp only [Fld.id, SPR.UNIT_ACTION.KIND, SPR.UNIT_STATUS.QUEUED]; omega)).trans hkind
  have hout := hqueued (SPR.UNIT_ACTION.OUT_CHANNEL u) (by simp only [Fld.id, SPR.UNIT_ACTION.OUT_CHANNEL, SPR.UNIT_STATUS.QUEUED]; omega)
  obtain ⟨⟨acted, hfio⟩, hregs, hnow⟩ := State.spurCommand_sets (s := s.setQueue u []) (a := a) hkind' hpulses hacted
  have hempty : ((s.setQueue u []).spurCommand u a).queue u = [] := by
    unfold State.queue
    rw [hfio]
    exact Sparse.get_put_self [] s.fio.queues u []
  have hcommand (g : Fld) : ((s.setQueue u []).spurCommand u a).get g = (((s.setQueue u []).bump (SPR.UNIT_FIRED.COUNT u)).set2
      (SPR.UNIT_LAST_LO.TICK u) (SPR.UNIT_LAST_HI.TICK u) a.trig).get g := by
    unfold State.get
    rw [hregs]
  have hget (g : Fld) (hqueue : g.id ≠ (SPR.UNIT_STATUS.QUEUED u).id) (hfired : g.id ≠ (SPR.UNIT_FIRED.COUNT u).id)
      (hlo : g.id ≠ (SPR.UNIT_LAST_LO.TICK u).id) (hhi : g.id ≠ (SPR.UNIT_LAST_HI.TICK u).id) :
      ((s.setQueue u []).spurCommand u a).get g = s.get g := by
    exact (hcommand g).trans ((State.get_set2_ne _ _ hlo hhi).trans ((State.get_bump_ne _ _ hfired).trans (hqueued g hqueue)))
  have hnow' : ((s.setQueue u []).spurCommand u a).now = s.now := hnow
  rw [State.spurRun_one (State.runQueue_one hq hdue hempty 7)]
  have hspur : ((s.setQueue u []).spurCommand u a).fio.spur = setBit s.fio.spur (s.get (SPR.UNIT_ACTION.OUT_CHANNEL u)) := by
    rw [hfio, ← hout]
    rfl
  have hdues : ((s.setQueue u []).spurCommand u a).fio.spurDue = s.fio.spurDue := by rw [hfio]; rfl
  have htimes : ((s.setQueue u []).spurCommand u a).fio.timeDone = s.fio.timeDone := by rw [hfio]; rfl
  have hcount : ((s.setQueue u []).spurCommand u a).get (SPR.UNIT_FIRED.COUNT u) =
      satAdd (s.get (SPR.UNIT_FIRED.COUNT u)) 1 (2 ^ 32 - 1) % 2 ^ 32 := by
    have hold := hqueued (SPR.UNIT_FIRED.COUNT u) (by simp only [Fld.id, SPR.UNIT_FIRED.COUNT, SPR.UNIT_STATUS.QUEUED]; omega)
    rw [← hold]
    refine (hcommand _).trans ((State.get_set2_ne _ _ ?_ ?_).trans (State.get_bump_self _ _ _)) <;>
      simp only [Fld.id, SPR.UNIT_FIRED.COUNT, SPR.UNIT_LAST_LO.TICK, SPR.UNIT_LAST_HI.TICK] <;> omega
  have hlast : ((s.setQueue u []).spurCommand u a).get2 (SPR.UNIT_LAST_LO.TICK u) (SPR.UNIT_LAST_HI.TICK u) = a.trig % 2 ^ 64 := by
    unfold State.get2
    rw [hcommand, hcommand]
    exact State.get2_set2 _ _ (by simp only [Fld.id, SPR.UNIT_LAST_LO.TICK, SPR.UNIT_LAST_HI.TICK]; omega)
  have hchains (v : Nat) (hv : v < 16) (hkind : s.get (SPR.UNIT_TRIG.KIND v) = 6) (hchain : s.get (SPR.UNIT_TRIG.CHAIN_UNIT v) = u) :
      (v, s.now + 1) ∈ (((s.setQueue u []).spurCommand u a).chained [u]).fio.chainDue := by
    have hmem := State.mem_chained (s := (s.setQueue u []).spurCommand u a) (u := u) hv ?_ ?_
    · rwa [hnow'] at hmem
    · refine (hget _ ?_ ?_ ?_ ?_).trans hkind <;> simp only [Fld.id, SPR.UNIT_TRIG.KIND, SPR.UNIT_STATUS.QUEUED, SPR.UNIT_FIRED.COUNT,
        SPR.UNIT_LAST_LO.TICK, SPR.UNIT_LAST_HI.TICK] <;> omega
    · refine (hget _ ?_ ?_ ?_ ?_).trans hchain <;> simp only [Fld.id, SPR.UNIT_TRIG.CHAIN_UNIT, SPR.UNIT_STATUS.QUEUED,
        SPR.UNIT_FIRED.COUNT, SPR.UNIT_LAST_LO.TICK, SPR.UNIT_LAST_HI.TICK] <;> omega
  have harmed : ((s.setQueue u []).spurCommand u a).get (SPR.UNIT_STATUS.ARMED u) = s.get (SPR.UNIT_STATUS.ARMED u) := by
    refine hget _ ?_ ?_ ?_ ?_ <;> simp only [Fld.id, SPR.UNIT_STATUS.ARMED, SPR.UNIT_STATUS.QUEUED, SPR.UNIT_FIRED.COUNT,
      SPR.UNIT_LAST_LO.TICK, SPR.UNIT_LAST_HI.TICK] <;> omega
  generalize (s.setQueue u []).spurCommand u a = x at hempty hspur hdues htimes harmed hcount hlast hchains
  exact ⟨hempty, (congrArg (Nat.testBit · _) hspur).trans (setBit_testBit _ _), hdues, htimes, State.bit_congr _ _ harmed, hcount, hlast,
    hchains⟩

end Commands

section Triggers

variable {s : State} {u : Nat}

/-! ## Triggers (R242, R243) -/

/-- A trigger that is accepted by a ONCE unit whose action is immediate. -/
theorem State.spurTrigger_accepts (harmed : s.bit (SPR.UNIT_STATUS.ARMED u) = true) (hsupply : s.supplySuppresses u = false)
    (hrun : s.inRun = true) (htiming : s.get (SPR.UNIT_ACTION.TIMING u) = 0) (hq : s.queue u = [])
    (honce : s.bit (SPR.UNIT_ACTION.ONCE u) = true) (trig : Nat) :
    ∃ len, s.spurTrigger u trig = (s.set (SPR.UNIT_STATUS.ARMED u) 0).setQueue u [⟨trig, .now, len⟩] := by
  have htiming' : (s.set (SPR.UNIT_STATUS.ARMED u) 0).get (SPR.UNIT_ACTION.TIMING u) = 0 :=
    (State.get_set_ne _ _ (by simp only [Fld.id, SPR.UNIT_ACTION.TIMING, SPR.UNIT_STATUS.ARMED]; omega)).trans htiming
  have hq' : (s.set (SPR.UNIT_STATUS.ARMED u) 0).queue u = [] := hq
  have hschedule : (s.set (SPR.UNIT_STATUS.ARMED u) 0).schedule u trig =
      ⟨trig, .now, (s.set (SPR.UNIT_STATUS.ARMED u) 0).get (SPR.UNIT_PULSE.TICKS u)⟩ := by
    unfold State.schedule
    dsimp only
    rw [htiming']
    rfl
  refine ⟨(s.set (SPR.UNIT_STATUS.ARMED u) 0).get (SPR.UNIT_PULSE.TICKS u), ?_⟩
  unfold State.spurTrigger
  dsimp only
  rw [if_neg (by simp [harmed]), if_neg (by simp [hsupply]), if_neg (by simp [hrun]), honce, if_pos rfl, hq', if_neg (by decide),
    List.nil_append, hschedule]

/-- The trigger of a unit that sets its channel at once, and what it commands. -/
theorem State.trigger_fires (harmed : s.bit (SPR.UNIT_STATUS.ARMED u) = true) (hsupply : s.supplySuppresses u = false)
    (hrun : s.inRun = true) (htiming : s.get (SPR.UNIT_ACTION.TIMING u) = 0) (hq : s.queue u = [])
    (honce : s.bit (SPR.UNIT_ACTION.ONCE u) = true) (hkind : s.get (SPR.UNIT_ACTION.KIND u) = 1) (hpulses : s.fio.pulses = [])
    (hacted : s.fio.acted = []) (trig : Nat) :
    ((s.spurTrigger u trig).spurRun [u]).Fired (s.set (SPR.UNIT_STATUS.ARMED u) 0) u trig := by
  obtain ⟨len, htrigger⟩ := State.spurTrigger_accepts harmed hsupply hrun htiming hq honce trig
  have hget (g : Fld) (hqueued : g.id ≠ (SPR.UNIT_STATUS.QUEUED u).id) :
      (s.spurTrigger u trig).get g = (s.set (SPR.UNIT_STATUS.ARMED u) 0).get g := by
    rw [htrigger]
    exact State.get_set_ne _ _ hqueued
  have hkind' : (s.spurTrigger u trig).get (SPR.UNIT_ACTION.KIND u) = 1 := by
    refine (hget _ ?_).trans ((State.get_set_ne _ _ ?_).trans hkind) <;>
      simp only [Fld.id, SPR.UNIT_ACTION.KIND, SPR.UNIT_STATUS.QUEUED, SPR.UNIT_STATUS.ARMED] <;> omega
  have hq' : (s.spurTrigger u trig).queue u = [⟨trig, .now, len⟩] := by
    rw [htrigger, State.queue_setQueue]
  have hfired := State.spurRun_fires hkind' (by rw [htrigger]; exact hpulses) (by rw [htrigger]; exact hacted) hq' rfl
  refine ⟨hfired.queue, ?_, hfired.recognised.trans (by rw [htrigger]; rfl), hfired.times.trans (by rw [htrigger]; rfl),
    hfired.armed.trans (State.bit_congr _ _ (hget _ ?_)), ?_, hfired.last, fun v hv hkind hchain => ?_⟩
  · rw [← hget (SPR.UNIT_ACTION.OUT_CHANNEL u) (by simp only [Fld.id, SPR.UNIT_ACTION.OUT_CHANNEL, SPR.UNIT_STATUS.QUEUED]; omega)]
    exact hfired.spur
  · simp only [Fld.id, SPR.UNIT_STATUS.ARMED, SPR.UNIT_STATUS.QUEUED]; omega
  · rw [← hget (SPR.UNIT_FIRED.COUNT u) (by simp only [Fld.id, SPR.UNIT_FIRED.COUNT, SPR.UNIT_STATUS.QUEUED]; omega)]
    exact hfired.count
  · have hnow : (s.spurTrigger u trig).now = s.now := by rw [htrigger]; rfl
    have hmem := hfired.chain v hv ((hget _ (by simp only [Fld.id, SPR.UNIT_TRIG.KIND, SPR.UNIT_STATUS.QUEUED]; omega)).trans hkind)
      ((hget _ (by simp only [Fld.id, SPR.UNIT_TRIG.CHAIN_UNIT, SPR.UNIT_STATUS.QUEUED]; omega)).trans hchain)
    rw [hnow] at hmem
    exact hmem

/-- The unit disarmed by its ONCE trigger. -/
theorem State.Fired.disarmed {x : State} {trig : Nat} (h : x.Fired (s.set (SPR.UNIT_STATUS.ARMED u) 0) u trig) :
    x.bit (SPR.UNIT_STATUS.ARMED u) = false :=
  h.armed.trans (State.bit_set_zero _ _)

theorem State.Fired.of_disarm {x : State} {trig : Nat} (h : x.Fired (s.set (SPR.UNIT_STATUS.ARMED u) 0) u trig) :
    x.fio.spur.testBit (s.get (SPR.UNIT_ACTION.OUT_CHANNEL u)) = true ∧
      x.get (SPR.UNIT_FIRED.COUNT u) = satAdd (s.get (SPR.UNIT_FIRED.COUNT u)) 1 (2 ^ 32 - 1) % 2 ^ 32 := by
  refine ⟨?_, h.count.trans ?_⟩
  · rw [← State.get_set_ne s 0 (f := SPR.UNIT_STATUS.ARMED u) (g := SPR.UNIT_ACTION.OUT_CHANNEL u)
      (by simp only [Fld.id, SPR.UNIT_ACTION.OUT_CHANNEL, SPR.UNIT_STATUS.ARMED]; omega)]
    exact h.spur
  · rw [State.get_set_ne s 0 (f := SPR.UNIT_STATUS.ARMED u) (g := SPR.UNIT_FIRED.COUNT u)
      (by simp only [Fld.id, SPR.UNIT_FIRED.COUNT, SPR.UNIT_STATUS.ARMED]; omega)]

/-- An input edge that unit `u` has recognised and takes up. -/
theorem State.inputTrigger_takes {t : Nat} (hdue : s.fio.spurDue = [(u, t)]) :
    s.inputTrigger u = (State.spurTrigger { s with fio := { s.fio with spurDue := [] } } u t).spurRun [u] := by
  unfold State.inputTrigger
  simp [hdue]

theorem State.inputTrigger_none (h : ∀ e ∈ s.fio.spurDue, e.1 ≠ u) : s.inputTrigger u = s := by
  have hnone : s.fio.spurDue.find? (·.1 == u) = none := List.find?_eq_none.2 fun e he => by simp [h e he]
  unfold State.inputTrigger
  rw [hnone]

theorem State.inputTrigger_disarmed {t : Nat} (hdue : s.fio.spurDue = [(u, t)]) (harmed : s.bit (SPR.UNIT_STATUS.ARMED u) = false)
    (hq : s.queue u = []) : s.inputTrigger u = { s with fio := { s.fio with spurDue := [] } } := by
  have hignored : State.spurTrigger { s with fio := { s.fio with spurDue := [] } } u t = { s with fio := { s.fio with spurDue := [] } } := by
    have harmed' : State.bit { s with fio := { s.fio with spurDue := [] } } (SPR.UNIT_STATUS.ARMED u) = false := harmed
    exact if_pos (by rw [harmed']; rfl)
  rw [State.inputTrigger_takes hdue, hignored]
  exact State.spurRun_waits (.inl hq)

theorem State.timeTrigger_fires (hon : s.domOn 5 = true) (hkind : s.get (SPR.UNIT_TRIG.KIND u) = 3) (hdone : s.fio.timeDone = [])
    (hdue : 0 ≤ diff32 s.now (s.get (SPR.UNIT_PARAM.PARAM u))) :
    s.timeTrigger u = (State.spurTrigger { s with fio := { s.fio with timeDone := [u] } } u s.now).spurRun [u] := by
  have hnot : ¬ diff32 s.now (s.get (SPR.UNIT_PARAM.PARAM u)) < 0 := not_lt.2 hdue
  unfold State.timeTrigger
  rw [if_neg (by simp [hon, hkind, hdone, hnot]), hdone]
  rfl

theorem State.actionDue_on (hon : s.domOn 5 = true) : s.actionDue u = s.spurRun [u] := if_neg (by simp [hon])

theorem State.actionDue_early {a : SpurAct} (hq : s.queue u = [a]) (hnot : s.dueNow a = false) : s.actionDue u = s := by
  unfold State.actionDue
  split
  · rfl
  · exact State.spurRun_waits (.inr ⟨a, hq, hnot⟩)

/-- The unit of a TIME trigger fires. -/
theorem State.timeTrigger_sets (hon : s.domOn 5 = true) (harmed : s.bit (SPR.UNIT_STATUS.ARMED u) = true) (hrun : s.inRun = true)
    (htiming : s.get (SPR.UNIT_ACTION.TIMING u) = 0) (hq : s.queue u = []) (honce : s.bit (SPR.UNIT_ACTION.ONCE u) = true)
    (hkind : s.get (SPR.UNIT_ACTION.KIND u) = 1) (hpulses : s.fio.pulses = []) (hacted : s.fio.acted = [])
    (htrig : s.get (SPR.UNIT_TRIG.KIND u) = 3) (hdone : s.fio.timeDone = []) (hdue : 0 ≤ diff32 s.now (s.get (SPR.UNIT_PARAM.PARAM u))) :
    (s.timeTrigger u).fio.timeDone = [u] ∧
      (s.timeTrigger u).fio.spur.testBit (s.get (SPR.UNIT_ACTION.OUT_CHANNEL u)) = true ∧
      (s.timeTrigger u).bit (SPR.UNIT_STATUS.ARMED u) = false := by
  rw [State.timeTrigger_fires hon htrig hdone hdue]
  generalize s.now = now
  obtain ⟨w, hw, hregs⟩ : ∃ w, w = { s with fio := { s.fio with timeDone := [u] } } ∧ w.regs = s.regs := ⟨_, rfl, rfl⟩
  have hget (g : Fld) : w.get g = s.get g := by unfold State.get; rw [hregs]
  have hbit (g : Fld) : w.bit g = s.bit g := State.bit_congr _ _ (hget g)
  have hsupply : w.supplySuppresses u = false := by
    unfold State.supplySuppresses
    rw [hget, htrig]
    rfl
  rw [← hw]
  have hfired := State.trigger_fires ((hbit _).trans harmed) hsupply ((hbit _).trans hrun) ((hget _).trans htiming) (by rw [hw]; exact hq)
    ((hbit _).trans honce) ((hget _).trans hkind) (by rw [hw]; exact hpulses) (by rw [hw]; exact hacted) now
  exact ⟨hfired.times.trans (by rw [hw]; rfl), hget _ ▸ hfired.of_disarm.1, hfired.disarmed⟩

/-- The unit of an input edge fires. -/
theorem State.inputTrigger_sets {t : Nat} (harmed : s.bit (SPR.UNIT_STATUS.ARMED u) = true) (hrun : s.inRun = true)
    (htiming : s.get (SPR.UNIT_ACTION.TIMING u) = 0) (hq : s.queue u = []) (honce : s.bit (SPR.UNIT_ACTION.ONCE u) = true)
    (hkind : s.get (SPR.UNIT_ACTION.KIND u) = 1) (hpulses : s.fio.pulses = []) (hacted : s.fio.acted = [])
    (hdue : s.fio.spurDue = [(u, t)]) (htrig : s.get (SPR.UNIT_TRIG.KIND u) = 1)
    (hup : s.groupUp (s.get (SPR.UNIT_TRIG.CHANNEL u)) = true) :
    (s.inputTrigger u).fio.spurDue = [] ∧
      (s.inputTrigger u).fio.spur.testBit (s.get (SPR.UNIT_ACTION.OUT_CHANNEL u)) = true ∧
      (s.inputTrigger u).bit (SPR.UNIT_STATUS.ARMED u) = false ∧
      (s.inputTrigger u).get2 (SPR.UNIT_LAST_LO.TICK u) (SPR.UNIT_LAST_HI.TICK u) = t % 2 ^ 64 ∧
      (s.inputTrigger u).get (SPR.UNIT_FIRED.COUNT u) = satAdd (s.get (SPR.UNIT_FIRED.COUNT u)) 1 (2 ^ 32 - 1) % 2 ^ 32 := by
  rw [State.inputTrigger_takes hdue]
  obtain ⟨w, hw, hregs⟩ : ∃ w, w = { s with fio := { s.fio with spurDue := [] } } ∧ w.regs = s.regs := ⟨_, rfl, rfl⟩
  have hget (g : Fld) : w.get g = s.get g := by unfold State.get; rw [hregs]
  have hbit (g : Fld) : w.bit g = s.bit g := State.bit_congr _ _ (hget g)
  have hsupply : w.supplySuppresses u = false := by
    have hchannel : w.groupUp (s.get (SPR.UNIT_TRIG.CHANNEL u)) = true := by rw [hw]; exact hup
    unfold State.supplySuppresses
    rw [hget, htrig, hget]
    exact congrArg not hchannel
  rw [← hw]
  have hfired := State.trigger_fires ((hbit _).trans harmed) hsupply ((hbit _).trans hrun) ((hget _).trans htiming) (by rw [hw]; exact hq)
    ((hbit _).trans honce) ((hget _).trans hkind) (by rw [hw]; exact hpulses) (by rw [hw]; exact hacted) t
  obtain ⟨hspur, hcount⟩ := hfired.of_disarm
  rw [hget] at hspur hcount
  exact ⟨hfired.recognised.trans (by rw [hw]; rfl), hspur, hfired.disarmed, hfired.last, hcount⟩

/-! ## Pulses and control (R243, R245, R247) -/

theorem State.pulseEnd_ends {p : SpurPulse} (hp : s.fio.pulses = [p]) (hu : p.unit = u) (hdue : p.stop ≤ s.now) :
    s.pulseEnd u = (State.set { s with fio := { s.fio with pulses := [] } } (SPR.UNIT_STATUS.PULSE_ACTIVE u) 0).spurLevel p.chan p.level := by
  unfold State.pulseEnd
  simp [hp, hu, hdue]

theorem State.pulseEnd_early {p : SpurPulse} (hp : s.fio.pulses = [p]) (hearly : s.now < p.stop) : s.pulseEnd u = s := by
  unfold State.pulseEnd
  simp [hp, Nat.not_le.2 hearly]

theorem State.get_putTrig_kind (s : State) (u v : Nat) : (s.putTrig u v).get (SPR.UNIT_TRIG.CHANNEL u) = bitsOf v 4 5 := by
  unfold State.putTrig
  simp (disch := simp only [Fld.id, SPR.UNIT_TRIG.CHANNEL, SPR.UNIT_TRIG.EDGE, SPR.UNIT_TRIG.SOURCE, SPR.UNIT_TRIG.COUNTER,
    SPR.UNIT_TRIG.DIRECTION, SPR.UNIT_TRIG.CHAIN_UNIT]; omega) only [State.get_set_ne, State.get_set_self]
  exact Nat.mod_mod _ _

/-- R247. A unit not in use takes the trigger of a write that passes its checks. -/
theorem State.trigWrite_takes {v : Nat} (hfree : s.spurUsed u = false) (hkind : bitsOf v 0 4 ≠ 0) (hcause : s.spurCause u v = 0) :
    (s.trigWrite u v).get (SPR.UNIT_TRIG.KIND u) = bitsOf v 0 4 ∧ (s.trigWrite u v).get (SPR.UNIT_TRIG.CHANNEL u) = bitsOf v 4 5 ∧
      (s.trigWrite u v).get (SPR.UNIT_STATUS.CFG_ERR u) = 0 := by
  have hrun (g : Fld) : (s.trigWrite u v).get g = ((((s.putTrig u v).set (SPR.UNIT_TRIG.KIND u) (bitsOf v 0 4)).set
      (SPR.UNIT_STATUS.CFG_ERR u) 0).set (SPR.UNIT_STATUS.CFG_CAUSE u) 0).get g := by
    unfold State.trigWrite
    dsimp only
    rw [if_neg (by simp [hfree]), if_neg hkind, if_neg (by simp [hcause])]
    rfl
  have hcfg (g : Fld) (hg : g.id < 0xE0120 * 32 + 0x40 * (u % 16) * 32) (t : State) :
      ((t.set (SPR.UNIT_STATUS.CFG_ERR u) 0).set (SPR.UNIT_STATUS.CFG_CAUSE u) 0).get g = t.get g := by
    refine (State.get_set_ne _ _ ?_).trans (State.get_set_ne _ _ ?_) <;>
      simp only [Fld.id, SPR.UNIT_STATUS.CFG_ERR, SPR.UNIT_STATUS.CFG_CAUSE] at hg ⊢ <;> omega
  refine ⟨?_, ?_, ?_⟩ <;> rw [hrun]
  · rw [hcfg _ (by simp only [Fld.id, SPR.UNIT_TRIG.KIND]; omega)]
    exact (State.get_set_self _ _ _).trans (Nat.mod_mod _ _)
  · rw [hcfg _ (by simp only [Fld.id, SPR.UNIT_TRIG.CHANNEL]; omega)]
    exact (State.get_set_ne _ _ (by simp [Fld.id, SPR.UNIT_TRIG.CHANNEL, SPR.UNIT_TRIG.KIND])).trans (s.get_putTrig_kind u v)
  · exact (State.get_set_ne _ _ (by simp [Fld.id, SPR.UNIT_STATUS.CFG_ERR, SPR.UNIT_STATUS.CFG_CAUSE])).trans
      ((State.get_set_self _ _ _).trans (Nat.zero_mod _))

theorem State.trigWrite_refused {v c : Nat} (hfree : s.spurUsed u = false) (hkind : bitsOf v 0 4 ≠ 0) (hc : c ≠ 0)
    (hcause : s.spurCause u v = c) : s.trigWrite u v =
      ((s.set (SPR.UNIT_STATUS.CFG_ERR u) 1).set (SPR.UNIT_STATUS.CFG_CAUSE u) c).post 99 (u + 256 * c) := by
  unfold State.trigWrite
  dsimp only
  rw [if_neg (by simp [hfree]), if_neg hkind, hcause, if_pos hc]

theorem State.trigWrite_used {v : Nat} (hused : s.spurUsed u = true) : s.trigWrite u v =
    if bitsOf v 0 4 = 0 then ((s.set (SPR.UNIT_TRIG.KIND u) 0).setQueue u []).spurForget u else s :=
  if_pos hused

theorem State.trigWrite_frees (s : State) (u : Nat) :
    (((s.set (SPR.UNIT_TRIG.KIND u) 0).setQueue u []).spurForget u).get (SPR.UNIT_TRIG.KIND u) = 0 ∧
      (((s.set (SPR.UNIT_TRIG.KIND u) 0).setQueue u []).spurForget u).queue u = [] := by
  have hapart : (SPR.UNIT_TRIG.KIND u).id ≠ (SPR.UNIT_STATUS.QUEUED u).id := by
    simp only [Fld.id, SPR.UNIT_TRIG.KIND, SPR.UNIT_STATUS.QUEUED]; omega
  have hkind : (((s.set (SPR.UNIT_TRIG.KIND u) 0).setQueue u []).spurForget u).get (SPR.UNIT_TRIG.KIND u) =
      ((s.set (SPR.UNIT_TRIG.KIND u) 0).set (SPR.UNIT_STATUS.QUEUED u) 0).get (SPR.UNIT_TRIG.KIND u) := rfl
  exact ⟨hkind.trans ((State.get_set_ne _ _ hapart).trans ((State.get_set_self _ _ _).trans (Nat.zero_mod _))),
    (s.set (SPR.UNIT_TRIG.KIND u) 0).queue_setQueue u []⟩

end Triggers

/-- Settles O33: a trigger puts the action on the unit's queue, and the queue's due action commands the channel; the other rows are the
branches of their commands. -/
theorem spurUnits : Obligations.SpurUnits := by
  unfold Obligations.SpurUnits
  refine ⟨fun s u hon harmed hrun hkind hpulses hacted => ⟨fun htiming hq honce => ⟨fun t hdue htrig hup => ?_, fun htrig hdone hdue => ?_⟩,
      fun t k len hq hdue => ?_⟩,
    fun s u => ⟨fun h => State.done_eq (State.inputTrigger_none h), fun t hdue harmed hq => State.done_eq (State.inputTrigger_disarmed hdue harmed hq),
      fun hkind hearly => State.done_eq (if_pos (by simp [hearly])), fun t k len hq hearly => ?_,
      fun p hp hu => ⟨fun hdue => State.done_eq (State.pulseEnd_ends hp hu hdue), fun hearly => State.done_eq (State.pulseEnd_early hp hearly)⟩,
      fun v hfree hkind => ⟨fun hcause => ⟨_, rfl, State.trigWrite_takes hfree hkind hcause⟩,
        fun c hc hcause => State.done_eq (State.trigWrite_refused hfree hkind hc hcause)⟩,
      fun v hused => ⟨fun hkind => State.done_eq ((State.trigWrite_used hused).trans (if_neg hkind)),
        fun hkind => ⟨_, State.done_eq ((State.trigWrite_used hused).trans (if_pos hkind)), s.trigWrite_frees u⟩⟩,
      fun hsrc => ⟨State.done_eq (if_neg (by simp [hsrc])), State.done_eq (if_neg (by simp [hsrc])),
        fun b => State.bit_setB_self _ _ _ le_rfl⟩,
      fun hsrc => ⟨State.done_eq (if_pos hsrc), State.done_eq (if_pos hsrc)⟩, rfl⟩⟩
  · exact ⟨_, rfl, State.inputTrigger_sets harmed hrun htiming hq honce hkind hpulses hacted hdue htrig hup⟩
  · exact ⟨_, rfl, State.timeTrigger_sets hon harmed hrun htiming hq honce hkind hpulses hacted htrig hdone hdue⟩
  · have hfired := State.spurRun_fires hkind hpulses hacted hq (decide_eq_true hdue)
    exact ⟨_, State.done_eq (State.actionDue_on hon), hfired.queue, hfired.spur, hfired.count,
      fun v hv hchain => hfired.chain v v.2 hv hchain⟩
  · exact State.done_eq (State.actionDue_early hq (decide_eq_false (not_le.2 hearly)))

end Sys2Proof.Machine

end

/-! PROOFS. Current-loop channels and HART (spec/10 R313 to R316, R320, R327 to R331, R337). -/

section

namespace Sys2Proof.Machine

section BeyondLoops

variable {s t : State}

/-! ## What the loop engine leaves alone -/

/-- A field outside the loop engine's block. -/
def Fld.beyondLoops (f : Fld) : Prop := f.id < 0x100000 * 32 ∨ 0x110000 * 32 ≤ f.id

/-- The current-loop channels and every field outside the loop engine's block. -/
def State.beyondLoops (s : State) : Clp × ({f : Fld // f.beyondLoops} → Nat) := (s.clp, fun f => s.get f)

theorem State.set_beyondLoops {f : Fld} (hlo : 0x100000 * 32 ≤ f.id) (hhi : f.id < 0x110000 * 32) (v : Nat) :
    (s.set f v).beyondLoops = s.beyondLoops :=
  Prod.ext rfl (funext fun g => State.get_set_ne _ _ (by
    have := g.2
    unfold Fld.beyondLoops at this
    omega))

theorem State.get_of_beyondLoops (h : t.beyondLoops = s.beyondLoops) {f : Fld} (hf : f.beyondLoops) : t.get f = s.get f :=
  congrFun (congrArg Prod.snd h) ⟨f, hf⟩

theorem State.clp_of_beyondLoops (h : t.beyondLoops = s.beyondLoops) : t.clp = s.clp := congrArg Prod.fst h

theorem State.loopCounts_beyondLoops (s : State) : s.loopCounts.beyondLoops = s.beyondLoops :=
  (State.set_beyondLoops (by decide) (by decide) _).trans ((State.set_beyondLoops (by decide) (by decide) _).trans
    (State.set_beyondLoops (by decide) (by decide) _))

theorem State.setLoopQueue_beyondLoops (s : State) (q : List LoopSample) : (s.setLoopQueue q).beyondLoops = s.beyondLoops := by
  have hdepth : (State.set { s with lop := { s.lop with queue := q } } LOP.QUEUE.DEPTH q.length).beyondLoops = s.beyondLoops :=
    State.set_beyondLoops (by decide) (by decide) _
  exact State.Apart.ite ((State.set_beyondLoops (by decide) (by decide) _).trans hdepth) hdepth

theorem State.loopMode_beyondLoops (s : State) (i mode : Nat) : (s.loopMode i mode).beyondLoops = s.beyondLoops := by
  have htold (l : Loop) : (((s.setLoop i l).loopCounts).post 133 (i + 4096 * mode + 16384 * (s.loop i).mode)).beyondLoops =
      s.beyondLoops := (s.setLoop i l).loopCounts_beyondLoops
  exact State.Apart.ite rfl (State.Apart.ite (htold _) ((State.setLoopQueue_beyondLoops _ _).trans (htold _)))

theorem State.loopQueue_beyondLoops (s : State) (i word : Nat) : (s.loopQueue i word).beyondLoops = s.beyondLoops := by
  unfold State.loopQueue
  dsimp only
  split
  · rfl
  · split
    · have hbump (q : List LoopSample) (l : Loop) : (((s.setLoopQueue q).setLoop i l).bump LOP.REPLACED.COUNT).beyondLoops = s.beyondLoops :=
        (State.set_beyondLoops (by decide) (by decide) _).trans (s.setLoopQueue_beyondLoops q)
      exact State.Apart.ite (hbump _ _) (hbump _ _)
    · exact State.setLoopQueue_beyondLoops _ _

theorem State.loopPresent_beyondLoops (s : State) (i word : Nat) : (s.loopPresent i word).beyondLoops = s.beyondLoops :=
  State.Apart.ite rfl (State.Apart.ite ((State.loopQueue_beyondLoops _ _ _).trans (s.loopMode_beyondLoops _ _))
    (s.loopQueue_beyondLoops _ _))

theorem State.loopLost_beyondLoops (s : State) (i : Nat) : (s.loopLost i).beyondLoops = s.beyondLoops :=
  State.Apart.ite rfl (State.loopMode_beyondLoops _ _ _)

theorem State.loopsLost_beyondLoops (s : State) (is : List Nat) : (s.loopsLost is).beyondLoops = s.beyondLoops :=
  (State.foldl_keeps State.beyondLoops (fun t i => State.Apart.ite (t.loopLost_beyondLoops i) rfl) _ _).trans
    (State.foldl_keeps State.beyondLoops State.loopLost_beyondLoops is s)

end BeyondLoops

section Conversion

variable {s : State} {n e : Nat}

/-! ## Conversions (R314 to R316) -/

theorem State.clch_setClch (s : State) (n : Nat) (c : ClCh) : (s.setClch n c).clch n = c := Sparse.get_put_self _ _ _ _

theorem State.clch_set (s : State) (n : Nat) (f : Fld) (v : Nat) : (s.set f v).clch n = s.clch n := rfl

theorem State.get_setClch (s : State) (n : Nat) (c : ClCh) (f : Fld) : (s.setClch n c).get f = s.get f := rfl

/-- What a field reads after a write, by its width. -/
theorem State.get_set_width (s : State) {f : Fld} (v : Nat) {w : Nat} (hw : f.w = w) : (s.set f v).get f = v % 2 ^ w :=
  hw ▸ s.get_set_self f v

/-- The state of a channel with its current measured at the end `e` of a period. -/
def State.measured (s : State) (n e : Nat) (i : Int) : State :=
  (s.setClch n { s.clch n with taken := e }).set (CLP.CH_CURRENT.MA n) (f32.ratio i 1000000000000)

/-- The channel after a result of a class. -/
def ClCh.after (c : ClCh) (cl : Nat) : ClCh :=
  { c with cand := enters cl, run := if enters cl = c.cand then c.run + 1 else 1, away := if leaves c.state cl then c.away + 1 else 0 }

/-- What a conversion of a channel in use is held to (R314, R337). -/
structure State.Converts (s : State) (n e : Nat) : Prop where
  on : s.domOn 6 = true
  enable : s.bit CLP.CTRL.ENABLE = true
  input : s.get (CLP.CH_CFG.MODE n) = 1
  ready : s.car.clReady = true
  sound : s.bit (CLP.CH_STATUS.FAILED n) = false
  front : (s.clch n).front = 0
  due : s.periodEnd n = some e

theorem State.conversion_multidrop (h : s.Converts n e) {na : Nat} (hna : na ≤ 25000000) (hmode : s.get (CLP.CH_CFG.HART_MODE n) = 2) :
    s.conversion n na = ((s.measured n e (s.trimmed n na)).setB (CLP.CH_STATUS.OPEN n)
      (decide (s.trimmed n na < 500 * 1000 * 1000000))).set (CLP.CH_STATUS.VALID n) 0 := by
  obtain ⟨hon, henable, hinput, hready, hsound, hfront, hdue⟩ := h
  unfold State.conversion
  rw [hdue]
  dsimp only
  rw [if_neg (by simp [hon, henable, hinput, hready, hsound, hfront]), Nat.min_eq_left hna]
  have hmode' : (s.measured n e (s.trimmed n na)).get (CLP.CH_CFG.HART_MODE n) = 2 :=
    (State.get_set_ne _ _ (by simp only [Fld.id, CLP.CH_CFG.HART_MODE, CLP.CH_CURRENT.MA]; omega)).trans hmode
  exact if_pos hmode'

/-- R315, R316. The result of a channel that is not a multidrop channel. -/
def State.classified (s : State) (n : Nat) (i : Int) : State :=
  let isOpen := decide (i < 500 * 1000 * 1000000)
  let c := (s.clch n).after (classify i)
  let s :=
    if c.next (s.get (CLP.CH_CFG.ALARM_TIME n)) ≠ c.state
    then (s.setClch n c).clState n (c.next (s.get (CLP.CH_CFG.ALARM_TIME n))) isOpen else s.setClch n c
  let t := (s.setB (CLP.CH_STATUS.OPEN n) ((s.clch n).state == 2 && isOpen)).setB (CLP.CH_STATUS.VALID n) (decide ((s.clch n).state ≤ 1))
  if (s.clch n).state ≤ 1 ∧ classify i ≤ 2 then
    (t.loopsOf 1 n).foldl (fun s j => s.loopPresent j (t.clValue n i)) (t.set (CLP.CH_VALUE.VALUE n) (t.clValue n i))
  else t

theorem State.conversion_input (h : s.Converts n e) {na : Nat} (hna : na ≤ 25000000) (hmode : s.get (CLP.CH_CFG.HART_MODE n) ≠ 2) :
    s.conversion n na = (s.measured n e (s.trimmed n na)).classified n (s.trimmed n na) := by
  obtain ⟨hon, henable, hinput, hready, hsound, hfront, hdue⟩ := h
  unfold State.conversion
  rw [hdue]
  dsimp only
  rw [if_neg (by simp [hon, henable, hinput, hready, hsound, hfront]), Nat.min_eq_left hna]
  have hmode' : (s.measured n e (s.trimmed n na)).get (CLP.CH_CFG.HART_MODE n) ≠ 2 := by
    rw [State.measured, State.get_set_ne _ _ (by simp only [Fld.id, CLP.CH_CFG.HART_MODE, CLP.CH_CURRENT.MA]; omega), State.get_setClch]
    exact hmode
  exact if_neg hmode'

/-- R315. A value is made of the channel's range, characteristic, cut-off and table. -/
theorem State.clValue_congr {t : State} (hlo : t.get (CLP.CH_RANGE_LO.LO n) = s.get (CLP.CH_RANGE_LO.LO n))
    (hhi : t.get (CLP.CH_RANGE_HI.HI n) = s.get (CLP.CH_RANGE_HI.HI n)) (hchar : t.get (CLP.CH_CFG.CHAR n) = s.get (CLP.CH_CFG.CHAR n))
    (hcut : t.get (CLP.CH_CUTOFF.CUTOFF n) = s.get (CLP.CH_CUTOFF.CUTOFF n)) (htable : (t.clch n).table = (s.clch n).table) (i : Int) :
    t.clValue n i = s.clValue n i := by
  unfold State.clValue
  rw [hlo, hhi, hchar, hcut, htable]

/-- A field of a channel's set-up. -/
theorem State.get_flags {f : Fld} (hf : f.id < 0x110118 * 32 + 0x40 * (n % 8) * 32) (a b : Bool) (s : State) :
    ((s.setB (CLP.CH_STATUS.OPEN n) a).setB (CLP.CH_STATUS.VALID n) b).get f = s.get f := by
  refine (State.get_setB_ne _ _ ?_).trans (State.get_setB_ne _ _ ?_) <;>
    simp only [Fld.id, CLP.CH_STATUS.VALID, CLP.CH_STATUS.OPEN] at hf ⊢ <;> omega

theorem State.classified_normal {i : Int} (hstate : (s.clch n).state = 0) (hclass : classify i = 0) :
    s.classified n i = (s.loopsOf 1 n).foldl (fun t j => t.loopPresent j (s.clValue n i))
      ((((s.setClch n ((s.clch n).after 0)).setB (CLP.CH_STATUS.OPEN n) false).setB (CLP.CH_STATUS.VALID n) true).set
        (CLP.CH_VALUE.VALUE n) (s.clValue n i)) := by
  have hnext (time : Nat) : ((s.clch n).after 0).next time = 0 := by
    have hold : ((s.clch n).after 0).state = 0 := hstate
    have hcand : ((s.clch n).after 0).cand = 0 := rfl
    unfold ClCh.next
    rw [hold, hcand]
    simp
  have hstate' : ((s.setClch n ((s.clch n).after 0)).clch n).state = 0 := by rw [State.clch_setClch]; exact hstate
  have hvalue : (((s.setClch n ((s.clch n).after 0)).setB (CLP.CH_STATUS.OPEN n) false).setB (CLP.CH_STATUS.VALID n) true).clValue n i =
      s.clValue n i := by
    have htable : ((((s.setClch n ((s.clch n).after 0)).setB (CLP.CH_STATUS.OPEN n) false).setB (CLP.CH_STATUS.VALID n) true).clch n) =
      (s.clch n).after 0 := State.clch_setClch s n _
    refine State.clValue_congr (s := s) (State.get_flags ?_ _ _ (s.setClch n _)) (State.get_flags ?_ _ _ (s.setClch n _))
      (State.get_flags ?_ _ _ (s.setClch n _)) (State.get_flags ?_ _ _ (s.setClch n _)) (show _ from (congrArg ClCh.table htable :)) i <;>
      simp only [Fld.id, CLP.CH_RANGE_LO.LO, CLP.CH_RANGE_HI.HI, CLP.CH_CFG.CHAR, CLP.CH_CUTOFF.CUTOFF] <;> omega
  unfold State.classified
  dsimp only
  rw [hclass, if_neg (show ¬ ((s.clch n).after 0).next (s.get (CLP.CH_CFG.ALARM_TIME n)) ≠ ((s.clch n).after 0).state by
    rw [hnext]; exact not_not.2 hstate.symm), hstate', if_pos (by decide)]
  simp only [Nat.reduceBEq, Bool.false_and, Nat.zero_le, decide_true, hvalue]
  rfl

/-- A channel in its normal band: current, value and VALID. -/
theorem State.classified_normal_told {i : Int} (hstate : (s.clch n).state = 0) (hclass : classify i = 0) :
    (s.classified n i).get (CLP.CH_STATUS.VALID n) = 1 ∧ (s.classified n i).get (CLP.CH_STATUS.OPEN n) = 0 ∧
      ((s.classified n i).clch n).state = 0 ∧ (s.classified n i).get (CLP.CH_CURRENT.MA n) = s.get (CLP.CH_CURRENT.MA n) ∧
      (s.classified n i).get (CLP.CH_VALUE.VALUE n) = s.clValue n i % 2 ^ 32 := by
  rw [State.classified_normal hstate hclass]
  generalize s.clValue n i = v
  have hbeyond := State.foldl_keeps State.beyondLoops (f := fun t j => t.loopPresent j v) (fun t j => t.loopPresent_beyondLoops j v)
    (s.loopsOf 1 n) ((((s.setClch n ((s.clch n).after 0)).setB (CLP.CH_STATUS.OPEN n) false).setB (CLP.CH_STATUS.VALID n) true).set
      (CLP.CH_VALUE.VALUE n) v)
  have hkeep {f : Fld} (hf : 0x110000 * 32 ≤ f.id) := State.get_of_beyondLoops hbeyond (f := f) (.inr hf)
  have hchan := congrArg (Sparse.get ({} : ClCh) ·.chans n) (State.clp_of_beyondLoops hbeyond)
  refine ⟨(hkeep ?_).trans ((State.get_set_ne _ _ ?_).trans (State.get_setB_self _ _ _ le_rfl)),
    (hkeep ?_).trans ((State.get_set_ne _ _ ?_).trans ((State.get_setB_ne _ _ ?_).trans (State.get_setB_self _ _ _ le_rfl))),
    (congrArg ClCh.state hchan).trans ?_,
    (hkeep ?_).trans ((State.get_set_ne _ _ ?_).trans ((State.get_setB_ne _ _ ?_).trans (State.get_setB_ne _ _ ?_))),
    (hkeep ?_).trans (State.get_set_self _ _ _)⟩
  case refine_6 => exact (congrArg ClCh.state (State.clch_setClch s n _)).trans hstate
  all_goals simp only [Fld.id, CLP.CH_STATUS.VALID, CLP.CH_STATUS.OPEN, CLP.CH_CURRENT.MA, CLP.CH_VALUE.VALUE]; omega

/-- What a channel's change to its low alarm tells, before the loops follow (R316). -/
theorem State.clState_low (isOpen : Bool) (hold : (s.clch n).state = 0) :
    ((s.clState n 2 isOpen).clch n).state = 2 ∧ (s.clState n 2 isOpen).bit (CLP.CH_STATUS.ALARM_LOW n) = true ∧
      (s.clState n 2 isOpen).get (CLP.CH_VALUE.VALUE n) = s.get (CLP.CH_VALUE.VALUE n) := by
  have hrun : (s.clState n 2 isOpen).beyondLoops =
      (((((s.setClch n { s.clch n with state := 2, run := 0, away := 0 }).post 144
        (n + 16 * b2n (2 == 3) + 32 * b2n (isOpen && 2 == 2) + 256 * b2n true)).setB (CLP.CH_STATUS.ALARM_LOW n) (2 == 2)).setB
        (CLP.CH_STATUS.ALARM_HIGH n) (2 == 3)).setB (CLP.CH_STATUS.RANGE n) (2 == 1)).beyondLoops := by
    unfold State.clState
    dsimp only
    rw [if_neg (by omega), hold]
    exact State.Apart.ite (State.loopsLost_beyondLoops _ _) rfl
  have hkeep {f : Fld} (hf : 0x110000 * 32 ≤ f.id) := State.get_of_beyondLoops hrun (f := f) (.inr hf)
  have hchan := congrArg (Sparse.get ({} : ClCh) ·.chans n) (State.clp_of_beyondLoops hrun)
  refine ⟨(congrArg ClCh.state hchan).trans (congrArg ClCh.state (State.clch_setClch s n _)), ?_, ?_⟩
  · refine (State.bit_congr _ _ (hkeep ?_)).trans ((State.bit_setB_ne _ _ ?_).trans ((State.bit_setB_ne _ _ ?_).trans
      (State.bit_setB_self _ _ _ le_rfl))) <;>
      simp only [Fld.id, CLP.CH_STATUS.ALARM_LOW, CLP.CH_STATUS.ALARM_HIGH, CLP.CH_STATUS.RANGE] <;> omega
  · refine (hkeep ?_).trans ((State.get_setB_ne _ _ ?_).trans ((State.get_setB_ne _ _ ?_).trans (State.get_setB_ne _ _ ?_))) <;>
      simp only [Fld.id, CLP.CH_VALUE.VALUE, CLP.CH_STATUS.ALARM_LOW, CLP.CH_STATUS.ALARM_HIGH, CLP.CH_STATUS.RANGE] <;> omega

/-- A channel whose low alarm is confirmed. -/
theorem State.classified_low {i : Int} (hstate : (s.clch n).state = 0) (hclass : classify i = 3) (hcand : (s.clch n).cand = 2)
    (htime : s.get (CLP.CH_CFG.ALARM_TIME n) ≤ (s.clch n).run + 1) :
    (s.classified n i).get (CLP.CH_STATUS.VALID n) = 0 ∧ (s.classified n i).bit (CLP.CH_STATUS.ALARM_LOW n) = true ∧
      ((s.classified n i).clch n).state = 2 ∧ (s.classified n i).get (CLP.CH_VALUE.VALUE n) = s.get (CLP.CH_VALUE.VALUE n) := by
  have hnext : ((s.clch n).after 3).next (s.get (CLP.CH_CFG.ALARM_TIME n)) = 2 := by
    have hafter : ((s.clch n).after 3).state = 0 ∧ ((s.clch n).after 3).cand = 2 := ⟨hstate, rfl⟩
    have hcount : ((s.clch n).after 3).run = (s.clch n).run + 1 := if_pos hcand.symm
    unfold ClCh.next
    rw [hafter.1, hafter.2, hcount, if_pos (by decide), if_pos htime]
  have hstate' : ((s.setClch n ((s.clch n).after 3)).clch n).state = 0 := by rw [State.clch_setClch]; exact hstate
  obtain ⟨hlow, halarm, hvalue⟩ := State.clState_low (decide (i < 500 * 1000 * 1000000)) hstate'
  have hrun : s.classified n i = (((s.setClch n ((s.clch n).after 3)).clState n 2 (decide (i < 500 * 1000 * 1000000))).setB
      (CLP.CH_STATUS.OPEN n) (decide (i < 500 * 1000 * 1000000))).setB (CLP.CH_STATUS.VALID n) false := by
    unfold State.classified
    dsimp only
    rw [hclass, hnext, if_pos (show 2 ≠ ((s.clch n).after 3).state by
      rw [show ((s.clch n).after 3).state = 0 from hstate]; decide), hlow, if_neg (by decide)]
    rfl
  rw [hrun]
  refine ⟨State.get_setB_self _ _ _ le_rfl, (State.bit_setB_ne _ _ ?_).trans ((State.bit_setB_ne _ _ ?_).trans halarm), hlow,
    (State.get_setB_ne _ _ ?_).trans ((State.get_setB_ne _ _ ?_).trans hvalue)⟩ <;>
    simp only [Fld.id, CLP.CH_VALUE.VALUE, CLP.CH_STATUS.ALARM_LOW, CLP.CH_STATUS.VALID, CLP.CH_STATUS.OPEN] <;> omega

theorem State.conversion_none (h : s.periodEnd n = none) (na : Nat) : s.conversion n na = s := by
  unfold State.conversion
  rw [h]

/-- The measured current, and what a measurement leaves. -/
theorem State.measured_told (s : State) (n e : Nat) (i : Int) :
    (s.measured n e i).get (CLP.CH_CURRENT.MA n) = f32.ratio i 1000000000000 % 2 ^ 32 ∧
      (s.measured n e i).clch n = { s.clch n with taken := e } ∧
      (∀ f : Fld, f.id ≠ (CLP.CH_CURRENT.MA n).id → (s.measured n e i).get f = s.get f) ∧
      (s.measured n e i).clValue n i = s.clValue n i := by
  have hget (f : Fld) (hf : f.id ≠ (CLP.CH_CURRENT.MA n).id) : (s.measured n e i).get f = s.get f := State.get_set_ne _ _ hf
  have hchan : (s.measured n e i).clch n = { s.clch n with taken := e } :=
    (State.clch_set _ _ _ _).trans (State.clch_setClch s n _)
  refine ⟨State.get_set_width _ _ rfl, hchan, hget, State.clValue_congr (hget _ ?_) (hget _ ?_) (hget _ ?_) (hget _ ?_)
    (show _ from (congrArg ClCh.table hchan :)) i⟩ <;>
    simp only [Fld.id, CLP.CH_RANGE_LO.LO, CLP.CH_RANGE_HI.HI, CLP.CH_CFG.CHAR, CLP.CH_CUTOFF.CUTOFF, CLP.CH_CURRENT.MA] <;> omega

end Conversion

section Stages

variable {s : State} {n na mv : Nat}

/-! ## Output stages and front ends (R24, R313, R320, R337) -/

theorem State.bit_clFlag_self (s : State) (f : Fld) (src n : Nat) (b : Bool) (hf : 1 ≤ f.w) : (s.clFlag f src n b).bit f = b := by
  unfold State.clFlag
  split
  next h => exact h
  next => exact State.bit_setB_self _ _ _ hf

theorem State.get_clFlag_ne {f g : Fld} (h : g.id ≠ f.id) (src n : Nat) (b : Bool) (s : State) : (s.clFlag f src n b).get g = s.get g := by
  unfold State.clFlag
  split
  · rfl
  · exact State.get_setB_ne _ _ h

/-- The end of a supervision: whether the alarm was missed for its time. -/
def State.signalled (s : State) (n : Nat) (bad : Option Nat) : State :=
  match bad with
  | some t => if t + 10 * ticksPerMs ≤ s.now then s.clFlag (CLP.CH_STATUS.ALARM_NOT_SIGNALLED n) 146 n true else s
  | none => s.clFlag (CLP.CH_STATUS.ALARM_NOT_SIGNALLED n) 146 n false

theorem State.get_signalled {g : Fld} (h : g.id ≠ (CLP.CH_STATUS.ALARM_NOT_SIGNALLED n).id) (bad : Option Nat) (s : State) :
    (s.signalled n bad).get g = s.get g := by
  unfold State.signalled
  split
  · exact State.Apart.ite (part := (State.get · g)) (State.get_clFlag_ne h _ _ _ s) rfl
  · exact State.get_clFlag_ne h _ _ _ s

/-- R320. Whether the headroom complies, of a measurement that is good since `good`. -/
def State.complied (s : State) (n mv : Nat) (good : Option Nat) : State :=
  if mv < 1000 then s.clFlag (CLP.CH_STATUS.COMPLIANCE n) 145 n true
  else match good with
    | some t => if t + ticksPerMs ≤ s.now then s.clFlag (CLP.CH_STATUS.COMPLIANCE n) 145 n false else s
    | none => s

theorem State.get_complied {g : Fld} (h : g.id ≠ (CLP.CH_STATUS.COMPLIANCE n).id) (mv : Nat) (good : Option Nat) (s : State) :
    (s.complied n mv good).get g = s.get g := by
  unfold State.complied
  split
  · exact State.get_clFlag_ne h _ _ _ s
  · split
    · exact State.Apart.ite (part := (State.get · g)) (State.get_clFlag_ne h _ _ _ s) rfl
    · rfl

theorem State.complied_low {good : Option Nat} (hlow : mv < 1000) : (s.complied n mv good).bit (CLP.CH_STATUS.COMPLIANCE n) = true := by
  unfold State.complied
  rw [if_pos hlow]
  exact State.bit_clFlag_self _ _ _ _ _ le_rfl

theorem State.complied_good {t : Nat} (hhigh : 1200 < mv) (hlong : t + ticksPerMs ≤ s.now) :
    (s.complied n mv (some t)).bit (CLP.CH_STATUS.COMPLIANCE n) = false := by
  unfold State.complied
  dsimp only
  rw [if_neg (by omega), if_pos hlong]
  exact State.bit_clFlag_self _ _ _ _ _ le_rfl

/-- The measured current and headroom of a stage. -/
def State.staged (s : State) (n ma mv : Nat) : State := (s.set (CLP.CH_CURRENT.MA n) ma).set (CLP.CH_HEADROOM.MV n) mv

theorem State.staged_told (s : State) (n ma mv : Nat) : (s.staged n ma mv).get (CLP.CH_CURRENT.MA n) = ma % 2 ^ 32 ∧
    (s.staged n ma mv).get (CLP.CH_HEADROOM.MV n) = mv % 2 ^ 16 ∧ (s.staged n ma mv).clch n = s.clch n ∧ (s.staged n ma mv).now = s.now :=
  ⟨(State.get_set_ne _ _ (by simp only [Fld.id, CLP.CH_CURRENT.MA, CLP.CH_HEADROOM.MV]; omega)).trans (State.get_set_self _ _ _),
    State.get_set_self _ _ _, rfl, rfl⟩

/-- The measurement of an output stage in use. -/
theorem State.stageMeasure_supervises (hon : s.domOn 6 = true) (henable : s.bit CLP.CTRL.ENABLE = true)
    (hmode : s.get (CLP.CH_CFG.MODE n) = 2) (hdrivers : s.bit SYS.CARRIER_STATUS.DRIVERS_ENABLED = true)
    (hsound : s.bit (CLP.CH_STATUS.FAILED n) = false) : ∃ c bad, s.stageMeasure n na mv =
      (((s.staged n (f32.ratio na 1000000) mv).setClch n c).complied n mv (if 1200 < mv then
        some (((s.staged n (f32.ratio na 1000000) mv).clch n).goodFrom.getD (s.staged n (f32.ratio na 1000000) mv).now)
        else none)).signalled n bad := by
  unfold State.stageMeasure
  dsimp only
  rw [if_neg (by simp [hon, henable, hmode]), if_neg (by simp [hdrivers, hsound])]
  unfold State.signalled State.complied State.staged
  exact ⟨_, _, rfl⟩

theorem State.now_setClch (s : State) (n : Nat) (c : ClCh) : (s.setClch n c).now = s.now := rfl

theorem State.stageMeasure_told (hon : s.domOn 6 = true) (henable : s.bit CLP.CTRL.ENABLE = true)
    (hmode : s.get (CLP.CH_CFG.MODE n) = 2) (hdrivers : s.bit SYS.CARRIER_STATUS.DRIVERS_ENABLED = true)
    (hsound : s.bit (CLP.CH_STATUS.FAILED n) = false) (hmv : mv < 65536) :
    (s.stageMeasure n na mv).get (CLP.CH_HEADROOM.MV n) = mv ∧
      (s.stageMeasure n na mv).get (CLP.CH_CURRENT.MA n) = f32.ratio na 1000000 % 2 ^ 32 ∧
      (mv < 1000 → (s.stageMeasure n na mv).bit (CLP.CH_STATUS.COMPLIANCE n) = true) ∧
      (∀ t, (s.clch n).goodFrom = some t → t + 200000 ≤ s.now → 1200 < mv →
        (s.stageMeasure n na mv).bit (CLP.CH_STATUS.COMPLIANCE n) = false) := by
  have hflag : (CLP.CH_STATUS.COMPLIANCE n).id ≠ (CLP.CH_STATUS.ALARM_NOT_SIGNALLED n).id := by
    simp [Fld.id, CLP.CH_STATUS.COMPLIANCE, CLP.CH_STATUS.ALARM_NOT_SIGNALLED]
  obtain ⟨c, bad, hrun⟩ := State.stageMeasure_supervises (na := na) (mv := mv) hon henable hmode hdrivers hsound
  obtain ⟨hma, hshown, hchan, hnow⟩ := s.staged_told n (f32.ratio na 1000000) mv
  rw [hrun, hchan, hnow]
  refine ⟨(State.get_signalled ?_ _ _).trans ((State.get_complied ?_ _ _ _).trans
      ((State.get_setClch _ _ _ _).trans (hshown.trans (Nat.mod_eq_of_lt hmv)))),
    (State.get_signalled ?_ _ _).trans ((State.get_complied ?_ _ _ _).trans ((State.get_setClch _ _ _ _).trans hma)),
    fun hlow => (State.bit_congr _ _ (State.get_signalled hflag _ _)).trans (State.complied_low hlow),
    fun t hgood hlong hhigh => (State.bit_congr _ _ (State.get_signalled hflag _ _)).trans ?_⟩
  case refine_5 =>
    rw [if_pos hhigh, hgood]
    refine State.complied_good hhigh ?_
    rw [State.now_setClch, hnow]
    simpa only [ticksPerMs, Option.getD_some] using hlong
  all_goals simp only [Fld.id, CLP.CH_HEADROOM.MV, CLP.CH_CURRENT.MA, CLP.CH_STATUS.COMPLIANCE, CLP.CH_STATUS.ALARM_NOT_SIGNALLED]; omega

theorem State.stageMeasure_undriven (hon : s.domOn 6 = true) (henable : s.bit CLP.CTRL.ENABLE = true)
    (hmode : s.get (CLP.CH_CFG.MODE n) = 2) (hdrivers : s.bit SYS.CARRIER_STATUS.DRIVERS_ENABLED = false) :
    s.stageMeasure n na mv = (s.setClch n { s.clch n with goodFrom := none, badFrom := none }).set (CLP.CH_CURRENT.MA n) 0 := by
  unfold State.stageMeasure
  dsimp only
  rw [if_neg (by simp [hon, henable, hmode]), if_pos (by simp [hdrivers])]

theorem State.loopShort_tells {b : Bool} (hon : s.domOn 6 = true) (henable : s.bit CLP.CTRL.ENABLE = true)
    (hmode : s.get (CLP.CH_CFG.MODE n) = 1) (hpower : s.bit (CLP.CH_CFG.LOOP_POWER n) = true)
    (hold : s.bit (CLP.CH_STATUS.LOOP_SHORT n) = !b) :
    s.loopShort n b = (s.setB (CLP.CH_STATUS.LOOP_SHORT n) b).post 147 (n + 256 * b2n b) := by
  unfold State.loopShort
  rw [if_neg (by simp [hon, henable, hmode, hpower])]
  exact if_neg (by simp [hold])

theorem State.clSettled_at {t : Nat} (hseated : s.car.seatedAt = some t) (hseat : s.bit SYS.CARRIER_STATUS.SEATED = true) :
    s.clSettled = if t + 10000000 ≤ s.now then { s with car := { s.car with clReady := true } } else s := by
  unfold State.clSettled
  have hms : 50 * ticksPerMs = 10000000 := by simp only [ticksPerMs]
  rw [hseated, hseat]
  dsimp only
  rw [hms, Bool.true_and]
  simp only [decide_eq_true_eq]

theorem State.frontReady_checks (hon : s.domOn 6 = true) (hfront : (s.clch n).front = 2) (ok : Bool) :
    s.frontReady n ok = (s.setClch n { s.clch n with front := 0 }).reference n ok :=
  if_neg (by simp [hon, hfront])

end Stages

section Hart

variable {s s' : State} {d : Started} {bs : List Nat} {ch : Nat}

/-! ## HART (R327 to R331) -/

theorem State.hartRequest_form (hjob : s.hartJob d.d.eflags = none) (h : d.d.w1 < 16 ∨ 266 < d.d.w1 ∨ bitsOf d.d.w5 8 24 ≠ 0) :
    s.hartRequest d = s.finish d 0x10 := by
  unfold State.hartRequest
  dsimp only
  rw [if_neg (by simp [hjob]), if_pos (by rcases h with h | h | h <;> simp [h])]

/-- A request whose form is right and whose block is read. -/
theorem State.hartRequest_read (hjob : s.hartJob d.d.eflags = none) (hlo : 16 ≤ d.d.w1) (hhi : d.d.w1 ≤ 266)
    (hreserved : bitsOf d.d.w5 8 24 = 0) (hread : s.readBuf (s.via 8 d) d.d.primary d.d.w1 = (s', bs, none))
    (hbad : hartBad bs = false) : s.hartRequest d =
      if s'.hartBarred d then s'.finish d 0x60 0 1
      else if s'.get (CLP.CH_CFG.HART_MODE d.d.eflags) = 0 ||
          (!(bs.getD 0 0).testBit 0 && s'.get (CLP.CH_CFG.HART_MODE d.d.eflags) = 1 && bs.getD 1 0 != 0) ||
          (!(bs.getD 0 0).testBit 0 && s'.get (CLP.CH_CFG.HART_MODE d.d.eflags) = 2 && (bs.getD 1 0 = 0 || 15 < bs.getD 1 0)) ||
          (s'.get (CLP.CH_CFG.MODE d.d.eflags) = 2 && !s'.bit SYS.CARRIER_STATUS.DRIVERS_ENABLED) then s'.finish d 0x60 0 2
      else ((s'.accept d).setHart d.d.eflags (some { ring := d.ring, idx := d.idx, listen := false, frame := hartFrame bs, sent := 1, allow := bs.getD 5 0 + 1, error := 1 })).send
        (.hart d.d.eflags (hartFrame bs)) := by
  unfold State.hartRequest
  dsimp only
  rw [if_neg (by simp [hjob]), if_neg (by simp [Nat.not_lt.2 hlo, Nat.not_lt.2 hhi, hreserved]), hread]
  dsimp only
  rw [if_neg (by simp [hbad])]

theorem State.hartListen_form (hjob : s.hartJob d.d.eflags = none) (hlo : 1 ≤ d.d.w1) (hhi : d.d.w1 ≤ 60000) (hprimary : d.d.primary = 0)
    (hreserved : bitsOf d.d.w5 8 24 = 0) : s.hartListen d =
      if s.hartBarred d then s.finish d 0x60 0 1
      else if s.get (CLP.CH_CFG.HART_MODE d.d.eflags) = 0 then s.finish d 0x60 0 2
      else (s.accept d).setHart d.d.eflags (some { ring := d.ring, idx := d.idx, listen := true, error := 1, due := s.now + d.d.w1 * ticksPerMs }) := by
  have hne : d.d.w1 ≠ 0 := by omega
  unfold State.hartListen
  dsimp only
  rw [if_neg (by simp [hjob]), if_neg (by simp [hne, Nat.not_lt.2 hhi, hprimary, hreserved])]

theorem State.hartFrameIn_bad {err : Nat} (hon : s.domOn 6 = true) (hmode : s.get (CLP.CH_CFG.HART_MODE ch) ≠ 0)
    (hjob : s.hartJob ch = none) (herr : err ≠ 0) (b : Bool) (body : List Nat) :
    s.hartFrameIn ch err b body = s.bump (CLP.CH_HART_STATS.FRAMES_BAD ch) := by
  have hjob' : (s.bump (CLP.CH_HART_STATS.FRAMES_BAD ch)).hartJob ch = none := hjob
  unfold State.hartFrameIn
  dsimp only
  rw [if_neg (by simp [hon, hmode]), if_pos herr, hjob']

theorem State.hartFrameIn_none (hon : s.domOn 6 = true) (hmode : s.get (CLP.CH_CFG.HART_MODE ch) ≠ 0) (hjob : s.hartJob ch = none)
    (b : Bool) (body : List Nat) : s.hartFrameIn ch 0 b body =
      if b then (s.bump (CLP.CH_HART_STATS.FRAMES_OK ch)).post 150 ch else s.bump (CLP.CH_HART_STATS.FRAMES_OK ch) := by
  have hjob' : (s.bump (CLP.CH_HART_STATS.FRAMES_OK ch)).hartJob ch = none := hjob
  unfold State.hartFrameIn
  dsimp only
  rw [if_neg (by simp [hon, hmode]), if_neg (by decide), hjob']

theorem State.hartFrameIn_job {j : HartJob} (hon : s.domOn 6 = true) (hmode : s.get (CLP.CH_CFG.HART_MODE ch) ≠ 0)
    (hjob : s.hartJob ch = some j) (body : List Nat) :
    s.hartFrameIn ch 0 j.listen body = (s.bump (CLP.CH_HART_STATS.FRAMES_OK ch)).hartDone ch j body := by
  have hjob' : (s.bump (CLP.CH_HART_STATS.FRAMES_OK ch)).hartJob ch = some j := hjob
  unfold State.hartFrameIn
  dsimp only
  rw [if_neg (by simp [hon, hmode]), if_neg (by decide), hjob']
  exact if_pos (beq_self_eq_true _)

theorem State.hartTimeout_none (h : s.hartJob ch = none) : s.hartTimeout ch = s := by
  unfold State.hartTimeout
  rw [h]

theorem State.hartTimeout_ends {j : HartJob} (hjob : s.hartJob ch = some j)
    (h : (j.listen = true ∧ j.due ≤ s.now) ∨ (j.listen = false ∧ j.allow ≤ j.sent)) :
    s.hartTimeout ch = ((s.setHart ch none).finishAt (some (j.ring, j.idx)) 0x30 0 j.error).post 151 (ch + 256 * j.error) := by
  unfold State.hartTimeout
  rw [hjob]
  dsimp only
  obtain ⟨hlisten, hdue⟩ | ⟨hrequest, hsent⟩ := h
  · rw [if_neg (by simp [hlisten, Nat.not_lt.2 hdue]), if_neg (by simp [hlisten])]
  · rw [if_neg (by simp [hrequest]), if_neg (by simp [Nat.not_lt.2 hsent])]

theorem State.hartTimeout_again {j : HartJob} (hjob : s.hartJob ch = some j) (hrequest : j.listen = false) (hleft : j.sent < j.allow)
    (hstarted : s.startedAt j.ring j.idx = some d) (hopen : s.hartShut d = 0) :
    s.hartTimeout ch = (s.setHart ch (some { j with sent := j.sent + 1, error := 1 })).send (.hart ch j.frame) := by
  unfold State.hartTimeout
  rw [hjob]
  dsimp only
  rw [if_neg (by simp [hrequest]), if_pos (by simp [hrequest, hleft])]
  unfold State.hartAgain
  rw [hstarted]
  dsimp only
  rw [if_neg (not_not.2 hopen)]

end Hart

/-- Settles O37: a conversion by its class and its count, the stages by their measurements, and HART by the branches of its commands. -/
theorem currentLoops : Obligations.CurrentLoops := by
  unfold Obligations.CurrentLoops
  refine ⟨fun s n hon => ⟨fun henable => ⟨fun na e hmode hready hsound hfront hdue hna => ?_, fun na h => State.done_eq (State.conversion_none h na),
      fun na mv hmode => ⟨fun hdrivers => State.done_eq (State.stageMeasure_undriven hon henable hmode hdrivers),
        fun hdrivers hsound => ?_⟩, fun b hmode hpower hold => State.done_eq (State.loopShort_tells hon henable hmode hpower hold)⟩,
      fun t hseated hseat => ⟨fun hlong => State.done_eq ((State.clSettled_at hseated hseat).trans (if_pos hlong)),
        fun hshort => State.done_eq ((State.clSettled_at hseated hseat).trans (if_neg (Nat.not_le.2 hshort)))⟩,
      fun hfront => ⟨State.done_eq (State.frontReady_checks hon hfront true), State.done_eq (State.frontReady_checks hon hfront false)⟩,
      fun hfront b => State.done_eq (if_pos (by simp [hfront]))⟩,
    fun s => ⟨fun n d hd hjob => ⟨fun hform => State.done_eq ((State.onOffer_of_offered hd).trans (State.hartRequest_form hjob hform)),
        fun s' bs hlo hhi hreserved hread hbad => ?_⟩,
      fun n d hd hjob hlo hhi hprimary hreserved => ?_,
      fun ch err b body hon hmode => ⟨fun hjob => ⟨fun herr => State.done_eq (State.hartFrameIn_bad hon hmode hjob herr b body),
          State.done_eq (State.hartFrameIn_none hon hmode hjob true body), State.done_eq (State.hartFrameIn_none hon hmode hjob false body)⟩,
        fun j hjob hlisten => hlisten ▸ State.done_eq (State.hartFrameIn_job hon hmode hjob body)⟩,
      fun ch => ⟨fun hjob => State.done_eq (State.hartTimeout_none hjob), fun j hjob => ⟨fun h => State.done_eq (State.hartTimeout_ends hjob h),
        fun d hrequest hleft hstarted hopen => State.done_eq (State.hartTimeout_again hjob hrequest hleft hstarted hopen)⟩⟩⟩⟩
  · have hconverts : s.Converts n e := ⟨hon, henable, hmode, hready, hsound, hfront, hdue⟩
    obtain ⟨hma, hchan, hget, hvalue⟩ := s.measured_told n e (s.trimmed n na)
    refine ⟨fun hmulti => State.done_eq (State.conversion_multidrop hconverts hna hmulti), fun hsingle hstate hclass => ?_,
      fun hsingle hstate hclass hcand htime => ?_⟩
    · obtain ⟨hvalid, hopen, hstate', hcurrent, hshown⟩ := State.classified_normal_told (s := s.measured n e (s.trimmed n na)) (n := n)
        (by rw [hchan]; exact hstate) hclass
      exact ⟨_, State.done_eq (State.conversion_input hconverts hna hsingle), hvalid, hopen, hstate', hcurrent.trans hma,
        hshown.trans (by rw [hvalue])⟩
    · obtain ⟨hvalid, halarm, hstate', hshown⟩ := State.classified_low (s := s.measured n e (s.trimmed n na)) (n := n)
        (by rw [hchan]; exact hstate) hclass (by rw [hchan]; exact hcand)
        (by rw [hchan, hget _ (by simp only [Fld.id, CLP.CH_CFG.ALARM_TIME, CLP.CH_CURRENT.MA]; omega)]; exact htime)
      exact ⟨_, State.done_eq (State.conversion_input hconverts hna hsingle), hvalid, halarm, hstate',
        hshown.trans (hget _ (by simp only [Fld.id, CLP.CH_VALUE.VALUE, CLP.CH_CURRENT.MA]; omega))⟩
  · obtain ⟨hheadroom, hcurrent, hlow, hgood⟩ := State.stageMeasure_told (na := na) hon henable hmode hdrivers hsound mv.2
    exact ⟨⟨_, rfl, hheadroom, hcurrent⟩, fun hmv => ⟨_, rfl, hlow hmv, hheadroom⟩, fun t ht hlong hhigh => ⟨_, rfl, hgood t ht hlong hhigh⟩⟩
  · have hrun := (State.onOffer_of_offered (f := State.hartRequest) hd).trans (State.hartRequest_read hjob hlo hhi hreserved hread hbad)
    refine ⟨fun hbarred => State.done_eq (hrun.trans (if_pos hbarred)), fun hfree hoff => State.done_eq (hrun.trans ?_),
      fun hfree hmode hout => State.done_eq (hrun.trans ?_)⟩ <;> rw [if_neg (by simp [hfree])]
    · exact if_pos (by simp [hoff])
    · refine if_neg ?_
      rcases hmode with ⟨hmode, hlong | hpoll⟩ | ⟨hmode, hlong | ⟨hpoll, hmax⟩⟩ <;> rcases hout with hout | hout <;> simp_all
  · have hrun := (State.onOffer_of_offered (f := State.hartListen) hd).trans (State.hartListen_form hjob hlo hhi hprimary hreserved)
    exact ⟨fun hbarred => State.done_eq (hrun.trans (if_pos hbarred)),
      fun hfree hoff => State.done_eq (hrun.trans ((if_neg (by simp [hfree])).trans (if_pos hoff))),
      fun hfree hmode => State.done_eq (hrun.trans ((if_neg (by simp [hfree])).trans (if_neg hmode)))⟩


end Sys2Proof.Machine

end

/-! PROOFS. Plant ports and CAN commands (spec/13 R427 to R435, spec/14 R441 to R450). -/

section

namespace Sys2Proof.Machine

section StampedFrame

/-- Plant port 0 of a unit with a time role: enabled, taking every frame, with no descriptor. -/
def stampingPort : State :=
  { State.reset with
    tick := 5
    regs := [((PWR.D_STATUS.STATE 4).id, 0), (TIM.CFG.ROLE.id, 1), ((PLN.PORT_CFG.ENABLE 0).id, 1), ((PLN.PORT_CFG.PROMISC 0).id, 1)] }

/-- A Sync message of domain 0. -/
def syncFrame : List Nat := List.replicate 12 0 ++ [0x88, 0xF7] ++ List.replicate 46 0

/-- The ticks of the latest Sync messages after a step. -/
def syncsOf : Answer → List (Nat × Nat)
  | .next s => s.tim.syncAt
  | _ => []

theorem stampingPort_open : stampingPort.domOn 4 = true ∧ stampingPort.bit (PLN.PORT_CFG.ENABLE 0) = true ∧
    stampingPort.bit (PLN.PORT_CFG.PROMISC 0) = true ∧ beAt syncFrame 12 2 ≠ 0x8808 ∧
    beAt syncFrame 12 2 ≠ stampingPort.get FLD.ETHERTYPE.VALUE := by
  decide +kernel

theorem syncsOf_stampingPort : syncsOf (exec (.plantFrameReceived 0 true syncFrame) stampingPort) = [(0, 5)] := by decide +kernel

theorem syncsOf_dropped : syncsOf (.next (stampingPort.plnDrop 0).settle) = [] := by decide +kernel

end StampedFrame

/-- Refutes O49: the statement has a frame that nobody takes counted as dropped and nothing else done; one that is a Sync message of the
unit's domain is time-stamped as well (R427). -/
theorem not_plantPorts : ¬ Obligations.PlantPorts := by
  unfold Obligations.PlantPorts
  intro h
  obtain ⟨_, _, _, _, _, _, hframes⟩ := h stampingPort
  obtain ⟨hon, henable, hpromisc, hpause, hcrossing⟩ := stampingPort_open
  have hdropped := (hframes 0 syncFrame hon henable).2.1 (by decide) (by decide) hpause hcrossing hpromisc rfl
  have hsyncs := syncsOf_stampingPort.symm.trans ((congrArg syncsOf hdropped).trans syncsOf_dropped)
  exact absurd hsyncs (by decide)

section CanCommands

variable {s s' : State} {c : Nat} {d : Started} {bs : List Nat}

/-! ## CAN enable and descriptors (R441, R446, R447, R450) -/

theorem State.canEnable_checked {ok : Bool} (hoff : s.bit (CAN.CH_CFG.ENABLE c) = false) (htest : s.targetFailed [13, 23] = false)
    (hok : decide (1 ≤ s.get (CAN.CH_NBT.NTSEG1 c) ∧ 1 ≤ s.get (CAN.CH_NBT.NTSEG2 c) ∧
      s.get (CAN.CH_NBT.NSJW c) ≤ s.get (CAN.CH_NBT.NTSEG2 c) ∧ s.get (CAN.CH_DBT.DSJW c) ≤ s.get (CAN.CH_DBT.DTSEG2 c)) = ok) :
    s.canEnable c = (s.setB (CAN.CH_CFG.ENABLE c) ok).setB (CAN.CH_STATUS.CFG_ERR c) !ok := by
  unfold State.canEnable
  rw [if_neg (by simp [hoff, htest]), hok]

theorem State.canTransmit_form (hbad : s.txWordsBad (s.canOf d.ring) d.d = true) (free : Bool) : s.canTransmit d free = s.finish d 0x10 :=
  if_pos hbad

theorem State.canTransmit_trail (hform : s.txWordsBad (s.canOf d.ring) d.d = false) (htrail : s.isTrail = true) (free : Bool) :
    s.canTransmit d free = s.finish d 0x60 0 1 :=
  (if_neg (by simp [hform])).trans (if_pos htrail)

/-- The frame of a TRANSMIT without flags. -/
def Started.plainFrame (d : Started) (bs : List Nat) : CanTx :=
  ⟨d.ring, d.idx, bitsOf d.d.w5 24 6, leAt bs 0 4, leAt bs 4 4, bs.drop 8, none, false, false, 0, false⟩

theorem State.canTransmit_read (hform : s.txWordsBad (s.canOf d.ring) d.d = false) (htrail : s.isTrail = false)
    (hread : s.readBuf (s.via 17 d) d.d.primary d.d.w1 = (s', bs, none)) (hrecord : s'.recordBad (s.canOf d.ring) d.d bs = false)
    (hflags : d.d.eflags = 0) (free : Bool) : s.canTransmit d free =
      if (((s'.accept d).canLoad (s.canOf d.ring) (d.plainFrame bs)).canCh (s.canOf d.ring)).inTx.isSome
      then (s'.accept d).canLoad (s.canOf d.ring) (d.plainFrame bs)
      else ((s'.accept d).canLoad (s.canOf d.ring) (d.plainFrame bs)).canBus (s.canOf d.ring) free := by
  unfold State.canTransmit
  dsimp only
  rw [if_neg (by simp [hform]), if_neg (by simp [htrail]), hread]
  dsimp only
  rw [if_neg (by simp [hrecord]), hflags]
  rfl

theorem State.canLoad_first {f : CanTx} (hidle : (s.canCh c).inTx = none) (hqueue : (s.canCh c).queue = []) :
    s.canLoad c f = (s.setCanCh c { s.canCh c with queue := [f] }).canQueued c f.buf true := by
  unfold State.canLoad
  dsimp only
  rw [if_neg (by simp [hidle])]
  simp only [hqueue, List.find?_nil, List.filter_nil, List.nil_append]

theorem State.canBus_busy (s : State) (c : Nat) : s.canBus c false = s.setCanCh c { s.canCh c with busy := true } :=
  State.canOffer_busy (by rw [State.canCh_setCanCh]; rfl)

/-- A frame alone in its channel waits while the bus is busy. -/
theorem State.canLoad_waits {f : CanTx} (hidle : (s.canCh c).inTx = none) (hqueue : (s.canCh c).queue = []) :
    ((s.canLoad c f).canCh c).inTx = none ∧ (((s.canLoad c f).canBus c false).canCh c).queue = [f] ∧
      ((s.canLoad c f).canBus c false).bit (CAN.MB_STAT.QUEUED c f.buf) = true := by
  rw [State.canLoad_first hidle hqueue, State.canBus_busy, State.canCh_setCanCh, State.bit_setCanCh]
  unfold State.canQueued
  rw [State.canCh_setB, State.canCh_setCanCh]
  exact ⟨hidle, rfl, State.bit_setB_self _ _ _ le_rfl⟩

theorem State.scheduleLoad_read (hw4 : d.d.w4 = 0) (hw5 : d.d.w5 = 0) (hflags : d.d.eflags = 0) (hlength : 16 ≤ d.d.w1)
    (haligned : d.d.primary % 4 = 0) (hplace : inSramDram d.d.primary d.d.w1 = true)
    (hread : s.readBuf (s.via 17 d) d.d.primary d.d.w1 = (s', bs, none)) :
    (∀ k, s'.canMatrix (s.canOf d.ring) bs = .error k → s.scheduleLoad d = s'.finish d 0x10 0 k) ∧
    (∀ m, s'.canMatrix (s.canOf d.ring) bs = .ok m → (s'.canCh (s.canOf d.ring)).next = none →
      s.scheduleLoad d = State.accept (s'.setCanCh (s.canOf d.ring) { s'.canCh (s.canOf d.ring) with next := some (d.ring, d.idx, m) }) d) := by
  refine ⟨fun k hk => ?_, fun m hm hnone => ?_⟩
  · unfold State.scheduleLoad
    dsimp only
    rw [if_neg (by simp [hw4, hw5, hflags, Nat.not_lt.2 hlength, haligned, hplace]), hread]
    dsimp only
    rw [hk]
  · unfold State.scheduleLoad
    dsimp only
    rw [if_neg (by simp [hw4, hw5, hflags, Nat.not_lt.2 hlength, haligned, hplace]), hread]
    dsimp only
    rw [hm]
    dsimp only
    rw [hnone]

end CanCommands

/-- Settles O50: each command by its check, and a queued frame by its place in an empty channel. -/
theorem canCommands : Obligations.CanCommands := by
  unfold Obligations.CanCommands
  refine fun s => ⟨fun c hoff htest hseg1 hseg2 hnsjw hdsjw => ?_, fun c hoff htest hbad => ?_,
    fun n d free => ⟨fun hd hbad => ?_, fun hd hform htrail => ?_, fun hd hlength => ?_⟩,
    fun n d s' bs k hd hw4 hw5 hflags hlength haligned hplace hread hk => ?_,
    fun n d s' bs hd hform htrail hread hrecord hflags hidle hqueue => ?_,
    fun n d hd hlength hbuf hw5 hflags hmode => ?_,
    fun n d s' bs m hd hw4 hw5 hflags hlength haligned hplace hread hm hnone => ?_⟩
  · exact State.done_eq (State.canEnable_checked hoff htest (decide_eq_true ⟨hseg1, hseg2, hnsjw, hdsjw⟩))
  · exact State.done_eq (State.canEnable_checked hoff htest (decide_eq_false (by omega)))
  · exact State.done_eq ((State.onOffer_of_offered hd).trans (State.canTransmit_form hbad free))
  · exact State.done_eq ((State.onOffer_of_offered hd).trans (State.canTransmit_trail hform htrail free))
  · exact State.done_eq ((State.onOffer_of_offered hd).trans (if_pos (by simp [hlength])))
  · exact State.done_eq ((State.onOffer_of_offered hd).trans ((State.scheduleLoad_read hw4 hw5 hflags hlength haligned hplace hread).1 k hk))
  · obtain ⟨hfree, hwaits, hqueued⟩ := State.canLoad_waits (s := s'.accept d) (f := d.plainFrame bs) hidle hqueue
    refine ⟨_, State.done_eq ((State.onOffer_of_offered hd).trans ((State.canTransmit_read hform htrail hread hrecord hflags false).trans
      (if_neg (by rw [hfree]; decide)))), hwaits, hqueued⟩
  · exact State.done_eq ((State.onOffer_of_offered hd).trans (if_neg (by simp [hlength, Nat.not_le.2 hbuf, hw5, hflags, hmode])))
  · exact State.done_eq ((State.onOffer_of_offered hd).trans
      ((State.scheduleLoad_read hw4 hw5 hflags hlength haligned hplace hread).2 m hm hnone))

end Sys2Proof.Machine

end

/-! PROOFS. The watchdog, the partner's reset line and the start (spec/01 R19, R28 to R37, spec/17 R502, R503, R507, spec/18 R548). -/

section

namespace Sys2Proof.Machine

section GoingOut

variable {s : State}

/-! ## The clock of a unit that goes OUT -/

theorem State.tokenStop_clock (s : State) : s.tokenStop.clock = s.clock := by
  unfold State.tokenStop
  split <;> rfl

theorem State.releaseLease_clock (s : State) : s.releaseLease.clock = s.clock := by
  cases h : s.hasWitness && s.domOn 4 with
  | false =>
    unfold State.releaseLease State.renew
    rw [State.toWitness_unable h]
    rfl
  | true =>
    obtain ⟨hw, hdom⟩ := Bool.and_eq_true_iff.1 h
    obtain ⟨q, b, n, m, hsend⟩ := State.toWitness_effect (op := 1) (epoch := s.par.ownEpoch) (ticks := 0) hw hdom
    unfold State.releaseLease State.renew
    rw [hsend]
    rfl

theorem State.goOut_clock (s : State) (cause : Nat) : (s.goOut cause).clock = s.clock := by
  unfold State.goOut
  split
  · exact s.tokenStop_clock
  · extract_lets t u
    have ht : t.clock = s.clock := by
      unfold t
      split <;> rfl
    have hu : u.clock = s.clock := by
      unfold u
      split
      · exact t.releaseLease_clock.trans ht
      · exact ht
    clear_value u
    exact (State.setPairState_switched _ 5 0).clock.trans (u.tokenStop_clock.trans hu)

theorem State.goOut_now (s : State) (cause : Nat) : (s.goOut cause).now = s.now :=
  congrArg (fun c : Tick × Rst => c.1.toNat) (s.goOut_clock cause)

theorem State.goOut_rst (s : State) (cause : Nat) : (s.goOut cause).rst = s.rst := congrArg Prod.snd (s.goOut_clock cause)

/-! ## The watchdog and the forced reset (R502, R503) -/

theorem State.forcedReset_driving (h : s.isDriving = true) (cause kind source : Nat) :
    (s.forcedReset cause kind source).rst.due = some (kind, source, s.now + 2000) ∧ (s.forcedReset cause kind source).pairState = 5 := by
  have hrun : s.forcedReset cause kind source = { s.goOut cause with rst := { (s.goOut cause).rst with
      due := some (kind, source, (s.goOut cause).now + 10 * ticksPerUs) } } := if_pos h
  have hus : 10 * ticksPerUs = 2000 := by simp only [ticksPerUs]
  rw [hrun, s.goOut_now, hus]
  exact ⟨rfl, (s.goOut_out cause).1⟩

theorem State.forcedReset_idle (h : s.isDriving = false) (cause kind source : Nat) :
    s.forcedReset cause kind source = s.resetHold kind source := if_neg (by simp [h])

theorem State.wdtWarning_at {t : Nat} (h : s.rst.wdtStart = some t) : s.wdtWarning =
    if s.rst.warned || decide (s.now < t + s.wdtLimit / 2) then s
    else State.post { s with rst := { s.rst with warned := true } } 2 s.wdtRemaining := by
  unfold State.wdtWarning
  rw [h]

theorem State.wdtExpiry_at {t : Nat} (h : s.rst.wdtStart = some t) : s.wdtExpiry =
    if s.now < t + s.wdtLimit then s else s.forcedReset 6 (if s.bit RST.WDT_CFG.ACTION then 4 else 3) 3 := by
  unfold State.wdtExpiry
  rw [h]

theorem State.wdtKick_good {init : Nat} (hfeeder : init = s.get RST.WDT_CFG.FEEDER) (hstart : s.rst.wdtStart.isSome = true) :
    s.wdtKick init 0xA5 = { s with rst := { s.rst with wdtStart := some s.now, warned := false } } := by
  unfold State.wdtKick
  rw [if_neg (by simp [hfeeder]), if_neg (by rw [Option.isNone_iff_eq_none]; exact Option.ne_none_iff_isSome.2 hstart)]

/-- R19. A low of 5 us or more. -/
theorem partnerResetInLow_at (s : State) (t : Nat) : exec (.partnerResetInLow t) s =
    (if t < 1000 then s else s.forcedReset 7 1 2).done := by
  have hus : 5 * ticksPerUs = 1000 := by simp only [ticksPerUs]
  show (if t < 5 * ticksPerUs then s else s.forcedReset 7 1 2).done = _
  rw [hus]

/-- R37. -/
theorem State.porRelease_at {t : Nat} (h : s.car.seatedAt = some t) : s.porRelease =
    if s.now < max t s.car.supplyAt + 4000000 ∨ s.car.supplyLow then s else { s with car := { s.car with converters := true } } := by
  have hms : 20 * ticksPerMs = 4000000 := by simp only [ticksPerMs]
  unfold State.porRelease
  rw [h]
  dsimp only
  rw [hms]

end GoingOut

section Release

variable {s : State}

/-! ## Release and start (R25, R28, R507) -/

/-- The cause and the stage of a released reset. -/
def State.causeNoted (s : State) (kind source : Nat) : State :=
  (((State.set { s with rst := { s.rst with held := none, startTick := s.now, starting := true, stopped := false, lostForces := 0 }
                        cyc := { s.cyc with auto := true } } RST.CAUSE.KIND kind).set RST.CAUSE.SOURCE source).countReset kind).set
    RST.START_STATUS.STAGE (if resetWidth kind = 0 then 4 else 1)

/-- A released reset noted: its cause, its stage, the carrier's lines, and the record. -/
def State.resetFreed (s : State) (kind source ohms : Nat) : State :=
  (((((s.causeNoted kind source).carrierStart ohms).configStart).leaseStart).busRead 0 0x20).recordChange 0x8003 0 0xFF 0
    (leBytes 4 s.rst.lostForces ++ leBytes 4 0)

theorem State.resetRelease_eq {kind source ohms : Nat} (hheld : s.rst.held = some (kind, source))
    (hready : ¬ (kind = 0 ∧ ¬ s.car.converters)) : s.resetRelease ohms =
      if resetWidth kind = 0 then
        ((List.range 8).filter fun d => !(s.resetFreed kind source ohms).domOn d).foldl State.startWake (s.resetFreed kind source ohms)
      else s.resetFreed kind source ohms := by
  unfold State.resetRelease
  rw [hheld]
  dsimp only
  rw [if_neg hready]
  rfl

theorem State.gate_rst (s : State) : s.gate.rst = s.rst := by
  unfold State.gate
  dsimp only
  split
  · rfl
  · refine State.foldl_keeps State.rst ?_ _ s
    exact fun _ _ => rfl

theorem State.busAdd_rst (s : State) (c : PmBus) : (s.busAdd c).rst = s.rst := by
  unfold State.busAdd State.busSend
  dsimp only
  split
  · split <;> rfl
  · rfl

theorem State.startWake_rst (s : State) (d : Nat) : (s.startWake d).rst = s.rst := State.busAdd_rst _ _

theorem State.get_startWake_ne {g : Fld} (d : Nat) (hstate : g.id ≠ (PWR.D_STATUS.STATE d).id) (hstage : g.id ≠ (PWR.D_STATUS.STAGE d).id) :
    (s.startWake d).get g = s.get g :=
  (State.get_railTo ..).trans ((State.get_set_ne _ _ hstage).trans (State.get_set_ne _ _ hstate))

theorem State.configStart_keeps (s : State) : s.configStart.rst = s.rst ∧
    ∀ g : Fld, (∀ w, g.id ≠ (UPD.CONFIG_DIGEST.DIGEST w).id) → s.configStart.get g = s.get g := by
  unfold State.configStart
  generalize (10 * ticksPerMs) = ms
  refine ⟨?_, fun g hg => ?_⟩
  · refine State.foldl_keeps State.rst ?_ _ s
    exact fun _ _ => rfl
  · exact State.get_foldl_set_ne hg s

/-- What the end of a release leaves of the carrier's lines on. -/
theorem State.releaseEnds (s : State) (data : List Nat) :
    ((((s.configStart).leaseStart).busRead 0 0x20).recordChange 0x8003 0 0xFF 0 data).rst = s.rst ∧
      ∀ g : Fld, (∀ w, g.id ≠ (UPD.CONFIG_DIGEST.DIGEST w).id) → g.id ≠ REC.STATUS.QUEUE.id →
        ((((s.configStart).leaseStart).busRead 0 0x20).recordChange 0x8003 0 0xFF 0 data).get g = s.get g := by
  obtain ⟨hrst, hget⟩ := s.configStart_keeps
  generalize s.configStart = t at hrst hget ⊢
  exact ⟨(t.leaseStart.busAdd_rst _).trans hrst,
    fun g hdigest hqueue => (State.get_recordChange_ne _ _ _ _ _ _ _ hqueue).trans ((t.leaseStart.get_busAdd _ g).trans (hget g hdigest))⟩

/-- The carrier's lines at a release. -/
theorem State.carrierStart_slot (s : State) (ohms : Nat) : (s.carrierStart ohms).get SYS.CARRIER_STATUS.SLOT = (slotOf ohms).1 % 2 ^ 1 ∧
    (s.carrierStart ohms).rst = s.rst ∧ (s.carrierStart ohms).get RST.CAUSE.KIND = s.get RST.CAUSE.KIND ∧
    (s.carrierStart ohms).get RST.START_STATUS.STAGE = s.get RST.START_STATUS.STAGE := by
  unfold State.carrierStart
  rcases slotOf ohms with ⟨slot, ok⟩
  dsimp only
  have hgate (u : State) (g : Fld) (hg : g.id ≠ SYS.CARRIER_STATUS.DRIVERS_ENABLED.id) : u.gate.get g = u.get g := State.get_gate hg
  refine ⟨?_, State.gate_rst _, ?_, ?_⟩
  · simp (disch := decide) only [hgate, State.get_set_ne, State.get_setB_ne, State.get_set_self]
    rfl
  · simp (disch := decide) only [hgate, State.get_set_ne, State.get_setB_ne]
  · simp (disch := decide) only [hgate, State.get_set_ne, State.get_setB_ne]

theorem slotOf_lt (ohms : Nat) : (slotOf ohms).1 < 2 := by
  unfold slotOf
  split
  · decide
  · split <;> decide

/-- A released reset as it is told. -/
theorem State.resetFreed_told {kind source ohms : Nat} (hkind : kind ≤ 4) :
    (s.resetFreed kind source ohms).rst.held = none ∧ (s.resetFreed kind source ohms).rst.starting = true ∧
      (s.resetFreed kind source ohms).rst.startTick = s.now ∧ (s.resetFreed kind source ohms).get RST.CAUSE.KIND = kind ∧
      (s.resetFreed kind source ohms).get RST.START_STATUS.STAGE = (if kind = 2 ∨ kind = 3 then 4 else 1) ∧
      (s.resetFreed kind source ohms).get SYS.CARRIER_STATUS.SLOT = (slotOf ohms).1 := by
  unfold State.resetFreed
  have hrst2 : (s.causeNoted kind source).rst =
    { s.rst with held := none, startTick := s.now, starting := true, stopped := false, lostForces := 0 } := rfl
  obtain ⟨hrst, hget⟩ := ((s.causeNoted kind source).carrierStart ohms).releaseEnds (leBytes 4 s.rst.lostForces ++ leBytes 4 0)
  obtain ⟨hslot, hkeep, hcause, hstage⟩ := (s.causeNoted kind source).carrierStart_slot ohms
  have hwidth : resetWidth kind = 0 ↔ kind = 2 ∨ kind = 3 := by
    interval_cases kind <;> decide
  have hcount (g : Fld) (hg : ∀ f ∈ [RST.COUNTS_A.POR, RST.COUNTS_A.MODULE, RST.COUNTS_B.WARM, RST.COUNTS_B.WDT], g.id ≠ f.id) (t : State) :
      (t.countReset kind).get g = t.get g := by
    refine State.get_bump_ne _ _ (hg _ ?_)
    interval_cases kind <;> decide
  have hkind2 : (s.causeNoted kind source).get RST.CAUSE.KIND = kind := by
    refine (State.get_set_ne _ _ (by decide)).trans ((hcount _ (by decide) _).trans ((State.get_set_ne _ _ (by decide)).trans
      ((State.get_set_self _ _ _).trans (Nat.mod_eq_of_lt ?_))))
    exact lt_of_le_of_lt hkind (by decide)
  have hstage2 : (s.causeNoted kind source).get RST.START_STATUS.STAGE = if kind = 2 ∨ kind = 3 then 4 else 1 := by
    refine (State.get_set_self _ _ _).trans ?_
    by_cases hwarm : resetWidth kind = 0
    · rw [if_pos hwarm, if_pos (hwidth.1 hwarm)]
      rfl
    · rw [if_neg hwarm, if_neg (fun h => hwarm (hwidth.2 h))]
      rfl
  have hdigest (g : Fld) (hg : g.id < 0x170000 * 32) (w : Nat) : g.id ≠ (UPD.CONFIG_DIGEST.DIGEST w).id := by
    simp only [Fld.id, UPD.CONFIG_DIGEST.DIGEST] at hg ⊢
    omega
  rw [hrst, hkeep, hrst2, hget _ (hdigest _ (by decide)) (by decide), hget _ (hdigest _ (by decide)) (by decide),
    hget _ (hdigest _ (by decide)) (by decide), hcause, hstage, hslot]
  exact ⟨rfl, rfl, rfl, hkind2, hstage2, Nat.mod_eq_of_lt (slotOf_lt ohms)⟩

/-- The domains that a warm start wakes change nothing of what is told of the release. -/
theorem State.wakes_keep (l : List Nat) (s : State) : (l.foldl State.startWake s).rst = s.rst ∧
    ∀ g ∈ [RST.CAUSE.KIND, RST.START_STATUS.STAGE, SYS.CARRIER_STATUS.SLOT], (l.foldl State.startWake s).get g = s.get g := by
  refine ⟨State.foldl_keeps State.rst State.startWake_rst l s, fun g hg => State.get_foldl (fun t d => State.get_startWake_ne d ?_ ?_) l s⟩ <;>
    fin_cases hg <;> simp only [Fld.id, PWR.D_STATUS.STATE, PWR.D_STATUS.STAGE, RST.CAUSE.KIND, RST.START_STATUS.STAGE,
      SYS.CARRIER_STATUS.SLOT] <;> omega

theorem State.resetRelease_told {kind source ohms : Nat} (hheld : s.rst.held = some (kind, source)) (hkind : kind ≤ 4)
    (hready : kind = 0 → s.car.converters = true) :
    (s.resetRelease ohms).rst.held = none ∧ (s.resetRelease ohms).rst.starting = true ∧
      (s.resetRelease ohms).rst.startTick = s.now ∧ (s.resetRelease ohms).get RST.CAUSE.KIND = kind ∧
      (s.resetRelease ohms).get RST.START_STATUS.STAGE = (if kind = 2 ∨ kind = 3 then 4 else 1) ∧
      (s.resetRelease ohms).get SYS.CARRIER_STATUS.SLOT = (slotOf ohms).1 := by
  rw [State.resetRelease_eq hheld (by rintro ⟨hzero, hoff⟩; exact hoff (hready hzero))]
  have htold := State.resetFreed_told (s := s) (source := source) (ohms := ohms) hkind
  generalize s.resetFreed kind source ohms = t at htold ⊢
  split
  · obtain ⟨hrst, hget⟩ := State.wakes_keep ((List.range 8).filter fun d => !t.domOn d) t
    rw [hrst, hget _ (by simp), hget _ (by simp), hget _ (by simp)]
    exact htold
  · exact htold

theorem State.resetRelease_waits {source ohms : Nat} (hheld : s.rst.held = some (0, source)) (hoff : s.car.converters = false) :
    s.resetRelease ohms = s := by
  unfold State.resetRelease
  rw [hheld]
  exact if_pos ⟨rfl, by simp [hoff]⟩

/-! ## The carrier EEPROM and the end of a start (R28, R507, R548) -/

theorem State.eepromRetry_reads {b : List Nat} (hkind : s.get RST.CAUSE.KIND = 1) (hstage : s.stageNow = 2) (hattempts : s.car.attempts = 1)
    (hdue : s.car.retryAt ≤ s.now) (hgood : eepromCause b = 0) :
    (s.eepromRetry (some b)).get RST.START_STATUS.STAGE = 3 ∧ (s.eepromRetry (some b)).bit SYS.CARRIER_STATUS.EEPROM_VALID = true ∧
      (s.eepromRetry (some b)).car.carrierId = leAt b 0x1C 8 := by
  have hread : s.eepromTry (some b) = (State.eepromRead { s with car := { s.car with attempts := s.car.attempts + 1 } } b, true) :=
    if_neg (by omega)
  have hrun : s.eepromRetry (some b) = (State.eepromRead { s with car := { s.car with attempts := s.car.attempts + 1 } } b).toStage 3 := by
    have hne : (s.car.attempts != 0) = true := by rw [hattempts]; rfl
    unfold State.eepromRetry
    rw [hkind, hstage, hne, hread]
    rfl
  have hvalid : State.eepromRead { s with car := { s.car with attempts := s.car.attempts + 1 } } b =
      (State.set { s with car := { s.car with attempts := s.car.attempts + 1, carrierId := leAt b 0x1C 8, bypass := b.getD 0x24 0 } }
        SYS.CARRIER_STATUS.EEPROM_VALID 1).set SYS.CARRIER_STATUS.CARRIER_REV (b.getD 5 0) := if_neg (not_not.2 hgood)
  rw [hrun, hvalid]
  exact ⟨State.get_set_self _ _ _, (State.bit_set_ne _ _ (by decide)).trans ((State.bit_set_ne _ _ (by decide)).trans
    (State.bit_set_one _ _ le_rfl)), rfl⟩

theorem State.eepromRetry_loses (hkind : s.get RST.CAUSE.KIND = 1) (hstage : s.stageNow = 2) (hsome : 0 < s.car.attempts)
    (hleft : s.car.attempts < 7) (hdue : s.car.retryAt ≤ s.now) :
    s.eepromRetry none = { s with car := { s.car with attempts := s.car.attempts + 1, retryAt := s.now + 200000 } } := by
  have hms : ticksPerMs = 200000 := rfl
  have hlost : s.eepromTry none = ({ s with car := { s.car with attempts := s.car.attempts + 1, retryAt := s.now + ticksPerMs } }, false) :=
    (if_neg (by omega)).trans (if_neg (show ¬ 8 ≤ s.car.attempts + 1 by omega))
  have hne : (s.car.attempts != 0) = true := by simp; omega
  unfold State.eepromRetry
  rw [hkind, hstage, hne, hlost, hms]
  rfl

theorem State.eepromRetry_early (hearly : s.now < s.car.retryAt) (b : Option (List Nat)) : s.eepromRetry b = s := by
  have hnot : s.eepromTry b = (s, false) := if_pos hearly
  unfold State.eepromRetry
  dsimp only
  rw [hnot]
  generalize (s.stageNow == (if (resetWidth (s.get RST.CAUSE.KIND) == 0) = true then 4 else 2) && s.car.attempts != 0) = here
  cases here <;> rfl

theorem State.startStops_told (s : State) : s.startStops.rst.starting = false ∧ s.startStops.rst.stopped = true ∧ s.startStops.pairState = 5 := by
  have hrst : s.startStops.rst = { s.rst with starting := false, stopped := true } := State.goOut_rst _ 5
  exact ⟨congrArg Rst.starting hrst, congrArg Rst.stopped hrst, (State.goOut_out _ 5).1⟩

theorem State.startLimit_stops (hstarting : s.rst.starting = true)
    (hdue : s.rst.startTick + max 1 (s.get RST.START_LIMIT.SECONDS) * 200000000 ≤ s.now) : s.startLimit = s.startStops := by
  have hsec : ticksPerSec = 200000000 := rfl
  unfold State.startLimit
  rw [hsec]
  exact if_pos (by simp [hstarting, hdue])

theorem State.confirmExpiry_at {t : Nat} (h : s.upd.confirmBy = some t) (hdue : t ≤ s.now) (htrial : s.slotState s.activeSlot = 2)
    (hlead : s.pairState ≠ 2) : s.confirmExpiry = State.resetHold { s with upd := { s.upd with confirmBy := none, fall := true } } 2 1 := by
  unfold State.confirmExpiry
  rw [h]
  dsimp only
  rw [if_neg (by simp [Nat.not_lt.2 hdue, htrial])]
  exact if_pos hlead

theorem State.confirmExpiry_early {t : Nat} (h : s.upd.confirmBy = some t) (hearly : s.now < t) : s.confirmExpiry = s := by
  unfold State.confirmExpiry
  rw [h]
  exact if_pos (by simp [hearly])

/-- The first stage of a start (R507). -/
theorem State.startUp_first (hstage : s.stageNow = 1) (bad seen : Nat) (e : Option (List Nat)) (ok : Bool) : s.startUp bad seen e ok =
    if !ok || anyBad [7, 17, 18] bad then (((s.zeroed .sram).zeroed .pair).stageTests [7, 17, 18] bad).startStops
    else (((s.zeroed .sram).zeroed .pair).stageTests [7, 17, 18] bad).toStage 2 := by
  unfold State.startUp
  rw [hstage]
  rfl

theorem State.startUp_late (s : State) (bad seen : Nat) (e : Option (List Nat)) (ok : Bool) :
    (s.stageNow = 5 → s.startUp bad seen e ok = (([4, 5, 6, 7].foldl (fun x d => x.startDomain d seen) s).stageTests
      [3, 4, 5, 6, 8, 9, 10, 11, 12, 13, 14, 15, 21, 22, 23, 24] bad).toStage 6) ∧
    (s.stageNow = 6 → s.startUp bad seen e ok = ((s.startDomain 1 seen).stageTests [0, 1, 2, 20] bad).toStage 7) ∧
    (s.stageNow = 7 → s.startUp bad seen e ok = s.toStage 8) := by
  refine ⟨fun h => ?_, fun h => ?_, fun h => ?_⟩ <;> (unfold State.startUp; rw [h]; rfl)

end Release

/-- Settles O56: the watchdog and the lines by their ticks, a release by what it writes first, and each stage of the start. -/
theorem watchdogAndStart : Obligations.WatchdogAndStart := by
  unfold Obligations.WatchdogAndStart
  refine fun s => ⟨fun hoff => ⟨_, State.done_eq (if_neg (by simp [hoff])), State.bit_set_one _ _ le_rfl, rfl, rfl⟩,
    fun hon => State.done_eq (if_pos hon),
    fun init key => ⟨fun hkey hfeeder hstart => hkey ▸ State.done_eq (State.wdtKick_good hfeeder hstart),
      fun hbad => State.done_eq (if_pos (hbad.imp (fun h hval => h (Fin.ext hval)) id))⟩,
    fun t ht => ⟨fun hwarned hhalf => ?_, fun hearly => ?_, fun hdue => ?_, fun hdue hidle => ?_, fun hdue hdriving => ?_, fun hearly => ?_⟩,
    fun t ht => ⟨?_, fun hidle => ?_⟩, fun t ht => ?_,
    fun t ht => ⟨fun hlong hlow => ?_, fun hshort => ?_⟩, fun hseat => ?_,
    fun k src ohms hheld hk hready => ⟨_, rfl, State.resetRelease_told hheld hk hready⟩,
    fun src ohms hheld hoff => State.done_eq (State.resetRelease_waits hheld hoff),
    fun bad seen e ok hstage => State.done_eq ((s.startUp_late bad seen e ok).2.2 hstage),
    fun bad seen e ok => ⟨fun hstage => State.done_eq ((s.startUp_late bad seen e ok).1 hstage),
      fun hstage => State.done_eq ((s.startUp_late bad seen e ok).2.1 hstage),
      fun hstage hok hgood => State.done_eq ((State.startUp_first hstage bad seen e ok).trans (if_neg (by simp [hok, hgood]))),
      fun hstage hbad => State.done_eq ((State.startUp_first hstage bad seen e ok).trans (if_pos (by simp [hbad])))⟩,
    fun b hkind hstage hattempts hdue hgood => ⟨_, rfl, State.eepromRetry_reads hkind hstage hattempts hdue hgood⟩,
    fun hkind hstage hsome hleft hdue => State.done_eq (State.eepromRetry_loses hkind hstage hsome hleft hdue),
    fun b hearly => State.done_eq (State.eepromRetry_early hearly b),
    fun hstarting hdue => ⟨_, State.done_eq (State.startLimit_stops hstarting hdue), s.startStops_told⟩,
    fun hidle => State.done_eq (if_neg (by simp [hidle])),
    fun t ht hdue htrial hlead => State.done_eq (State.confirmExpiry_at ht hdue htrial hlead),
    fun t ht hearly => State.done_eq (State.confirmExpiry_early ht hearly)⟩
  · exact State.done_eq ((State.wdtWarning_at ht).trans (if_neg (by simp [hwarned, Nat.not_lt.2 hhalf])))
  · exact State.done_eq ((State.wdtWarning_at ht).trans (if_pos (by simp [hearly])))
  · exact State.done_eq ((State.wdtExpiry_at ht).trans (if_neg (Nat.not_lt.2 hdue)))
  · exact State.done_eq ((State.wdtExpiry_at ht).trans ((if_neg (Nat.not_lt.2 hdue)).trans (State.forcedReset_idle hidle ..)))
  · exact ⟨_, State.done_eq ((State.wdtExpiry_at ht).trans (if_neg (Nat.not_lt.2 hdue))), State.forcedReset_driving hdriving ..⟩
  · exact State.done_eq ((State.wdtExpiry_at ht).trans (if_pos hearly))
  · exact (partnerResetInLow_at s t).trans (State.done_eq (if_neg (Nat.not_lt.2 ht)))
  · exact (partnerResetInLow_at s t).trans (State.done_eq ((if_neg (Nat.not_lt.2 ht)).trans (State.forcedReset_idle hidle ..)))
  · exact (partnerResetInLow_at s t).trans (State.done_eq (if_pos ht))
  · exact State.done_eq ((State.porRelease_at ht).trans (if_neg (by simp [hlow]; omega)))
  · exact State.done_eq ((State.porRelease_at ht).trans (if_pos hshort))
  · exact State.done_eq (by unfold State.porRelease; rw [hseat])


end Sys2Proof.Machine

end

/-! PROOFS. Built-in self-test in service (spec/17 R507 to R522). -/

section

namespace Sys2Proof.Machine

section Tests

variable {s : State} {init t : Nat}

/-! ## BST.CMD (R514) -/

/-- R514. A test that is started. -/
def State.testStarted (s : State) (r : BistRun) : State := State.set { s with bst := { s.bst with running := some r } } BST.CMD_STATUS.BUSY 1

/-- R514. Why a test may not start. -/
def State.bstReason (s : State) (through : Bool) (t : Nat) : Nat :=
  if 25 ≤ t then 1
  else if through && !(17 ≤ t && t ≤ 19) then 4
  else if t = 7 || (!through && (((t == 17 || t == 18) && s.stageNow != 1) || (t == 19 && s.stageNow != 3))) || !s.domOn (targetDomain t)
       || !s.bistMay t false then 2
  else if s.bst.running.isSome || s.bst.rotation.isSome then 3 else 0

theorem State.bstStart_starts {op : Nat} (h : s.bstReason (op == 2) t = 0) :
    s.bstStart init op t = (s.testStarted ⟨t, op == 2, false⟩).bstEnd init op t 0 0 := if_neg (not_not.2 h)

theorem State.bstStart_refused {op r : Nat} (h : s.bstReason (op == 2) t = r) (hr : r ≠ 0) :
    s.bstStart init op t = s.bstEnd init op t 0x60 r := by
  have hrun : s.bstStart init op t = s.bstEnd init op t 0x60 (s.bstReason (op == 2) t) := if_pos (fun hzero => hr (h.symm.trans hzero))
  rw [hrun, h]

theorem State.bstReason_missing (ht : 25 ≤ t) (through : Bool) : s.bstReason through t = 1 := if_pos ht

theorem State.bstReason_opaque (hlt : t < 25) (hout : t < 17 ∨ 20 ≤ t) : s.bstReason true t = 4 :=
  (if_neg (by omega)).trans (if_pos (by simp; omega))

theorem State.bstReason_down (hlt : t < 25) (hoff : s.domOn (targetDomain t) = false) : s.bstReason false t = 2 :=
  (if_neg (by omega)).trans ((if_neg (by simp)).trans (if_pos (by simp [hoff])))

/-- A test of a target of the engines by LBIST. -/
theorem State.bstReason_logic (hlo : 8 ≤ t) (hhi : t < 17) (hon : s.domOn (targetDomain t) = true) (hmay : s.bistMay t false = true) :
    s.bstReason false t = if s.bst.running.isSome || s.bst.rotation.isSome then 3 else 0 := by
  have h7 : t ≠ 7 := by omega
  have h17 : t ≠ 17 := by omega
  have h18 : t ≠ 18 := by omega
  have h19 : t ≠ 19 := by omega
  exact (if_neg (by omega)).trans ((if_neg (by simp)).trans (if_neg (by simp [hon, hmay, h7, h17, h18, h19])))

/-- A transparent test of a memory. -/
theorem State.bstReason_through (hlo : 17 ≤ t) (hhi : t ≤ 19) (hon : s.domOn (targetDomain t) = true) :
    s.bstReason true t = if s.bst.running.isSome || s.bst.rotation.isSome then 3 else 0 := by
  have hmay : s.bistMay t false = true := by
    interval_cases t <;> rfl
  have h7 : t ≠ 7 := by omega
  exact (if_neg (by omega)).trans ((if_neg (by simp [hlo, hhi])).trans (if_neg (by simp [hon, hmay, h7])))

/-! ## The end of a test (R512 to R515) -/

/-- A field of another block outlives a block's reset. -/
theorem State.get_dropRegs_ne {hit : Nat → Retention → Bool} {g : Fld} (h : hit (idBlock g.id) (idClass g.id) = false) :
    (s.dropRegs hit).get g = s.get g := by
  unfold State.get State.dropRegs Sparse.get
  dsimp only
  congr 1
  induction s.regs with
  | nil => rfl
  | cons p r ih =>
    obtain ⟨a, b⟩ := p
    by_cases hag : a = g.id
    · have hkeep : (!hit (idBlock a) (idClass a)) = true := by rw [hag, h]; rfl
      simp only [List.filter_cons, hkeep, if_true, Sparse.find, if_pos hag]
    · by_cases hkeep : (!hit (idBlock a) (idClass a)) = true
      · simp only [List.filter_cons, hkeep, if_true, Sparse.find, if_neg hag]
        exact ih
      · rw [List.filter_cons, if_neg hkeep]
        simp only [Sparse.find, if_neg hag]
        exact ih

theorem testBit_setBit_mod {v i w : Nat} (h : i < w) : (setBit v i % 2 ^ w).testBit i = true := by
  rw [Nat.testBit_mod_two_pow, decide_eq_true h, Bool.true_and, setBit_testBit]

/-- R514. The registers of a result, and those of the signatures. -/
def State.resultTold (s : State) (t : Nat) (pass : Bool) (sig exp rows addr : Nat) : State :=
  ((((((s.set BST.RESULT.TARGET t).setB BST.RESULT.PASS pass).setB BST.RESULT.REPAIRED (rows != 0)).set2 BST.SIG_LO.SIG BST.SIG_HI.SIG sig).set2
    BST.EXP_LO.EXP BST.EXP_HI.EXP exp).set2 BST.FAIL_ADDR_LO.ADDR BST.FAIL_ADDR_HI.ADDR addr)

/-- A pass of target 8 without repairs. -/
theorem State.bistResult_fabric (s : State) (sig exp addr : Nat) : s.bistResult 8 true sig exp 0 addr =
    (s.resultTold 8 true sig exp 0 addr).set BST.PASSED.TARGETS
      (setBit ((s.resultTold 8 true sig exp 0 addr).get BST.PASSED.TARGETS) 8) := rfl

/-- A test of target 8 that ends by the factory signature. -/
theorem State.bistDone_fabric {exp rows addr : Nat} {bad : Bool} (hrun : s.bst.running = some ⟨8, false, false⟩) :
    s.bistDone (Config.bistExpected 8) exp rows addr bad =
      ((State.dropRegs (State.set { s with bst := { s.bst with running := none } } BST.CMD_STATUS.BUSY 0) fun x c => x == 11 && c == .C).bistResult
        8 true (Config.bistExpected 8) (Config.bistExpected 8) 0 addr).post 248 (8 + 256 * 1 + 512 * 0) := by
  obtain ⟨sig, hsig⟩ : ∃ sig, sig = Config.bistExpected 8 := ⟨_, rfl⟩
  have hpass : (sig % 2 ^ 64 == sig % 2 ^ 64 || (0 != 0 && !bad)) = true := by rw [beq_self_eq_true, Bool.true_or]
  unfold State.bistDone
  rw [hrun]
  dsimp only
  rw [← hsig]
  simp only [Bool.false_eq_true, if_false, show isMbist 8 = false from rfl, Bool.false_and]
  rw [hpass]
  rfl

theorem State.bistDone_told {exp rows addr : Nat} {bad : Bool} (hrun : s.bst.running = some ⟨8, false, false⟩) :
    (s.bistDone (Config.bistExpected 8) exp rows addr bad).bst.running = none ∧
      (s.bistDone (Config.bistExpected 8) exp rows addr bad).bit BST.CMD_STATUS.BUSY = false ∧
      (s.bistDone (Config.bistExpected 8) exp rows addr bad).bit BST.RESULT.PASS = true ∧
      (s.bistDone (Config.bistExpected 8) exp rows addr bad).get BST.RESULT.TARGET = 8 ∧
      ((s.bistDone (Config.bistExpected 8) exp rows addr bad).get BST.PASSED.TARGETS).testBit 8 = true ∧
      (s.bistDone (Config.bistExpected 8) exp rows addr bad).rng.evq = s.rng.evq ++ [⟨248, 8 + 256, true⟩] := by
  rw [State.bistDone_fabric hrun]
  generalize Config.bistExpected 8 = sig
  have hbusy : (State.dropRegs (State.set { s with bst := { s.bst with running := none } } BST.CMD_STATUS.BUSY 0)
      fun x c => x == 11 && c == .C).get BST.CMD_STATUS.BUSY = 0 :=
    (State.get_dropRegs_ne (by rfl)).trans ((State.get_set_self _ _ _).trans (Nat.zero_mod _))
  have hrest : (State.dropRegs (State.set { s with bst := { s.bst with running := none } } BST.CMD_STATUS.BUSY 0)
      fun x c => x == 11 && c == .C).bst.running = none ∧ (State.dropRegs (State.set { s with bst := { s.bst with running := none } }
      BST.CMD_STATUS.BUSY 0) fun x c => x == 11 && c == .C).rng = s.rng := ⟨rfl, rfl⟩
  generalize State.dropRegs (State.set { s with bst := { s.bst with running := none } } BST.CMD_STATUS.BUSY 0)
    (fun x c => x == 11 && c == .C) = u at hbusy hrest ⊢
  obtain ⟨hnone, hrng⟩ := hrest
  rw [State.bistResult_fabric]
  have hkeep (g : Fld) (hg : g.id ≠ BST.PASSED.TARGETS.id) (v d : Nat) (w : State) : ((w.set BST.PASSED.TARGETS v).post 248 d).get g = w.get g :=
    State.get_set_ne _ _ hg
  refine ⟨hnone, ?_, ?_, ?_, ?_, ?_⟩
  · refine (State.bit_congr _ _ ((hkeep _ (by decide) _ _ _).trans (?_ : _ = u.get BST.CMD_STATUS.BUSY))).trans (congrArg (· != 0) hbusy)
    simp (disch := decide) only [State.resultTold, State.get_set2_ne, State.get_setB_ne, State.get_set_ne]
  · refine (State.bit_congr _ _ ((hkeep _ (by decide) _ _ _).trans (?_ : _ = (State.setB (u.set BST.RESULT.TARGET 8) BST.RESULT.PASS true).get _))).trans
      (State.bit_setB_self _ _ _ le_rfl)
    simp (disch := decide) only [State.resultTold, State.get_set2_ne, State.get_setB_ne]
  · refine (hkeep _ (by decide) _ _ _).trans ?_
    simp (disch := decide) only [State.resultTold, State.get_set2_ne, State.get_setB_ne, State.get_set_self]
    rfl
  · exact (congrArg (Nat.testBit · 8) (State.get_set_self _ _ _)).trans (testBit_setBit_mod (by decide))
  · exact congrArg (·.evq ++ [_]) hrng

theorem State.bistDone_none (h : s.bst.running = none) (sig exp rows addr : Nat) (bad : Bool) : s.bistDone sig exp rows addr bad = s := by
  unfold State.bistDone
  rw [h]

/-! ## Service cores, the report and the rotation (R516 to R522) -/

theorem State.svcRelease_sets {wfi : Bool} (hlo : 4 ≤ init) (hhi : init < 8) (hheld : s.bst.svcHeld = []) :
    ((s.svcRelease init wfi).get BST.SVC_RELEASE.CORES).testBit (init - 4) = true := by
  have hrun : (s.svcRelease init wfi).get BST.SVC_RELEASE.CORES = setBit (s.get BST.SVC_RELEASE.CORES) (init - 4) % 2 ^ 4 := by
    unfold State.svcRelease
    rw [if_neg (by simp [hheld]; omega)]
    exact State.get_set_self _ _ _
  rw [hrun]
  exact testBit_setBit_mod (by omega)

theorem State.report_idle (hstage : s.stageNow ≠ 8) (hdone : s.bit RST.START_STATUS.DONE = true) :
    s.report init = s.healthReport.bstEnd init 3 0 0 0 := by
  unfold State.report
  rw [if_neg hstage, if_pos hdone]

theorem State.report_starts (hstage : s.stageNow = 8) : s.report init = s.startComplete.bstEnd init 3 0 0 0 := by
  unfold State.report
  rw [if_pos hstage]

/-- R516. The time of the last step and the item after the next. -/
def State.stepNoted (s : State) (t : Nat) : State := { s with bst := { s.bst with stepAt := s.now, nextItem := t + 1 } }

theorem State.stepCause_stepNoted (s : State) (t t' : Nat) : (s.stepNoted t').stepCause t = s.stepCause t := rfl

/-- A step of the rotation that is due. -/
theorem State.rotationStep_due (henable : s.bit BST.ROT_CFG.ENABLE = true) (hdone : s.bit RST.START_STATUS.DONE = true)
    (hidle : s.bst.running = none) (hrotation : s.bst.rotation = none)
    (hdue : s.bst.stepAt + max 1 (s.get BST.ROT_CFG.INTERVAL) * 200000000 ≤ s.now) (hkend : s.cyc.kendAt = some s.now)
    (hdriving : s.isDriving = false) (hnext : nextTarget (s.get BST.ROT_TRAIL.MASK) s.bst.nextItem = some t) :
    s.rotationStep = if s.stepCause t ≠ 0 then (s.stepNoted t).rotationSkip t (s.stepCause t)
      else
        let u := (State.set { s.stepNoted t with bst := { (s.stepNoted t).bst with rotation := some t } } BST.ROT_STATUS.ITEM t).set
          BST.ROT_STATUS.ACTIVE 1
        if t ≤ 2 then u.takeOut 19 t else u.testStarted ⟨t, decide (17 ≤ t ∧ t ≤ 19), true⟩ := by
  have hsec : ticksPerSec = 200000000 := rfl
  unfold State.rotationStep
  rw [hsec]
  dsimp only
  rw [if_neg (by simp [henable, hdone, hidle, hrotation, hdue, hkend]), hdriving]
  simp only [Bool.false_eq_true, if_false]
  rw [hnext]
  rfl

theorem State.rotationStep_waits (h : s.now < s.bst.stepAt + max 1 (s.get BST.ROT_CFG.INTERVAL) * 200000000 ∨ s.cyc.kendAt ≠ some s.now) :
    s.rotationStep = s := by
  have hsec : ticksPerSec = 200000000 := rfl
  unfold State.rotationStep
  rw [hsec]
  exact if_pos (by rcases h with h | h <;> simp [h, Nat.not_le.2])

end Tests

/-- Settles O57: BST.CMD by the reason that refuses it, the end of a test by its registers, and the rotation by its step's cause. -/
theorem selfTest : Obligations.SelfTest := by
  unfold Obligations.SelfTest
  refine fun s => ⟨fun init t hidle hrotation => ⟨fun ht hon hmay => ?_, fun hlo hhi hon => ?_⟩,
    fun init t => ⟨fun ht => ⟨State.done_eq (State.bstStart_refused (State.bstReason_missing ht _) (by decide)),
        State.done_eq (State.bstStart_refused (State.bstReason_missing ht _) (by decide))⟩,
      fun hout hlt => State.done_eq (State.bstStart_refused (State.bstReason_opaque hlt hout) (by decide)),
      fun hlt hoff => State.done_eq (State.bstStart_refused (State.bstReason_down hlt hoff) (by decide)),
      fun hlo hhi hon hmay hbusy => ?_⟩,
    fun t exp rows addr bad hrun ht => by subst ht; exact ⟨_, rfl, State.bistDone_told hrun⟩,
    fun sig exp rows addr bad hidle => State.done_eq (State.bistDone_none hidle ..),
    fun init wfi hlo hhi hheld => ⟨_, rfl, State.svcRelease_sets hlo hhi hheld⟩,
    fun init => ⟨fun hstage hdone => State.done_eq (State.report_idle hstage hdone), fun hstage => State.done_eq (State.report_starts hstage)⟩,
    fun t henable hdone hidle hrotation hdue hkend hdriving hnext => ⟨fun hlo hhi hcause => ?_, fun hcause => ?_⟩,
    fun h => State.done_eq (State.rotationStep_waits h)⟩
  · have hreason := State.bstReason_logic (s := s) (t := t) (by omega) (by omega) hon hmay
    rw [hidle, hrotation] at hreason
    exact State.done_eq (State.bstStart_starts hreason)
  · have hreason := State.bstReason_through (s := s) hlo hhi hon
    rw [hidle, hrotation] at hreason
    exact State.done_eq (State.bstStart_starts hreason)
  · have hreason := State.bstReason_logic hlo hhi hon hmay
    rw [hbusy, Bool.true_or] at hreason
    exact State.done_eq (State.bstStart_refused hreason (by decide))
  · have hstep := State.rotationStep_due henable hdone hidle hrotation hdue hkend hdriving hnext
    refine ⟨_, State.done_eq (hstep.trans ((if_neg (not_not.2 hcause)).trans (if_neg (by omega)))), ?_, rfl,
      State.bit_set_one _ _ le_rfl, rfl⟩
    show some (⟨t, decide (17 ≤ t ∧ t ≤ 19), true⟩ : BistRun) = _
    rw [decide_eq_false (by omega)]
  · exact State.done_eq ((State.rotationStep_due henable hdone hidle hrotation hdue hkend hdriving hnext).trans (if_pos hcause))

end Sys2Proof.Machine

end

/-! PROOFS. The commands of the update and security engine (spec/18 R538 to R551). -/

section

namespace Sys2Proof.Machine

section Updates

variable {s : State} {init session : Nat}

/-! ## UPD.CMD (R538, R546, R548) -/

/-- R548. The slot `i` confirmed, before it is recorded. -/
def State.slotConfirmed (s : State) (i : Nat) : State :=
  ((State.setSlotState { s with upd := { s.upd with confirmBy := none, deferred := none, fall := false } } i 3).raiseRollback 1
    (s.slot i).rollback).set UPD.CONFIRM_REMAINING.SECONDS 0

theorem State.confirm_eq (htrial : s.slotState s.activeSlot = 2) (hpassed : s.bit RST.START_STATUS.PASSED = true)
    (hdrives : s.isDriving = true) : s.confirm init session =
      (((s.slotConfirmed s.activeSlot).recordSlot 5 s.activeSlot 0 (originOf init) 0xFF session).updStatus 0 0) := by
  unfold State.confirm
  dsimp only
  rw [if_neg (not_not.2 htrial), if_neg (by rw [hpassed]; decide), if_neg (by rw [hdrives, Bool.true_or]; decide)]
  rfl

theorem State.raiseRollback_upd (s : State) (kind v : Nat) : (s.raiseRollback kind v).upd = s.upd := by
  unfold State.raiseRollback
  split <;> rfl

theorem State.slotConfirmed_upd (s : State) (i : Nat) : (s.slotConfirmed i).upd.confirmBy = none :=
  congrArg Upd.confirmBy (State.raiseRollback_upd ..)

theorem State.get_slotConfirmed (s : State) (i : Nat) : (s.slotConfirmed i).get (UPD.SLOT_STATE.STATE i) = 3 :=
  (State.get_set_ne _ _ (by simp only [Fld.id, UPD.SLOT_STATE.STATE, UPD.CONFIRM_REMAINING.SECONDS]; omega)).trans
    ((State.get_raiseRollback_ne _ _ _ fun k => by simp only [Fld.id, UPD.SLOT_STATE.STATE, UPD.ROLLBACK.COUNTER]; omega).trans
      ((State.get_post ..).trans (State.get_set_self _ _ _)))

theorem State.get_updStatus_ne {g : Fld} (h : g.id ≠ UPD.CMD_STATUS.STATUS.id) (h' : g.id ≠ UPD.CMD_STATUS.REASON.id) (status reason : Nat) :
    (s.updStatus status reason).get g = s.get g :=
  (State.get_set_ne _ _ h').trans (State.get_set_ne _ _ h)

theorem State.updStatus_zero : (s.updStatus 0 0).get UPD.CMD_STATUS.STATUS = 0 :=
  (State.get_set_ne _ _ (by decide)).trans (State.get_set_self _ _ _)

theorem State.confirm_confirms (htrial : s.slotState s.activeSlot = 2) (hpassed : s.bit RST.START_STATUS.PASSED = true)
    (hdrives : s.isDriving = true) : (s.confirm init session).slotState s.activeSlot = 3 ∧
      (s.confirm init session).upd.confirmBy = none ∧ (s.confirm init session).get UPD.CMD_STATUS.STATUS = 0 := by
  rw [State.confirm_eq htrial hpassed hdrives]
  refine ⟨?_, State.slotConfirmed_upd _ _, State.updStatus_zero⟩
  refine (State.get_updStatus_ne ?_ ?_ _ _).trans ((State.get_recordChange_ne _ _ _ _ _ _ _ ?_).trans (State.get_slotConfirmed _ _))
  all_goals simp only [Fld.id, UPD.SLOT_STATE.STATE, UPD.CMD_STATUS.STATUS, UPD.CMD_STATUS.REASON, REC.STATUS.QUEUE]; omega

theorem State.confirm_noTrial (h : s.slotState s.activeSlot ≠ 2) : s.confirm init session = s.updStatus 0x60 1 := if_pos h

theorem State.confirm_failed (htrial : s.slotState s.activeSlot = 2) (h : s.bit RST.START_STATUS.PASSED = false) :
    s.confirm init session = s.updStatus 0x60 2 :=
  (if_neg (not_not.2 htrial)).trans (if_pos (by rw [h]; rfl))

theorem State.confirm_idle (htrial : s.slotState s.activeSlot = 2) (hpassed : s.bit RST.START_STATUS.PASSED = true)
    (hdrives : s.isDriving = false) (htracks : s.pairState ≠ 3) : s.confirm init session = s.updStatus 0x60 3 :=
  (if_neg (not_not.2 htrial)).trans ((if_neg (by rw [hpassed]; decide)).trans (if_pos (by rw [hdrives, beq_false_of_ne htracks]; rfl)))

theorem State.updRelease_used {v : Nat} {m : FerryMap} (hm : s.fer.map = some m) (hv : m.entryId = v) :
    s.updRelease v = s.updStatus 0x60 2 := by
  unfold State.updRelease
  rw [hm]
  exact if_pos (beq_iff_eq.2 hv)

theorem State.updRelease_empty {v : Nat} (hm : s.fer.map = none) (hv : s.bit (UPD.VERIFIED.VALID v) = false) :
    s.updRelease v = s.updStatus 0 0 := by
  unfold State.updRelease
  rw [hm]
  exact (if_neg Bool.false_ne_true).trans (if_pos (by rw [hv]; rfl))

/-- R538. An entry that the staged map does not come from leaves the table. -/
def State.entryDropped (s : State) (v : Nat) : State :=
  (State.set { s with upd := { s.upd with entries := Sparse.erase s.upd.entries v } } (UPD.VERIFIED.VALID v) 0).post 226
    (v + 256 * b2n false)

theorem State.updRelease_drops {v : Nat} (hm : s.fer.map = none) (hv : s.bit (UPD.VERIFIED.VALID v) = true) :
    s.updRelease v = (s.entryDropped v).updStatus 0 0 := by
  unfold State.updRelease State.dropVerified
  rw [hm]
  exact (if_neg Bool.false_ne_true).trans (if_neg (by rw [hv]; decide))

theorem State.entryDropped_valid (s : State) (v : Nat) : ((s.entryDropped v).updStatus 0 0).bit (UPD.VERIFIED.VALID v) = false :=
  (State.bit_congr _ _ (State.get_updStatus_ne (by simp only [Fld.id, UPD.VERIFIED.VALID, UPD.CMD_STATUS.STATUS]; omega)
    (by simp only [Fld.id, UPD.VERIFIED.VALID, UPD.CMD_STATUS.REASON]; omega) _ _)).trans (State.bit_set_zero _ _)

theorem State.endActivate_eq {a : Activate} (ha : s.upd.activate = some a) (status : Nat) : s.endActivate status 0 =
    (State.set { s with upd := { s.upd with activate := none } } UPD.ACTIVE.ACTIVATE_PENDING 0).finishAt (some (a.ring, a.idx)) status 0 0 := by
  unfold State.endActivate
  rw [ha]

theorem State.endActivate_none (h : s.upd.activate = none) (status detail : Nat) : s.endActivate status detail = s := by
  unfold State.endActivate
  rw [h]

theorem State.endActivate_ends {a : Activate} (ha : s.upd.activate = some a) (status : Nat) :
    (s.endActivate status 0).upd.activate = none ∧ (s.endActivate status 0).bit UPD.ACTIVE.ACTIVATE_PENDING = false := by
  rw [State.endActivate_eq ha]
  refine ⟨?_, (State.bit_congr _ _ (State.get_finishAt ..)).trans (State.bit_set_zero _ _)⟩
  obtain ⟨r, hr⟩ := State.finishAt_eq (State.set { s with upd := { s.upd with activate := none } } UPD.ACTIVE.ACTIVATE_PENDING 0)
    (some (a.ring, a.idx)) status 0 0
  rw [hr]
  rfl

/-! ## SEC.CMD (R539, R540) -/

theorem State.leaseKeyWrite_other (h : init ≠ 18) (w v : Nat) : s.leaseKeyWrite init w v = s := if_pos h

/-- R540. The staged words taken as the lease key. -/
def State.keyTaken (s : State) (key : List Nat) : State :=
  (State.set { s with upd := { s.upd with leaseKey := some key, staged := [] } } SEC.STATUS.LEASE_KEY 1).set SEC.LEASE_KCV.KCV
    (leNat (shake256 (ascii "UCP KCV" ++ key) 4))

theorem State.get_recordKeys_ne {g : Fld} (h : g.id ≠ REC.STATUS.QUEUE.id) (action origin priv : Nat) :
    (s.recordKeys action origin priv session).get g = s.get g :=
  State.get_recordChange_ne _ _ _ _ _ _ _ h

theorem State.get_secStatus_ne {g : Fld} (h : g.id ≠ SEC.CMD_STATUS.STATUS.id) (h' : g.id ≠ SEC.CMD_STATUS.REASON.id) (status reason : Nat) :
    (s.secStatus status reason).get g = s.get g :=
  (State.get_set_ne _ _ h').trans (State.get_set_ne _ _ h)

/-- R540, R528. A change of the keys is recorded and its command ends. -/
def State.keysChanged (s : State) (action init session : Nat) : State :=
  (s.recordKeys action (originOf init) 1 session).secStatus 0 0

theorem State.get_keysChanged {g : Fld} (h : g.id ≠ REC.STATUS.QUEUE.id) (h' : g.id ≠ SEC.CMD_STATUS.STATUS.id)
    (h'' : g.id ≠ SEC.CMD_STATUS.REASON.id) (action : Nat) : (s.keysChanged action init session).get g = s.get g :=
  (State.get_secStatus_ne h' h'' _ _).trans (State.get_recordKeys_ne h _ _ _)

theorem State.keysChanged_upd (s : State) (action init session : Nat) : (s.keysChanged action init session).upd = s.upd := rfl

theorem State.commitLeaseKey_eq : s.commitLeaseKey init 1 session =
    (s.keyTaken ((List.range 8).flatMap fun w => leBytes 4 (Sparse.get 0 s.upd.staged w))).keysChanged 3 init session := rfl

theorem State.commitLeaseKey_commits : (s.commitLeaseKey init 1 session).upd.leaseKey =
      some ((List.range 8).flatMap fun w => leBytes 4 (Sparse.get 0 s.upd.staged w)) ∧
    (s.commitLeaseKey init 1 session).upd.staged = [] ∧ (s.commitLeaseKey init 1 session).bit SEC.STATUS.LEASE_KEY = true := by
  rw [State.commitLeaseKey_eq]
  generalize ((List.range 8).flatMap fun w => leBytes 4 (Sparse.get 0 s.upd.staged w)) = key
  exact ⟨rfl, rfl, (State.bit_congr _ _ ((State.get_keysChanged (by decide) (by decide) (by decide) _).trans
    (State.get_set_ne _ _ (by decide)))).trans (State.bit_set_one _ _ le_rfl)⟩

/-- R539. The keys and the configuration forgotten. -/
def State.trustForgotten (s : State) : State :=
  ((((((List.range 8).foldl (fun (s : State) w => s.set (UPD.CONFIG_DIGEST.DIGEST w) 0)
    { s with upd := { s.upd with plantKeys := [], leaseKey := none, staged := [], config := [] } }).set SEC.STATUS.PLANT_KEYS 0).set
      SEC.STATUS.LEASE_KEY 0).set SEC.STATUS.TRUST_ESTABLISHED 0).set SEC.LEASE_KCV.KCV 0)

theorem State.trustForgotten_upd (s : State) :
    s.trustForgotten.upd = { s.upd with plantKeys := [], leaseKey := none, staged := [], config := [] } := by
  refine State.foldl_keeps State.upd ?_ (List.range 8) _
  exact fun _ _ => rfl

theorem State.trustForgotten_told (s : State) :
    s.trustForgotten.bit SEC.STATUS.TRUST_ESTABLISHED = false ∧ s.trustForgotten.bit SEC.STATUS.LEASE_KEY = false :=
  ⟨(State.bit_congr _ _ (State.get_set_ne _ _ (by decide))).trans (State.bit_set_zero _ _),
   (State.bit_congr _ _ ((State.get_set_ne _ _ (by decide)).trans (State.get_set_ne _ _ (by decide)))).trans (State.bit_set_zero _ _)⟩

theorem State.factoryTrust_eq (hout : s.pairState = 5) : ∃ u : State,
    s.factoryTrust 18 1 session = u.trustForgotten.keysChanged 2 18 session := by
  unfold State.factoryTrust
  rw [if_neg (by decide), if_neg (not_not.2 hout)]
  exact ⟨_, rfl⟩

theorem State.factoryTrust_forgets (hout : s.pairState = 5) : ∃ t : State, s.factoryTrust 18 1 session = t ∧ t.upd.plantKeys = [] ∧
    t.upd.leaseKey = none ∧ t.upd.config = [] ∧ t.bit SEC.STATUS.TRUST_ESTABLISHED = false ∧ t.bit SEC.STATUS.LEASE_KEY = false := by
  obtain ⟨u, hu⟩ := s.factoryTrust_eq (session := session) hout
  obtain ⟨htrust, hkey⟩ := u.trustForgotten_told
  refine ⟨_, hu, ?_, ?_, ?_, (State.bit_congr _ _ ?_).trans htrust, (State.bit_congr _ _ ?_).trans hkey⟩
  · rw [State.keysChanged_upd, State.trustForgotten_upd]
  · rw [State.keysChanged_upd, State.trustForgotten_upd]
  · rw [State.keysChanged_upd, State.trustForgotten_upd]
  · exact State.get_keysChanged (by decide) (by decide) (by decide) _
  · exact State.get_keysChanged (by decide) (by decide) (by decide) _

theorem State.commitLeaseKey_refused {priv : Nat} (h : priv ≠ 1) : s.commitLeaseKey init priv session = s.secStatus 0x60 1 := if_pos h

theorem State.factoryTrust_refused {priv : Nat} (h : init ≠ 18 ∨ priv ≠ 1) : s.factoryTrust init priv session = s.secStatus 0x60 1 := if_pos h

theorem State.factoryTrust_in (h : s.pairState ≠ 5) : s.factoryTrust 18 1 session = s.secStatus 0x60 2 :=
  (if_neg (by decide)).trans (if_pos h)

end Updates

/-- Settles O60: the commands of the update engine, and the keys of the plant's trust. -/
theorem updateCommands : Obligations.UpdateCommands := by
  unfold Obligations.UpdateCommands
  intro s
  refine ⟨?confirm, ?refused, ?used, ?empty, ?none, ?release, ?cancel, rfl, rfl, ?write, ?keys⟩
  case confirm => exact fun init ss htrial _ hpassed hdrives => ⟨_, rfl, State.confirm_confirms htrial hpassed hdrives⟩
  case refused =>
    exact fun init ss => ⟨fun h => State.done_eq (State.confirm_noTrial h),
      fun htrial h => State.done_eq (State.confirm_failed htrial h),
      fun htrial hpassed hdrives htracks => State.done_eq (State.confirm_idle htrial hpassed hdrives htracks)⟩
  case used => exact fun v m hm hv => State.done_eq (State.updRelease_used hm hv)
  case empty => exact fun v hm hv => State.done_eq (State.updRelease_empty hm hv)
  case none => exact fun h => State.done_eq (congrArg (State.updStatus · 0 0) (State.endActivate_none h _ _))
  case release =>
    exact fun v hm hv => ⟨_, State.done_eq (State.updRelease_drops hm hv), State.entryDropped_valid s v,
      Sparse.find_erase_self _ _, State.updStatus_zero⟩
  case cancel =>
    intro a ha
    obtain ⟨hnone, hpend⟩ := State.endActivate_ends ha 0x33
    exact ⟨_, rfl, hnone, (State.bit_congr _ _ (State.get_updStatus_ne (by decide) (by decide) _ _)).trans hpend, State.updStatus_zero⟩
  case write =>
    exact fun init w v => ⟨fun h => State.done_eq (if_neg (not_not.2 h)), fun h => State.done_eq (State.leaseKeyWrite_other h _ _)⟩
  case keys =>
    refine fun init x => ⟨⟨_, rfl, State.commitLeaseKey_commits⟩, fun priv h => ?_, fun h => State.done_eq (State.factoryTrust_refused (.inl h)),
      fun h hin => ?_, fun h hout => ?_⟩
    · have hpriv : priv.val ≠ 1 := fun e => h (Fin.ext e)
      exact ⟨State.done_eq (State.commitLeaseKey_refused hpriv), State.done_eq (State.factoryTrust_refused (.inr hpriv))⟩
    · exact State.done_eq ((congrArg (fun i => s.factoryTrust i 1 x.val) h).trans (State.factoryTrust_in hin))
    · obtain ⟨t, ht, hrest⟩ := State.factoryTrust_forgets (session := x.val) hout
      exact ⟨t, State.done_eq ((congrArg (fun i => s.factoryTrust i 1 x.val) h).trans ht), hrest⟩

end Sys2Proof.Machine

end

/-! PROOFS. The link of a crossing port (spec/06 R183, R208). -/

section

namespace Sys2Proof.Machine

section LongQueue

variable {s t : State} {e : Ev} {f : List Ev}

/-! ## Events that go nowhere

One `settle` delivers at most 4,096 events: behind that many a later one stays in the queue as it was asserted. -/

/-- An event of no source, asserted by software. -/
def mute : Ev := ⟨0, 0, false⟩

theorem State.deliver_mute (hroute : s.get (EVT.ROUTE.TARGETS mute.src) = 0) : s.deliver mute = s := by
  unfold State.deliver
  rw [if_neg (by decide)]
  dsimp only
  rw [hroute]
  rfl

theorem State.evq_flushN_mute (n : Nat) (hroute : s.get (EVT.ROUTE.TARGETS mute.src) = 0) (hq : s.rng.evq = List.replicate n mute ++ f) :
    (s.flushN n).rng.evq = f := by
  induction n generalizing s with
  | zero => exact hq
  | succ n ih =>
    have hcons : s.rng.evq = mute :: (List.replicate n mute ++ f) := hq
    unfold State.flushN
    rw [hcons]
    dsimp only
    rw [State.deliver_mute (show ({ s with rng := { s.rng with evq := List.replicate n mute ++ f } } : State).get _ = 0 from hroute)]
    exact ih hroute rfl

theorem State.evq_refreshPair (s : State) : ∃ l, s.refreshPair.rng.evq = s.rng.evq ++ l := by
  unfold State.refreshPair
  dsimp only
  split <;> split
  case h_1.isTrue => exact ⟨[_] ++ [_], List.append_assoc ..⟩
  case h_1.isFalse => exact ⟨[_], rfl⟩
  case h_2.isTrue | h_3.isTrue => exact ⟨[_], rfl⟩
  case h_2.isFalse | h_3.isFalse => exact ⟨[], (List.append_nil _).symm⟩

theorem eq_append_of_take {α : Type} {n : Nat} {a : α} {l p : List α} (h : l.take (n + 1) = p ++ [a]) :
    l = p ++ a :: l.drop (n + 1) := by
  calc l = l.take (n + 1) ++ l.drop (n + 1) := (List.take_append_drop _ _).symm
    _ = p ++ a :: l.drop (n + 1) := by rw [h, List.append_assoc]; rfl

theorem State.head_flushN {n : Nat} (hroute : s.get (EVT.ROUTE.TARGETS mute.src) = 0)
    (hq : s.rng.evq.take (n + 1) = List.replicate n mute ++ [e]) : (s.refreshPair.flushN n).rng.evq.head? = some e := by
  obtain ⟨l, hl⟩ := s.evq_refreshPair
  have hqueue : s.refreshPair.rng.evq = List.replicate n mute ++ (e :: (s.rng.evq.drop (n + 1) ++ l)) := by
    conv_lhs => rw [hl, eq_append_of_take hq]
    rw [List.append_assoc, List.cons_append]
  have hkept : s.refreshPair.get (EVT.ROUTE.TARGETS mute.src) = 0 := by
    rw [s.refreshPair_notified.get _ (EVT.ROUTE.settled_TARGETS _)]
    exact hroute
  rw [State.evq_flushN_mute n hkept hqueue]
  rfl

/-- The event behind 4,096 that go nowhere is the head of the queue after `settle`. -/
theorem State.head_settle (hroute : s.get (EVT.ROUTE.TARGETS mute.src) = 0) (hq : t.rng.evq = List.replicate 4096 mute)
    (hbehind : s.rng.evq.take (t.rng.evq.length + 1) = t.rng.evq ++ [e]) : s.settle.rng.evq.head? = some e := by
  rw [hq, List.length_replicate] at hbehind
  exact State.head_flushN hroute hbehind

/-! ## A link that goes down with a rate longer than its register -/

/-- Port 0 with its link up, its rate field at 2^29, and 4,096 events in the queue. -/
def crowded : State :=
  { State.reset with
    regs := [((PWR.D_STATUS.STATE 4).id, 0), ((FLD.CROSS_STATUS.LINK 0).id, 1), ((FLD.CROSS_STATUS.RATE 0).id, 2 ^ 29)]
    rng := { State.reset.rng with evq := List.replicate 4096 mute } }

theorem crowded_linked : crowded.domOn 4 = true ∧ crowded.crossOn 0 = false ∧ crowded.get (FLD.CROSS_CFG.RATE_MODE 0) = 0 ∧
    crowded.bit (FLD.CROSS_STATUS.LINK 0) = true ∧ crowded.get (FLD.CROSS_STATUS.RATE 0) = 2 ^ 29 ∧
    crowded.get (EVT.ROUTE.TARGETS mute.src) = 0 := by
  refine ⟨?_, ?_, ?_, ?_, ?_, ?_⟩ <;> decide +kernel

theorem crowded_evq : crowded.rng.evq = List.replicate 4096 mute := rfl

theorem State.crossLink_down {c : Nat} (hdom : s.domOn 4 = true) (hoff : s.crossOn c = false)
    (hlink : s.bit (FLD.CROSS_STATUS.LINK c) = true) (fast : Bool) : s.crossLink c false fast =
      (s.setB (FLD.CROSS_STATUS.LINK c) false).post 51 (c + 8 * s.get (FLD.CROSS_STATUS.RATE c)) := by
  have hrate : (s.setB (FLD.CROSS_STATUS.LINK c) false).get (FLD.CROSS_STATUS.RATE c) = s.get (FLD.CROSS_STATUS.RATE c) :=
    State.get_setB_ne _ _ (by simp only [Fld.id, FLD.CROSS_STATUS.RATE, FLD.CROSS_STATUS.LINK]; omega)
  have hcross : ((s.setB (FLD.CROSS_STATUS.LINK c) false).post 51 (c + 8 * s.get (FLD.CROSS_STATUS.RATE c))).crossOn c = s.crossOn c := by
    unfold State.crossOn State.domOn State.domState State.bit
    rw [State.get_post, State.get_post, State.get_setB_ne _ _ (by simp only [Fld.id, FLD.CROSS_CFG.ENABLE, FLD.CROSS_STATUS.LINK]; omega),
      State.get_setB_ne _ _ (by simp only [Fld.id, PWR.D_STATUS.STATE, FLD.CROSS_STATUS.LINK]; omega)]
  unfold State.crossLink
  rw [if_neg (by simp [hdom]), hlink]
  simp only [Bool.false_and, Bool.true_eq_false, decide_false, Bool.false_eq_true, if_false, b2n, Nat.mul_zero, Nat.add_zero, hrate, hcross, hoff]

theorem State.take_evq_post (s : State) (f : Fld) (b : Bool) (src data : Nat) :
    ((s.setB f b).post src data).rng.evq.take (s.rng.evq.length + 1) = s.rng.evq ++ [⟨src, data % 2 ^ 32, true⟩] :=
  List.take_of_length_le (List.length_append.trans_le le_rfl)

end LongQueue

/-- Refutes O30: the statement gives the data of event 51 of a link that goes down as the port, LINK and the whole value of the rate field,
where an event carries 32 bits; it is told apart behind 4,096 events, in a state whose rate field holds 2^29. -/
theorem not_crossingManagement : ¬ Obligations.CrossingManagement := by
  unfold Obligations.CrossingManagement
  rintro ⟨-, hcross, -⟩
  obtain ⟨hdom, hoff, hmode, hlink, hrate, hroute⟩ := crowded_linked
  obtain ⟨x, hx, -, hqueue, -⟩ := ((hcross crowded 0).1 false false hdom hoff hmode).1 (by rw [show ((0 : Fin 4) : Nat) = 0 from rfl, hlink]; decide)
  have hsame : (crowded.crossLink 0 false false).settle = x.settle := Host.Outcome.next.inj hx
  rw [State.crossLink_down hdom hoff hlink, hrate] at hsame
  have hlost := State.head_settle ((State.get_post ..).trans ((State.get_setB_ne _ _ (by decide)).trans hroute)) crowded_evq
    (crowded.take_evq_post (FLD.CROSS_STATUS.LINK 0) false 51 (0 + 8 * 2 ^ 29))
  have hroutex : x.get (EVT.ROUTE.TARGETS mute.src) = 0 := by
    rw [← x.route_settle, ← hsame, State.route_settle]
    exact (State.get_post ..).trans ((State.get_setB_ne _ _ (by decide)).trans hroute)
  have hkept := State.head_settle hroutex crowded_evq hqueue
  rw [← hsame, hlost] at hkept
  exact absurd (congrArg Ev.data (Option.some.inj hkept)) (by decide)

end Sys2Proof.Machine

end
